-- ==== Sys2Proof/Word.lean ====
section
/-! DEFINITION. Sys2Proof/Word.lean: the word types of the register space, the wire and the docket, and the
index types of the units the spec numbers. R10 (little-endian), R21, R22, R28, R121, R131, R242, R251. -/

namespace Sys2Proof

/-- A byte of memory, a record or a packet. -/
abbrev Byte := BitVec 8

/-- A register word (R428), a short stamp (R42), a sequence number (R123). -/
abbrev W32 := BitVec 32

/-- A Fabric Time value (R39), a counter (R94), a 64-bit field. -/
abbrev W64 := BitVec 64

/-- A 128-byte docket read as one number, byte 0 lowest (R131). -/
abbrev Docket := BitVec 1024

/-- A 32-byte completion record read as one number, byte 0 lowest (R137). -/
abbrev Record := BitVec 256

/-- A 32-byte packet header unit (R251, R270). -/
abbrev Header := BitVec 256

/-- A 640-byte flit (R242). -/
abbrev Flit := BitVec 5120

/-- TC0 to TC15 (R121). -/
abbrev TenantId := Fin 16

/-- Logical core 0-511 (R4). -/
abbrev CoreId := Fin 512

/-- Logical cluster C00-C63 (R4). -/
abbrev ClusterId := Fin 64

/-- Compute die CD0-CD7, and the ring number that its command processor serves (R121). -/
abbrev CDie := Fin 8

/-- Fabric die FD0-FD1. -/
abbrev FDie := Fin 2

/-- Mill die MD0-MD1. -/
abbrev MDie := Fin 2

/-- The DIE code of R386 for a die with its own clocks: 0-7 CD, 8-9 FD, 10-11 MD. -/
abbrev DieId := Fin 12

/-- Zeneo link L0-L63 (R236). -/
abbrev LinkId := Fin 64

/-- HBM stack HS0-HS15 (R28). -/
abbrev StackId := Fin 16

/-- Near-memory channel set 0-127 (R158). -/
abbrev SetId := Fin 128

/-- Storeroom region of 1 GiB, 0-2,047 (R161). -/
abbrev RegionId := Fin 2048

/-- Hopper 0-15 (R217). -/
abbrev HopperId := Fin 16

/-- An engine queue, numbered as the engine reset domains of R364: 4c + e for engine e of core c, 2,048 + n Update
Engine of CDn, 2,056 Tally queue (FD0), 2,058 re-layout queue (FD0), 2,060 + m Mill, 2,062 + m Hopper logic. -/
abbrev QueueId := Fin 2064

/-- Bits [lo + w - 1 : lo] of a number, as a Nat. -/
def bitsAt (x : Nat) (lo w : Nat) : Nat := (x >>> lo) % 2 ^ w

/-- Bit i of a number. -/
def bitAt (x i : Nat) : Bool := bitsAt x i 1 == 1

/-- A Nat of 0 or 1 from a Bool. -/
def b2n (b : Bool) : Nat := if b then 1 else 0

end Sys2Proof
end

