-- ==== Sys2Proof/Syntax.lean ====
section
/-! DEFINITION. Sys2Proof/Syntax.lean: the commands of the block, one constructor per row of spec/opcode_table.json in
the table's order, with what the row's rule takes from outside as operands. The table gives no row bits or operands. -/

namespace Sys2Proof

/-- Who makes a register access (R429, R437): the Service Bus input and the tenant. -/
structure Writer where
  input : Fin 16
  tenant : TenantId
deriving DecidableEq, Repr

/-- One data beat of a Service Bus write: register-space offset, data and byte enables (R428). -/
structure WordWrite where
  off : Nat
  data : W32
  be : BitVec 4
deriving DecidableEq, Repr

/-- The way of a write to TAIL or COMP_HEAD (R123): an offset of BAR2, or the DOCK page of the ring's die. -/
inductive Doorbell where
  | bar2 (off : BitVec 17)
  | dock (by' : Writer)
deriving DecidableEq, Repr

/-- What a Sync of the PTP servo brings: the port's offset, and the time of the PTP timescale (R45, R456). -/
structure PtpSync where
  offsetNs : Int
  ptpNs : W64
deriving DecidableEq, Repr

/-- What the phases PARAM and DELAY bring: the far end's turnaround, and the round trips measured, in ps (R49, R264). -/
structure DelayReport where
  turnaround : W32
  trips : List Nat
deriving DecidableEq, Repr

/-- The bus side of a transaction (R438, R439): LOCK and LOCK_END of its command beat, and the inputs that request at
its end. -/
structure BusCtl where
  lock : Bool
  lockEnd : Bool
  requests : BitVec 16
deriving DecidableEq, Repr

/-- A packet: its header unit and its data bytes (R243, R251), and what its operation needs and no field of R251, R270,
R297 or R357 carries: the chunk length a READ asks for, the formats of a WIDEN; 0 where it is not known (log entry 20). -/
structure Packet where
  hdr : Header
  data : List Byte
  side : Nat
deriving DecidableEq, Repr

/-- The outcome of the FEC decode of one codeword (R237). -/
inductive Fec where
  | clean
  | corrected
  | uncorrectable
deriving DecidableEq, Repr

/-- What an ECC check of one line finds (R95, R166). -/
inductive Ecc where
  | clean
  | corrected
  | uncorrectable
deriving DecidableEq, Repr

/-- A core-store segment or a cluster-store way (R92). -/
inductive StorePart where
  | seg (core : CoreId) (s : Fin 16)
  | way (cluster : ClusterId) (w : Fin 16)
deriving DecidableEq, Repr

/-- A near-memory channel set or a Storeroom region (R163). -/
inductive MemPart where
  | set (g : SetId)
  | region (n : RegionId)
deriving DecidableEq, Repr

/-- A near-memory set or a Storeroom channel, as refreshed under R170. -/
inductive RefreshUnit where
  | set (g : SetId)
  | channel (k : Fin 32)
deriving DecidableEq, Repr

/-- A unit with power states (R412). -/
inductive PowerUnit where
  | core (c : CoreId)
  | cluster (c : ClusterId)
  | die (n : CDie)
  | module
deriving DecidableEq, Repr

/-- A reset domain of R364 by its code and index. -/
structure Domain where
  code : Fin 9
  index : Nat
deriving DecidableEq, Repr

/-- What a wrap drain holds back (R372, R373). -/
inductive Drain where
  | engine (q : QueueId)
  | tenant (t : TenantId)
  | ownGen
deriving DecidableEq, Repr

/-- One docket of a queue: the die whose ring it came from, its tenant and its sequence number (R121, R123). -/
structure DocketRef where
  die : CDie
  tenant : TenantId
  seq : W32
deriving DecidableEq, Repr

/-- The status of a storage command (R190): success, an error with Do Not Retry clear, or with it set. -/
inductive NvmeStatus where
  | ok
  | retryable
  | doNotRetry
deriving DecidableEq, Repr

/-- The commands, one per row of the table. -/
inductive Instr where
  -- power input and boot: R417-R423, R445, R446
  | powerInputInRange
  | powerInputOutOfRange
  | bladeCurrentLoss (milliVolts : Nat)
  | rom (posId : Byte) (refclk : Bool)
  | flash
  | verify
  | powerUp
  | selftest (failed : List (Fin 8 × Fin 9))
  | train (trained : List StackId) (channels : List (Fin 32))
  | publish (ms : Nat)
  -- the PCIe function: R153, R418, R452
  | perstNAssert
  | perstNRelease
  | functionLevelReset
  | bar4Access (off : Nat) (data : Option (List Byte)) (len : Nat)
  -- register access: R15-R19, R60, R235, R426-R440
  | registerWrite (by' : Writer) (words : List WordWrite) (hwSet : List (Nat × W32)) (ctl : BusCtl)
  | unmappedWrite (by' : Writer) (words : List WordWrite)
  | rcCounterRead (by' : Writer) (off : Nat) (inc : W32)
  | nowLoRead (by' : Writer)
  | drawnLoRead (by' : Writer) (h : HopperId)
  | ro64LowWordRead (by' : Writer) (off : Nat)
  | ctrlLock (by' : Writer) (off : Nat)
  | sbusWatchdogBite (input : Fin 16)
  -- rings and dockets: R125-R146
  | tailWrite (way : Doorbell) (die : CDie) (t : TenantId) (v : W32)
  | compHeadWrite (way : Doorbell) (die : CDie) (t : TenantId) (v : W32)
  | ringEnableWrite (by' : Writer) (die : CDie) (t : TenantId) (en : Bool)
  | slotReadReturn (die : CDie) (t : TenantId) (host : Docket)
  | seqRetry (die : CDie) (t : TenantId) (host : Docket)
  | docketAccept (die : CDie) (t : TenantId)
  | releaseReached (q : QueueId)
  | counterUpdateVisible (cluster : ClusterId)
  | docketDispatch (q : QueueId)
  | docketCompletion (q : QueueId) (ref : DocketRef)
  | completionRecordWrite (die : CDie) (t : TenantId)
  | waitTimeout (q : QueueId) (ref : DocketRef)
  | runTimeout (q : QueueId) (ref : DocketRef)
  -- the Lathe: R98-R106
  | lmma (core : CoreId)
  | ltally (core : CoreId)
  -- the vector engine: R108-R112
  | vmap (core : CoreId)
  | vrow (core : CoreId)
  | vtto (core : CoreId)
  | vtadd (core : CoreId)
  | vtround (core : CoreId)
  | vamax (core : CoreId)
  -- the Porter: R113-R115, R468, R268-R285
  | pcopy (core : CoreId)
  | pconv (core : CoreId)
  | playout (core : CoreId)
  | pgather (core : CoreId)
  | pscatter (core : CoreId)
  | pfill (core : CoreId)
  | chunkLanded (core : CoreId) (chunk : Nat)
  | ratomic (core : CoreId)
  | rfence (core : CoreId)
  | rinval (core : CoreId)
  -- the Clerk: R117, R143
  | cnop (core : CoreId)
  | cwait (core : CoreId)
  | csignal (core : CoreId)
  -- ownership and memory: R93, R165, R169-R172
  | ownershipWrite (by' : Writer) (part : StorePart) (valid : Bool) (owner : TenantId)
  | storeFillDone (part : StorePart)
  | setOwnershipWrite (by' : Writer) (part : MemPart) (valid : Bool) (owner : TenantId)
  | memoryFillDone (part : MemPart)
  | patrolScrub (line : Nat) (found : Ecc) (raced : Bool)
  | refreshWindow (unit : RefreshUnit)
  | stackTemperatureReport (stack : StackId) (celsius : Nat)
  -- the Mill: R179-R213
  | ingest (m : MDie) (ref : DocketRef)
  | spanStart (m : MDie)
  | nvmeCompletion (m : MDie) (cid : Nat) (status : NvmeStatus) (data : List Byte)
  | nvmeTimeout (m : MDie) (cid : Nat)
  | rdmaCompletion (m : MDie) (cid : Nat) (ok : Bool) (data : List Byte)
  | keepAlive (m : MDie) (target : Fin 16)
  | targetConnectionLost (m : MDie) (target : Fin 16)
  | spanComplete (m : MDie) (pipe : Fin 32)
  | decodeGroupIdleOff (m : MDie) (g : Fin 8)
  | decodeGroupPowered (m : MDie) (g : Fin 8)
  -- the Hopper: R217-R233
  | init (h : HopperId)
  | draw (h : HopperId)
  | drawSlotReady (h : HopperId)
  | drawLanded (h : HopperId)
  | hopperSave (h : HopperId)
  | hopperRestore (h : HopperId)
  | hopperEnableWrite (by' : Writer) (h : HopperId) (en : Bool)
  -- links and routing: R236-R265
  | markerSlotReceived (l : LinkId) (lane : Fin 4) (bitErrors : Nat) (inverted : Bool) (logical : Fin 4)
      (counter : BitVec 16) (onPeriod : Bool)
  | laneMarkerMissed (l : LinkId) (lane : Fin 4)
  | flitReceived (l : LinkId) (fec : Fec) (flit : Flit)
  | replayTimeout (l : LinkId)
  | timeWordSend (l : LinkId)
  | timeWordReceived (l : LinkId) (wordFt : W64)
  | holdoverTimeout
  | linkEnableWrite (by' : Writer) (l : LinkId) (en : Bool)
  | retrain (l : LinkId) (by' : Option Writer)
  | linkPhaseDone (l : LinkId) (peerDev : BitVec 16) (peerLink : Fin 64) (delay : DelayReport)
  | bringupTimeout (l : LinkId)
  | packetForward (from' : Option LinkId) (p : Packet)
  | mcastReplicate (from' : Option LinkId) (p : Packet)
  -- remote memory: R268-R285
  | write (l : Option LinkId) (p : Packet)
  | read (l : Option LinkId) (p : Packet)
  | readData (l : Option LinkId) (p : Packet)
  | writeAck (l : Option LinkId) (p : Packet)
  | atomic (l : Option LinkId) (p : Packet)
  | atomicResult (l : Option LinkId) (p : Packet)
  | busyReply (l : Option LinkId) (p : Packet)
  | atomicResend (core : CoreId)
  | busyBackoff (q : QueueId)
  | reject (p : Packet)
  | fenceNotice (p : Packet)
  | fencedSelfClear (by' : Writer)
  | peerDataWrite (by' : Writer) (data : W32)
  | peerEntryApplied (f : FDie)
  | groupIndex (by' : Writer) (g : Fin 4096)
  | groupIndexLoad (by' : Writer) (g : Fin 4096)
  | ownGenWrite (by' : Writer) (gen : Byte)
  -- collectives: R287-R312
  | reduceScatter (ref : DocketRef)
  | allGather (ref : DocketRef)
  | allReduce (ref : DocketRef)
  | broadcast (ref : DocketRef)
  | anchorMax (ref : DocketRef)
  | tallyData (l : LinkId) (p : Packet)
  | tallyAnchor (l : LinkId) (p : Packet)
  | tallyGrant (p : Packet)
  | tallyAck (p : Packet)
  | tallyNak (p : Packet)
  | tallyChunkResend (ref : DocketRef) (peer : Nat) (chunk : Nat)
  | tallyPartitionWrite (by' : Writer) (f : FDie) (t : TenantId) (base : BitVec 11) (mib : BitVec 7)
  -- the Update Engine: R313-R331
  | apply (n : CDie)
  | pageCommit (n : CDie)
  | normPartial (n : CDie)
  | normFinish (n : CDie)
  -- checkpoints: R336-R358
  | save (ref : DocketRef)
  | restore (ref : DocketRef)
  | load (ref : DocketRef)
  | scan (ref : DocketRef)
  | imageData (l : LinkId) (p : Packet)
  | imageAck (p : Packet)
  | chestChunkResend (ref : DocketRef) (chunk : Nat)
  | chestRequest (by' : Writer)
  -- resets and health: R151, R361-R378
  | resetReqGo (by' : Writer)
  | domainResetDone (d : Domain) (trained : Bool)
  | resetBoundExceeded (d : Domain)
  | wrapDrainEnd (d : Drain)
  | packageReset
  | tenantReset (by' : Writer) (t : TenantId)
  | tenantResetDone (t : TenantId)
  | healthDecay
  -- the Ledger: R390-R393
  | ledgerDrain
  | tokenRefill (p : Fin 8)
  | summaryIntervalEnd
  | aoTailWrite (by' : Writer) (v : BitVec 12)
  | capTailWrite (by' : Writer) (v : BitVec 26)
  | refillUsWrite (by' : Writer) (p : Fin 8) (v : BitVec 24)
  | depthWrite (by' : Writer) (p : Fin 8) (v : Byte)
  | summaryMsWrite (by' : Writer) (v : BitVec 16)
  -- freeze and perturbation: R395-R399
  | arm (by' : Writer) (at' : Option W64)
  | freezeNAssert
  | freezeNRelease
  | freezeTaken
  | resume (by' : Writer) (at' : Option W64)
  | freezeReset (by' : Writer)
  | resumeReached
  | chainSelWrite (by' : Writer) (v : Byte)
  | readoutDataRead (by' : Writer)
  | storeDataRead (by' : Writer)
  | debugEnWrite (by' : Writer) (d : DieId) (on : Bool)
  -- power: R404-R416
  | domainOnWrite (by' : Writer) (on : Bool)
  | cclkMhzWrite (by' : Writer) (c : ClusterId) (mhz : BitVec 12)
  | cclkChangeDone (c : ClusterId)
  | powerMeasurement (watts : Nat)
  | cclkRecoveryStep
  | dieTemperatureReport (d : DieId) (celsius : Nat)
  | thermNAssert
  | thermNRelease
  | pStateEntryDone (u : PowerUnit)
  | wakeTime (u : PowerUnit)
  | pStateExitDone (u : PowerUnit)
  | wakeAt
  -- clocks and Fabric Time: R44-R57
  | gateReqWrite (by' : Writer) (d : DieId) (sel : Option (BitVec 9)) (subtree : Bool) (on : Bool)
  | sourceSelWrite (by' : Writer) (d : DieId) (xtal : Bool)
  | pllRelockDone (d : DieId)
  | meterWindowEnd (d : DieId) (m : Fin 8) (count : W32) (refStopped : Bool)
  | ftsyncEdge (xtalCycles : Nat)
  | ftsyncMissed
  | roleWrite (by' : Writer) (v : BitVec 2)
  | sourceWrite (by' : Writer) (v : BitVec 2)
  | set (by' : Writer) (hi : W32) (lo : Option W32)
  | ptpSync (m : MDie) (sync : PtpSync)
  | ptpSyncLoss (m : MDie)
  -- Ethernet: R453, R454
  | neighbourSolicitation (m : MDie) (ip : BitVec 128)
  | congestionNotification (m : MDie)
  | pfcPause (m : MDie) (priority : Fin 8)
  | ethLinkChange (m : MDie) (up : Bool)
  -- PMC and flash: R419, R422, R467
  | reboot (by' : Writer)
  | svnCommit (by' : Writer)
  | keyRevoke (by' : Writer) (mask : BitVec 4)
  | flashRead (by' : Writer)
  | flashProgram (by' : Writer)
  | flashEraseSector (by' : Writer)
  | flashOpDone
  -- SMBus: R460-R463
  | smbusStatusRead
  | smbusPosIdRead
  | smbusSerialRead
  | smbusSetOffset (off : W32) (pecOk : Bool)
  | smbusReadWord
  | smbusWriteWord (data : W32) (pecOk : Bool)
  | smbusNotReachableRead
  | smbusWake (pecOk : Bool)
  | smbusReboot (pecOk : Bool)
  | smbusFlashAddr (addr : W32) (pecOk : Bool)
  | smbusFlashRead
  | smbusFlashProgram (data : BitVec 256) (pecOk : Bool)
  | smbusFlashErase (pecOk : Bool)
  | smbusFlashStatus
  | smbusTimeout
  | alertResponse
  -- rows added at the end of the table: R187, R418, R451, R464
  | targetConnectionReady (m : MDie) (target : Fin 16) (mdtsKib : BitVec 16)
  | configurationRequest (off : BitVec 12) (data : Option W32)
  | pcieLinkChange (up : Bool) (speed : BitVec 3) (width : BitVec 5) (flitMode : Bool)
  | trstNAssert (low : Bool)
deriving DecidableEq, Repr

end Sys2Proof
end

