-- ==== Sys2Proof/Decode.lean ====
section
/-! DEFINITION. Sys2Proof/Decode.lean: the command that a word spells. The table gives no row any bits: no word spells a command. -/

namespace Sys2Proof

/-- The command that the low nbits bits of w spell by the bits of spec/opcode_table.json: none, as no row of the table has bits. -/
def decodeTableWord (_nbits _w : Nat) : Option Instr := none

end Sys2Proof
end

