-- ==== Sys2Proof/Config.lean ====
section
/-! DEFINITION. Sys2Proof/Config.lean: what one module fixes (fuses), what the spec leaves open (free values), and
the decoders of external standards the spec names without giving. Each is an opaque constant: no proof can see its
value. Log entries 2, 6, 7, 8. -/

namespace Sys2Proof.Config

/-- A free value: the n-th value the spec leaves open (log entry 2). -/
opaque freeNat : Nat → Nat

/-- What a counter narrower than 32 bits holds after an event beyond its largest value, which no rule states:
register key, value held, amount added (log entry 2). -/
opaque counterOverflow : Nat → Nat → Nat → Nat

/-- The module serial number in the fuses (R420). -/
opaque serial : BitVec 64

/-- Fused key slot k: the SHA-384 digest of its public key (R420). -/
opaque keyDigest : Nat → Nat

/-- The fused bench map: for die n, the position that is mapped out, 8 or above for none (R23, R24). -/
opaque benchFuse : Nat → Nat

/-- The fused MAC address of Ethernet port m (R454). -/
opaque mac : Nat → Nat

/-- Word i of the host UUID derived from the serial number (R455). -/
opaque uuid : Nat → Nat

/-- What a firmware release publishes in an entry of the Dimension Table that is not fixed (R36): FW_VERSION and the field's code; a value
below that of stepping B1 stands for it (log entry 6). -/
opaque release : Nat → Nat → Nat

/-- Key slots revoked at the first power-on, bit k for slot k (R420). -/
opaque keyRevoked : Nat

/-- Fused SVN_FUSE at the first power-on (R420). -/
opaque svnFused : Nat

/-- EXP2, LOG2, RECIP, RSQRT, TANH, SIGMOID, GELU, SILU of R111: function code, FP32 bits in, FP32 bits out. One fixed
algorithm within a stated bound, whose bits the spec does not give (log entry 7). -/
opaque transcend : Nat → BitVec 32 → BitVec 32

/-- The FP64 power of R321, base bits and exponent (log entry 7). -/
opaque pow64 : BitVec 64 → Nat → BitVec 64

/-- The FP64 cosine of R321 (log entry 7). -/
opaque cos64 : BitVec 64 → BitVec 64

/-- A decoded picture: luma size, bit depth, 4:2:2, chroma sample location type of the stream (0 when it signals none),
sample aspect ratio, colour codes of the stream (2 when it carries none), and the planes in raster order,
where a sample that could not be decoded is none (R194, R209). -/
structure Picture where
  w : Nat
  h : Nat
  depth : Nat
  c422 : Bool
  siting : Nat
  sarW : Nat
  sarH : Nat
  prim : Nat
  transfer : Nat
  matrix : Nat
  y : List (Option Nat)
  cb : List (Option Nat)
  cr : List (Option Nat)
deriving DecidableEq, Repr, Inhabited

/-- A picture of an external video standard (R194): codec, bytes of sequence headers or parameter sets, coded bytes each
with whether it lies in a damaged PES packet, the decoded pictures it may refer to; none when it cannot be decoded or lacks
a reference (log entry 8). -/
opaque decodePicture : Nat → List (BitVec 8) → List (BitVec 8 × Bool) → List Picture → Option Picture

/-- Profiles of the video standards of R194; any other is the last. -/
inductive VideoProfile where
  | mpeg2Main | mpeg2P422 | avcHigh | avcHigh10 | avcHigh422 | hevcMain | hevcMain10 | hevcMain422P10 | other
deriving DecidableEq, Repr, Inhabited

/-- What the sequence headers or parameter sets of a stream say: its profile, its level (1 Low, 2 Main, 3 High 1440, 4 High for MPEG-2, ten
times the number for the other standards), luma size, chroma_format_idc, bit depth, and whether it uses a tool or an extension that R194
excludes: FMO, ASO, SVC, MVC, screen content coding or more than one layer. -/
structure StreamInfo where
  profile : VideoProfile
  level : Nat
  w : Nat
  h : Nat
  chroma : Nat
  depth : Nat
  excluded : Bool
deriving DecidableEq, Repr, Inhabited

/-- The headers of a stream read: codec and span bytes; none where they cannot be read (log entry 8). -/
opaque streamInfo : Nat → List (BitVec 8) → Option StreamInfo

/-- The caption triplets of one coded picture with cc_valid set (R203): codec and coded bytes, answering cc_type and the
two bytes of each (log entry 8). -/
opaque captionTriplets : Nat → List (BitVec 8) → List (Nat × BitVec 8 × BitVec 8)

/-- An audio access unit of an external standard: its first byte in the elementary stream, sampling rate in Hz, channel configuration (2 for a
dual-channel unit too), whether it is dual-channel, whether it is LATM, whether it decoded (CRC and all), samples per channel, and
the FP32 bits of each channel's samples (R206). -/
structure AudioUnit where
  off : Nat
  rate : Nat
  channels : Nat
  dual : Bool
  latm : Bool
  ok : Bool
  count : Nat
  samples : List (List (BitVec 32))
deriving DecidableEq, Repr, Inhabited

/-- The access units of an audio elementary stream, in order: audio codec, 1 MPEG-1 Layer II or 2 AAC-LC, and coded bytes each with whether
it lies in a damaged PES packet (log entry 8). -/
opaque audioUnits : Nat → List (BitVec 8 × Bool) → List AudioUnit

/-- sinc of an FP32 number, for the Lanczos kernel of R201 (log entry 7). -/
opaque sinc : BitVec 32 → BitVec 32

/-- Entry i of the row-major 3 by 3 matrix to BT.709 from a primaries code for which H.273 gives no chromaticities (R200), FP32 bits (log
entry 7). -/
opaque primMatrix : Nat → Nat → BitVec 32

/-- The blocks of a Zstandard frame under RFC 8878, or none where one of them or the checksum is malformed (R355; log entry 8). -/
opaque zstdFrame : List (BitVec 8) → Option (List (BitVec 8))

/-- ECDSA P-384 verification of FIPS 186-5 (R420): public key bytes, SHA-384 digest, signature bytes (log entry 8). -/
opaque ecdsaP384 : List (BitVec 8) → Nat → List (BitVec 8) → Bool

/-- The order in which residues of the adder lanes fail their check (R301), an event of the silicon. -/
opaque adderFault : Nat → Bool

/-- This part's turnaround in ps, which it states to the far end of a link (R49, R264; log entry 17). -/
opaque turnaroundPs : Nat

/-- Word number of the Resizable BAR control register in configuration space, which the spec does not place (log entry 39). -/
opaque rebarControl : Nat

end Sys2Proof.Config
end

