-- ==== Sys2Proof/Machine/Map.lean ====
section
/-! DEFINITION. Sys2Proof/Machine/Map.lean: sparse tables by a number, as plain data: register values, memory bytes,
peer entries, links. An absent key reads as the default that its reader names. -/

namespace Sys2Proof.Machine

/-- A sparse table: (key, value) pairs, keys rising. -/
abbrev SMap (α : Type) := List (Nat × α)

/-- The entry of key k. -/
def mapFind {α : Type} (m : SMap α) (k : Nat) : Option α :=
  match m with
  | [] => none
  | (j, v) :: r => if j = k then some v else mapFind r k

/-- The entry of key k, or d where there is none. -/
def mapGet {α : Type} (m : SMap α) (k : Nat) (d : α) : α := (mapFind m k).getD d

/-- The table with v under k. -/
def mapSet {α : Type} (m : SMap α) (k : Nat) (v : α) : SMap α :=
  match m with
  | [] => [(k, v)]
  | (j, w) :: r => if j = k then (k, v) :: r else if k < j then (k, v) :: (j, w) :: r else (j, w) :: mapSet r k v

/-- The table with the entries of another over its own. -/
def mapMerge {α : Type} (m r : SMap α) : SMap α := r.foldl (fun m e => mapSet m e.1 e.2) m

/-- The table without key k. -/
def mapErase {α : Type} (m : SMap α) (k : Nat) : SMap α := m.filter (fun e => e.1 != k)

/-- The table with f applied under k, from the default d where the key is absent. -/
def mapUpd {α : Type} (m : SMap α) (k : Nat) (d : α) (f : α → α) : SMap α := mapSet m k (f (mapGet m k d))

/-- Position of the first element that satisfies p, or the length. -/
def firstIdx {α : Type} (l : List α) (p : α → Bool) : Nat :=
  match l with
  | [] => 0
  | x :: r => if p x then 0 else firstIdx r p + 1

/-- The list without its first element that satisfies p. -/
def dropFirst {α : Type} (l : List α) (p : α → Bool) : List α :=
  match l with
  | [] => []
  | x :: r => if p x then r else x :: dropFirst r p

/-- The list with f applied to its first element that satisfies p. -/
def updFirst {α : Type} (l : List α) (p : α → Bool) (f : α → α) : List α :=
  match l with
  | [] => []
  | x :: r => if p x then f x :: r else x :: updFirst r p f

end Sys2Proof.Machine
end

