-- ==== Sys2Proof/Machine/RegTypes.lean ====
section
/-! DEFINITION. Sys2Proof/Machine/RegTypes.lean: what a register field is (R9, R15, R427, R430, R432, R433): its block,
place, access code, reset value, range and who may write it. -/

namespace Sys2Proof.Machine

/-- The blocks, in the order of R388, and the header that every page carries (R430). -/
inductive Blk where
  | lathe | vec | port | clerk | cstore | hbmc | storc | mill
  | hopper | zlink | route | tally | msf | update | chest | dock
  | tenant | clock | ftime | power | reset | pmc | sbus | ledger
  | health | freeze | perturb | pcie | eth | smb | dimtab | hdr
deriving DecidableEq, Repr

/-- Block number of R388. -/
def Blk.num (b : Blk) : Nat := b.ctorIdx

/-- Access codes of R15. No page of the manual has an RWL field. -/
inductive Acc where
  | rw | ro | wo | w1c | rc
deriving DecidableEq, Repr

/-- Who may write a field (R429 and the page's own rule): any tenant, TC15 only, or TC15 and the tenant whose index
the field carries (DOCK TAIL and COMP_HEAD, R155). -/
inductive Perm where
  | any | plat | own
deriving DecidableEq, Repr

/-- The range that a page states for a field (R432). -/
inductive Rng where
  /-- every value is legal -/
  | any
  /-- lo to hi, clamped to the nearest -/
  | span (lo hi : Nat)
  /-- above hi, the value v -/
  | over (hi v : Nat)
  /-- the k lowest bits are cleared -/
  | align (k : Nat)
  /-- multiples of step from lo to hi, clamped to the nearest -/
  | steps (step lo hi : Nat)
  /-- 0, or lo to hi, clamped -/
  | zeroOr (lo hi : Nat)
  /-- the listed values, others as v -/
  | oneOf (l : List Nat) (v : Nat)
  /-- a gate number of the page's die (R58) -/
  | gate
  /-- a clock number of the page's die (R63) -/
  | clk
  /-- VC_MIN: shares of 1 to 15 that sum to at most 48 (R249, R266) -/
  | vcMin
deriving DecidableEq, Repr

/-- Reset value of a field: one number, a list by index, a list by instance, or a rule of its own. -/
inductive Rst where
  | const (n : Nat)
  | byIdx (l : List Nat)
  | byInst (l : List Nat)
  /-- METER_REF, METER_CLK and the bands of R55 -/
  | meterRef | meterClk | meterFail | meterWarn
  /-- ROLE of R252 -/
  | linkRole
  /-- CLASS of R156: TC15 reads 2 -/
  | tenantClass
  /-- bench-map position of R38 and die of R38 -/
  | fused (k : Nat)
deriving DecidableEq, Repr

/-- A register field. A field with count above 1 repeats every stride bytes. -/
structure Fld where
  code : Nat
  blk : Blk
  off : Nat
  stride : Nat
  count : Nat
  lsb : Nat
  width : Nat
  acc : Acc
  rst : Rst
  rng : Rng
  perm : Perm
deriving DecidableEq, Repr

/-- The place of one field value in the register file: field, page instance and index. -/
def regKey (f : Fld) (inst idx : Nat) : Nat := (f.code * 16384 + inst) * 1024 + idx

end Sys2Proof.Machine
end

