-- ==== Sys2Proof/Machine/Parts.lean ====
section
/-! DEFINITION. Sys2Proof/Machine/Parts.lean: the parts of the state that are no register field: time, clocks, rings,
queues, resets, health, Ledger, freeze, perturbation, power and boot. -/

namespace Sys2Proof.Machine

/-- Fabric Time of the package and the follower's state: R39, R40, R45 to R47, R50, R60, R62. The twelve dies' counters, which R39 lets
differ by 1 tick, are one count here (DESIGN CHOICE, log entry 5). -/
structure TimeSt where
  /-- Fabric Time, 1 ns ticks -/
  ft : W64
  /-- FTCLK cycles counted by the timers; held in a freeze (R145, R396) -/
  cyc : Nat
  /-- the module has reached LOCKED since its last module reset (R40) -/
  joined : Bool
  /-- the ACQUIRE step has been taken since the last write of ROLE (R50) -/
  stepped : Bool
  /-- consecutive accepted words with an offset of at most 4 ticks -/
  streak : Nat
  /-- cyc at the ROLE write or at the last accepted word -/
  lastWord : Nat
  /-- ticks still to add (positive) or remove by slewing -/
  slew : Int
  /-- FTCLK cycles since the last slewed tick -/
  slewPhase : Nat
  /-- FTCLK cycles for which FT still stands (R50) -/
  pause : Nat
  /-- the latest snapshot of FT (R60) -/
  snap : W64
  /-- FT has been brought to the timescale of the PTP port that SOURCE selects (R45) -/
  ptpStep : Bool
  /-- an FTSYNC pulse has been seen -/
  sawPulse : Bool
  /-- consecutive good FTSYNC intervals (R46) -/
  goodSync : Nat
  /-- consecutive missed FTSYNC pulses (R47) -/
  missedSync : Nat
  /-- consecutive good windows of FD0's meter 1 (R46) -/
  ftrefGood : Nat
deriving DecidableEq, Repr

/-- The configuration that a frequency meter uses in its present window (R63). -/
structure MeterCfg where
  ref : Nat
  clk : Nat
  fail : Nat
  warn : Nat
  /-- nominal frequency of the measured clock at the start of the window, in MHz (R55) -/
  mhz : Nat
deriving DecidableEq, Repr

/-- Clocks of one die: R52, R53, R56, R57. -/
structure ClockSt where
  /-- clock numbers of the coasting PLLs -/
  coast : List Nat
  /-- a PLL relock is in progress -/
  relock : Bool
  /-- the oscillator that the PLLs run from: 0 IOSC, 1 XTAL; SOURCE_SEL as it stood at the latest relock (R53) -/
  src : Nat
  /-- consecutive good windows of XTAL against IOSC -/
  xtalGood : Nat
  /-- gates that are off -/
  off : List Nat
  /-- gates whose held request is off -/
  reqOff : List Nat
  /-- meter configurations in force, where they differ from the page's reset values -/
  meters : SMap MeterCfg
  /-- meters whose measured clock was gated, lost its power or changed its frequency in the present window (R55) -/
  spoiled : List Nat
deriving DecidableEq, Repr

/-- One slot of a ring between acceptance and its record (R127, R139): the completion record and its IRQ bit once the
docket has completed. -/
structure RecSlot where
  seq : W32
  done : Option (Record × Bool)
deriving DecidableEq, Repr

/-- One docket ring: R125, R127, R128, R152. -/
structure RingSt where
  /-- fetched slots not yet accepted, oldest first -/
  fetched : List Docket
  /-- reads again of the slot ACCEPT because its SEQ does not match -/
  retries : Nat
  /-- cyc of the latest read of that slot -/
  readAt : Nat
  /-- STALLED_SEQ until the next TAIL write (R128, R155) -/
  stalled : Bool
  /-- TAIL write held aside during RESETTING or STOPPED -/
  heldTail : Option W32
  /-- accepted dockets awaiting their record, oldest first -/
  acc : List RecSlot
deriving DecidableEq, Repr

/-- An entry of an engine queue: R119, R131, R140, R145, R149. -/
structure QEntry where
  dk : Docket
  die : CDie
  tenant : TenantId
  seq : W32
  /-- EST after R144 -/
  est : Nat
  late : Bool
  clamped : Bool
  reexec : Bool
  carry : Bool
  /-- the release is reached (R42) -/
  released : Bool
  /-- the release has been compared with FT once, which settles LATE (R43) -/
  judged : Bool
  /-- the docket has become eligible (R140, R145) -/
  eligible : Bool
  /-- cyc at which the wait timeout started -/
  waitFrom : Option Nat
  running : Bool
  /-- run timer in FTCLK cycles, scaled under R408 -/
  ran : Rat
  /-- the final output has landed -/
  done : Bool
  /-- the reset's cut has been asked for (R151, R367) -/
  cut : Bool
  /-- status so far, by R138 -/
  status : Nat
  /-- first offending global address (R470) -/
  badAddr : Nat
  nonfinite : Nat
  flushed : Nat
  digest : Nat
  /-- chunks, pages or spans still to land or commit -/
  todo : List Nat
  /-- sequencer numbers of the docket's unresolved remote operations (R271); a returned docket keeps them -/
  seqs : List W32
  /-- the index list or anchor array that a Porter docket has read (R113, R468), or a collective's peers -/
  idx : List Nat
  /-- the pieces of its source that a PLAYOUT has read from another device, by offset (R113, R268) -/
  parts : List (Nat × List Byte)
  /-- the slot of its Hopper that an INGEST docket fills, from its dispatch on; a returned docket keeps it (R224) -/
  slot : Option Nat
  /-- its engine has started on it -/
  started : Bool
  /-- arguments that follow NONFINITE and FLUSHED in a non-finite record (R331) -/
  xargs : List Nat
  /-- short stamp of its dispatch (R382) -/
  startStamp : W32
deriving DecidableEq, Repr

/-- What a Lathe's accumulator bank holds after a docket: the docket's C_OUT and tenant, whether it was a single-block docket with FP32
output, and its FP32 tiles (R102). -/
structure CarrySt where
  out : Nat
  tenant : Nat
  single : Bool
  bank : List Byte
deriving DecidableEq, Repr

/-- A change of CCLK in progress and the queued second write (R407, R61). -/
structure CclkChange where
  target : Nat
  next : Option Nat
  /-- cyc at which the change began -/
  since : Nat
deriving DecidableEq, Repr

/-- The state of a sleeping unit (R412, R415): entering, asleep or leaving, and the state's number 1 to 4. -/
inductive Sleep where
  | entering (s : Fin 5) (woken : Bool)
  | asleep (s : Fin 5)
  | leaving (s : Fin 5)
deriving DecidableEq, Repr

/-- Power: R403 to R416. -/
structure PowerSt where
  /-- switched domains that are powered -/
  on : List Nat
  /-- CCLK changes in progress, by logical cluster -/
  cclk : SMap CclkChange
  /-- clusters held below their written value: bit 0 by the cap (R409), bit 1 by their die's excursion (R410), bit 2 by the
  floor of THERM_N (R411) -/
  capHeld : SMap Nat
  /-- dies in a thermal excursion (R410) -/
  hot : List Nat
  /-- latest junction temperature by die -/
  temp : SMap Nat
  thermLow : Bool
  /-- the thermal floor of R411 holds, and cyc at which it ends once THERM_N is released -/
  floor : Bool
  floorEnd : Nat
  tripped : Bool
  /-- sleeping cores (c), clusters (512 + c), compute dies (576 + n) and the module (584) -/
  sleep : SMap Sleep
deriving DecidableEq, Repr

/-- Boot: R24, R365, R417 to R423. -/
structure BootSt where
  inRange : Bool
  /-- an image has been read from the flash by slot -/
  loaded : Bool
  verified : Bool
  /-- position mapped out on die n, where one is -/
  mapped : SMap Nat
  /-- BENCH_STATE of die n -/
  bench : SMap Nat
  /-- stacks (0 to 15) and Storeroom channels (64 + k) out of service -/
  outOf : List Nat
  /-- the Dimension Table is published -/
  published : Bool
  /-- the image in the package, by slot, that a package reset boots again (R419) -/
  image : Option Nat
  /-- fuses burnt since manufacture: SVN_FUSE as raised, and revoked keys (R422) -/
  svnUp : Nat
  revoked : Nat
  /-- package resets since power-on, each of which advances every page generation when POWER_UP reruns (R435) -/
  pageGens : Nat
  /-- POWER_UP is to rerun after a package reset -/
  rerun : Bool
deriving DecidableEq, Repr

/-- A bucket's suppressed events (R391). -/
structure Supp where
  count : Nat
  first : W64
  last : W64
  src : W32
  loc : W32
deriving DecidableEq, Repr

/-- The Ledger: R390 to R393. -/
structure LedgerSt where
  /-- the AO ring's bytes, by offset in the ring -/
  ao : List (Nat × Byte)
  /-- records in the AO ring, oldest first: first unit and length in units -/
  recs : List (Nat × Nat)
  /-- records in the capacity ring, oldest first -/
  capRecs : List (Nat × Nat)
  /-- tokens of the buckets that an event or a profile write has touched -/
  tokens : SMap Nat
  /-- tokens of the untouched buckets of each profile -/
  base : List Nat
  /-- profiles set through CODE_PROFILE, by bucket -/
  profs : SMap Nat
  supp : SMap Supp
  /-- records dropped since the last records-lost record -/
  lost : Nat
  /-- capacity-ring records dropped since the last records-lost record there -/
  capLost : Nat
  /-- next refill point of each profile, in cyc -/
  grid : List Nat
  /-- end of the present summary interval, in cyc -/
  sumEnd : Nat
deriving DecidableEq, Repr

/-- Freeze: R395 to R398. The STATUS register holds FROZEN, the pin, the causes and LATE_ARM. -/
structure FreezeSt where
  /-- instant armed by the pin -/
  pinAt : Option W64
  /-- a RESUME write has been taken, with its instant -/
  resumeAt : Option W64
  /-- instant of the pin release plus RESUME_LEAD_US -/
  pinEnd : Option W64
  /-- read position of the selected chain, in bits -/
  pos : Nat
deriving DecidableEq, Repr

/-- Domains in reset, generations and the hang path: R361 to R372. -/
structure ResetSt where
  /-- domains resetting: key (code × 4,096 + index), cause, and cyc at the start -/
  active : List (Nat × Nat × Nat)
  /-- engines held stopped with AUTO_ENGINE 0 (R361) -/
  stopped : List Nat
  /-- RGEN of an engine domain, reset count of the others, by key -/
  gens : SMap Nat
  /-- cyc of the hangs of a domain within the window, newest first -/
  hangs : SMap (List Nat)
  /-- cyc at which an engine or a tenant last sent a packet: engine key, 65,536 + tenant, 131,072 own generation -/
  lastSent : SMap Nat
  /-- wrap drains running: the drain's key and the reset cause to go on with -/
  drains : List (Nat × Nat)
  /-- OWN_GEN value that waits for its drain (R373) -/
  ownGen : Option Byte
  /-- tenant context resets running (R151) -/
  tenants : List Nat
deriving DecidableEq, Repr

/-- Health scores and shadow mode: R376 to R381. -/
structure HealthSt where
  /-- 14-bit score by part -/
  score : SMap Nat
  warn : List Nat
  act : List Nat
  /-- mirrored completion records present on S, by ring × 2^32 + SEQ -/
  mirror : SMap Record
  /-- digests of dockets that completed on S before their mirrored record came, by the same key -/
  own : SMap Nat
  /-- first docket that mismatched since the last marker: ring × 2^32 + SEQ -/
  mismatch : Option Nat
  /-- next decay instant, in cyc -/
  decayAt : Nat
deriving DecidableEq, Repr

/-- Eligible events seen and perturbations made by one control since its write (R399). -/
structure PertCnt where
  seen : Nat
  acted : Nat
deriving DecidableEq, Repr

end Sys2Proof.Machine
end

