-- ==== Sys2Proof/Machine/PartsNet.lean ====
section
/-! DEFINITION. Sys2Proof/Machine/PartsNet.lean: the parts of the state that belong to the stores, the links, the router
and the memory-semantic fabric. -/

namespace Sys2Proof.Machine

/-- Zero-fills and queued ownership writes (R93, R94, R165). A part is keyed by its kind and number:
segment 16c + s, way 16,384 + 16c + w, set 32,768 + g, region 65,536 + n. -/
structure FillSt where
  /-- parts being zero-filled -/
  busy : List Nat
  /-- queued ownership writes of a part, oldest first: valid and owner -/
  queued : SMap (List (Bool × TenantId))
  /-- counter ways whose counters are being cleared: cluster × 16 + tenant -/
  counters : List Nat
  /-- errors that a line holds until it is next read or written whole, by local address / 64: 1 one that its code corrects,
  2 one that it only detects (R95, R166) -/
  flaws : SMap Nat
deriving DecidableEq, Repr

/-- One lane of a link's receiver: R240, R265. -/
structure LaneSt where
  /-- marker patterns seen in a row at the marker period -/
  hits : Nat
  locked : Bool
  inverted : Bool
  logical : Nat
  counter : BitVec 16
  /-- markers missed in a row -/
  missed : Nat
deriving DecidableEq, Repr

/-- One link: R240 to R249, R264, R265. -/
structure LinkSt where
  lanes : SMap LaneSt
  /-- codewords decoded since alignment, the present run without and with uncorrectable errors -/
  cws : Nat
  good : Nat
  bad : Nat
  /-- codewords and uncorrectable codewords of the present window of 2^20 -/
  winCws : Nat
  winBad : Nat
  /-- next FSEQ expected -/
  expect : BitVec 12
  /-- the receiver is in NAK state -/
  nak : Bool
  /-- next FSEQ to send -/
  next : BitVec 12
  /-- last ACK received -/
  ack : BitVec 12
  /-- unacknowledged DATA flits, oldest first -/
  replay : List Flit
  /-- resends made without ACK advancing -/
  resends : Nat
  /-- ACK from which the latest resend was made, and cyc until which it is in progress (R246) -/
  nakServed : Option (BitVec 12)
  resendEnd : Nat
  /-- codeword slots sent since the last marker slot, and the marker counter (R239) -/
  slot : Nat
  marker : BitVec 16
  /-- multiples of 4,096 FT ticks up to the latest time word sent (R244) -/
  timeAt : Nat
  /-- the far end's stated turnaround, in ps (R49, R264) -/
  farTurn : Nat
  /-- units taken from each VC's share, and from the pool -/
  used : SMap Nat
  pool : Nat
  /-- units of each VC waiting to be returned to the far end -/
  toReturn : SMap Nat
  /-- units received of a packet not yet whole, by VC, oldest first -/
  part : SMap (List Nat)
  /-- whole packets received and not yet handled, oldest first -/
  rx : List Packet
  /-- packets waiting for credits or for the replay buffer, oldest first -/
  tx : List Packet
  /-- retrains that failed in a row -/
  failed : Nat
  /-- a bring-up or retrain is in progress -/
  bringing : Bool
  /-- cyc at its start -/
  since : Nat
  /-- cyc at which ACK last advanced, or the replay buffer last began to fill -/
  ackAt : Nat
  /-- the link has been UP: its one-way delay d is FTIME.LINK_DELAY -/
  upOnce : Bool
deriving DecidableEq, Repr

/-- A multicast group entry (R257). -/
structure Mcast where
  valid : Bool
  loc : Bool
  mask : W64
deriving DecidableEq, Repr

/-- The router: R257, R260, R261. -/
structure RouteSt where
  /-- peer table copies of FD0 and FD1, by entry index -/
  peer0 : SMap W32
  peer1 : SMap W32
  /-- peer writes not yet applied to a copy: fabric die, index, entry -/
  pend : List (FDie × Nat × W32)
  groups : SMap Mcast
  /-- cyc of the last REJECT to a source device -/
  rejectAt : SMap Nat
  /-- packets that passed the checks of R261 and wait for their operation -/
  inbox : List Packet
  /-- packets of TC0-TC14 held while OWN_GEN drains (R373) -/
  held : List Packet
  /-- multicast packets of this module that wait for a branch, oldest first (R257) -/
  mwait : List Packet
deriving DecidableEq, Repr

/-- A slot of a receipt window (R277). -/
structure Receipt where
  seq : W32
  /-- 0 empty, 1 atomic, 2 arrival -/
  kind : Nat
  status : Nat
  result : Nat
  low : BitVec 16
  map : W64
deriving DecidableEq, Repr

/-- A receipt window (R277). -/
structure Window where
  die : Nat
  slots : SMap Receipt
  /-- cyc of the last change -/
  changed : Nat
deriving DecidableEq, Repr

/-- A remote operation of a docket that is not resolved (R271, R272, R279). -/
structure ROp where
  seq : W32
  tenant : TenantId
  queue : Nat
  ref : DocketRef
  /-- 0 write, 1 read, 2 atomic -/
  kind : Nat
  dev : BitVec 16
  /-- peer GEN at the first send -/
  gen : Byte
  rgen : Byte
  tgen : Byte
  /-- chunks sent and not yet acknowledged -/
  unacked : List Nat
  /-- first chunk not yet issued, and the number of chunks -/
  nextChunk : Nat
  chunks : Nat
  /-- a packet of the operation carries RETRY -/
  retry : Bool
  /-- packets answered BUSY, to send again -/
  again : List Packet
  /-- chunks asked for before an RINVAL that covers them: delivered but not cached (R283) -/
  noCache : List Nat
  /-- cyc of the last send -/
  sentAt : Nat
deriving DecidableEq, Repr

/-- A line of a die cache (R281): its tenant and bytes. -/
structure CacheLine where
  tenant : TenantId
  data : BitVec 512
deriving DecidableEq, Repr

/-- The memory-semantic fabric: R271, R277, R281, R282. -/
structure MsfSt where
  /-- next SEQ by tenant -/
  nextSeq : SMap W32
  /-- unresolved SEQs by tenant, oldest first -/
  open' : SMap (List W32)
  ops : List ROp
  /-- receipt windows by device × 16 + tenant -/
  windows : SMap Window
  /-- die cache of CDn: lines by global address / 64, at n × 2^60 + line -/
  cache : SMap CacheLine
  /-- directory: holders of a CONTROL line, by local address / 64 -/
  dir : SMap Byte
  /-- RFENCE dockets in progress, by queue: tenant, SEQ and chunk of every packet awaited (R285) -/
  fences : SMap (List (TenantId × W32 × Nat))
deriving DecidableEq, Repr

/-- A write to a crossing field that waits for an earlier one to the same field (R61). -/
structure CrossWrite where
  by' : Writer
  blk : Blk
  inst : Nat
  f : Fld
  idx : Nat
  v : Nat
deriving DecidableEq, Repr

/-- The Service Bus: R61, R438 to R440. -/
structure SbusSt where
  /-- beats of the present grant -/
  beats : Nat
  /-- SVCLK cycles counted by the watchdog for the owner -/
  watch : Nat
  /-- inputs whose requests are ignored after a bite, with the cyc at which that ends -/
  ignored : SMap Nat
  /-- crossing writes that await acknowledgement (R61): page number and register key -/
  crossing : List (Nat × Nat)
  /-- later writes to those fields, oldest first -/
  crossQ : List CrossWrite
  /-- write transactions posted and not yet applied (R436), oldest first -/
  posted : List (Writer × List WordWrite)
deriving DecidableEq, Repr

/-- What leaves the module: packets and resent flits, MSI-X messages, writes and reads of host memory, data returned to
a reader, SMBus bytes, PCIe messages, and link-management requests. -/
inductive Out where
  | packet (l : LinkId) (p : Packet)
  | flit (l : LinkId) (f : Flit)
  /-- an error that INJ_KIND puts into the next codeword or flit sent on a link (R399, R400) -/
  | injected (l : LinkId) (kind symbols : Nat)
  /-- a flit sent carries FT in its TIME field (R244) -/
  | timeWord (l : LinkId) (ft : W64)
  /-- a marker slot with its counter on all four lanes (R239) -/
  | marker (l : LinkId) (counter : BitVec 16)
  | msix (vector : Nat)
  | hostWrite (addr : Nat) (data : List Byte)
  | hostRead (addr : Nat) (len : Nat)
  | readData (w : W32)
  | bytes (data : List Byte)
  | smbus (data : List Byte) (nack : Bool)
  | storageRead (mill : MDie) (target : Nat) (cid : Nat) (lba : Nat) (len : Nat)
  | ethernet (mill : MDie) (kind : Nat) (value : Nat)
  | cfgRead (w : W32)
  | cfgRetry
  | readiness
deriving DecidableEq, Repr

end Sys2Proof.Machine
end

