-- ==== Sys2Proof/Machine/PartsMod.lean ====
section
/-! DEFINITION. Sys2Proof/Machine/PartsMod.lean: the parts of the state at the module's edge: pins, the PCIe function,
SMBus, the boot flash and the Ethernet ports. -/

namespace Sys2Proof.Machine

/-- Pins as sampled (R458, R463): true is high. -/
structure PinSt where
  perstN : Bool
  trstN : Bool
  /-- PWR_GOOD released -/
  pwrGood : Bool
  /-- ALERT_CAUSE bits acknowledged by an Alert Response read -/
  acked : BitVec 4
  /-- input power limit of a lost blade, in W (R445) -/
  bladeLimit : Option Nat
deriving DecidableEq, Repr

/-- The PCIe function: R153, R418, R452. -/
structure PcieSt where
  /-- the function is re-enabled after an FLR or a PERST_N assertion (R153) -/
  enabled : Bool
  /-- the function answers configuration requests with Request Retry Status (R418) -/
  rrs : Bool
  /-- configuration-space words that a request has written, by word number -/
  cfg : SMap W32
  /-- MSI-X table and PBA bytes of BAR4, by offset -/
  msix : List (Nat × Byte)
deriving DecidableEq, Repr

/-- A flash operation in progress: R462. 1 read, 2 program, 3 erase sector. -/
structure FlashOp where
  cmd : Nat
  addr : Nat
  data : BitVec 256
  /-- asked by the SMBus path -/
  smbus : Bool
deriving DecidableEq, Repr

/-- The boot flash (R420, R462): a byte not listed is erased, 0xFF. -/
structure FlashSt where
  bytes : List (Nat × Byte)
  busy : Option FlashOp
deriving DecidableEq, Repr

/-- The SMBus port (R460 to R463). -/
structure SmbusSt where
  off : W32
  notReachable : Bool
deriving DecidableEq, Repr

/-- One Ethernet port (R454, R456): the PTP streak and the congestion rate reductions taken. -/
structure EthSt where
  ptpStreak : Nat
  rateCuts : Nat
  paused : List Nat
deriving DecidableEq, Repr

/-- A span of an INGEST docket in progress: R183 to R185. -/
structure MSpan where
  addr : Nat
  audio : Bool
  track : Nat
  /-- the source record's address and its 64 bytes as a number (R182) -/
  src : Nat
  source : Nat
  offset : Nat
  len : Nat
  hdr : Nat
  /-- frame records as numbers, in coded order; the PTS word of an audio span is first -/
  frames : List Nat
  targets : Nat
  /-- 0 waiting, 1 its group powers on, 2 fetching, 3 fetched, 4 done -/
  stage : Nat
  /-- 0 none, 1 INDEX, 2 UNSUPPORTED -/
  cause : Nat
  /-- fetched bytes by offset in the span -/
  pieces : List (Nat × List Byte)
deriving DecidableEq, Repr

/-- An output frame: its plan entry, display index, PTS, damage byte and token bytes. -/
structure MFrame where
  entry : Nat
  display : Nat
  pts : Nat
  damage : Nat
  tokens : List Byte
deriving DecidableEq, Repr

/-- Bytes of one audio track that a span of a sample has given (R207): plan entry, track, codec, where in the bytes a PTS applies, and the bytes,
each with whether it is damaged. -/
structure AudioPiece where
  entry : Nat
  track : Nat
  codec : Nat
  marks : List (Nat × Nat)
  bytes : List (Byte × Bool)
deriving DecidableEq, Repr

/-- The caption triplets of one coded picture of a listed span (R203): plan entry, address of the source record, display index, and of each
triplet its cc_type and two bytes. -/
structure CapPic where
  entry : Nat
  src : Nat
  display : Nat
  trip : List (Nat × Byte × Byte)
deriving DecidableEq, Repr

/-- An INGEST docket in progress (R179). -/
structure MillJob where
  ref : DocketRef
  spans : List MSpan
  frames : List MFrame
  captions : List CapPic
  audio : List AudioPiece
deriving DecidableEq, Repr

/-- A Read in flight (R189, R190). -/
structure MillCmd where
  cid : Nat
  target : Nat
  /-- first byte on the target and length -/
  off : Nat
  len : Nat
  /-- bytes of the span that it serves: first and end -/
  lo : Nat
  hi : Nat
  ref : DocketRef
  span : Nat
  tries : Nat
  sentAt : Nat
deriving DecidableEq, Repr

/-- A Mill die: R178 to R191, R405. -/
structure MillSt where
  /-- dockets in progress, oldest first -/
  jobs : List MillJob
  /-- the span on each taken pipe -/
  pipes : SMap (DocketRef × Nat)
  /-- bytes of the work area that a pipe has reserved -/
  reserved : SMap Nat
  cmds : List MillCmd
  /-- Reads that wait for room in their target's queues, oldest first (R188) -/
  backlog : List MillCmd
  nextCid : Nat
  /-- cyc since which a decode group has had no span -/
  idleFrom : SMap Nat
  /-- waits for work-area space already counted: docket and span -/
  waiting : List (DocketRef × Nat)
deriving DecidableEq, Repr

/-- The draw in progress of a DRAW docket (R227). -/
structure HopDraw where
  ref : DocketRef
  j : Nat
  copying : Bool
  /-- cyc at which the draw began to wait at step 1, and the uncore cycles of that wait already in STARVE_CYCLES (R228) -/
  waitFrom : Nat
  starved : Nat
  /-- address of the slot that is copied, 0 for a VOID one, and what was read there once for all destinations -/
  src : Nat
  data : List Byte
deriving DecidableEq, Repr

/-- A stage of a collective (R290 to R305). Kinds: 0 anchors reduced, 1 anchors gathered, 2 words reduced, 5 compressed
contributions reduced, 6 bytes gathered, 7 broadcast; without exchange: 10 codes agreed, 11 top of the span, 12 compression,
13 global codes agreed, 14 global sum rounded, 15 result written. -/
structure CStage where
  kind : Nat
  /-- 0 pod, 1 hall, 2 global, 3 broadcast -/
  level : Nat
  /-- ranks of the level's members, and this module's place among them -/
  members : List Nat
  me : Nat
  /-- format code of the words or contributions -/
  fmt : Nat
deriving DecidableEq, Repr

/-- A chunk being received (R298, R299): contributions by sender's place, and failed checks by sender. -/
structure CSlot where
  got : List (Nat × List Int)
  fails : SMap Nat
deriving DecidableEq, Repr

/-- A GRANT received: rank, level, gather, anchors, first chunk and count (R297). -/
structure CGrant where
  rank : Nat
  level : Nat
  gather : Bool
  anchor : Bool
  first : Nat
  count : Nat
deriving DecidableEq, Repr

/-- A collective in progress (R287 to R308). -/
structure Coll where
  ref : DocketRef
  /-- the members by rank, this module's rank, and the peers' GEN at the start -/
  devs : List Nat
  rank : Nat
  gens : List Nat
  tag : Nat
  mcast : Nat
  /-- participant count of the span, members per level -/
  p : Nat
  a : Nat
  b : Nat
  c : Nat
  /-- stages left, the present one first, and the stages left behind -/
  stages : List CStage
  past : List CStage
  /-- what the present stage works on: codes, words, or bytes -/
  vec : List Int
  /-- width of the words, and the first element's place in the whole -/
  w : Nat
  base : Nat
  /-- agreed codes of the span and of the global level (R295, R302) -/
  codes : List Int
  gcodes : List Int
  /-- leaf words, then compressed contributions by chunk -/
  leaves : List Int
  enc : List (List Byte)
  /-- receiving: chunks granted, slots by chunk, results by chunk -/
  granted : Nat
  slots : SMap CSlot
  results : SMap (List Int)
  /-- sending: chunks awaiting an answer (place, chunk, cyc), answers received, grants for later stages -/
  sent : List (Nat × Nat × Nat)
  acked : Nat
  grants : List CGrant
  /-- broadcast root: members that have granted a chunk -/
  ready : SMap (List Nat)
  /-- elements of the collective that this member made non-finite, wherever they end up (R74, R85, R296, R469) -/
  nans : List Nat
deriving DecidableEq, Repr

/-- An APPLY in progress on a die (R317, R318): what it read at dispatch, and its free slots in the order of use. -/
structure UpdSt where
  ref : DocketRef
  /-- the shard descriptor and the optimiser block as numbers, and the CLIP word -/
  desc : Nat
  hyper : Nat
  clip : Nat
  free : List Nat
  freeAcc : List Nat
  /-- cyc of the start or of the latest page, and the page read that failed: its status and address -/
  since : Nat
  failed : Option (Nat × Nat)
deriving DecidableEq, Repr

/-- A chunk of a chest transfer (R337). -/
structure CXfer where
  chunk : Nat
  write : Bool
  /-- global address -/
  addr : Nat
  len : Nat
  data : List Byte
  sentAt : Nat
deriving DecidableEq, Repr

/-- What a RESTORE knows of a source (R349, R351). -/
structure CSource where
  /-- the 32 bytes of the source table entry as a number -/
  desc : Nat
  /-- 0 not looked up, 1 primary used, 2 alternate used, 3 neither found -/
  used : Nat
  /-- bits [4:2] of the REPORT byte -/
  bits : Nat
  /-- the slot in use and its extent records as numbers -/
  base : Nat
  recs : List Nat
  /-- the alternate's slot, once it has been looked up behind a primary -/
  altKnown : Bool
  altBase : Nat
  altRecs : List Nat
deriving DecidableEq, Repr

/-- An extent to read whole, and the logical range to place (R349, R351). -/
structure CRead where
  src : Nat
  alt : Bool
  base : Nat
  ext : Nat
  lo : Nat
  hi : Nat
deriving DecidableEq, Repr

/-- A re-layout docket in progress (R336 to R358). -/
structure ChestJob where
  ref : DocketRef
  /-- Fabric Time at dispatch, and ACT_REQS as read there (R341, R347) -/
  ft : W64
  acts : Nat
  phase : Nat
  /-- chunks to issue, chunks unacknowledged, pieces read by chunk number or image offset, next chunk number -/
  todo : List CXfer
  wait : List CXfer
  got : List (Nat × List Byte)
  next : Nat
  /-- devices whose peer entries the docket rests on, with GEN at its start -/
  devs : List (Nat × Nat)
  /-- list entries as numbers; the extent or source or manifest copy being worked on -/
  list : List Nat
  cur : Nat
  srcs : List CSource
  reads : List CRead
  /-- target slot, SEQ, extent records so far, and the manifest to be written or as read -/
  slot : Nat
  seq : Nat
  recs : List Nat
  man : List Byte
  /-- LOAD: members by rank, this module's rank, chunks of the stream, chunks awaiting a member's answer (rank, chunk, cyc),
  extents placed, storage pieces to read (offset and end), and the status of IMAGE_END once known -/
  members : List Nat
  rank : Nat
  stream : SMap (List Byte)
  sent : List (Nat × Nat × Nat)
  placed : List Nat
  pieces : List (Nat × Nat)
  fin : Option Nat
  /-- RESTORE: values of MX blocks that are not yet whole (R350) -/
  edge : SMap Nat
deriving DecidableEq, Repr

end Sys2Proof.Machine
end

