-- ==== Sys2Proof/Machine/RegsA.lean ====
section
/-! DEFINITION. Sys2Proof/Machine/RegsA.lean: the common header, DIMTAB, FTIME, CLOCK, the core pages, CSTORE, DOCK and TENANT. One definition per field of the spec's page tables:
code, block, offset, stride, count, lowest bit, width, access, reset, range, writers. -/

namespace Sys2Proof.Machine.Reg

/-- HDR.ID_VERSION, R430. -/
def HDR_ID_VERSION : Fld := ⟨530, .hdr, 0x0, 0, 1, 24, 8, .ro, .const 1, .any, .any⟩
/-- HDR.ID_DIE, R430. -/
def HDR_ID_DIE : Fld := ⟨531, .hdr, 0x0, 0, 1, 16, 4, .ro, .const 0, .any, .any⟩
/-- HDR.ID_INSTANCE, R430. -/
def HDR_ID_INSTANCE : Fld := ⟨532, .hdr, 0x0, 0, 1, 6, 9, .ro, .const 0, .any, .any⟩
/-- HDR.ID_BLOCK, R430. -/
def HDR_ID_BLOCK : Fld := ⟨533, .hdr, 0x0, 0, 1, 0, 6, .ro, .const 0, .any, .any⟩
/-- HDR.CAP_CROSSING, R430. -/
def HDR_CAP_CROSSING : Fld := ⟨534, .hdr, 0x4, 0, 1, 2, 1, .ro, .const 0, .any, .any⟩
/-- HDR.CAP_RWL, R430. -/
def HDR_CAP_RWL : Fld := ⟨535, .hdr, 0x4, 0, 1, 1, 1, .ro, .const 0, .any, .any⟩
/-- HDR.CAP_EXPERT, R430. -/
def HDR_CAP_EXPERT : Fld := ⟨536, .hdr, 0x4, 0, 1, 0, 1, .ro, .const 0, .any, .any⟩
/-- HDR.CTRL_LOCK, R430. -/
def HDR_CTRL_LOCK : Fld := ⟨537, .hdr, 0x8, 0, 1, 0, 1, .rw, .const 0, .any, .any⟩
/-- HDR.STATUS_PENDING, R430. -/
def HDR_STATUS_PENDING : Fld := ⟨538, .hdr, 0xc, 0, 1, 31, 1, .ro, .const 0, .any, .any⟩
/-- HDR.STATUS_LOCKED, R430. -/
def HDR_STATUS_LOCKED : Fld := ⟨539, .hdr, 0xc, 0, 1, 30, 1, .ro, .const 0, .any, .any⟩
/-- HDR.CLAMP0_VALID, R430. -/
def HDR_CLAMP0_VALID : Fld := ⟨540, .hdr, 0x10, 0, 1, 31, 1, .w1c, .const 0, .any, .any⟩
/-- HDR.CLAMP0_OVERRUN, R430. -/
def HDR_CLAMP0_OVERRUN : Fld := ⟨541, .hdr, 0x10, 0, 1, 30, 1, .ro, .const 0, .any, .any⟩
/-- HDR.CLAMP0_KIND, R430. -/
def HDR_CLAMP0_KIND : Fld := ⟨542, .hdr, 0x10, 0, 1, 28, 2, .ro, .const 0, .any, .any⟩
/-- HDR.CLAMP0_SOURCE, R430. -/
def HDR_CLAMP0_SOURCE : Fld := ⟨543, .hdr, 0x10, 0, 1, 24, 4, .ro, .const 0, .any, .any⟩
/-- HDR.CLAMP0_TENANT, R430. -/
def HDR_CLAMP0_TENANT : Fld := ⟨544, .hdr, 0x10, 0, 1, 20, 4, .ro, .const 0, .any, .any⟩
/-- HDR.CLAMP0_FIELD_LSB, R430. -/
def HDR_CLAMP0_FIELD_LSB : Fld := ⟨545, .hdr, 0x10, 0, 1, 12, 5, .ro, .const 0, .any, .any⟩
/-- HDR.CLAMP0_OFFSET, R430. -/
def HDR_CLAMP0_OFFSET : Fld := ⟨546, .hdr, 0x10, 0, 1, 0, 12, .ro, .const 0, .any, .any⟩
/-- HDR.CLAMP1_APPLIED, R430. -/
def HDR_CLAMP1_APPLIED : Fld := ⟨547, .hdr, 0x14, 0, 1, 16, 16, .ro, .const 0, .any, .any⟩
/-- HDR.CLAMP1_WRITTEN, R430. -/
def HDR_CLAMP1_WRITTEN : Fld := ⟨548, .hdr, 0x14, 0, 1, 0, 16, .ro, .const 0, .any, .any⟩
/-- HDR.EXPERT_EN, R430. -/
def HDR_EXPERT_EN : Fld := ⟨549, .hdr, 0x18, 0, 1, 0, 1, .rw, .const 0, .any, .any⟩
/-- HDR.PAGE_GEN, R430. -/
def HDR_PAGE_GEN : Fld := ⟨550, .hdr, 0x1c, 0, 1, 0, 16, .ro, .const 0, .any, .any⟩

/-- The fields of the HDR page. -/
def hdrFields : List Fld :=
  [HDR_ID_VERSION, HDR_ID_DIE, HDR_ID_INSTANCE, HDR_ID_BLOCK, HDR_CAP_CROSSING,
   HDR_CAP_RWL, HDR_CAP_EXPERT, HDR_CTRL_LOCK, HDR_STATUS_PENDING, HDR_STATUS_LOCKED,
   HDR_CLAMP0_VALID, HDR_CLAMP0_OVERRUN, HDR_CLAMP0_KIND, HDR_CLAMP0_SOURCE, HDR_CLAMP0_TENANT,
   HDR_CLAMP0_FIELD_LSB, HDR_CLAMP0_OFFSET, HDR_CLAMP1_APPLIED, HDR_CLAMP1_WRITTEN, HDR_EXPERT_EN,
   HDR_PAGE_GEN]

/-- DIMTAB.SHAPE_OK, R35. -/
def DIMTAB_SHAPE_OK : Fld := ⟨0, .dimtab, 0xc, 0, 1, 1, 1, .ro, .const 0, .any, .any⟩
/-- DIMTAB.READY, R35. -/
def DIMTAB_READY : Fld := ⟨1, .dimtab, 0xc, 0, 1, 0, 1, .ro, .const 0, .any, .any⟩
/-- DIMTAB.LAYOUT, R36. -/
def DIMTAB_LAYOUT : Fld := ⟨2, .dimtab, 0x20, 0, 1, 0, 32, .ro, .const 1, .any, .any⟩
/-- DIMTAB.CONTRACT_MAJOR, R36. -/
def DIMTAB_CONTRACT_MAJOR : Fld := ⟨3, .dimtab, 0x24, 0, 1, 16, 16, .ro, .const 1, .any, .any⟩
/-- DIMTAB.CONTRACT_MINOR, R36. -/
def DIMTAB_CONTRACT_MINOR : Fld := ⟨4, .dimtab, 0x24, 0, 1, 0, 16, .ro, .const 0, .any, .any⟩
/-- DIMTAB.FAMILY_MEMBER, R36. -/
def DIMTAB_FAMILY_MEMBER : Fld := ⟨5, .dimtab, 0x28, 0, 1, 0, 32, .ro, .const 20768, .any, .any⟩
/-- DIMTAB.LOGICAL_CORES, R36. -/
def DIMTAB_LOGICAL_CORES : Fld := ⟨6, .dimtab, 0x2c, 0, 1, 0, 32, .ro, .const 512, .any, .any⟩
/-- DIMTAB.LOGICAL_CLUSTERS, R36. -/
def DIMTAB_LOGICAL_CLUSTERS : Fld := ⟨7, .dimtab, 0x30, 0, 1, 0, 32, .ro, .const 64, .any, .any⟩
/-- DIMTAB.CORES_PER_CLUSTER, R36. -/
def DIMTAB_CORES_PER_CLUSTER : Fld := ⟨8, .dimtab, 0x34, 0, 1, 0, 32, .ro, .const 8, .any, .any⟩
/-- DIMTAB.COMPUTE_DIES, R36. -/
def DIMTAB_COMPUTE_DIES : Fld := ⟨9, .dimtab, 0x38, 0, 1, 0, 32, .ro, .const 8, .any, .any⟩
/-- DIMTAB.CORE_STORE_BYTES, R36. -/
def DIMTAB_CORE_STORE_BYTES : Fld := ⟨10, .dimtab, 0x3c, 0, 1, 0, 32, .ro, .const 2097152, .any, .any⟩
/-- DIMTAB.CLUSTER_STORE_BYTES, R36. -/
def DIMTAB_CLUSTER_STORE_BYTES : Fld := ⟨11, .dimtab, 0x40, 0, 1, 0, 32, .ro, .const 33554432, .any, .any⟩
/-- DIMTAB.CSTORE_WAYS, R36. -/
def DIMTAB_CSTORE_WAYS : Fld := ⟨12, .dimtab, 0x44, 0, 1, 16, 16, .ro, .const 16, .any, .any⟩
/-- DIMTAB.CSTORE_WAY_KIB, R36. -/
def DIMTAB_CSTORE_WAY_KIB : Fld := ⟨13, .dimtab, 0x44, 0, 1, 0, 16, .ro, .const 2048, .any, .any⟩
/-- DIMTAB.NEAR_BYTES_LO, R36. -/
def DIMTAB_NEAR_BYTES_LO : Fld := ⟨14, .dimtab, 0x48, 0, 1, 0, 32, .ro, .const 0, .any, .any⟩
/-- DIMTAB.NEAR_BYTES_HI, R36. -/
def DIMTAB_NEAR_BYTES_HI : Fld := ⟨15, .dimtab, 0x4c, 0, 1, 0, 32, .ro, .const 192, .any, .any⟩
/-- DIMTAB.HBM_STACKS, R36. -/
def DIMTAB_HBM_STACKS : Fld := ⟨16, .dimtab, 0x50, 0, 1, 16, 16, .ro, .const 16, .any, .any⟩
/-- DIMTAB.NEAR_CHANNELS, R36. -/
def DIMTAB_NEAR_CHANNELS : Fld := ⟨17, .dimtab, 0x50, 0, 1, 0, 16, .ro, .const 512, .any, .any⟩
/-- DIMTAB.NEAR_GBS, R36. -/
def DIMTAB_NEAR_GBS : Fld := ⟨18, .dimtab, 0x54, 0, 1, 0, 32, .ro, .const 26214, .any, .any⟩
/-- DIMTAB.STOREROOM_BYTES_LO, R36. -/
def DIMTAB_STOREROOM_BYTES_LO : Fld := ⟨19, .dimtab, 0x58, 0, 1, 0, 32, .ro, .const 0, .any, .any⟩
/-- DIMTAB.STOREROOM_BYTES_HI, R36. -/
def DIMTAB_STOREROOM_BYTES_HI : Fld := ⟨20, .dimtab, 0x5c, 0, 1, 0, 32, .ro, .const 512, .any, .any⟩
/-- DIMTAB.STOREROOM_CHANNELS, R36. -/
def DIMTAB_STOREROOM_CHANNELS : Fld := ⟨21, .dimtab, 0x60, 0, 1, 16, 16, .ro, .const 32, .any, .any⟩
/-- DIMTAB.STOREROOM_GBS, R36. -/
def DIMTAB_STOREROOM_GBS : Fld := ⟨22, .dimtab, 0x60, 0, 1, 0, 16, .ro, .const 1092, .any, .any⟩
/-- DIMTAB.HOPPER_MAX_GIB, R36. -/
def DIMTAB_HOPPER_MAX_GIB : Fld := ⟨23, .dimtab, 0x64, 0, 1, 0, 32, .ro, .const 512, .any, .any⟩
/-- DIMTAB.ZLINKS, R36. -/
def DIMTAB_ZLINKS : Fld := ⟨24, .dimtab, 0x68, 0, 1, 16, 16, .ro, .const 64, .any, .any⟩
/-- DIMTAB.ZLINK_GBS, R36. -/
def DIMTAB_ZLINK_GBS : Fld := ⟨25, .dimtab, 0x68, 0, 1, 0, 16, .ro, .const 100, .any, .any⟩
/-- DIMTAB.POD_LINKS, R36. -/
def DIMTAB_POD_LINKS : Fld := ⟨26, .dimtab, 0x6c, 0, 1, 24, 8, .ro, .const 30, .any, .any⟩
/-- DIMTAB.HALL_LINKS, R36. -/
def DIMTAB_HALL_LINKS : Fld := ⟨27, .dimtab, 0x6c, 0, 1, 16, 8, .ro, .const 16, .any, .any⟩
/-- DIMTAB.GLOBAL_LINKS, R36. -/
def DIMTAB_GLOBAL_LINKS : Fld := ⟨28, .dimtab, 0x6c, 0, 1, 8, 8, .ro, .const 16, .any, .any⟩
/-- DIMTAB.SPARE_LINKS, R36. -/
def DIMTAB_SPARE_LINKS : Fld := ⟨29, .dimtab, 0x6c, 0, 1, 0, 8, .ro, .const 2, .any, .any⟩
/-- DIMTAB.TENANTS, R36. -/
def DIMTAB_TENANTS : Fld := ⟨30, .dimtab, 0x70, 0, 1, 16, 16, .ro, .const 16, .any, .any⟩
/-- DIMTAB.PLATFORM_TENANT, R36. -/
def DIMTAB_PLATFORM_TENANT : Fld := ⟨31, .dimtab, 0x70, 0, 1, 0, 16, .ro, .const 15, .any, .any⟩
/-- DIMTAB.DOCKET_BYTES, R36. -/
def DIMTAB_DOCKET_BYTES : Fld := ⟨32, .dimtab, 0x74, 0, 1, 16, 16, .ro, .const 128, .any, .any⟩
/-- DIMTAB.COMPLETION_BYTES, R36. -/
def DIMTAB_COMPLETION_BYTES : Fld := ⟨33, .dimtab, 0x74, 0, 1, 0, 16, .ro, .const 32, .any, .any⟩
/-- DIMTAB.ENGINE_QUEUE_DEPTH, R36. -/
def DIMTAB_ENGINE_QUEUE_DEPTH : Fld := ⟨34, .dimtab, 0x78, 0, 1, 16, 16, .ro, .const 64, .any, .any⟩
/-- DIMTAB.ENGINES_PER_CORE, R36. -/
def DIMTAB_ENGINES_PER_CORE : Fld := ⟨35, .dimtab, 0x78, 0, 1, 0, 16, .ro, .const 4, .any, .any⟩
/-- DIMTAB.RINGS_PER_TENANT, R36. -/
def DIMTAB_RINGS_PER_TENANT : Fld := ⟨36, .dimtab, 0x7c, 0, 1, 16, 16, .ro, .const 8, .any, .any⟩
/-- DIMTAB.RING_MAX_LOG2, R36. -/
def DIMTAB_RING_MAX_LOG2 : Fld := ⟨37, .dimtab, 0x7c, 0, 1, 0, 16, .ro, .const 16, .any, .any⟩
/-- DIMTAB.COUNTERS_PER_TENANT, R36. -/
def DIMTAB_COUNTERS_PER_TENANT : Fld := ⟨38, .dimtab, 0x80, 0, 1, 0, 32, .ro, .const 4096, .any, .any⟩
/-- DIMTAB.MCAST_GROUPS, R36. -/
def DIMTAB_MCAST_GROUPS : Fld := ⟨39, .dimtab, 0x84, 0, 1, 16, 16, .ro, .const 4096, .any, .any⟩
/-- DIMTAB.PEER_ENTRIES, R36. -/
def DIMTAB_PEER_ENTRIES : Fld := ⟨40, .dimtab, 0x84, 0, 1, 0, 16, .ro, .const 16384, .any, .any⟩
/-- DIMTAB.RECEIPT_DEPTH, R36. -/
def DIMTAB_RECEIPT_DEPTH : Fld := ⟨41, .dimtab, 0x88, 0, 1, 16, 16, .ro, .const 1024, .any, .any⟩
/-- DIMTAB.GEN_BITS, R36. -/
def DIMTAB_GEN_BITS : Fld := ⟨42, .dimtab, 0x88, 0, 1, 0, 16, .ro, .const 8, .any, .any⟩
/-- DIMTAB.TALLY_SRAM_MIB, R36. -/
def DIMTAB_TALLY_SRAM_MIB : Fld := ⟨43, .dimtab, 0x8c, 0, 1, 16, 16, .ro, .const 96, .any, .any⟩
/-- DIMTAB.TALLY_PART_MIN_MIB, R36. -/
def DIMTAB_TALLY_PART_MIN_MIB : Fld := ⟨44, .dimtab, 0x8c, 0, 1, 0, 16, .ro, .const 4, .any, .any⟩
/-- DIMTAB.TALLY_BLOCK, R36. -/
def DIMTAB_TALLY_BLOCK : Fld := ⟨45, .dimtab, 0x90, 0, 1, 16, 16, .ro, .const 1024, .any, .any⟩
/-- DIMTAB.CHUNK_MIN_KIB, R36. -/
def DIMTAB_CHUNK_MIN_KIB : Fld := ⟨46, .dimtab, 0x90, 0, 1, 0, 16, .ro, .const 4, .any, .any⟩
/-- DIMTAB.CHUNKS_OUTSTANDING, R36. -/
def DIMTAB_CHUNKS_OUTSTANDING : Fld := ⟨47, .dimtab, 0x94, 0, 1, 16, 16, .ro, .const 1024, .any, .any⟩
/-- DIMTAB.COLLECTIVE_MAX_LOG2, R36. -/
def DIMTAB_COLLECTIVE_MAX_LOG2 : Fld := ⟨48, .dimtab, 0x94, 0, 1, 0, 16, .ro, .const 40, .any, .any⟩
/-- DIMTAB.FORMATS, R36. -/
def DIMTAB_FORMATS : Fld := ⟨49, .dimtab, 0x98, 0, 1, 0, 32, .ro, .const 131071, .any, .any⟩
/-- DIMTAB.CODECS, R36. -/
def DIMTAB_CODECS : Fld := ⟨50, .dimtab, 0x9c, 0, 1, 0, 32, .ro, .const 4095, .any, .any⟩
/-- DIMTAB.MILL_PIPES, R36. -/
def DIMTAB_MILL_PIPES : Fld := ⟨51, .dimtab, 0xa0, 0, 1, 16, 16, .ro, .const 64, .any, .any⟩
/-- DIMTAB.PIPE_FPS_1080, R36. -/
def DIMTAB_PIPE_FPS_1080 : Fld := ⟨52, .dimtab, 0xa0, 0, 1, 0, 16, .ro, .const 500, .any, .any⟩
/-- DIMTAB.MSIX_VECTORS, R36. -/
def DIMTAB_MSIX_VECTORS : Fld := ⟨53, .dimtab, 0xa4, 0, 1, 16, 16, .ro, .const 2048, .any, .any⟩
/-- DIMTAB.POWER_DOMAINS, R36. -/
def DIMTAB_POWER_DOMAINS : Fld := ⟨54, .dimtab, 0xa4, 0, 1, 0, 16, .ro, .const 137, .any, .any⟩
/-- DIMTAB.LEDGER_AO_KIB, R36. -/
def DIMTAB_LEDGER_AO_KIB : Fld := ⟨55, .dimtab, 0xa8, 0, 1, 16, 16, .ro, .const 64, .any, .any⟩
/-- DIMTAB.LEDGER_CAP_MAX_MIB, R36. -/
def DIMTAB_LEDGER_CAP_MAX_MIB : Fld := ⟨56, .dimtab, 0xa8, 0, 1, 0, 16, .ro, .const 1024, .any, .any⟩
/-- DIMTAB.MAX_DEVICES, R36. -/
def DIMTAB_MAX_DEVICES : Fld := ⟨57, .dimtab, 0xac, 0, 1, 0, 32, .ro, .const 16384, .any, .any⟩
/-- DIMTAB.CCLK_MAX_MHZ, R36. -/
def DIMTAB_CCLK_MAX_MHZ : Fld := ⟨58, .dimtab, 0xb0, 0, 1, 16, 16, .ro, .const 2400, .any, .any⟩
/-- DIMTAB.CCLK_MIN_MHZ, R36. -/
def DIMTAB_CCLK_MIN_MHZ : Fld := ⟨59, .dimtab, 0xb0, 0, 1, 0, 16, .ro, .const 400, .any, .any⟩
/-- DIMTAB.FT_TICK_PS, R36. -/
def DIMTAB_FT_TICK_PS : Fld := ⟨60, .dimtab, 0xb4, 0, 1, 16, 16, .ro, .const 1000, .any, .any⟩
/-- DIMTAB.STAMP_SHIFT, R36. -/
def DIMTAB_STAMP_SHIFT : Fld := ⟨61, .dimtab, 0xb4, 0, 1, 0, 16, .ro, .const 4, .any, .any⟩
/-- DIMTAB.DIGEST_BITS, R36. -/
def DIMTAB_DIGEST_BITS : Fld := ⟨62, .dimtab, 0xb8, 0, 1, 16, 16, .ro, .const 64, .any, .any⟩
/-- DIMTAB.UPDATE_ENGINES, R36. -/
def DIMTAB_UPDATE_ENGINES : Fld := ⟨63, .dimtab, 0xb8, 0, 1, 0, 16, .ro, .const 8, .any, .any⟩

/-- The fields of the DIMTAB page. -/
def dimtabFields : List Fld :=
  [DIMTAB_SHAPE_OK, DIMTAB_READY, DIMTAB_LAYOUT, DIMTAB_CONTRACT_MAJOR, DIMTAB_CONTRACT_MINOR,
   DIMTAB_FAMILY_MEMBER, DIMTAB_LOGICAL_CORES, DIMTAB_LOGICAL_CLUSTERS, DIMTAB_CORES_PER_CLUSTER, DIMTAB_COMPUTE_DIES,
   DIMTAB_CORE_STORE_BYTES, DIMTAB_CLUSTER_STORE_BYTES, DIMTAB_CSTORE_WAYS, DIMTAB_CSTORE_WAY_KIB, DIMTAB_NEAR_BYTES_LO,
   DIMTAB_NEAR_BYTES_HI, DIMTAB_HBM_STACKS, DIMTAB_NEAR_CHANNELS, DIMTAB_NEAR_GBS, DIMTAB_STOREROOM_BYTES_LO,
   DIMTAB_STOREROOM_BYTES_HI, DIMTAB_STOREROOM_CHANNELS, DIMTAB_STOREROOM_GBS, DIMTAB_HOPPER_MAX_GIB, DIMTAB_ZLINKS,
   DIMTAB_ZLINK_GBS, DIMTAB_POD_LINKS, DIMTAB_HALL_LINKS, DIMTAB_GLOBAL_LINKS, DIMTAB_SPARE_LINKS,
   DIMTAB_TENANTS, DIMTAB_PLATFORM_TENANT, DIMTAB_DOCKET_BYTES, DIMTAB_COMPLETION_BYTES, DIMTAB_ENGINE_QUEUE_DEPTH,
   DIMTAB_ENGINES_PER_CORE, DIMTAB_RINGS_PER_TENANT, DIMTAB_RING_MAX_LOG2, DIMTAB_COUNTERS_PER_TENANT, DIMTAB_MCAST_GROUPS,
   DIMTAB_PEER_ENTRIES, DIMTAB_RECEIPT_DEPTH, DIMTAB_GEN_BITS, DIMTAB_TALLY_SRAM_MIB, DIMTAB_TALLY_PART_MIN_MIB,
   DIMTAB_TALLY_BLOCK, DIMTAB_CHUNK_MIN_KIB, DIMTAB_CHUNKS_OUTSTANDING, DIMTAB_COLLECTIVE_MAX_LOG2, DIMTAB_FORMATS,
   DIMTAB_CODECS, DIMTAB_MILL_PIPES, DIMTAB_PIPE_FPS_1080, DIMTAB_MSIX_VECTORS, DIMTAB_POWER_DOMAINS,
   DIMTAB_LEDGER_AO_KIB, DIMTAB_LEDGER_CAP_MAX_MIB, DIMTAB_MAX_DEVICES, DIMTAB_CCLK_MAX_MHZ, DIMTAB_CCLK_MIN_MHZ,
   DIMTAB_FT_TICK_PS, DIMTAB_STAMP_SHIFT, DIMTAB_DIGEST_BITS, DIMTAB_UPDATE_ENGINES]

/-- FTIME.NOW_LO, R62. -/
def FTIME_NOW_LO : Fld := ⟨64, .ftime, 0x20, 0, 1, 0, 32, .ro, .const 0, .any, .any⟩
/-- FTIME.NOW_HI, R62. -/
def FTIME_NOW_HI : Fld := ⟨65, .ftime, 0x24, 0, 1, 0, 32, .ro, .const 0, .any, .any⟩
/-- FTIME.ROLE, R62. -/
def FTIME_ROLE : Fld := ⟨66, .ftime, 0x28, 0, 1, 0, 2, .rw, .const 0, .over 2 2, .plat⟩
/-- FTIME.PARENT_LINK, R62. -/
def FTIME_PARENT_LINK : Fld := ⟨67, .ftime, 0x2c, 0, 1, 0, 6, .rw, .const 0, .any, .plat⟩
/-- FTIME.SOURCE, R62. -/
def FTIME_SOURCE : Fld := ⟨68, .ftime, 0x30, 0, 1, 0, 2, .rw, .const 0, .any, .plat⟩
/-- FTIME.SYNC_STATE, R62. -/
def FTIME_SYNC_STATE : Fld := ⟨69, .ftime, 0x34, 0, 1, 0, 3, .ro, .const 0, .any, .any⟩
/-- FTIME.OFFSET, R62. -/
def FTIME_OFFSET : Fld := ⟨70, .ftime, 0x38, 0, 1, 0, 32, .ro, .const 0, .any, .any⟩
/-- FTIME.EVENTS, R62. -/
def FTIME_EVENTS : Fld := ⟨71, .ftime, 0x3c, 0, 1, 0, 4, .w1c, .const 0, .any, .any⟩
/-- FTIME.SET_LO, R62. -/
def FTIME_SET_LO : Fld := ⟨72, .ftime, 0x40, 0, 1, 0, 32, .wo, .const 0, .any, .plat⟩
/-- FTIME.SET_HI, R62. -/
def FTIME_SET_HI : Fld := ⟨73, .ftime, 0x44, 0, 1, 0, 32, .wo, .const 0, .any, .plat⟩
/-- FTIME.REF_READY, R62. -/
def FTIME_REF_READY : Fld := ⟨74, .ftime, 0x48, 0, 1, 0, 4, .ro, .const 0, .any, .any⟩
/-- FTIME.SLEW_PPM_MAX, R62. -/
def FTIME_SLEW_PPM_MAX : Fld := ⟨75, .ftime, 0x800, 0, 1, 0, 16, .rw, .const 100, .span 1 500, .any⟩
/-- FTIME.HOLDOVER_WORDS, R62. -/
def FTIME_HOLDOVER_WORDS : Fld := ⟨76, .ftime, 0x804, 0, 1, 0, 16, .rw, .const 64, .span 4 4096, .any⟩
/-- FTIME.LINK_DELAY[L], R62. -/
def FTIME_LINK_DELAY : Fld := ⟨77, .ftime, 0x900, 4, 64, 0, 32, .ro, .const 0, .any, .any⟩

/-- The fields of the FTIME page. -/
def ftimeFields : List Fld :=
  [FTIME_NOW_LO, FTIME_NOW_HI, FTIME_ROLE, FTIME_PARENT_LINK, FTIME_SOURCE,
   FTIME_SYNC_STATE, FTIME_OFFSET, FTIME_EVENTS, FTIME_SET_LO, FTIME_SET_HI,
   FTIME_REF_READY, FTIME_SLEW_PPM_MAX, FTIME_HOLDOVER_WORDS, FTIME_LINK_DELAY]

/-- CLOCK.SOURCE_SEL, R63. -/
def CLOCK_SOURCE_SEL : Fld := ⟨78, .clock, 0x20, 0, 1, 0, 1, .rw, .const 0, .any, .any⟩
/-- CLOCK.STATUS_FAIL, R63. -/
def CLOCK_STATUS_FAIL : Fld := ⟨79, .clock, 0x24, 0, 1, 10, 8, .w1c, .const 0, .any, .any⟩
/-- CLOCK.STATUS_WARN, R63. -/
def CLOCK_STATUS_WARN : Fld := ⟨80, .clock, 0x24, 0, 1, 2, 8, .w1c, .const 0, .any, .any⟩
/-- CLOCK.STATUS_COAST, R63. -/
def CLOCK_STATUS_COAST : Fld := ⟨81, .clock, 0x24, 0, 1, 1, 1, .ro, .const 0, .any, .any⟩
/-- CLOCK.STATUS_XTAL_READY, R63. -/
def CLOCK_STATUS_XTAL_READY : Fld := ⟨82, .clock, 0x24, 0, 1, 0, 1, .ro, .const 0, .any, .any⟩
/-- CLOCK.GATE_SEL, R63. -/
def CLOCK_GATE_SEL : Fld := ⟨83, .clock, 0x28, 0, 1, 16, 9, .rw, .const 0, .gate, .any⟩
/-- CLOCK.GATE_SUBTREE, R63. -/
def CLOCK_GATE_SUBTREE : Fld := ⟨84, .clock, 0x28, 0, 1, 2, 1, .rw, .const 0, .any, .any⟩
/-- CLOCK.GATE_STATE, R63. -/
def CLOCK_GATE_STATE : Fld := ⟨85, .clock, 0x28, 0, 1, 1, 1, .ro, .const 1, .any, .any⟩
/-- CLOCK.GATE_REQ, R63. -/
def CLOCK_GATE_REQ : Fld := ⟨86, .clock, 0x28, 0, 1, 0, 1, .rw, .const 1, .any, .any⟩
/-- CLOCK.GATE_REFUSED, R63. -/
def CLOCK_GATE_REFUSED : Fld := ⟨87, .clock, 0x2c, 0, 1, 0, 16, .rc, .const 0, .any, .any⟩
/-- CLOCK.METER_PPM, R63. -/
def CLOCK_METER_PPM : Fld := ⟨88, .clock, 0x40, 4, 8, 0, 32, .ro, .const 0, .any, .any⟩
/-- CLOCK.METER_COUNT, R63. -/
def CLOCK_METER_COUNT : Fld := ⟨89, .clock, 0x60, 4, 8, 0, 32, .ro, .const 0, .any, .any⟩
/-- CLOCK.METER_REF, R63. -/
def CLOCK_METER_REF : Fld := ⟨90, .clock, 0x800, 4, 8, 8, 8, .rw, .meterRef, .clk, .any⟩
/-- CLOCK.METER_CLK, R63. -/
def CLOCK_METER_CLK : Fld := ⟨91, .clock, 0x800, 4, 8, 0, 8, .rw, .meterClk, .clk, .any⟩
/-- CLOCK.METER_BAND_FAIL, R63. -/
def CLOCK_METER_BAND_FAIL : Fld := ⟨92, .clock, 0x820, 4, 8, 16, 16, .rw, .meterFail, .span 1 100000, .any⟩
/-- CLOCK.METER_BAND_WARN, R63. -/
def CLOCK_METER_BAND_WARN : Fld := ⟨93, .clock, 0x820, 4, 8, 0, 16, .rw, .meterWarn, .span 1 100000, .any⟩

/-- The fields of the CLOCK page. -/
def clockFields : List Fld :=
  [CLOCK_SOURCE_SEL, CLOCK_STATUS_FAIL, CLOCK_STATUS_WARN, CLOCK_STATUS_COAST, CLOCK_STATUS_XTAL_READY,
   CLOCK_GATE_SEL, CLOCK_GATE_SUBTREE, CLOCK_GATE_STATE, CLOCK_GATE_REQ, CLOCK_GATE_REFUSED,
   CLOCK_METER_PPM, CLOCK_METER_COUNT, CLOCK_METER_REF, CLOCK_METER_CLK, CLOCK_METER_BAND_FAIL,
   CLOCK_METER_BAND_WARN]

/-- LATHE.STATE, R120. -/
def LATHE_STATE : Fld := ⟨94, .lathe, 0x20, 0, 1, 0, 2, .ro, .const 0, .any, .any⟩
/-- LATHE.ISSUE_CYCLES, R120. -/
def LATHE_ISSUE_CYCLES : Fld := ⟨95, .lathe, 0x24, 0, 1, 0, 32, .ro, .const 0, .any, .any⟩
/-- LATHE.CONFLICT_CYCLES, R120. -/
def LATHE_CONFLICT_CYCLES : Fld := ⟨96, .lathe, 0x28, 0, 1, 0, 32, .ro, .const 0, .any, .any⟩
/-- LATHE.CARRY_COUNT, R120. -/
def LATHE_CARRY_COUNT : Fld := ⟨97, .lathe, 0x2c, 0, 1, 0, 32, .ro, .const 0, .any, .any⟩
/-- LATHE.SLICE_LOG2_DEFAULT, R120. -/
def LATHE_SLICE_LOG2_DEFAULT : Fld := ⟨98, .lathe, 0x30, 0, 1, 0, 5, .rw, .const 9, .span 5 16, .any⟩
/-- LATHE.CARRY_EN, R120. -/
def LATHE_CARRY_EN : Fld := ⟨99, .lathe, 0x34, 0, 1, 0, 1, .rw, .const 1, .any, .any⟩

/-- The fields of the LATHE page. -/
def latheFields : List Fld :=
  [LATHE_STATE, LATHE_ISSUE_CYCLES, LATHE_CONFLICT_CYCLES, LATHE_CARRY_COUNT, LATHE_SLICE_LOG2_DEFAULT,
   LATHE_CARRY_EN]

/-- VEC.BUSY, R120. -/
def VEC_BUSY : Fld := ⟨100, .vec, 0x20, 0, 1, 0, 1, .ro, .const 0, .any, .any⟩
/-- VEC.ELEMENTS, R120. -/
def VEC_ELEMENTS : Fld := ⟨101, .vec, 0x24, 0, 1, 0, 32, .ro, .const 0, .any, .any⟩
/-- VEC.STALL_CYCLES, R120. -/
def VEC_STALL_CYCLES : Fld := ⟨102, .vec, 0x28, 0, 1, 0, 32, .ro, .const 0, .any, .any⟩

/-- The fields of the VEC page. -/
def vecFields : List Fld :=
  [VEC_BUSY, VEC_ELEMENTS, VEC_STALL_CYCLES]

/-- PORT.BUSY, R120. -/
def PORT_BUSY : Fld := ⟨103, .port, 0x20, 0, 1, 0, 1, .ro, .const 0, .any, .any⟩
/-- PORT.CHUNKS, R120. -/
def PORT_CHUNKS : Fld := ⟨104, .port, 0x24, 0, 1, 0, 32, .ro, .const 0, .any, .any⟩
/-- PORT.WIDEN_CHUNKS, R120. -/
def PORT_WIDEN_CHUNKS : Fld := ⟨105, .port, 0x28, 0, 1, 0, 32, .ro, .const 0, .any, .any⟩
/-- PORT.RESENT_CHUNKS, R120. -/
def PORT_RESENT_CHUNKS : Fld := ⟨106, .port, 0x2c, 0, 1, 0, 16, .rc, .const 0, .any, .any⟩
/-- PORT.FD_STEER, R120. -/
def PORT_FD_STEER : Fld := ⟨107, .port, 0x800, 0, 1, 0, 2, .rw, .const 0, .over 2 0, .any⟩

/-- The fields of the PORT page. -/
def portFields : List Fld :=
  [PORT_BUSY, PORT_CHUNKS, PORT_WIDEN_CHUNKS, PORT_RESENT_CHUNKS, PORT_FD_STEER]

/-- CLERK.QUEUE_FILL, R120. -/
def CLERK_QUEUE_FILL : Fld := ⟨108, .clerk, 0x20, 0, 1, 0, 32, .ro, .const 0, .any, .any⟩
/-- CLERK.TIMEOUT_SCALE_UNITS, R120. -/
def CLERK_TIMEOUT_SCALE_UNITS : Fld := ⟨109, .clerk, 0x24, 0, 1, 0, 16, .rw, .const 64, .span 16 4096, .any⟩
/-- CLERK.LATE_RELEASES, R120. -/
def CLERK_LATE_RELEASES : Fld := ⟨110, .clerk, 0x28, 0, 1, 0, 16, .rc, .const 0, .any, .any⟩
/-- CLERK.TIMEOUTS, R120. -/
def CLERK_TIMEOUTS : Fld := ⟨111, .clerk, 0x2c, 0, 1, 0, 16, .rc, .const 0, .any, .any⟩
/-- CLERK.WAITING, R120. -/
def CLERK_WAITING : Fld := ⟨112, .clerk, 0x30, 0, 1, 0, 8, .ro, .const 0, .any, .any⟩

/-- The fields of the CLERK page. -/
def clerkFields : List Fld :=
  [CLERK_QUEUE_FILL, CLERK_TIMEOUT_SCALE_UNITS, CLERK_LATE_RELEASES, CLERK_TIMEOUTS, CLERK_WAITING]

/-- CSTORE.WAY_VALID, R120. -/
def CSTORE_WAY_VALID : Fld := ⟨113, .cstore, 0x20, 0, 1, 0, 16, .rw, .const 0, .any, .plat⟩
/-- CSTORE.WAY_OWNER_LO, R120. -/
def CSTORE_WAY_OWNER_LO : Fld := ⟨114, .cstore, 0x24, 0, 1, 0, 32, .rw, .const 0, .any, .plat⟩
/-- CSTORE.WAY_OWNER_HI, R120. -/
def CSTORE_WAY_OWNER_HI : Fld := ⟨115, .cstore, 0x28, 0, 1, 0, 32, .rw, .const 0, .any, .plat⟩
/-- CSTORE.SCRUB_BUSY, R120. -/
def CSTORE_SCRUB_BUSY : Fld := ⟨116, .cstore, 0x2c, 0, 1, 0, 16, .ro, .const 0, .any, .any⟩
/-- CSTORE.CE_COUNT, R120. -/
def CSTORE_CE_COUNT : Fld := ⟨117, .cstore, 0x30, 0, 1, 0, 16, .rc, .const 0, .any, .any⟩
/-- CSTORE.UE_COUNT, R120. -/
def CSTORE_UE_COUNT : Fld := ⟨118, .cstore, 0x34, 0, 1, 0, 16, .rc, .const 0, .any, .any⟩
/-- CSTORE.OWNER_FAULTS, R120. -/
def CSTORE_OWNER_FAULTS : Fld := ⟨119, .cstore, 0x38, 0, 1, 0, 16, .rc, .const 0, .any, .plat⟩
/-- CSTORE.SEG_VALID, R120. -/
def CSTORE_SEG_VALID : Fld := ⟨120, .cstore, 0x40, 16, 8, 0, 16, .rw, .const 0, .any, .plat⟩
/-- CSTORE.SEG_OWNER_LO, R120. -/
def CSTORE_SEG_OWNER_LO : Fld := ⟨121, .cstore, 0x44, 16, 8, 0, 32, .rw, .const 0, .any, .plat⟩
/-- CSTORE.SEG_OWNER_HI, R120. -/
def CSTORE_SEG_OWNER_HI : Fld := ⟨122, .cstore, 0x48, 16, 8, 0, 32, .rw, .const 0, .any, .plat⟩
/-- CSTORE.SEG_SCRUB_BUSY, R120. -/
def CSTORE_SEG_SCRUB_BUSY : Fld := ⟨123, .cstore, 0x4c, 16, 8, 0, 16, .ro, .const 0, .any, .any⟩
/-- CSTORE.CTR_WAY_VALID, R120. -/
def CSTORE_CTR_WAY_VALID : Fld := ⟨124, .cstore, 0xc0, 4, 16, 4, 1, .ro, .const 0, .any, .plat⟩
/-- CSTORE.CTR_WAY_WAY, R120. -/
def CSTORE_CTR_WAY_WAY : Fld := ⟨125, .cstore, 0xc0, 4, 16, 0, 4, .ro, .const 0, .any, .any⟩
/-- CSTORE.STALL_LIMIT, R120. -/
def CSTORE_STALL_LIMIT : Fld := ⟨126, .cstore, 0x800, 0, 1, 0, 6, .rw, .const 16, .span 4 63, .any⟩

/-- The fields of the CSTORE page. -/
def cstoreFields : List Fld :=
  [CSTORE_WAY_VALID, CSTORE_WAY_OWNER_LO, CSTORE_WAY_OWNER_HI, CSTORE_SCRUB_BUSY, CSTORE_CE_COUNT,
   CSTORE_UE_COUNT, CSTORE_OWNER_FAULTS, CSTORE_SEG_VALID, CSTORE_SEG_OWNER_LO, CSTORE_SEG_OWNER_HI,
   CSTORE_SEG_SCRUB_BUSY, CSTORE_CTR_WAY_VALID, CSTORE_CTR_WAY_WAY, CSTORE_STALL_LIMIT]

/-- DOCK.FILL_MAX, R155. -/
def DOCK_FILL_MAX : Fld := ⟨127, .dock, 0x20, 0, 1, 0, 16, .rw, .const 48, .span 1 4096, .plat⟩
/-- DOCK.FILL_GUARD, R155. -/
def DOCK_FILL_GUARD : Fld := ⟨128, .dock, 0x24, 0, 1, 0, 16, .rw, .const 2, .span 0 1024, .plat⟩
/-- DOCK.ACCEPT_STALLS, R155. -/
def DOCK_ACCEPT_STALLS : Fld := ⟨129, .dock, 0x28, 0, 1, 0, 32, .rc, .const 0, .any, .plat⟩
/-- DOCK.SEQ_STALLS, R155. -/
def DOCK_SEQ_STALLS : Fld := ⟨130, .dock, 0x2c, 0, 1, 0, 16, .rc, .const 0, .any, .plat⟩
/-- DOCK.INVALID_ADDR, R155. -/
def DOCK_INVALID_ADDR : Fld := ⟨131, .dock, 0x30, 0, 1, 0, 16, .rc, .const 0, .any, .plat⟩
/-- DOCK.RING_RING_BASE_LO, R155. -/
def DOCK_RING_RING_BASE_LO : Fld := ⟨132, .dock, 0x100, 64, 16, 0, 32, .rw, .const 0, .align 12, .plat⟩
/-- DOCK.RING_RING_BASE_HI, R155. -/
def DOCK_RING_RING_BASE_HI : Fld := ⟨133, .dock, 0x104, 64, 16, 0, 32, .rw, .const 0, .any, .plat⟩
/-- DOCK.RING_COMP_BASE_LO, R155. -/
def DOCK_RING_COMP_BASE_LO : Fld := ⟨134, .dock, 0x108, 64, 16, 0, 32, .rw, .const 0, .align 12, .plat⟩
/-- DOCK.RING_COMP_BASE_HI, R155. -/
def DOCK_RING_COMP_BASE_HI : Fld := ⟨135, .dock, 0x10c, 64, 16, 0, 32, .rw, .const 0, .any, .plat⟩
/-- DOCK.RING_RING_LOG2, R155. -/
def DOCK_RING_RING_LOG2 : Fld := ⟨136, .dock, 0x110, 64, 16, 0, 5, .rw, .const 4, .span 4 16, .plat⟩
/-- DOCK.RING_RING_LOC, R155. -/
def DOCK_RING_RING_LOC : Fld := ⟨137, .dock, 0x110, 64, 16, 5, 1, .rw, .const 0, .any, .plat⟩
/-- DOCK.RING_COMP_LOC, R155. -/
def DOCK_RING_COMP_LOC : Fld := ⟨138, .dock, 0x110, 64, 16, 6, 1, .rw, .const 0, .any, .plat⟩
/-- DOCK.RING_ENABLE, R155. -/
def DOCK_RING_ENABLE : Fld := ⟨139, .dock, 0x110, 64, 16, 7, 1, .rw, .const 0, .any, .plat⟩
/-- DOCK.RING_TAIL, R155. -/
def DOCK_RING_TAIL : Fld := ⟨140, .dock, 0x114, 64, 16, 0, 32, .rw, .const 0, .any, .own⟩
/-- DOCK.RING_ACCEPT, R155. -/
def DOCK_RING_ACCEPT : Fld := ⟨141, .dock, 0x118, 64, 16, 0, 32, .ro, .const 0, .any, .plat⟩
/-- DOCK.RING_RECORDED, R155. -/
def DOCK_RING_RECORDED : Fld := ⟨142, .dock, 0x11c, 64, 16, 0, 32, .ro, .const 0, .any, .plat⟩
/-- DOCK.RING_COMP_HEAD, R155. -/
def DOCK_RING_COMP_HEAD : Fld := ⟨143, .dock, 0x120, 64, 16, 0, 32, .rw, .const 0, .any, .own⟩
/-- DOCK.RING_STATE, R155. -/
def DOCK_RING_STATE : Fld := ⟨144, .dock, 0x124, 64, 16, 0, 3, .ro, .const 0, .any, .plat⟩
/-- DOCK.RING_INFLIGHT, R155. -/
def DOCK_RING_INFLIGHT : Fld := ⟨145, .dock, 0x128, 64, 16, 0, 11, .ro, .const 0, .any, .plat⟩
/-- DOCK.SEQ_RETRY_LIMIT, R155. -/
def DOCK_SEQ_RETRY_LIMIT : Fld := ⟨146, .dock, 0x800, 0, 1, 0, 8, .rw, .const 8, .span 1 255, .plat⟩
/-- DOCK.SEQ_RETRY_GAP, R155. -/
def DOCK_SEQ_RETRY_GAP : Fld := ⟨147, .dock, 0x804, 0, 1, 0, 8, .rw, .const 1, .span 1 255, .plat⟩

/-- The fields of the DOCK page. -/
def dockFields : List Fld :=
  [DOCK_FILL_MAX, DOCK_FILL_GUARD, DOCK_ACCEPT_STALLS, DOCK_SEQ_STALLS, DOCK_INVALID_ADDR,
   DOCK_RING_RING_BASE_LO, DOCK_RING_RING_BASE_HI, DOCK_RING_COMP_BASE_LO, DOCK_RING_COMP_BASE_HI, DOCK_RING_RING_LOG2,
   DOCK_RING_RING_LOC, DOCK_RING_COMP_LOC, DOCK_RING_ENABLE, DOCK_RING_TAIL, DOCK_RING_ACCEPT,
   DOCK_RING_RECORDED, DOCK_RING_COMP_HEAD, DOCK_RING_STATE, DOCK_RING_INFLIGHT, DOCK_SEQ_RETRY_LIMIT,
   DOCK_SEQ_RETRY_GAP]

/-- TENANT.CLASS, R156. -/
def TENANT_CLASS : Fld := ⟨148, .tenant, 0x100, 32, 16, 0, 2, .rw, .tenantClass, .over 1 1, .plat⟩
/-- TENANT.ACTIVE, R156. -/
def TENANT_ACTIVE : Fld := ⟨149, .tenant, 0x100, 32, 16, 2, 1, .rw, .const 0, .any, .plat⟩
/-- TENANT.WEIGHT, R156. -/
def TENANT_WEIGHT : Fld := ⟨150, .tenant, 0x100, 32, 16, 8, 8, .rw, .const 16, .span 1 64, .plat⟩
/-- TENANT.MAX_EST, R156. -/
def TENANT_MAX_EST : Fld := ⟨151, .tenant, 0x104, 32, 16, 0, 16, .rw, .const 65535, .span 1 65535, .plat⟩
/-- TENANT.WAIT_LIMIT_DEFAULT, R156. -/
def TENANT_WAIT_LIMIT_DEFAULT : Fld := ⟨152, .tenant, 0x108, 32, 16, 0, 16, .rw, .const 61035, .span 1 65535, .plat⟩
/-- TENANT.QUEUE_CAP, R156. -/
def TENANT_QUEUE_CAP : Fld := ⟨153, .tenant, 0x10c, 32, 16, 0, 6, .rw, .const 60, .span 1 60, .plat⟩
/-- TENANT.GEN, R156. -/
def TENANT_GEN : Fld := ⟨154, .tenant, 0x110, 32, 16, 0, 8, .ro, .const 0, .any, .plat⟩
/-- TENANT.RESET_CTL_RESET, R156. -/
def TENANT_RESET_CTL_RESET : Fld := ⟨155, .tenant, 0x114, 32, 16, 0, 1, .wo, .const 0, .any, .plat⟩
/-- TENANT.RESET_CTL_RESET_BUSY, R156. -/
def TENANT_RESET_CTL_RESET_BUSY : Fld := ⟨156, .tenant, 0x114, 32, 16, 1, 1, .ro, .const 0, .any, .plat⟩
/-- TENANT.PURGED, R156. -/
def TENANT_PURGED : Fld := ⟨157, .tenant, 0x118, 32, 16, 0, 32, .rc, .const 0, .any, .plat⟩
/-- TENANT.DROPPED, R156. -/
def TENANT_DROPPED : Fld := ⟨158, .tenant, 0x11c, 32, 16, 0, 32, .rc, .const 0, .any, .plat⟩

/-- The fields of the TENANT page. -/
def tenantFields : List Fld :=
  [TENANT_CLASS, TENANT_ACTIVE, TENANT_WEIGHT, TENANT_MAX_EST, TENANT_WAIT_LIMIT_DEFAULT,
   TENANT_QUEUE_CAP, TENANT_GEN, TENANT_RESET_CTL_RESET, TENANT_RESET_CTL_RESET_BUSY, TENANT_PURGED,
   TENANT_DROPPED]

end Sys2Proof.Machine.Reg
end

