-- ==== Sys2Proof/Machine/RegsB.lean ====
section
/-! DEFINITION. Sys2Proof/Machine/RegsB.lean: HBMC, STORC, MILL, HOPPER, ZLINK, ROUTE, MSF, TALLY, UPDATE and CHEST. One definition per field of the spec's page tables:
code, block, offset, stride, count, lowest bit, width, access, reset, range, writers. -/

namespace Sys2Proof.Machine.Reg

/-- HBMC.SET_VALID, R176. -/
def HBMC_SET_VALID : Fld := ⟨159, .hbmc, 0x20, 0, 1, 0, 16, .rw, .const 0, .any, .plat⟩
/-- HBMC.SET_OWNER_LO, R176. -/
def HBMC_SET_OWNER_LO : Fld := ⟨160, .hbmc, 0x24, 0, 1, 0, 32, .rw, .const 0, .any, .plat⟩
/-- HBMC.SET_OWNER_HI, R176. -/
def HBMC_SET_OWNER_HI : Fld := ⟨161, .hbmc, 0x28, 0, 1, 0, 32, .rw, .const 0, .any, .plat⟩
/-- HBMC.FILL_BUSY, R176. -/
def HBMC_FILL_BUSY : Fld := ⟨162, .hbmc, 0x2c, 0, 1, 0, 16, .ro, .const 0, .any, .any⟩
/-- HBMC.REFRESH_MODE, R176. -/
def HBMC_REFRESH_MODE : Fld := ⟨163, .hbmc, 0x30, 0, 1, 0, 1, .rw, .const 0, .any, .any⟩
/-- HBMC.HOT, R176. -/
def HBMC_HOT : Fld := ⟨164, .hbmc, 0x34, 0, 1, 0, 2, .ro, .const 0, .any, .any⟩
/-- HBMC.CE_COUNT_HI, R176. -/
def HBMC_CE_COUNT_HI : Fld := ⟨165, .hbmc, 0x38, 0, 1, 16, 16, .rc, .const 0, .any, .any⟩
/-- HBMC.CE_COUNT_LO, R176. -/
def HBMC_CE_COUNT_LO : Fld := ⟨166, .hbmc, 0x38, 0, 1, 0, 16, .rc, .const 0, .any, .any⟩
/-- HBMC.UE_COUNT, R176. -/
def HBMC_UE_COUNT : Fld := ⟨167, .hbmc, 0x3c, 0, 1, 0, 16, .rc, .const 0, .any, .any⟩
/-- HBMC.OWNER_FAULTS, R176. -/
def HBMC_OWNER_FAULTS : Fld := ⟨168, .hbmc, 0x40, 0, 1, 0, 16, .rc, .const 0, .any, .plat⟩
/-- HBMC.POISON_ADDR_LO, R176. -/
def HBMC_POISON_ADDR_LO : Fld := ⟨169, .hbmc, 0x44, 0, 1, 0, 32, .ro, .const 0, .any, .any⟩
/-- HBMC.POISON_ADDR_HI, R176. -/
def HBMC_POISON_ADDR_HI : Fld := ⟨170, .hbmc, 0x48, 0, 1, 0, 16, .ro, .const 0, .any, .any⟩
/-- HBMC.REFRESH_WAITS, R176. -/
def HBMC_REFRESH_WAITS : Fld := ⟨171, .hbmc, 0x4c, 0, 1, 0, 32, .rc, .const 0, .any, .any⟩
/-- HBMC.REFRESH_PERIOD_NS, R176. -/
def HBMC_REFRESH_PERIOD_NS : Fld := ⟨172, .hbmc, 0x800, 0, 1, 0, 16, .rw, .const 3900, .span 1200 3900, .any⟩
/-- HBMC.REFRESH_WINDOW_NS, R176. -/
def HBMC_REFRESH_WINDOW_NS : Fld := ⟨173, .hbmc, 0x804, 0, 1, 0, 16, .rw, .const 300, .span 300 975, .any⟩
/-- HBMC.ISSUE_CUTOFF_NS, R176. -/
def HBMC_ISSUE_CUTOFF_NS : Fld := ⟨174, .hbmc, 0x808, 0, 1, 0, 8, .rw, .const 40, .span 40 255, .any⟩
/-- HBMC.SCRUB_HOURS, R176. -/
def HBMC_SCRUB_HOURS : Fld := ⟨175, .hbmc, 0x80c, 0, 1, 0, 8, .rw, .const 24, .span 1 168, .any⟩

/-- The fields of the HBMC page. -/
def hbmcFields : List Fld :=
  [HBMC_SET_VALID, HBMC_SET_OWNER_LO, HBMC_SET_OWNER_HI, HBMC_FILL_BUSY, HBMC_REFRESH_MODE,
   HBMC_HOT, HBMC_CE_COUNT_HI, HBMC_CE_COUNT_LO, HBMC_UE_COUNT, HBMC_OWNER_FAULTS,
   HBMC_POISON_ADDR_LO, HBMC_POISON_ADDR_HI, HBMC_REFRESH_WAITS, HBMC_REFRESH_PERIOD_NS, HBMC_REFRESH_WINDOW_NS,
   HBMC_ISSUE_CUTOFF_NS, HBMC_SCRUB_HOURS]

/-- STORC.CE_COUNT, R177. -/
def STORC_CE_COUNT : Fld := ⟨176, .storc, 0x20, 0, 1, 0, 32, .rc, .const 0, .any, .any⟩
/-- STORC.UE_COUNT, R177. -/
def STORC_UE_COUNT : Fld := ⟨177, .storc, 0x24, 0, 1, 0, 16, .rc, .const 0, .any, .any⟩
/-- STORC.OWNER_FAULTS, R177. -/
def STORC_OWNER_FAULTS : Fld := ⟨178, .storc, 0x28, 0, 1, 0, 16, .rc, .const 0, .any, .plat⟩
/-- STORC.CHAN_UP, R177. -/
def STORC_CHAN_UP : Fld := ⟨179, .storc, 0x2c, 0, 1, 0, 16, .ro, .const 0, .any, .any⟩
/-- STORC.UPDATE_SHARE, R177. -/
def STORC_UPDATE_SHARE : Fld := ⟨180, .storc, 0x30, 0, 1, 0, 7, .rw, .const 25, .span 0 75, .any⟩
/-- STORC.HOPPER_SHARE, R177. -/
def STORC_HOPPER_SHARE : Fld := ⟨181, .storc, 0x34, 0, 1, 0, 7, .rw, .const 25, .span 0 75, .any⟩
/-- STORC.FILL_STATE_BUSY, R177. -/
def STORC_FILL_STATE_BUSY : Fld := ⟨182, .storc, 0x38, 0, 1, 31, 1, .ro, .const 0, .any, .any⟩
/-- STORC.FILL_STATE_REGION, R177. -/
def STORC_FILL_STATE_REGION : Fld := ⟨183, .storc, 0x38, 0, 1, 0, 11, .ro, .const 0, .any, .any⟩
/-- STORC.REFRESH_MODE, R177. -/
def STORC_REFRESH_MODE : Fld := ⟨184, .storc, 0x3c, 0, 1, 0, 1, .rw, .const 0, .any, .any⟩
/-- STORC.POISON_ADDR_LO, R177. -/
def STORC_POISON_ADDR_LO : Fld := ⟨185, .storc, 0x44, 0, 1, 0, 32, .ro, .const 0, .any, .any⟩
/-- STORC.POISON_ADDR_HI, R177. -/
def STORC_POISON_ADDR_HI : Fld := ⟨186, .storc, 0x48, 0, 1, 0, 16, .ro, .const 0, .any, .any⟩
/-- STORC.REFRESH_WAITS, R177. -/
def STORC_REFRESH_WAITS : Fld := ⟨187, .storc, 0x4c, 0, 1, 0, 32, .rc, .const 0, .any, .any⟩
/-- STORC.REGION_VALID, R177. -/
def STORC_REGION_VALID : Fld := ⟨188, .storc, 0x300, 4, 64, 0, 32, .rw, .const 0, .any, .plat⟩
/-- STORC.REGION_OWNER, R177. -/
def STORC_REGION_OWNER : Fld := ⟨189, .storc, 0x400, 4, 256, 0, 32, .rw, .const 0, .any, .plat⟩
/-- STORC.REFRESH_PERIOD_NS, R177. -/
def STORC_REFRESH_PERIOD_NS : Fld := ⟨190, .storc, 0x800, 0, 1, 0, 16, .rw, .const 3900, .span 1520 3900, .any⟩
/-- STORC.REFRESH_WINDOW_NS, R177. -/
def STORC_REFRESH_WINDOW_NS : Fld := ⟨191, .storc, 0x804, 0, 1, 0, 16, .rw, .const 380, .span 380 975, .any⟩
/-- STORC.ISSUE_CUTOFF_NS, R177. -/
def STORC_ISSUE_CUTOFF_NS : Fld := ⟨192, .storc, 0x808, 0, 1, 0, 8, .rw, .const 40, .span 40 255, .any⟩
/-- STORC.SCRUB_HOURS, R177. -/
def STORC_SCRUB_HOURS : Fld := ⟨193, .storc, 0x80c, 0, 1, 0, 8, .rw, .const 24, .span 1 168, .any⟩

/-- The fields of the STORC page. -/
def storcFields : List Fld :=
  [STORC_CE_COUNT, STORC_UE_COUNT, STORC_OWNER_FAULTS, STORC_CHAN_UP, STORC_UPDATE_SHARE,
   STORC_HOPPER_SHARE, STORC_FILL_STATE_BUSY, STORC_FILL_STATE_REGION, STORC_REFRESH_MODE, STORC_POISON_ADDR_LO,
   STORC_POISON_ADDR_HI, STORC_REFRESH_WAITS, STORC_REGION_VALID, STORC_REGION_OWNER, STORC_REFRESH_PERIOD_NS,
   STORC_REFRESH_WINDOW_NS, STORC_ISSUE_CUTOFF_NS, STORC_SCRUB_HOURS]

/-- MILL.PIPES_BUSY, R216. -/
def MILL_PIPES_BUSY : Fld := ⟨194, .mill, 0x20, 0, 1, 0, 32, .ro, .const 0, .any, .plat⟩
/-- MILL.IN_PROGRESS, R216. -/
def MILL_IN_PROGRESS : Fld := ⟨195, .mill, 0x24, 0, 1, 0, 4, .ro, .const 0, .any, .plat⟩
/-- MILL.SPANS, R216. -/
def MILL_SPANS : Fld := ⟨196, .mill, 0x28, 0, 1, 0, 32, .rc, .const 0, .any, .plat⟩
/-- MILL.FRAMES_DECODED, R216. -/
def MILL_FRAMES_DECODED : Fld := ⟨197, .mill, 0x2c, 0, 1, 0, 32, .rc, .const 0, .any, .plat⟩
/-- MILL.SUBSTITUTED, R216. -/
def MILL_SUBSTITUTED : Fld := ⟨198, .mill, 0x30, 0, 1, 16, 16, .rc, .const 0, .any, .plat⟩
/-- MILL.CONCEALED, R216. -/
def MILL_CONCEALED : Fld := ⟨199, .mill, 0x30, 0, 1, 0, 16, .rc, .const 0, .any, .plat⟩
/-- MILL.TEI_DROPS, R216. -/
def MILL_TEI_DROPS : Fld := ⟨200, .mill, 0x34, 0, 1, 16, 16, .rc, .const 0, .any, .plat⟩
/-- MILL.TS_LOCK_LOSSES, R216. -/
def MILL_TS_LOCK_LOSSES : Fld := ⟨201, .mill, 0x34, 0, 1, 0, 16, .rc, .const 0, .any, .plat⟩
/-- MILL.CC_ERRORS, R216. -/
def MILL_CC_ERRORS : Fld := ⟨202, .mill, 0x38, 0, 1, 16, 16, .rc, .const 0, .any, .plat⟩
/-- MILL.SCRAMBLED_DROPS, R216. -/
def MILL_SCRAMBLED_DROPS : Fld := ⟨203, .mill, 0x38, 0, 1, 0, 16, .rc, .const 0, .any, .plat⟩
/-- MILL.FETCH_FAILS, R216. -/
def MILL_FETCH_FAILS : Fld := ⟨204, .mill, 0x3c, 0, 1, 16, 16, .rc, .const 0, .any, .plat⟩
/-- MILL.FETCH_RETRIES, R216. -/
def MILL_FETCH_RETRIES : Fld := ⟨205, .mill, 0x3c, 0, 1, 0, 16, .rc, .const 0, .any, .plat⟩
/-- MILL.AUDIO_ERRORS, R216. -/
def MILL_AUDIO_ERRORS : Fld := ⟨206, .mill, 0x40, 0, 1, 16, 16, .rc, .const 0, .any, .plat⟩
/-- MILL.CAPTION_ERRORS, R216. -/
def MILL_CAPTION_ERRORS : Fld := ⟨207, .mill, 0x40, 0, 1, 0, 16, .rc, .const 0, .any, .plat⟩
/-- MILL.WORK_WAITS, R216. -/
def MILL_WORK_WAITS : Fld := ⟨208, .mill, 0x44, 0, 1, 16, 16, .rc, .const 0, .any, .plat⟩
/-- MILL.COLOUR_FALLBACK, R216. -/
def MILL_COLOUR_FALLBACK : Fld := ⟨209, .mill, 0x44, 0, 1, 0, 16, .rc, .const 0, .any, .plat⟩
/-- MILL.TS_BYTES_SKIPPED, R216. -/
def MILL_TS_BYTES_SKIPPED : Fld := ⟨210, .mill, 0x48, 0, 1, 0, 32, .rc, .const 0, .any, .plat⟩
/-- MILL.WORK_BASE_SET, R216. -/
def MILL_WORK_BASE_SET : Fld := ⟨211, .mill, 0x4c, 0, 1, 0, 7, .rw, .const 0, .any, .plat⟩
/-- MILL.WORK_SETS, R216. -/
def MILL_WORK_SETS : Fld := ⟨212, .mill, 0x4c, 0, 1, 8, 4, .rw, .const 1, .span 1 8, .plat⟩
/-- MILL.DEINT, R216. -/
def MILL_DEINT : Fld := ⟨213, .mill, 0x100, 16, 16, 0, 3, .rw, .const 0, .over 3 0, .plat⟩
/-- MILL.FILTER, R216. -/
def MILL_FILTER : Fld := ⟨214, .mill, 0x100, 16, 16, 3, 2, .rw, .const 1, .over 2 2, .plat⟩
/-- MILL.ASPECT, R216. -/
def MILL_ASPECT : Fld := ⟨215, .mill, 0x100, 16, 16, 5, 2, .rw, .const 1, .over 2 2, .plat⟩
/-- MILL.COLOUR, R216. -/
def MILL_COLOUR : Fld := ⟨216, .mill, 0x100, 16, 16, 7, 2, .rw, .const 2, .over 2 2, .plat⟩
/-- MILL.PRIM_709, R216. -/
def MILL_PRIM_709 : Fld := ⟨217, .mill, 0x100, 16, 16, 9, 1, .rw, .const 0, .any, .plat⟩
/-- MILL.TOKEN_FMT, R216. -/
def MILL_TOKEN_FMT : Fld := ⟨218, .mill, 0x100, 16, 16, 10, 5, .rw, .const 2, .over 4 2, .plat⟩
/-- MILL.SAT, R216. -/
def MILL_SAT : Fld := ⟨219, .mill, 0x100, 16, 16, 15, 1, .rw, .const 1, .any, .plat⟩
/-- MILL.PATCH, R216. -/
def MILL_PATCH : Fld := ⟨220, .mill, 0x100, 16, 16, 16, 2, .rw, .const 1, .over 2 2, .plat⟩
/-- MILL.GRID_W, R216. -/
def MILL_GRID_W : Fld := ⟨221, .mill, 0x104, 16, 16, 0, 8, .rw, .const 16, .span 1 64, .plat⟩
/-- MILL.GRID_H, R216. -/
def MILL_GRID_H : Fld := ⟨222, .mill, 0x104, 16, 16, 8, 8, .rw, .const 16, .span 1 64, .plat⟩
/-- MILL.MA_THRESH, R216. -/
def MILL_MA_THRESH : Fld := ⟨223, .mill, 0x104, 16, 16, 16, 10, .rw, .const 24, .any, .plat⟩
/-- MILL.MEL_BINS, R216. -/
def MILL_MEL_BINS : Fld := ⟨224, .mill, 0x108, 16, 16, 0, 8, .rw, .const 80, .span 32 128, .plat⟩
/-- MILL.AUDIO_FMT, R216. -/
def MILL_AUDIO_FMT : Fld := ⟨225, .mill, 0x108, 16, 16, 8, 5, .rw, .const 0, .oneOf [0, 2] 0, .plat⟩
/-- MILL.NVME_TIMEOUT_MS, R216. -/
def MILL_NVME_TIMEOUT_MS : Fld := ⟨226, .mill, 0x800, 0, 1, 0, 14, .rw, .const 100, .span 10 10000, .plat⟩
/-- MILL.FETCH_RETRY_LIMIT, R216. -/
def MILL_FETCH_RETRY_LIMIT : Fld := ⟨227, .mill, 0x804, 0, 1, 0, 3, .rw, .const 3, .any, .plat⟩
/-- MILL.MAX_IN_PROGRESS, R216. -/
def MILL_MAX_IN_PROGRESS : Fld := ⟨228, .mill, 0x808, 0, 1, 0, 4, .rw, .const 8, .span 1 8, .plat⟩
/-- MILL.ENABLE, R216. -/
def MILL_ENABLE : Fld := ⟨229, .mill, 0x900, 32, 16, 0, 1, .rw, .const 0, .any, .plat⟩
/-- MILL.KIND, R216. -/
def MILL_KIND : Fld := ⟨230, .mill, 0x900, 32, 16, 1, 1, .rw, .const 0, .any, .plat⟩
/-- MILL.TENANT_MASK, R216. -/
def MILL_TENANT_MASK : Fld := ⟨231, .mill, 0x900, 32, 16, 16, 16, .rw, .const 0, .any, .plat⟩
/-- MILL.NSID, R216. -/
def MILL_NSID : Fld := ⟨232, .mill, 0x904, 32, 16, 0, 32, .rw, .const 0, .any, .plat⟩
/-- MILL.LBA_LOG2, R216. -/
def MILL_LBA_LOG2 : Fld := ⟨233, .mill, 0x908, 32, 16, 0, 4, .rw, .const 9, .span 9 12, .plat⟩
/-- MILL.STATE, R216. -/
def MILL_STATE : Fld := ⟨234, .mill, 0x908, 32, 16, 8, 2, .ro, .const 0, .any, .plat⟩
/-- MILL.RKEY, R216. -/
def MILL_RKEY : Fld := ⟨235, .mill, 0x90c, 32, 16, 0, 32, .rw, .const 0, .any, .plat⟩
/-- MILL.DESC_LO, R216. -/
def MILL_DESC_LO : Fld := ⟨236, .mill, 0x910, 32, 16, 0, 32, .rw, .const 0, .any, .plat⟩
/-- MILL.DESC_HI, R216. -/
def MILL_DESC_HI : Fld := ⟨237, .mill, 0x914, 32, 16, 0, 32, .rw, .const 0, .any, .plat⟩
/-- MILL.MAX_XFER_KIB, R216. -/
def MILL_MAX_XFER_KIB : Fld := ⟨238, .mill, 0x918, 32, 16, 0, 16, .ro, .const 0, .any, .plat⟩

/-- The fields of the MILL page. -/
def millFields : List Fld :=
  [MILL_PIPES_BUSY, MILL_IN_PROGRESS, MILL_SPANS, MILL_FRAMES_DECODED, MILL_SUBSTITUTED,
   MILL_CONCEALED, MILL_TEI_DROPS, MILL_TS_LOCK_LOSSES, MILL_CC_ERRORS, MILL_SCRAMBLED_DROPS,
   MILL_FETCH_FAILS, MILL_FETCH_RETRIES, MILL_AUDIO_ERRORS, MILL_CAPTION_ERRORS, MILL_WORK_WAITS,
   MILL_COLOUR_FALLBACK, MILL_TS_BYTES_SKIPPED, MILL_WORK_BASE_SET, MILL_WORK_SETS, MILL_DEINT,
   MILL_FILTER, MILL_ASPECT, MILL_COLOUR, MILL_PRIM_709, MILL_TOKEN_FMT,
   MILL_SAT, MILL_PATCH, MILL_GRID_W, MILL_GRID_H, MILL_MA_THRESH,
   MILL_MEL_BINS, MILL_AUDIO_FMT, MILL_NVME_TIMEOUT_MS, MILL_FETCH_RETRY_LIMIT, MILL_MAX_IN_PROGRESS,
   MILL_ENABLE, MILL_KIND, MILL_TENANT_MASK, MILL_NSID, MILL_LBA_LOG2,
   MILL_STATE, MILL_RKEY, MILL_DESC_LO, MILL_DESC_HI, MILL_MAX_XFER_KIB]

/-- HOPPER.ACTIVE, R235. -/
def HOPPER_ACTIVE : Fld := ⟨239, .hopper, 0x20, 0, 1, 0, 8, .ro, .const 0, .any, .plat⟩
/-- HOPPER.DRAWS, R235. -/
def HOPPER_DRAWS : Fld := ⟨240, .hopper, 0x24, 0, 1, 0, 32, .rc, .const 0, .any, .plat⟩
/-- HOPPER.STARVE_CYCLES, R235. -/
def HOPPER_STARVE_CYCLES : Fld := ⟨241, .hopper, 0x28, 0, 1, 0, 32, .rc, .const 0, .any, .plat⟩
/-- HOPPER.INTAKE_WAITS, R235. -/
def HOPPER_INTAKE_WAITS : Fld := ⟨242, .hopper, 0x2c, 0, 1, 16, 16, .rc, .const 0, .any, .plat⟩
/-- HOPPER.VOIDS_DRAWN, R235. -/
def HOPPER_VOIDS_DRAWN : Fld := ⟨243, .hopper, 0x2c, 0, 1, 0, 16, .rc, .const 0, .any, .plat⟩
/-- HOPPER.STALE_INTAKES, R235. -/
def HOPPER_STALE_INTAKES : Fld := ⟨244, .hopper, 0x30, 0, 1, 0, 16, .rc, .const 0, .any, .plat⟩
/-- HOPPER.HOP_ENABLE, R235. -/
def HOPPER_HOP_ENABLE : Fld := ⟨245, .hopper, 0x100, 64, 8, 0, 1, .rw, .const 0, .any, .plat⟩
/-- HOPPER.HOP_OWNER, R235. -/
def HOPPER_HOP_OWNER : Fld := ⟨246, .hopper, 0x100, 64, 8, 4, 4, .rw, .const 0, .any, .plat⟩
/-- HOPPER.HOP_STATE, R235. -/
def HOPPER_HOP_STATE : Fld := ⟨247, .hopper, 0x100, 64, 8, 8, 2, .ro, .const 0, .any, .plat⟩
/-- HOPPER.HOP_BASE_REGION, R235. -/
def HOPPER_HOP_BASE_REGION : Fld := ⟨248, .hopper, 0x104, 64, 8, 0, 11, .rw, .const 0, .any, .plat⟩
/-- HOPPER.HOP_REGIONS, R235. -/
def HOPPER_HOP_REGIONS : Fld := ⟨249, .hopper, 0x108, 64, 8, 0, 10, .rw, .const 1, .span 1 512, .plat⟩
/-- HOPPER.HOP_SLOT_UNITS, R235. -/
def HOPPER_HOP_SLOT_UNITS : Fld := ⟨250, .hopper, 0x10c, 64, 8, 0, 15, .rw, .const 1, .span 1 16384, .plat⟩
/-- HOPPER.HOP_WINDOW, R235. -/
def HOPPER_HOP_WINDOW : Fld := ⟨251, .hopper, 0x110, 64, 8, 0, 24, .rw, .const 2, .span 2 16777215, .plat⟩
/-- HOPPER.HOP_CAPACITY, R235. -/
def HOPPER_HOP_CAPACITY : Fld := ⟨252, .hopper, 0x114, 64, 8, 0, 24, .ro, .const 0, .any, .plat⟩
/-- HOPPER.HOP_DRAWN_LO, R235. -/
def HOPPER_HOP_DRAWN_LO : Fld := ⟨253, .hopper, 0x118, 64, 8, 0, 32, .ro, .const 0, .any, .plat⟩
/-- HOPPER.HOP_DRAWN_HI, R235. -/
def HOPPER_HOP_DRAWN_HI : Fld := ⟨254, .hopper, 0x11c, 64, 8, 0, 16, .ro, .const 0, .any, .plat⟩
/-- HOPPER.HOP_EMPTY_SLOTS, R235. -/
def HOPPER_HOP_EMPTY_SLOTS : Fld := ⟨255, .hopper, 0x120, 64, 8, 0, 24, .ro, .const 0, .any, .plat⟩

/-- The fields of the HOPPER page. -/
def hopperFields : List Fld :=
  [HOPPER_ACTIVE, HOPPER_DRAWS, HOPPER_STARVE_CYCLES, HOPPER_INTAKE_WAITS, HOPPER_VOIDS_DRAWN,
   HOPPER_STALE_INTAKES, HOPPER_HOP_ENABLE, HOPPER_HOP_OWNER, HOPPER_HOP_STATE, HOPPER_HOP_BASE_REGION,
   HOPPER_HOP_REGIONS, HOPPER_HOP_SLOT_UNITS, HOPPER_HOP_WINDOW, HOPPER_HOP_CAPACITY, HOPPER_HOP_DRAWN_LO,
   HOPPER_HOP_DRAWN_HI, HOPPER_HOP_EMPTY_SLOTS]

/-- ZLINK.STATE, R266. -/
def ZLINK_STATE : Fld := ⟨256, .zlink, 0x20, 0, 1, 0, 3, .ro, .const 0, .any, .plat⟩
/-- ZLINK.ENABLE, R266. -/
def ZLINK_ENABLE : Fld := ⟨257, .zlink, 0x24, 0, 1, 0, 1, .rw, .const 0, .any, .plat⟩
/-- ZLINK.RETRAIN, R266. -/
def ZLINK_RETRAIN : Fld := ⟨258, .zlink, 0x24, 0, 1, 1, 1, .wo, .const 0, .any, .plat⟩
/-- ZLINK.LANE_LOCK, R266. -/
def ZLINK_LANE_LOCK : Fld := ⟨259, .zlink, 0x28, 0, 1, 0, 4, .ro, .const 0, .any, .plat⟩
/-- ZLINK.LANE_MAP, R266. -/
def ZLINK_LANE_MAP : Fld := ⟨260, .zlink, 0x28, 0, 1, 8, 8, .ro, .const 0, .any, .plat⟩
/-- ZLINK.LANE_INVERT, R266. -/
def ZLINK_LANE_INVERT : Fld := ⟨261, .zlink, 0x28, 0, 1, 16, 4, .ro, .const 0, .any, .plat⟩
/-- ZLINK.PEER_DEV, R266. -/
def ZLINK_PEER_DEV : Fld := ⟨262, .zlink, 0x2c, 0, 1, 0, 16, .ro, .const 0, .any, .plat⟩
/-- ZLINK.PEER_LINK, R266. -/
def ZLINK_PEER_LINK : Fld := ⟨263, .zlink, 0x2c, 0, 1, 16, 6, .ro, .const 0, .any, .plat⟩
/-- ZLINK.ROLE, R266. -/
def ZLINK_ROLE : Fld := ⟨264, .zlink, 0x30, 0, 1, 0, 2, .ro, .linkRole, .any, .plat⟩
/-- ZLINK.CW_CORRECTED, R266. -/
def ZLINK_CW_CORRECTED : Fld := ⟨265, .zlink, 0x34, 0, 1, 0, 32, .rc, .const 0, .any, .plat⟩
/-- ZLINK.CW_UNCORRECTABLE, R266. -/
def ZLINK_CW_UNCORRECTABLE : Fld := ⟨266, .zlink, 0x38, 0, 1, 0, 32, .rc, .const 0, .any, .plat⟩
/-- ZLINK.CRC_ERRORS, R266. -/
def ZLINK_CRC_ERRORS : Fld := ⟨267, .zlink, 0x3c, 0, 1, 0, 32, .rc, .const 0, .any, .plat⟩
/-- ZLINK.RETRIES, R266. -/
def ZLINK_RETRIES : Fld := ⟨268, .zlink, 0x40, 0, 1, 0, 32, .rc, .const 0, .any, .plat⟩
/-- ZLINK.RETRAINS, R266. -/
def ZLINK_RETRAINS : Fld := ⟨269, .zlink, 0x44, 0, 1, 0, 16, .rc, .const 0, .any, .plat⟩
/-- ZLINK.LOCK_RESTARTS, R266. -/
def ZLINK_LOCK_RESTARTS : Fld := ⟨270, .zlink, 0x44, 0, 1, 16, 16, .rc, .const 0, .any, .plat⟩
/-- ZLINK.LOST_FLITS, R266. -/
def ZLINK_LOST_FLITS : Fld := ⟨271, .zlink, 0x48, 0, 1, 0, 16, .rc, .const 0, .any, .plat⟩
/-- ZLINK.REPLAY_FILL, R266. -/
def ZLINK_REPLAY_FILL : Fld := ⟨272, .zlink, 0x4c, 0, 1, 0, 11, .ro, .const 0, .any, .plat⟩
/-- ZLINK.RETRY_LIMIT, R266. -/
def ZLINK_RETRY_LIMIT : Fld := ⟨273, .zlink, 0x800, 0, 1, 0, 6, .rw, .const 8, .span 1 32, .plat⟩
/-- ZLINK.REPLAY_TIMEOUT_NS, R266. -/
def ZLINK_REPLAY_TIMEOUT_NS : Fld := ⟨274, .zlink, 0x804, 0, 1, 0, 16, .rw, .const 0, .zeroOr 200 65535, .plat⟩
/-- ZLINK.UNCORR_RETRAIN, R266. -/
def ZLINK_UNCORR_RETRAIN : Fld := ⟨275, .zlink, 0x808, 0, 1, 0, 11, .rw, .const 16, .span 1 1024, .plat⟩
/-- ZLINK.VC_MIN, R266. -/
def ZLINK_VC_MIN : Fld := ⟨276, .zlink, 0x80c, 0, 1, 0, 32, .rw, .const 286344260, .vcMin, .plat⟩
/-- ZLINK.BRINGUP_TIMEOUT_MS, R266. -/
def ZLINK_BRINGUP_TIMEOUT_MS : Fld := ⟨277, .zlink, 0x810, 0, 1, 0, 10, .rw, .const 1000, .span 100 1000, .plat⟩

/-- The fields of the ZLINK page. -/
def zlinkFields : List Fld :=
  [ZLINK_STATE, ZLINK_ENABLE, ZLINK_RETRAIN, ZLINK_LANE_LOCK, ZLINK_LANE_MAP,
   ZLINK_LANE_INVERT, ZLINK_PEER_DEV, ZLINK_PEER_LINK, ZLINK_ROLE, ZLINK_CW_CORRECTED,
   ZLINK_CW_UNCORRECTABLE, ZLINK_CRC_ERRORS, ZLINK_RETRIES, ZLINK_RETRAINS, ZLINK_LOCK_RESTARTS,
   ZLINK_LOST_FLITS, ZLINK_REPLAY_FILL, ZLINK_RETRY_LIMIT, ZLINK_REPLAY_TIMEOUT_NS, ZLINK_UNCORR_RETRAIN,
   ZLINK_VC_MIN, ZLINK_BRINGUP_TIMEOUT_MS]

/-- ROUTE.MODE, R267. -/
def ROUTE_MODE : Fld := ⟨278, .route, 0x20, 0, 1, 0, 1, .rw, .const 0, .any, .plat⟩
/-- ROUTE.OWN_DEV, R267. -/
def ROUTE_OWN_DEV : Fld := ⟨279, .route, 0x24, 0, 1, 0, 16, .rw, .const 0, .align 2, .plat⟩
/-- ROUTE.OWN_GEN, R267. -/
def ROUTE_OWN_GEN : Fld := ⟨280, .route, 0x24, 0, 1, 16, 8, .rw, .const 0, .any, .plat⟩
/-- ROUTE.FENCED_SELF, R267. -/
def ROUTE_FENCED_SELF : Fld := ⟨281, .route, 0x28, 0, 1, 0, 1, .w1c, .const 0, .any, .plat⟩
/-- ROUTE.GEN_DROPS, R267. -/
def ROUTE_GEN_DROPS : Fld := ⟨282, .route, 0x2c, 0, 1, 0, 32, .rc, .const 0, .any, .plat⟩
/-- ROUTE.LOOP_DROPS, R267. -/
def ROUTE_LOOP_DROPS : Fld := ⟨283, .route, 0x30, 0, 1, 0, 16, .rc, .const 0, .any, .plat⟩
/-- ROUTE.NO_ROUTE_DROPS, R267. -/
def ROUTE_NO_ROUTE_DROPS : Fld := ⟨284, .route, 0x30, 0, 1, 16, 16, .rc, .const 0, .any, .plat⟩
/-- ROUTE.MCAST_DROPS, R267. -/
def ROUTE_MCAST_DROPS : Fld := ⟨285, .route, 0x34, 0, 1, 0, 16, .rc, .const 0, .any, .plat⟩
/-- ROUTE.REJECTS_RECEIVED, R267. -/
def ROUTE_REJECTS_RECEIVED : Fld := ⟨286, .route, 0x34, 0, 1, 16, 16, .rc, .const 0, .any, .plat⟩
/-- ROUTE.FENCED_DROPS, R267. -/
def ROUTE_FENCED_DROPS : Fld := ⟨287, .route, 0x38, 0, 1, 0, 32, .rc, .const 0, .any, .plat⟩
/-- ROUTE.PEER_INDEX, R267. -/
def ROUTE_PEER_INDEX : Fld := ⟨288, .route, 0x40, 0, 1, 0, 14, .rw, .const 0, .any, .plat⟩
/-- ROUTE.PEER_DATA, R267. -/
def ROUTE_PEER_DATA : Fld := ⟨289, .route, 0x44, 0, 1, 0, 32, .rw, .const 0, .any, .plat⟩
/-- ROUTE.INDIRECT_BUSY, R267. -/
def ROUTE_INDIRECT_BUSY : Fld := ⟨290, .route, 0x48, 0, 1, 0, 1, .ro, .const 0, .any, .plat⟩
/-- ROUTE.GROUP_INDEX, R267. -/
def ROUTE_GROUP_INDEX : Fld := ⟨291, .route, 0x4c, 0, 1, 0, 12, .wo, .const 0, .any, .plat⟩
/-- ROUTE.GROUP_INDEX_LOAD, R267. -/
def ROUTE_GROUP_INDEX_LOAD : Fld := ⟨292, .route, 0x4c, 0, 1, 31, 1, .wo, .const 0, .any, .plat⟩
/-- ROUTE.GROUP_MASK_LO, R267. -/
def ROUTE_GROUP_MASK_LO : Fld := ⟨293, .route, 0x50, 0, 1, 0, 32, .rw, .const 0, .any, .plat⟩
/-- ROUTE.GROUP_MASK_HI, R267. -/
def ROUTE_GROUP_MASK_HI : Fld := ⟨294, .route, 0x54, 0, 1, 0, 32, .rw, .const 0, .any, .plat⟩
/-- ROUTE.GROUP_CTRL, R267. -/
def ROUTE_GROUP_CTRL : Fld := ⟨295, .route, 0x58, 0, 1, 0, 2, .rw, .const 0, .any, .plat⟩
/-- ROUTE.GATEWAY_EVEN, R267. -/
def ROUTE_GATEWAY_EVEN : Fld := ⟨296, .route, 0x800, 4, 128, 0, 16, .rw, .const 0, .any, .plat⟩
/-- ROUTE.GATEWAY_ODD, R267. -/
def ROUTE_GATEWAY_ODD : Fld := ⟨297, .route, 0x800, 4, 128, 16, 16, .rw, .const 0, .any, .plat⟩
/-- ROUTE.SPARE_ROLE, R267. -/
def ROUTE_SPARE_ROLE : Fld := ⟨298, .route, 0xa00, 4, 2, 0, 2, .rw, .const 0, .over 2 0, .plat⟩
/-- ROUTE.SPARE_REPLACES, R267. -/
def ROUTE_SPARE_REPLACES : Fld := ⟨299, .route, 0xa00, 4, 2, 8, 6, .rw, .const 0, .over 61 0, .plat⟩

/-- The fields of the ROUTE page. -/
def routeFields : List Fld :=
  [ROUTE_MODE, ROUTE_OWN_DEV, ROUTE_OWN_GEN, ROUTE_FENCED_SELF, ROUTE_GEN_DROPS,
   ROUTE_LOOP_DROPS, ROUTE_NO_ROUTE_DROPS, ROUTE_MCAST_DROPS, ROUTE_REJECTS_RECEIVED, ROUTE_FENCED_DROPS,
   ROUTE_PEER_INDEX, ROUTE_PEER_DATA, ROUTE_INDIRECT_BUSY, ROUTE_GROUP_INDEX, ROUTE_GROUP_INDEX_LOAD,
   ROUTE_GROUP_MASK_LO, ROUTE_GROUP_MASK_HI, ROUTE_GROUP_CTRL, ROUTE_GATEWAY_EVEN, ROUTE_GATEWAY_ODD,
   ROUTE_SPARE_ROLE, ROUTE_SPARE_REPLACES]

/-- MSF.WINDOWS_USED, R286. -/
def MSF_WINDOWS_USED : Fld := ⟨300, .msf, 0x20, 0, 1, 0, 9, .ro, .const 0, .any, .plat⟩
/-- MSF.DUP_ATOMICS, R286. -/
def MSF_DUP_ATOMICS : Fld := ⟨301, .msf, 0x24, 0, 1, 0, 32, .rc, .const 0, .any, .plat⟩
/-- MSF.DUP_CHUNKS, R286. -/
def MSF_DUP_CHUNKS : Fld := ⟨302, .msf, 0x28, 0, 1, 0, 32, .rc, .const 0, .any, .plat⟩
/-- MSF.STALE_DISCARDS, R286. -/
def MSF_STALE_DISCARDS : Fld := ⟨303, .msf, 0x2c, 0, 1, 0, 16, .rc, .const 0, .any, .plat⟩
/-- MSF.INDETERMINATE, R286. -/
def MSF_INDETERMINATE : Fld := ⟨304, .msf, 0x2c, 0, 1, 16, 16, .rc, .const 0, .any, .plat⟩
/-- MSF.WINDOW_BUSY, R286. -/
def MSF_WINDOW_BUSY : Fld := ⟨305, .msf, 0x30, 0, 1, 0, 16, .rc, .const 0, .any, .plat⟩
/-- MSF.SEQ_WAITS, R286. -/
def MSF_SEQ_WAITS : Fld := ⟨306, .msf, 0x30, 0, 1, 16, 16, .rc, .const 0, .any, .plat⟩
/-- MSF.ATOMIC_RESENDS, R286. -/
def MSF_ATOMIC_RESENDS : Fld := ⟨307, .msf, 0x34, 0, 1, 0, 32, .rc, .const 0, .any, .plat⟩
/-- MSF.BAD_OPC, R286. -/
def MSF_BAD_OPC : Fld := ⟨308, .msf, 0x38, 0, 1, 0, 16, .rc, .const 0, .any, .plat⟩
/-- MSF.DIR_EVICTIONS, R286. -/
def MSF_DIR_EVICTIONS : Fld := ⟨309, .msf, 0x38, 0, 1, 16, 16, .rc, .const 0, .any, .plat⟩
/-- MSF.INVAL_LINES, R286. -/
def MSF_INVAL_LINES : Fld := ⟨310, .msf, 0x3c, 0, 1, 0, 32, .rc, .const 0, .any, .plat⟩
/-- MSF.SET_CLASS_0, R286. -/
def MSF_SET_CLASS_0 : Fld := ⟨311, .msf, 0x40, 4, 8, 0, 2, .rw, .const 0, .over 2 0, .plat⟩
/-- MSF.SET_CLASS_1, R286. -/
def MSF_SET_CLASS_1 : Fld := ⟨312, .msf, 0x40, 4, 8, 2, 2, .rw, .const 0, .over 2 0, .plat⟩
/-- MSF.SET_CLASS_2, R286. -/
def MSF_SET_CLASS_2 : Fld := ⟨313, .msf, 0x40, 4, 8, 4, 2, .rw, .const 0, .over 2 0, .plat⟩
/-- MSF.SET_CLASS_3, R286. -/
def MSF_SET_CLASS_3 : Fld := ⟨314, .msf, 0x40, 4, 8, 6, 2, .rw, .const 0, .over 2 0, .plat⟩
/-- MSF.SET_CLASS_4, R286. -/
def MSF_SET_CLASS_4 : Fld := ⟨315, .msf, 0x40, 4, 8, 8, 2, .rw, .const 0, .over 2 0, .plat⟩
/-- MSF.SET_CLASS_5, R286. -/
def MSF_SET_CLASS_5 : Fld := ⟨316, .msf, 0x40, 4, 8, 10, 2, .rw, .const 0, .over 2 0, .plat⟩
/-- MSF.SET_CLASS_6, R286. -/
def MSF_SET_CLASS_6 : Fld := ⟨317, .msf, 0x40, 4, 8, 12, 2, .rw, .const 0, .over 2 0, .plat⟩
/-- MSF.SET_CLASS_7, R286. -/
def MSF_SET_CLASS_7 : Fld := ⟨318, .msf, 0x40, 4, 8, 14, 2, .rw, .const 0, .over 2 0, .plat⟩
/-- MSF.SET_CLASS_8, R286. -/
def MSF_SET_CLASS_8 : Fld := ⟨319, .msf, 0x40, 4, 8, 16, 2, .rw, .const 0, .over 2 0, .plat⟩
/-- MSF.SET_CLASS_9, R286. -/
def MSF_SET_CLASS_9 : Fld := ⟨320, .msf, 0x40, 4, 8, 18, 2, .rw, .const 0, .over 2 0, .plat⟩
/-- MSF.SET_CLASS_10, R286. -/
def MSF_SET_CLASS_10 : Fld := ⟨321, .msf, 0x40, 4, 8, 20, 2, .rw, .const 0, .over 2 0, .plat⟩
/-- MSF.SET_CLASS_11, R286. -/
def MSF_SET_CLASS_11 : Fld := ⟨322, .msf, 0x40, 4, 8, 22, 2, .rw, .const 0, .over 2 0, .plat⟩
/-- MSF.SET_CLASS_12, R286. -/
def MSF_SET_CLASS_12 : Fld := ⟨323, .msf, 0x40, 4, 8, 24, 2, .rw, .const 0, .over 2 0, .plat⟩
/-- MSF.SET_CLASS_13, R286. -/
def MSF_SET_CLASS_13 : Fld := ⟨324, .msf, 0x40, 4, 8, 26, 2, .rw, .const 0, .over 2 0, .plat⟩
/-- MSF.SET_CLASS_14, R286. -/
def MSF_SET_CLASS_14 : Fld := ⟨325, .msf, 0x40, 4, 8, 28, 2, .rw, .const 0, .over 2 0, .plat⟩
/-- MSF.SET_CLASS_15, R286. -/
def MSF_SET_CLASS_15 : Fld := ⟨326, .msf, 0x40, 4, 8, 30, 2, .rw, .const 0, .over 2 0, .plat⟩
/-- MSF.CACHE_EN, R286. -/
def MSF_CACHE_EN : Fld := ⟨327, .msf, 0x60, 0, 1, 0, 8, .rw, .const 255, .any, .plat⟩
/-- MSF.ATOMIC_RESEND_US, R286. -/
def MSF_ATOMIC_RESEND_US : Fld := ⟨328, .msf, 0x800, 0, 1, 0, 16, .rw, .const 2000, .span 100 65535, .plat⟩
/-- MSF.WINDOW_IDLE_MS, R286. -/
def MSF_WINDOW_IDLE_MS : Fld := ⟨329, .msf, 0x804, 0, 1, 0, 14, .rw, .const 2000, .span 100 10000, .plat⟩
/-- MSF.BUSY_BACKOFF_US, R286. -/
def MSF_BUSY_BACKOFF_US : Fld := ⟨330, .msf, 0x808, 0, 1, 0, 14, .rw, .const 100, .span 10 10000, .plat⟩

/-- The fields of the MSF page. -/
def msfFields : List Fld :=
  [MSF_WINDOWS_USED, MSF_DUP_ATOMICS, MSF_DUP_CHUNKS, MSF_STALE_DISCARDS, MSF_INDETERMINATE,
   MSF_WINDOW_BUSY, MSF_SEQ_WAITS, MSF_ATOMIC_RESENDS, MSF_BAD_OPC, MSF_DIR_EVICTIONS,
   MSF_INVAL_LINES, MSF_SET_CLASS_0, MSF_SET_CLASS_1, MSF_SET_CLASS_2, MSF_SET_CLASS_3,
   MSF_SET_CLASS_4, MSF_SET_CLASS_5, MSF_SET_CLASS_6, MSF_SET_CLASS_7, MSF_SET_CLASS_8,
   MSF_SET_CLASS_9, MSF_SET_CLASS_10, MSF_SET_CLASS_11, MSF_SET_CLASS_12, MSF_SET_CLASS_13,
   MSF_SET_CLASS_14, MSF_SET_CLASS_15, MSF_CACHE_EN, MSF_ATOMIC_RESEND_US, MSF_WINDOW_IDLE_MS,
   MSF_BUSY_BACKOFF_US]

/-- TALLY.PART_BUSY, R312. -/
def TALLY_PART_BUSY : Fld := ⟨331, .tally, 0x20, 0, 1, 0, 16, .ro, .const 0, .any, .plat⟩
/-- TALLY.IN_PROGRESS, R312. -/
def TALLY_IN_PROGRESS : Fld := ⟨332, .tally, 0x24, 0, 1, 0, 5, .ro, .const 0, .any, .plat⟩
/-- TALLY.CHUNKS_SUMMED, R312. -/
def TALLY_CHUNKS_SUMMED : Fld := ⟨333, .tally, 0x28, 0, 1, 0, 32, .rc, .const 0, .any, .plat⟩
/-- TALLY.DUP_CHUNKS, R312. -/
def TALLY_DUP_CHUNKS : Fld := ⟨334, .tally, 0x2c, 0, 1, 0, 32, .rc, .const 0, .any, .plat⟩
/-- TALLY.CRC_ERRORS, R312. -/
def TALLY_CRC_ERRORS : Fld := ⟨335, .tally, 0x30, 0, 1, 0, 16, .rc, .const 0, .any, .plat⟩
/-- TALLY.CRC_RETRAINS, R312. -/
def TALLY_CRC_RETRAINS : Fld := ⟨336, .tally, 0x30, 0, 1, 16, 16, .rc, .const 0, .any, .plat⟩
/-- TALLY.RESIDUE_ERRORS, R312. -/
def TALLY_RESIDUE_ERRORS : Fld := ⟨337, .tally, 0x34, 0, 1, 0, 16, .rc, .const 0, .any, .plat⟩
/-- TALLY.STALE_CHUNKS, R312. -/
def TALLY_STALE_CHUNKS : Fld := ⟨338, .tally, 0x34, 0, 1, 16, 16, .rc, .const 0, .any, .plat⟩
/-- TALLY.CHUNK_RESENDS, R312. -/
def TALLY_CHUNK_RESENDS : Fld := ⟨339, .tally, 0x38, 0, 1, 0, 32, .rc, .const 0, .any, .plat⟩
/-- TALLY.BOUND_NANS, R312. -/
def TALLY_BOUND_NANS : Fld := ⟨340, .tally, 0x3c, 0, 1, 0, 32, .rc, .const 0, .any, .plat⟩
/-- TALLY.PART_BASE, R312. -/
def TALLY_PART_BASE : Fld := ⟨341, .tally, 0x100, 8, 16, 0, 11, .rw, .const 0, .span 0 1535, .plat⟩
/-- TALLY.PART_MIB, R312. -/
def TALLY_PART_MIB : Fld := ⟨342, .tally, 0x104, 8, 16, 0, 7, .rw, .const 0, .zeroOr 4 96, .plat⟩
/-- TALLY.CHUNK_RESEND_US, R312. -/
def TALLY_CHUNK_RESEND_US : Fld := ⟨343, .tally, 0x800, 0, 1, 0, 16, .rw, .const 500, .span 50 65535, .plat⟩
/-- TALLY.GRANT_MAX, R312. -/
def TALLY_GRANT_MAX : Fld := ⟨344, .tally, 0x804, 0, 1, 0, 11, .rw, .const 1024, .span 1 1024, .plat⟩
/-- TALLY.MAX_IN_PROGRESS, R312. -/
def TALLY_MAX_IN_PROGRESS : Fld := ⟨345, .tally, 0x808, 0, 1, 0, 5, .rw, .const 16, .span 1 16, .plat⟩

/-- The fields of the TALLY page. -/
def tallyFields : List Fld :=
  [TALLY_PART_BUSY, TALLY_IN_PROGRESS, TALLY_CHUNKS_SUMMED, TALLY_DUP_CHUNKS, TALLY_CRC_ERRORS,
   TALLY_CRC_RETRAINS, TALLY_RESIDUE_ERRORS, TALLY_STALE_CHUNKS, TALLY_CHUNK_RESENDS, TALLY_BOUND_NANS,
   TALLY_PART_BASE, TALLY_PART_MIB, TALLY_CHUNK_RESEND_US, TALLY_GRANT_MAX, TALLY_MAX_IN_PROGRESS]

/-- UPDATE.STATE, R335. -/
def UPDATE_STATE : Fld := ⟨346, .update, 0x20, 0, 1, 0, 2, .ro, .const 0, .any, .plat⟩
/-- UPDATE.ELEMENTS, R335. -/
def UPDATE_ELEMENTS : Fld := ⟨347, .update, 0x24, 0, 1, 0, 32, .rc, .const 0, .any, .plat⟩
/-- UPDATE.PAGES_COMMITTED, R335. -/
def UPDATE_PAGES_COMMITTED : Fld := ⟨348, .update, 0x28, 0, 1, 0, 32, .rc, .const 0, .any, .plat⟩
/-- UPDATE.PAGES_SKIPPED, R335. -/
def UPDATE_PAGES_SKIPPED : Fld := ⟨349, .update, 0x2c, 0, 1, 0, 32, .rc, .const 0, .any, .plat⟩
/-- UPDATE.NONFINITE_GRAD, R335. -/
def UPDATE_NONFINITE_GRAD : Fld := ⟨350, .update, 0x30, 0, 1, 0, 32, .rc, .const 0, .any, .plat⟩
/-- UPDATE.LAST_TENSOR, R335. -/
def UPDATE_LAST_TENSOR : Fld := ⟨351, .update, 0x34, 0, 1, 0, 32, .ro, .const 0, .any, .plat⟩
/-- UPDATE.LAST_NONFINITE, R335. -/
def UPDATE_LAST_NONFINITE : Fld := ⟨352, .update, 0x38, 0, 1, 0, 32, .ro, .const 0, .any, .plat⟩
/-- UPDATE.LAST_CLIP, R335. -/
def UPDATE_LAST_CLIP : Fld := ⟨353, .update, 0x3c, 0, 1, 0, 32, .ro, .const 0, .any, .plat⟩
/-- UPDATE.SLOT_WAITS, R335. -/
def UPDATE_SLOT_WAITS : Fld := ⟨354, .update, 0x40, 0, 1, 0, 32, .rc, .const 0, .any, .plat⟩
/-- UPDATE.PAGES_IN_FLIGHT, R335. -/
def UPDATE_PAGES_IN_FLIGHT : Fld := ⟨355, .update, 0x800, 0, 1, 0, 5, .rw, .const 16, .span 1 16, .plat⟩

/-- The fields of the UPDATE page. -/
def updateFields : List Fld :=
  [UPDATE_STATE, UPDATE_ELEMENTS, UPDATE_PAGES_COMMITTED, UPDATE_PAGES_SKIPPED, UPDATE_NONFINITE_GRAD,
   UPDATE_LAST_TENSOR, UPDATE_LAST_NONFINITE, UPDATE_LAST_CLIP, UPDATE_SLOT_WAITS, UPDATE_PAGES_IN_FLIGHT]

/-- CHEST.ACT_REQS, R360. -/
def CHEST_ACT_REQS : Fld := ⟨356, .chest, 0x20, 0, 1, 0, 32, .ro, .const 0, .any, .plat⟩
/-- CHEST.ACT_DONE, R360. -/
def CHEST_ACT_DONE : Fld := ⟨357, .chest, 0x24, 0, 1, 0, 32, .ro, .const 0, .any, .plat⟩
/-- CHEST.REQUEST, R360. -/
def CHEST_REQUEST : Fld := ⟨358, .chest, 0x28, 0, 1, 0, 1, .wo, .const 0, .any, .plat⟩
/-- CHEST.ACT_TENANT, R360. -/
def CHEST_ACT_TENANT : Fld := ⟨359, .chest, 0x28, 0, 1, 4, 4, .rw, .const 0, .any, .plat⟩
/-- CHEST.IN_PROGRESS, R360. -/
def CHEST_IN_PROGRESS : Fld := ⟨360, .chest, 0x2c, 0, 1, 0, 3, .ro, .const 0, .any, .plat⟩
/-- CHEST.SAVES_SKIPPED, R360. -/
def CHEST_SAVES_SKIPPED : Fld := ⟨361, .chest, 0x30, 0, 1, 0, 16, .rc, .const 0, .any, .plat⟩
/-- CHEST.BAD_EXTENTS, R360. -/
def CHEST_BAD_EXTENTS : Fld := ⟨362, .chest, 0x30, 0, 1, 16, 16, .rc, .const 0, .any, .plat⟩
/-- CHEST.COPY_FAULTS, R360. -/
def CHEST_COPY_FAULTS : Fld := ⟨363, .chest, 0x34, 0, 1, 0, 16, .rc, .const 0, .any, .plat⟩
/-- CHEST.CONFLICTS, R360. -/
def CHEST_CONFLICTS : Fld := ⟨364, .chest, 0x34, 0, 1, 16, 16, .rc, .const 0, .any, .plat⟩
/-- CHEST.CHUNK_RESENDS, R360. -/
def CHEST_CHUNK_RESENDS : Fld := ⟨365, .chest, 0x38, 0, 1, 0, 32, .rc, .const 0, .any, .plat⟩
/-- CHEST.IMAGE_CRC_ERRORS, R360. -/
def CHEST_IMAGE_CRC_ERRORS : Fld := ⟨366, .chest, 0x3c, 0, 1, 0, 16, .rc, .const 0, .any, .plat⟩
/-- CHEST.STALE_CHUNKS, R360. -/
def CHEST_STALE_CHUNKS : Fld := ⟨367, .chest, 0x3c, 0, 1, 16, 16, .rc, .const 0, .any, .plat⟩
/-- CHEST.ZSTD_ERRORS, R360. -/
def CHEST_ZSTD_ERRORS : Fld := ⟨368, .chest, 0x40, 0, 1, 0, 16, .rc, .const 0, .any, .plat⟩
/-- CHEST.CHUNK_RESEND_US, R360. -/
def CHEST_CHUNK_RESEND_US : Fld := ⟨369, .chest, 0x800, 0, 1, 0, 16, .rw, .const 500, .span 50 65535, .plat⟩
/-- CHEST.OUTSTANDING, R360. -/
def CHEST_OUTSTANDING : Fld := ⟨370, .chest, 0x804, 0, 1, 0, 11, .rw, .const 256, .span 16 1024, .plat⟩
/-- CHEST.MAX_IN_PROGRESS, R360. -/
def CHEST_MAX_IN_PROGRESS : Fld := ⟨371, .chest, 0x808, 0, 1, 0, 3, .rw, .const 4, .span 1 4, .plat⟩

/-- The fields of the CHEST page. -/
def chestFields : List Fld :=
  [CHEST_ACT_REQS, CHEST_ACT_DONE, CHEST_REQUEST, CHEST_ACT_TENANT, CHEST_IN_PROGRESS,
   CHEST_SAVES_SKIPPED, CHEST_BAD_EXTENTS, CHEST_COPY_FAULTS, CHEST_CONFLICTS, CHEST_CHUNK_RESENDS,
   CHEST_IMAGE_CRC_ERRORS, CHEST_STALE_CHUNKS, CHEST_ZSTD_ERRORS, CHEST_CHUNK_RESEND_US, CHEST_OUTSTANDING,
   CHEST_MAX_IN_PROGRESS]

end Sys2Proof.Machine.Reg
end

