-- ==== Sys2Proof/Machine/RegsC.lean ====
section
/-! DEFINITION. Sys2Proof/Machine/RegsC.lean: RESET, HEALTH, PERTURB, LEDGER, FREEZE, POWER, PMC, SBUS, PCIE, ETH and SMB. One definition per field of the spec's page tables:
code, block, offset, stride, count, lowest bit, width, access, reset, range, writers. -/

namespace Sys2Proof.Machine.Reg

/-- RESET.REQ_INDEX, R384. -/
def RESET_REQ_INDEX : Fld := ⟨372, .reset, 0x20, 0, 1, 4, 12, .rw, .const 0, .any, .plat⟩
/-- RESET.REQ_DOMAIN, R384. -/
def RESET_REQ_DOMAIN : Fld := ⟨373, .reset, 0x20, 0, 1, 0, 4, .rw, .const 0, .over 8 0, .plat⟩
/-- RESET.REQ_GO, R384. -/
def RESET_REQ_GO : Fld := ⟨374, .reset, 0x24, 0, 1, 0, 1, .wo, .const 0, .any, .plat⟩
/-- RESET.BUSY, R384. -/
def RESET_BUSY : Fld := ⟨375, .reset, 0x28, 0, 1, 0, 1, .ro, .const 0, .any, .plat⟩
/-- RESET.GEN, R384. -/
def RESET_GEN : Fld := ⟨376, .reset, 0x2c, 0, 1, 0, 8, .ro, .const 0, .any, .plat⟩
/-- RESET.RESETS, R384. -/
def RESET_RESETS : Fld := ⟨377, .reset, 0x30, 0, 1, 0, 32, .rc, .const 0, .any, .plat⟩
/-- RESET.WRAP_WAITS, R384. -/
def RESET_WRAP_WAITS : Fld := ⟨378, .reset, 0x34, 0, 1, 16, 16, .rc, .const 0, .any, .plat⟩
/-- RESET.ESCALATIONS, R384. -/
def RESET_ESCALATIONS : Fld := ⟨379, .reset, 0x34, 0, 1, 0, 16, .rc, .const 0, .any, .plat⟩
/-- RESET.LAST_CAUSE, R384. -/
def RESET_LAST_CAUSE : Fld := ⟨380, .reset, 0x38, 0, 1, 16, 4, .ro, .const 0, .any, .plat⟩
/-- RESET.LAST_INDEX, R384. -/
def RESET_LAST_INDEX : Fld := ⟨381, .reset, 0x38, 0, 1, 4, 12, .ro, .const 0, .any, .plat⟩
/-- RESET.LAST_DOMAIN, R384. -/
def RESET_LAST_DOMAIN : Fld := ⟨382, .reset, 0x38, 0, 1, 0, 4, .ro, .const 0, .any, .plat⟩
/-- RESET.DRAIN_MS, R384. -/
def RESET_DRAIN_MS : Fld := ⟨383, .reset, 0x800, 0, 1, 0, 14, .rw, .const 5000, .span 1000 10000, .plat⟩
/-- RESET.ESCALATE_COUNT, R384. -/
def RESET_ESCALATE_COUNT : Fld := ⟨384, .reset, 0x804, 0, 1, 0, 4, .rw, .const 3, .span 1 15, .plat⟩
/-- RESET.ESCALATE_WINDOW_MS, R384. -/
def RESET_ESCALATE_WINDOW_MS : Fld := ⟨385, .reset, 0x808, 0, 1, 0, 14, .rw, .const 1000, .span 10 10000, .plat⟩
/-- RESET.AUTO_ENGINE, R384. -/
def RESET_AUTO_ENGINE : Fld := ⟨386, .reset, 0x80c, 0, 1, 0, 1, .rw, .const 1, .any, .plat⟩

/-- The fields of the RESET page. -/
def resetFields : List Fld :=
  [RESET_REQ_INDEX, RESET_REQ_DOMAIN, RESET_REQ_GO, RESET_BUSY, RESET_GEN,
   RESET_RESETS, RESET_WRAP_WAITS, RESET_ESCALATIONS, RESET_LAST_CAUSE, RESET_LAST_INDEX,
   RESET_LAST_DOMAIN, RESET_DRAIN_MS, RESET_ESCALATE_COUNT, RESET_ESCALATE_WINDOW_MS, RESET_AUTO_ENGINE]

/-- HEALTH.PART, R385. -/
def HEALTH_PART : Fld := ⟨387, .health, 0x20, 0, 1, 0, 7, .rw, .const 0, .over 123 0, .plat⟩
/-- HEALTH.ACT, R385. -/
def HEALTH_ACT : Fld := ⟨388, .health, 0x24, 0, 1, 17, 1, .ro, .const 0, .any, .plat⟩
/-- HEALTH.WARN, R385. -/
def HEALTH_WARN : Fld := ⟨389, .health, 0x24, 0, 1, 16, 1, .ro, .const 0, .any, .plat⟩
/-- HEALTH.SCORE, R385. -/
def HEALTH_SCORE : Fld := ⟨390, .health, 0x24, 0, 1, 0, 10, .ro, .const 0, .any, .plat⟩
/-- HEALTH.ACT_PARTS, R385. -/
def HEALTH_ACT_PARTS : Fld := ⟨391, .health, 0x28, 0, 1, 16, 16, .ro, .const 0, .any, .plat⟩
/-- HEALTH.WARN_PARTS, R385. -/
def HEALTH_WARN_PARTS : Fld := ⟨392, .health, 0x28, 0, 1, 0, 16, .ro, .const 0, .any, .plat⟩
/-- HEALTH.SUSPECT_DEV, R385. -/
def HEALTH_SUSPECT_DEV : Fld := ⟨393, .health, 0x2c, 0, 1, 0, 16, .ro, .const 0, .any, .plat⟩
/-- HEALTH.SUSPECT_COUNT, R385. -/
def HEALTH_SUSPECT_COUNT : Fld := ⟨394, .health, 0x2c, 0, 1, 16, 16, .rc, .const 0, .any, .plat⟩
/-- HEALTH.LATE_LAST, R385. -/
def HEALTH_LATE_LAST : Fld := ⟨395, .health, 0x40, 0, 1, 0, 32, .ro, .const 0, .any, .plat⟩
/-- HEALTH.LATE_MAX, R385. -/
def HEALTH_LATE_MAX : Fld := ⟨396, .health, 0x44, 0, 1, 0, 32, .rc, .const 0, .any, .plat⟩
/-- HEALTH.LATE_SUM, R385. -/
def HEALTH_LATE_SUM : Fld := ⟨397, .health, 0x48, 0, 1, 0, 32, .rc, .const 0, .any, .plat⟩
/-- HEALTH.LATE_STREAK, R385. -/
def HEALTH_LATE_STREAK : Fld := ⟨398, .health, 0x4c, 0, 1, 16, 16, .ro, .const 0, .any, .plat⟩
/-- HEALTH.LATE_STEPS, R385. -/
def HEALTH_LATE_STEPS : Fld := ⟨399, .health, 0x4c, 0, 1, 0, 16, .rc, .const 0, .any, .plat⟩
/-- HEALTH.STRAGGLER, R385. -/
def HEALTH_STRAGGLER : Fld := ⟨400, .health, 0x50, 0, 1, 0, 1, .w1c, .const 0, .any, .plat⟩
/-- HEALTH.SHADOW_OF, R385. -/
def HEALTH_SHADOW_OF : Fld := ⟨401, .health, 0x60, 0, 1, 16, 16, .rw, .const 0, .any, .plat⟩
/-- HEALTH.SHADOW_TENANT, R385. -/
def HEALTH_SHADOW_TENANT : Fld := ⟨402, .health, 0x60, 0, 1, 4, 4, .rw, .const 0, .any, .plat⟩
/-- HEALTH.SHADOW_EN, R385. -/
def HEALTH_SHADOW_EN : Fld := ⟨403, .health, 0x60, 0, 1, 0, 1, .rw, .const 0, .any, .plat⟩
/-- HEALTH.MISMATCH_STEPS, R385. -/
def HEALTH_MISMATCH_STEPS : Fld := ⟨404, .health, 0x64, 0, 1, 16, 16, .rc, .const 0, .any, .plat⟩
/-- HEALTH.MATCH_STEPS, R385. -/
def HEALTH_MATCH_STEPS : Fld := ⟨405, .health, 0x64, 0, 1, 0, 16, .ro, .const 0, .any, .plat⟩
/-- HEALTH.SHADOW_READY, R385. -/
def HEALTH_SHADOW_READY : Fld := ⟨406, .health, 0x68, 0, 1, 0, 1, .ro, .const 0, .any, .plat⟩
/-- HEALTH.SHADOW_DROPS, R385. -/
def HEALTH_SHADOW_DROPS : Fld := ⟨407, .health, 0x6c, 0, 1, 0, 32, .rc, .const 0, .any, .plat⟩
/-- HEALTH.MIRROR_GROUP, R385. -/
def HEALTH_MIRROR_GROUP : Fld := ⟨408, .health, 0x70, 0, 1, 16, 12, .rw, .const 0, .any, .plat⟩
/-- HEALTH.MIRROR_TENANT, R385. -/
def HEALTH_MIRROR_TENANT : Fld := ⟨409, .health, 0x70, 0, 1, 4, 4, .rw, .const 0, .any, .plat⟩
/-- HEALTH.MIRROR_EN, R385. -/
def HEALTH_MIRROR_EN : Fld := ⟨410, .health, 0x70, 0, 1, 0, 1, .rw, .const 0, .any, .plat⟩
/-- HEALTH.RING_LOG2, R385. -/
def HEALTH_RING_LOG2 : Fld := ⟨411, .health, 0x74, 0, 1, 0, 5, .rw, .const 4, .span 4 16, .plat⟩
/-- HEALTH.RING_LO, R385. -/
def HEALTH_RING_LO : Fld := ⟨412, .health, 0x78, 0, 1, 0, 32, .rw, .const 0, .align 12, .plat⟩
/-- HEALTH.RING_HI, R385. -/
def HEALTH_RING_HI : Fld := ⟨413, .health, 0x7c, 0, 1, 0, 16, .rw, .const 0, .any, .plat⟩
/-- HEALTH.WARN_LEVEL, R385. -/
def HEALTH_WARN_LEVEL : Fld := ⟨414, .health, 0x800, 0, 1, 0, 10, .rw, .const 600, .span 1 1023, .plat⟩
/-- HEALTH.ACT_LEVEL, R385. -/
def HEALTH_ACT_LEVEL : Fld := ⟨415, .health, 0x804, 0, 1, 0, 10, .rw, .const 800, .span 1 1023, .plat⟩
/-- HEALTH.HYST, R385. -/
def HEALTH_HYST : Fld := ⟨416, .health, 0x808, 0, 1, 0, 8, .rw, .const 100, .any, .plat⟩
/-- HEALTH.DECAY_MS, R385. -/
def HEALTH_DECAY_MS : Fld := ⟨417, .health, 0x80c, 0, 1, 0, 16, .rw, .const 1000, .span 10 60000, .plat⟩
/-- HEALTH.WEIGHT, R385. -/
def HEALTH_WEIGHT : Fld := ⟨418, .health, 0x810, 4, 11, 0, 14, .rw, .byIdx [1, 1600, 4, 1600, 6400, 3200, 800, 800, 160, 8000, 3200], .any, .plat⟩
/-- HEALTH.STEP_TAG, R385. -/
def HEALTH_STEP_TAG : Fld := ⟨419, .health, 0x840, 0, 1, 0, 32, .rw, .const 4294967295, .any, .plat⟩
/-- HEALTH.LATE_THRESH, R385. -/
def HEALTH_LATE_THRESH : Fld := ⟨420, .health, 0x844, 0, 1, 0, 32, .rw, .const 62500, .any, .plat⟩
/-- HEALTH.STREAK_LIMIT, R385. -/
def HEALTH_STREAK_LIMIT : Fld := ⟨421, .health, 0x848, 0, 1, 0, 16, .rw, .const 16, .span 1 65535, .plat⟩
/-- HEALTH.SHADOW_STEPS, R385. -/
def HEALTH_SHADOW_STEPS : Fld := ⟨422, .health, 0x84c, 0, 1, 0, 16, .rw, .const 50, .span 1 65535, .plat⟩

/-- The fields of the HEALTH page. -/
def healthFields : List Fld :=
  [HEALTH_PART, HEALTH_ACT, HEALTH_WARN, HEALTH_SCORE, HEALTH_ACT_PARTS,
   HEALTH_WARN_PARTS, HEALTH_SUSPECT_DEV, HEALTH_SUSPECT_COUNT, HEALTH_LATE_LAST, HEALTH_LATE_MAX,
   HEALTH_LATE_SUM, HEALTH_LATE_STREAK, HEALTH_LATE_STEPS, HEALTH_STRAGGLER, HEALTH_SHADOW_OF,
   HEALTH_SHADOW_TENANT, HEALTH_SHADOW_EN, HEALTH_MISMATCH_STEPS, HEALTH_MATCH_STEPS, HEALTH_SHADOW_READY,
   HEALTH_SHADOW_DROPS, HEALTH_MIRROR_GROUP, HEALTH_MIRROR_TENANT, HEALTH_MIRROR_EN, HEALTH_RING_LOG2,
   HEALTH_RING_LO, HEALTH_RING_HI, HEALTH_WARN_LEVEL, HEALTH_ACT_LEVEL, HEALTH_HYST,
   HEALTH_DECAY_MS, HEALTH_WEIGHT, HEALTH_STEP_TAG, HEALTH_LATE_THRESH, HEALTH_STREAK_LIMIT,
   HEALTH_SHADOW_STEPS]

/-- PERTURB.DEBUG_EN, R400. -/
def PERTURB_DEBUG_EN : Fld := ⟨423, .perturb, 0x20, 0, 1, 0, 1, .rw, .const 0, .any, .plat⟩
/-- PERTURB.ACTIVE, R400. -/
def PERTURB_ACTIVE : Fld := ⟨424, .perturb, 0x24, 0, 1, 0, 1, .ro, .const 0, .any, .plat⟩
/-- PERTURB.EVENTS, R400. -/
def PERTURB_EVENTS : Fld := ⟨425, .perturb, 0x28, 0, 1, 0, 32, .rc, .const 0, .any, .plat⟩
/-- PERTURB.ARB_KIND, R400. -/
def PERTURB_ARB_KIND : Fld := ⟨426, .perturb, 0x800, 0, 1, 8, 4, .rw, .const 0, .over 5 0, .plat⟩
/-- PERTURB.ARB_UNIT, R400. -/
def PERTURB_ARB_UNIT : Fld := ⟨427, .perturb, 0x800, 0, 1, 0, 8, .rw, .const 0, .any, .plat⟩
/-- PERTURB.ARB_CYCLES, R400. -/
def PERTURB_ARB_CYCLES : Fld := ⟨428, .perturb, 0x804, 0, 1, 0, 8, .rw, .const 0, .any, .plat⟩
/-- PERTURB.ARB_EVERY, R400. -/
def PERTURB_ARB_EVERY : Fld := ⟨429, .perturb, 0x804, 0, 1, 8, 24, .rw, .const 1, .span 1 16777215, .plat⟩
/-- PERTURB.BP_KIND, R400. -/
def PERTURB_BP_KIND : Fld := ⟨430, .perturb, 0x808, 0, 1, 8, 4, .rw, .const 0, .over 5 0, .plat⟩
/-- PERTURB.BP_UNIT, R400. -/
def PERTURB_BP_UNIT : Fld := ⟨431, .perturb, 0x808, 0, 1, 0, 8, .rw, .const 0, .any, .plat⟩
/-- PERTURB.BP_PERIOD, R400. -/
def PERTURB_BP_PERIOD : Fld := ⟨432, .perturb, 0x80c, 0, 1, 16, 16, .rw, .const 0, .any, .plat⟩
/-- PERTURB.BP_ON, R400. -/
def PERTURB_BP_ON : Fld := ⟨433, .perturb, 0x80c, 0, 1, 0, 16, .rw, .const 0, .any, .plat⟩
/-- PERTURB.INJ_LINK, R400. -/
def PERTURB_INJ_LINK : Fld := ⟨434, .perturb, 0x810, 0, 1, 0, 6, .rw, .const 0, .any, .plat⟩
/-- PERTURB.INJ_KIND, R400. -/
def PERTURB_INJ_KIND : Fld := ⟨435, .perturb, 0x810, 0, 1, 8, 2, .rw, .const 0, .any, .plat⟩
/-- PERTURB.INJ_SYMBOLS, R400. -/
def PERTURB_INJ_SYMBOLS : Fld := ⟨436, .perturb, 0x810, 0, 1, 10, 5, .rw, .const 1, .span 1 15, .plat⟩
/-- PERTURB.INJ_EVERY, R400. -/
def PERTURB_INJ_EVERY : Fld := ⟨437, .perturb, 0x814, 0, 1, 0, 24, .rw, .const 1, .any, .plat⟩
/-- PERTURB.INJ_COUNT, R400. -/
def PERTURB_INJ_COUNT : Fld := ⟨438, .perturb, 0x818, 0, 1, 0, 16, .rw, .const 0, .any, .plat⟩
/-- PERTURB.CHK_KIND, R400. -/
def PERTURB_CHK_KIND : Fld := ⟨439, .perturb, 0x81c, 0, 1, 0, 4, .rw, .const 0, .over 8 0, .plat⟩
/-- PERTURB.CHK_UNIT, R400. -/
def PERTURB_CHK_UNIT : Fld := ⟨440, .perturb, 0x81c, 0, 1, 8, 8, .rw, .const 0, .any, .plat⟩
/-- PERTURB.CHK_EVERY, R400. -/
def PERTURB_CHK_EVERY : Fld := ⟨441, .perturb, 0x820, 0, 1, 0, 24, .rw, .const 1, .any, .plat⟩
/-- PERTURB.CHK_COUNT, R400. -/
def PERTURB_CHK_COUNT : Fld := ⟨442, .perturb, 0x824, 0, 1, 0, 16, .rw, .const 0, .any, .plat⟩
/-- PERTURB.TMO_SHIFT, R400. -/
def PERTURB_TMO_SHIFT : Fld := ⟨443, .perturb, 0x828, 0, 1, 0, 4, .rw, .const 0, .any, .plat⟩
/-- PERTURB.RESEND_SHIFT, R400. -/
def PERTURB_RESEND_SHIFT : Fld := ⟨444, .perturb, 0x828, 0, 1, 4, 4, .rw, .const 0, .any, .plat⟩
/-- PERTURB.RPL_KIND, R400. -/
def PERTURB_RPL_KIND : Fld := ⟨445, .perturb, 0x82c, 0, 1, 0, 2, .rw, .const 0, .over 2 0, .plat⟩
/-- PERTURB.RPL_OPC, R400. -/
def PERTURB_RPL_OPC : Fld := ⟨446, .perturb, 0x82c, 0, 1, 4, 4, .rw, .const 0, .any, .plat⟩
/-- PERTURB.RPL_TENANT, R400. -/
def PERTURB_RPL_TENANT : Fld := ⟨447, .perturb, 0x82c, 0, 1, 8, 4, .rw, .const 0, .any, .plat⟩
/-- PERTURB.RPL_DELAY_CCLK, R400. -/
def PERTURB_RPL_DELAY_CCLK : Fld := ⟨448, .perturb, 0x830, 0, 1, 0, 24, .rw, .const 0, .any, .plat⟩
/-- PERTURB.RPL_EVERY, R400. -/
def PERTURB_RPL_EVERY : Fld := ⟨449, .perturb, 0x834, 0, 1, 0, 24, .rw, .const 1, .any, .plat⟩
/-- PERTURB.RPL_COUNT, R400. -/
def PERTURB_RPL_COUNT : Fld := ⟨450, .perturb, 0x838, 0, 1, 0, 16, .rw, .const 0, .any, .plat⟩

/-- The fields of the PERTURB page. -/
def perturbFields : List Fld :=
  [PERTURB_DEBUG_EN, PERTURB_ACTIVE, PERTURB_EVENTS, PERTURB_ARB_KIND, PERTURB_ARB_UNIT,
   PERTURB_ARB_CYCLES, PERTURB_ARB_EVERY, PERTURB_BP_KIND, PERTURB_BP_UNIT, PERTURB_BP_PERIOD,
   PERTURB_BP_ON, PERTURB_INJ_LINK, PERTURB_INJ_KIND, PERTURB_INJ_SYMBOLS, PERTURB_INJ_EVERY,
   PERTURB_INJ_COUNT, PERTURB_CHK_KIND, PERTURB_CHK_UNIT, PERTURB_CHK_EVERY, PERTURB_CHK_COUNT,
   PERTURB_TMO_SHIFT, PERTURB_RESEND_SHIFT, PERTURB_RPL_KIND, PERTURB_RPL_OPC, PERTURB_RPL_TENANT,
   PERTURB_RPL_DELAY_CCLK, PERTURB_RPL_EVERY, PERTURB_RPL_COUNT]

/-- LEDGER.CAP_EN, R401. -/
def LEDGER_CAP_EN : Fld := ⟨451, .ledger, 0x20, 0, 1, 0, 1, .rw, .const 0, .any, .plat⟩
/-- LEDGER.AO_HEAD, R401. -/
def LEDGER_AO_HEAD : Fld := ⟨452, .ledger, 0x24, 0, 1, 0, 12, .ro, .const 0, .any, .plat⟩
/-- LEDGER.AO_TAIL, R401. -/
def LEDGER_AO_TAIL : Fld := ⟨453, .ledger, 0x28, 0, 1, 0, 12, .rw, .const 0, .any, .plat⟩
/-- LEDGER.NEXT_SEQ, R401. -/
def LEDGER_NEXT_SEQ : Fld := ⟨454, .ledger, 0x2c, 0, 1, 0, 32, .ro, .const 0, .any, .plat⟩
/-- LEDGER.DROPPED_FULL, R401. -/
def LEDGER_DROPPED_FULL : Fld := ⟨455, .ledger, 0x30, 0, 1, 0, 32, .rc, .const 0, .any, .plat⟩
/-- LEDGER.SUPPRESSED, R401. -/
def LEDGER_SUPPRESSED : Fld := ⟨456, .ledger, 0x34, 0, 1, 0, 32, .rc, .const 0, .any, .plat⟩
/-- LEDGER.SUMMARIES, R401. -/
def LEDGER_SUMMARIES : Fld := ⟨457, .ledger, 0x38, 0, 1, 16, 16, .rc, .const 0, .any, .plat⟩
/-- LEDGER.OVERWRITTEN, R401. -/
def LEDGER_OVERWRITTEN : Fld := ⟨458, .ledger, 0x38, 0, 1, 0, 16, .rc, .const 0, .any, .plat⟩
/-- LEDGER.CAP_BASE_LO, R401. -/
def LEDGER_CAP_BASE_LO : Fld := ⟨459, .ledger, 0x3c, 0, 1, 0, 32, .rw, .const 0, .align 20, .plat⟩
/-- LEDGER.CAP_BASE_HI, R401. -/
def LEDGER_CAP_BASE_HI : Fld := ⟨460, .ledger, 0x40, 0, 1, 0, 16, .rw, .const 0, .any, .plat⟩
/-- LEDGER.CAP_LOG2_MIB, R401. -/
def LEDGER_CAP_LOG2_MIB : Fld := ⟨461, .ledger, 0x44, 0, 1, 0, 4, .rw, .const 0, .span 0 10, .plat⟩
/-- LEDGER.CAP_HEAD, R401. -/
def LEDGER_CAP_HEAD : Fld := ⟨462, .ledger, 0x48, 0, 1, 0, 26, .ro, .const 0, .any, .plat⟩
/-- LEDGER.CAP_TAIL, R401. -/
def LEDGER_CAP_TAIL : Fld := ⟨463, .ledger, 0x4c, 0, 1, 0, 26, .rw, .const 0, .any, .plat⟩
/-- LEDGER.CODE_INDEX, R401. -/
def LEDGER_CODE_INDEX : Fld := ⟨464, .ledger, 0x50, 0, 1, 0, 16, .rw, .const 0, .any, .plat⟩
/-- LEDGER.CODE_FLAG, R401. -/
def LEDGER_CODE_FLAG : Fld := ⟨465, .ledger, 0x50, 0, 1, 16, 5, .rw, .const 0, .any, .plat⟩
/-- LEDGER.CODE_PROFILE, R401. -/
def LEDGER_CODE_PROFILE : Fld := ⟨466, .ledger, 0x54, 0, 1, 0, 3, .rw, .const 1, .any, .plat⟩
/-- LEDGER.CODE_CLASS, R401. -/
def LEDGER_CODE_CLASS : Fld := ⟨467, .ledger, 0x54, 0, 1, 4, 2, .ro, .const 2, .any, .plat⟩
/-- LEDGER.DEPTH, R401. -/
def LEDGER_DEPTH : Fld := ⟨468, .ledger, 0x800, 8, 8, 0, 8, .rw, .byIdx [64, 16, 8, 4, 16, 16, 16, 16], .span 1 255, .plat⟩
/-- LEDGER.REFILL_US, R401. -/
def LEDGER_REFILL_US : Fld := ⟨469, .ledger, 0x804, 8, 8, 0, 24, .rw, .byIdx [100, 1000, 10000, 100000, 1000, 1000, 1000, 1000], .span 1 16777215, .plat⟩
/-- LEDGER.SUMMARY_MS, R401. -/
def LEDGER_SUMMARY_MS : Fld := ⟨470, .ledger, 0x840, 0, 1, 0, 16, .rw, .const 1000, .span 10 60000, .plat⟩
/-- LEDGER.RESERVE_KIB, R401. -/
def LEDGER_RESERVE_KIB : Fld := ⟨471, .ledger, 0x844, 0, 1, 0, 5, .rw, .const 4, .span 1 16, .plat⟩

/-- The fields of the LEDGER page. -/
def ledgerFields : List Fld :=
  [LEDGER_CAP_EN, LEDGER_AO_HEAD, LEDGER_AO_TAIL, LEDGER_NEXT_SEQ, LEDGER_DROPPED_FULL,
   LEDGER_SUPPRESSED, LEDGER_SUMMARIES, LEDGER_OVERWRITTEN, LEDGER_CAP_BASE_LO, LEDGER_CAP_BASE_HI,
   LEDGER_CAP_LOG2_MIB, LEDGER_CAP_HEAD, LEDGER_CAP_TAIL, LEDGER_CODE_INDEX, LEDGER_CODE_FLAG,
   LEDGER_CODE_PROFILE, LEDGER_CODE_CLASS, LEDGER_DEPTH, LEDGER_REFILL_US, LEDGER_SUMMARY_MS,
   LEDGER_RESERVE_KIB]

/-- FREEZE.STATUS, R402. -/
def FREEZE_STATUS : Fld := ⟨472, .freeze, 0x20, 0, 1, 0, 5, .ro, .const 0, .any, .plat⟩
/-- FREEZE.AT_LO, R402. -/
def FREEZE_AT_LO : Fld := ⟨473, .freeze, 0x24, 0, 1, 0, 32, .rw, .const 0, .any, .plat⟩
/-- FREEZE.AT_HI, R402. -/
def FREEZE_AT_HI : Fld := ⟨474, .freeze, 0x28, 0, 1, 0, 32, .rw, .const 0, .any, .plat⟩
/-- FREEZE.ARM, R402. -/
def FREEZE_ARM : Fld := ⟨475, .freeze, 0x2c, 0, 1, 0, 1, .rw, .const 0, .any, .plat⟩
/-- FREEZE.RESUME_AT_LO, R402. -/
def FREEZE_RESUME_AT_LO : Fld := ⟨476, .freeze, 0x30, 0, 1, 0, 32, .rw, .const 0, .any, .plat⟩
/-- FREEZE.RESUME_AT_HI, R402. -/
def FREEZE_RESUME_AT_HI : Fld := ⟨477, .freeze, 0x34, 0, 1, 0, 32, .rw, .const 0, .any, .plat⟩
/-- FREEZE.RESUME, R402. -/
def FREEZE_RESUME : Fld := ⟨478, .freeze, 0x38, 0, 1, 0, 1, .wo, .const 0, .any, .plat⟩
/-- FREEZE.RESET, R402. -/
def FREEZE_RESET : Fld := ⟨479, .freeze, 0x38, 0, 1, 1, 1, .wo, .const 0, .any, .plat⟩
/-- FREEZE.FROZEN_FT_LO, R402. -/
def FREEZE_FROZEN_FT_LO : Fld := ⟨480, .freeze, 0x3c, 0, 1, 0, 32, .ro, .const 0, .any, .plat⟩
/-- FREEZE.FROZEN_FT_HI, R402. -/
def FREEZE_FROZEN_FT_HI : Fld := ⟨481, .freeze, 0x40, 0, 1, 0, 32, .ro, .const 0, .any, .plat⟩
/-- FREEZE.CHAIN_SEL, R402. -/
def FREEZE_CHAIN_SEL : Fld := ⟨482, .freeze, 0x44, 0, 1, 0, 8, .rw, .const 0, .any, .plat⟩
/-- FREEZE.CHAIN_LEN, R402. -/
def FREEZE_CHAIN_LEN : Fld := ⟨483, .freeze, 0x48, 0, 1, 0, 24, .ro, .const 0, .any, .plat⟩
/-- FREEZE.READOUT_DATA, R402. -/
def FREEZE_READOUT_DATA : Fld := ⟨484, .freeze, 0x4c, 0, 1, 0, 32, .ro, .const 0, .any, .plat⟩
/-- FREEZE.STORE_ADDR_LO, R402. -/
def FREEZE_STORE_ADDR_LO : Fld := ⟨485, .freeze, 0x50, 0, 1, 0, 32, .rw, .const 0, .align 2, .plat⟩
/-- FREEZE.STORE_ADDR_HI, R402. -/
def FREEZE_STORE_ADDR_HI : Fld := ⟨486, .freeze, 0x54, 0, 1, 0, 16, .rw, .const 0, .any, .plat⟩
/-- FREEZE.STORE_DATA, R402. -/
def FREEZE_STORE_DATA : Fld := ⟨487, .freeze, 0x58, 0, 1, 0, 32, .ro, .const 0, .any, .plat⟩
/-- FREEZE.PIN_PROPAGATE, R402. -/
def FREEZE_PIN_PROPAGATE : Fld := ⟨488, .freeze, 0x5c, 0, 1, 0, 1, .rw, .const 0, .any, .plat⟩
/-- FREEZE.PROPAGATE_GROUP, R402. -/
def FREEZE_PROPAGATE_GROUP : Fld := ⟨489, .freeze, 0x5c, 0, 1, 16, 12, .rw, .const 0, .any, .plat⟩
/-- FREEZE.PROPAGATE_LEAD_US, R402. -/
def FREEZE_PROPAGATE_LEAD_US : Fld := ⟨490, .freeze, 0x800, 0, 1, 0, 10, .rw, .const 20, .span 1 1000, .plat⟩
/-- FREEZE.RESUME_LEAD_US, R402. -/
def FREEZE_RESUME_LEAD_US : Fld := ⟨491, .freeze, 0x804, 0, 1, 0, 10, .rw, .const 100, .span 1 1000, .plat⟩

/-- The fields of the FREEZE page. -/
def freezeFields : List Fld :=
  [FREEZE_STATUS, FREEZE_AT_LO, FREEZE_AT_HI, FREEZE_ARM, FREEZE_RESUME_AT_LO,
   FREEZE_RESUME_AT_HI, FREEZE_RESUME, FREEZE_RESET, FREEZE_FROZEN_FT_LO, FREEZE_FROZEN_FT_HI,
   FREEZE_CHAIN_SEL, FREEZE_CHAIN_LEN, FREEZE_READOUT_DATA, FREEZE_STORE_ADDR_LO, FREEZE_STORE_ADDR_HI,
   FREEZE_STORE_DATA, FREEZE_PIN_PROPAGATE, FREEZE_PROPAGATE_GROUP, FREEZE_PROPAGATE_LEAD_US, FREEZE_RESUME_LEAD_US]

/-- POWER.MODULE_STATE, R424. -/
def POWER_MODULE_STATE : Fld := ⟨492, .power, 0x20, 0, 1, 0, 3, .ro, .const 0, .any, .plat⟩
/-- POWER.DIE_P3, R424. -/
def POWER_DIE_P3 : Fld := ⟨493, .power, 0x24, 0, 1, 0, 8, .ro, .const 0, .any, .plat⟩
/-- POWER.CLUSTER_P2_LO, R424. -/
def POWER_CLUSTER_P2_LO : Fld := ⟨494, .power, 0x28, 0, 1, 0, 32, .ro, .const 0, .any, .plat⟩
/-- POWER.CLUSTER_P2_HI, R424. -/
def POWER_CLUSTER_P2_HI : Fld := ⟨495, .power, 0x2c, 0, 1, 0, 32, .ro, .const 0, .any, .plat⟩
/-- POWER.P4_PERMIT, R424. -/
def POWER_P4_PERMIT : Fld := ⟨496, .power, 0x30, 0, 1, 0, 1, .rw, .const 0, .any, .plat⟩
/-- POWER.P3_EN, R424. -/
def POWER_P3_EN : Fld := ⟨497, .power, 0x30, 0, 1, 8, 8, .rw, .const 255, .any, .plat⟩
/-- POWER.DOMAIN_SEL, R424. -/
def POWER_DOMAIN_SEL : Fld := ⟨498, .power, 0x34, 0, 1, 0, 8, .rw, .const 0, .over 136 0, .plat⟩
/-- POWER.DOMAIN_ON, R424. -/
def POWER_DOMAIN_ON : Fld := ⟨499, .power, 0x38, 0, 1, 0, 1, .rw, .const 1, .any, .plat⟩
/-- POWER.DOMAIN_PWR, R424. -/
def POWER_DOMAIN_PWR : Fld := ⟨500, .power, 0x38, 0, 1, 1, 1, .ro, .const 1, .any, .plat⟩
/-- POWER.DOMAIN_REFUSED, R424. -/
def POWER_DOMAIN_REFUSED : Fld := ⟨501, .power, 0x3c, 0, 1, 0, 8, .rc, .const 0, .any, .plat⟩
/-- POWER.POWER_W, R424. -/
def POWER_POWER_W : Fld := ⟨502, .power, 0x40, 0, 1, 0, 12, .ro, .const 0, .any, .plat⟩
/-- POWER.CAP_W, R424. -/
def POWER_CAP_W : Fld := ⟨503, .power, 0x44, 0, 1, 0, 12, .rw, .const 3600, .span 1200 3600, .plat⟩
/-- POWER.THROTTLE, R424. -/
def POWER_THROTTLE : Fld := ⟨504, .power, 0x48, 0, 1, 0, 4, .ro, .const 0, .any, .plat⟩
/-- POWER.TEMP_MAX_C, R424. -/
def POWER_TEMP_MAX_C : Fld := ⟨505, .power, 0x4c, 0, 1, 0, 8, .ro, .const 0, .any, .plat⟩
/-- POWER.WAKE_AT_LO, R424. -/
def POWER_WAKE_AT_LO : Fld := ⟨506, .power, 0x50, 0, 1, 0, 32, .rw, .const 0, .any, .plat⟩
/-- POWER.WAKE_AT_HI, R424. -/
def POWER_WAKE_AT_HI : Fld := ⟨507, .power, 0x54, 0, 1, 0, 32, .rw, .const 0, .any, .plat⟩
/-- POWER.EARLY_WAKES, R424. -/
def POWER_EARLY_WAKES : Fld := ⟨508, .power, 0x58, 0, 1, 0, 32, .rc, .const 0, .any, .plat⟩
/-- POWER.ENTRIES, R424. -/
def POWER_ENTRIES : Fld := ⟨509, .power, 0x5c, 0, 1, 0, 32, .rc, .const 0, .any, .plat⟩
/-- POWER.CCLK_MHZ, R424. -/
def POWER_CCLK_MHZ : Fld := ⟨510, .power, 0x100, 4, 64, 0, 12, .rw, .const 2000, .steps 25 400 2400, .plat⟩
/-- POWER.CCLK_APPLIED, R424. -/
def POWER_CCLK_APPLIED : Fld := ⟨511, .power, 0x100, 4, 64, 16, 12, .ro, .const 2000, .any, .plat⟩
/-- POWER.GUARD_NS, R424. -/
def POWER_GUARD_NS : Fld := ⟨512, .power, 0x800, 4, 4, 0, 32, .rw, .byIdx [16, 1000, 50000, 5000000], .any, .plat⟩
/-- POWER.THROTTLE_C, R424. -/
def POWER_THROTTLE_C : Fld := ⟨513, .power, 0x810, 0, 1, 0, 8, .rw, .const 105, .span 85 115, .plat⟩
/-- POWER.TRIP_C, R424. -/
def POWER_TRIP_C : Fld := ⟨514, .power, 0x814, 0, 1, 0, 8, .rw, .const 120, .span 90 125, .plat⟩
/-- POWER.MILL_IDLE_US, R424. -/
def POWER_MILL_IDLE_US : Fld := ⟨515, .power, 0x818, 0, 1, 0, 16, .rw, .const 1000, .span 10 65535, .plat⟩

/-- The fields of the POWER page. -/
def powerFields : List Fld :=
  [POWER_MODULE_STATE, POWER_DIE_P3, POWER_CLUSTER_P2_LO, POWER_CLUSTER_P2_HI, POWER_P4_PERMIT,
   POWER_P3_EN, POWER_DOMAIN_SEL, POWER_DOMAIN_ON, POWER_DOMAIN_PWR, POWER_DOMAIN_REFUSED,
   POWER_POWER_W, POWER_CAP_W, POWER_THROTTLE, POWER_TEMP_MAX_C, POWER_WAKE_AT_LO,
   POWER_WAKE_AT_HI, POWER_EARLY_WAKES, POWER_ENTRIES, POWER_CCLK_MHZ, POWER_CCLK_APPLIED,
   POWER_GUARD_NS, POWER_THROTTLE_C, POWER_TRIP_C, POWER_MILL_IDLE_US]

/-- PMC.BOOT_STAGE, R425. -/
def PMC_BOOT_STAGE : Fld := ⟨516, .pmc, 0x20, 0, 1, 0, 4, .ro, .const 0, .any, .plat⟩
/-- PMC.IMAGE_SLOT, R425. -/
def PMC_IMAGE_SLOT : Fld := ⟨517, .pmc, 0x24, 0, 1, 0, 1, .ro, .const 0, .any, .plat⟩
/-- PMC.DEBUG_PERMIT, R425. -/
def PMC_DEBUG_PERMIT : Fld := ⟨518, .pmc, 0x24, 0, 1, 1, 1, .ro, .const 0, .any, .plat⟩
/-- PMC.KEY_SLOT, R425. -/
def PMC_KEY_SLOT : Fld := ⟨519, .pmc, 0x24, 0, 1, 4, 2, .ro, .const 0, .any, .plat⟩
/-- PMC.KEY_REVOKED, R425. -/
def PMC_KEY_REVOKED : Fld := ⟨520, .pmc, 0x24, 0, 1, 8, 4, .ro, .const 0, .any, .plat⟩
/-- PMC.FW_VERSION, R425. -/
def PMC_FW_VERSION : Fld := ⟨521, .pmc, 0x28, 0, 1, 0, 32, .ro, .const 0, .any, .plat⟩
/-- PMC.SVN_IMAGE, R425. -/
def PMC_SVN_IMAGE : Fld := ⟨522, .pmc, 0x2c, 0, 1, 0, 16, .ro, .const 0, .any, .plat⟩
/-- PMC.SVN_FUSE, R425. -/
def PMC_SVN_FUSE : Fld := ⟨523, .pmc, 0x2c, 0, 1, 16, 16, .ro, .const 0, .any, .plat⟩
/-- PMC.BOOT_MS, R425. -/
def PMC_BOOT_MS : Fld := ⟨524, .pmc, 0x30, 0, 1, 0, 32, .ro, .const 0, .any, .plat⟩
/-- PMC.BOOT_FAIL, R425. -/
def PMC_BOOT_FAIL : Fld := ⟨525, .pmc, 0x34, 0, 1, 0, 8, .ro, .const 0, .any, .plat⟩
/-- PMC.PARTS_OUT, R425. -/
def PMC_PARTS_OUT : Fld := ⟨526, .pmc, 0x38, 0, 1, 0, 8, .ro, .const 0, .any, .plat⟩
/-- PMC.SVN_COMMIT, R425. -/
def PMC_SVN_COMMIT : Fld := ⟨527, .pmc, 0x800, 0, 1, 0, 1, .wo, .const 0, .any, .plat⟩
/-- PMC.KEY_REVOKE, R425. -/
def PMC_KEY_REVOKE : Fld := ⟨528, .pmc, 0x804, 0, 1, 0, 4, .wo, .const 0, .any, .plat⟩
/-- PMC.REBOOT, R425. -/
def PMC_REBOOT : Fld := ⟨529, .pmc, 0x808, 0, 1, 0, 1, .wo, .const 0, .any, .plat⟩

/-- The fields of the PMC page. -/
def pmcFields : List Fld :=
  [PMC_BOOT_STAGE, PMC_IMAGE_SLOT, PMC_DEBUG_PERMIT, PMC_KEY_SLOT, PMC_KEY_REVOKED,
   PMC_FW_VERSION, PMC_SVN_IMAGE, PMC_SVN_FUSE, PMC_BOOT_MS, PMC_BOOT_FAIL,
   PMC_PARTS_OUT, PMC_SVN_COMMIT, PMC_KEY_REVOKE, PMC_REBOOT]

/-- SBUS.LOCKED, R441. -/
def SBUS_LOCKED : Fld := ⟨551, .sbus, 0x20, 0, 1, 5, 1, .ro, .const 0, .any, .plat⟩
/-- SBUS.OWNER_VALID, R441. -/
def SBUS_OWNER_VALID : Fld := ⟨552, .sbus, 0x20, 0, 1, 4, 1, .ro, .const 0, .any, .plat⟩
/-- SBUS.OWNER, R441. -/
def SBUS_OWNER : Fld := ⟨553, .sbus, 0x20, 0, 1, 0, 4, .ro, .const 0, .any, .plat⟩
/-- SBUS.REQUESTS, R441. -/
def SBUS_REQUESTS : Fld := ⟨554, .sbus, 0x24, 0, 1, 0, 16, .ro, .const 0, .any, .plat⟩
/-- SBUS.BITES, R441. -/
def SBUS_BITES : Fld := ⟨555, .sbus, 0x28, 0, 1, 0, 32, .rc, .const 0, .any, .plat⟩
/-- SBUS.LAST_BITE, R441. -/
def SBUS_LAST_BITE : Fld := ⟨556, .sbus, 0x2c, 0, 1, 0, 4, .ro, .const 0, .any, .plat⟩
/-- SBUS.UNMAPPED, R441. -/
def SBUS_UNMAPPED : Fld := ⟨557, .sbus, 0x30, 0, 1, 0, 32, .rc, .const 0, .any, .plat⟩
/-- SBUS.BUSY_CYCLES, R441. -/
def SBUS_BUSY_CYCLES : Fld := ⟨558, .sbus, 0x34, 0, 1, 0, 32, .rc, .const 0, .any, .plat⟩
/-- SBUS.BURST_LIMIT, R441. -/
def SBUS_BURST_LIMIT : Fld := ⟨559, .sbus, 0x800, 4, 16, 0, 8, .rw, .byIdx [3, 15, 15, 15, 15, 15, 15, 15, 15, 15, 15, 15, 15, 15, 63, 255], .any, .plat⟩

/-- The fields of the SBUS page. -/
def sbusFields : List Fld :=
  [SBUS_LOCKED, SBUS_OWNER_VALID, SBUS_OWNER, SBUS_REQUESTS, SBUS_BITES,
   SBUS_LAST_BITE, SBUS_UNMAPPED, SBUS_BUSY_CYCLES, SBUS_BURST_LIMIT]

/-- PCIE.LINK_UP, R465. -/
def PCIE_LINK_UP : Fld := ⟨560, .pcie, 0x20, 0, 1, 10, 1, .ro, .const 0, .any, .plat⟩
/-- PCIE.FLIT_MODE, R465. -/
def PCIE_FLIT_MODE : Fld := ⟨561, .pcie, 0x20, 0, 1, 9, 1, .ro, .const 0, .any, .plat⟩
/-- PCIE.LINK_WIDTH, R465. -/
def PCIE_LINK_WIDTH : Fld := ⟨562, .pcie, 0x20, 0, 1, 4, 5, .ro, .const 0, .any, .plat⟩
/-- PCIE.LINK_SPEED, R465. -/
def PCIE_LINK_SPEED : Fld := ⟨563, .pcie, 0x20, 0, 1, 0, 3, .ro, .const 0, .any, .plat⟩
/-- PCIE.SRIS, R465. -/
def PCIE_SRIS : Fld := ⟨564, .pcie, 0x24, 0, 1, 0, 1, .ro, .const 0, .any, .plat⟩
/-- PCIE.FLR_COUNT, R465. -/
def PCIE_FLR_COUNT : Fld := ⟨565, .pcie, 0x28, 0, 1, 0, 32, .rc, .const 0, .any, .plat⟩
/-- PCIE.PERST_COUNT, R465. -/
def PCIE_PERST_COUNT : Fld := ⟨566, .pcie, 0x2c, 0, 1, 0, 16, .rc, .const 0, .any, .plat⟩
/-- PCIE.AER_UNCORR, R465. -/
def PCIE_AER_UNCORR : Fld := ⟨567, .pcie, 0x30, 0, 1, 16, 16, .rc, .const 0, .any, .plat⟩
/-- PCIE.AER_CORR, R465. -/
def PCIE_AER_CORR : Fld := ⟨568, .pcie, 0x30, 0, 1, 0, 16, .rc, .const 0, .any, .plat⟩
/-- PCIE.APERTURE_BASE_LO, R465. -/
def PCIE_APERTURE_BASE_LO : Fld := ⟨569, .pcie, 0x40, 0, 1, 0, 32, .rw, .const 0, .any, .plat⟩
/-- PCIE.APERTURE_BASE_HI, R465. -/
def PCIE_APERTURE_BASE_HI : Fld := ⟨570, .pcie, 0x44, 0, 1, 0, 16, .rw, .const 0, .any, .plat⟩
/-- PCIE.APERTURE_LOG2, R465. -/
def PCIE_APERTURE_LOG2 : Fld := ⟨571, .pcie, 0x48, 0, 1, 0, 6, .ro, .const 30, .any, .plat⟩

/-- The fields of the PCIE page. -/
def pcieFields : List Fld :=
  [PCIE_LINK_UP, PCIE_FLIT_MODE, PCIE_LINK_WIDTH, PCIE_LINK_SPEED, PCIE_SRIS,
   PCIE_FLR_COUNT, PCIE_PERST_COUNT, PCIE_AER_UNCORR, PCIE_AER_CORR, PCIE_APERTURE_BASE_LO,
   PCIE_APERTURE_BASE_HI, PCIE_APERTURE_LOG2]

/-- ETH.PHY_MODE, R466. -/
def ETH_PHY_MODE : Fld := ⟨572, .eth, 0x20, 0, 1, 1, 1, .rw, .const 0, .any, .plat⟩
/-- ETH.LINK_UP, R466. -/
def ETH_LINK_UP : Fld := ⟨573, .eth, 0x20, 0, 1, 0, 1, .ro, .const 0, .any, .plat⟩
/-- ETH.MAC_LO, R466. -/
def ETH_MAC_LO : Fld := ⟨574, .eth, 0x24, 0, 1, 0, 32, .ro, .fused 0, .any, .plat⟩
/-- ETH.MAC_HI, R466. -/
def ETH_MAC_HI : Fld := ⟨575, .eth, 0x28, 0, 1, 0, 16, .ro, .fused 1, .any, .plat⟩
/-- ETH.PTP_LOCKED, R466. -/
def ETH_PTP_LOCKED : Fld := ⟨576, .eth, 0x2c, 0, 1, 9, 1, .ro, .const 0, .any, .plat⟩
/-- ETH.PTP_DOMAIN, R466. -/
def ETH_PTP_DOMAIN : Fld := ⟨577, .eth, 0x2c, 0, 1, 1, 8, .rw, .const 0, .any, .plat⟩
/-- ETH.PTP_EN, R466. -/
def ETH_PTP_EN : Fld := ⟨578, .eth, 0x2c, 0, 1, 0, 1, .rw, .const 0, .any, .plat⟩
/-- ETH.PTP_OFFSET_NS, R466. -/
def ETH_PTP_OFFSET_NS : Fld := ⟨579, .eth, 0x30, 0, 1, 0, 32, .ro, .const 0, .any, .plat⟩
/-- ETH.PFC_PRIORITY, R466. -/
def ETH_PFC_PRIORITY : Fld := ⟨580, .eth, 0x34, 0, 1, 0, 3, .rw, .const 3, .any, .plat⟩
/-- ETH.FCS_ERRORS, R466. -/
def ETH_FCS_ERRORS : Fld := ⟨581, .eth, 0x38, 0, 1, 0, 32, .rc, .const 0, .any, .plat⟩
/-- ETH.CNP_RECEIVED, R466. -/
def ETH_CNP_RECEIVED : Fld := ⟨582, .eth, 0x3c, 0, 1, 0, 32, .rc, .const 0, .any, .plat⟩
/-- ETH.PFC_PAUSES, R466. -/
def ETH_PFC_PAUSES : Fld := ⟨583, .eth, 0x40, 0, 1, 0, 32, .rc, .const 0, .any, .plat⟩
/-- ETH.PTP_LOSSES, R466. -/
def ETH_PTP_LOSSES : Fld := ⟨584, .eth, 0x44, 0, 1, 0, 16, .rc, .const 0, .any, .plat⟩
/-- ETH.HOST_UUID, R466. -/
def ETH_HOST_UUID : Fld := ⟨585, .eth, 0x50, 4, 4, 0, 32, .ro, .fused 2, .any, .plat⟩
/-- ETH.PATH_MTU, R466. -/
def ETH_PATH_MTU : Fld := ⟨586, .eth, 0x800, 0, 1, 0, 2, .rw, .const 2, .over 2 2, .plat⟩

/-- The fields of the ETH page. -/
def ethFields : List Fld :=
  [ETH_PHY_MODE, ETH_LINK_UP, ETH_MAC_LO, ETH_MAC_HI, ETH_PTP_LOCKED,
   ETH_PTP_DOMAIN, ETH_PTP_EN, ETH_PTP_OFFSET_NS, ETH_PFC_PRIORITY, ETH_FCS_ERRORS,
   ETH_CNP_RECEIVED, ETH_PFC_PAUSES, ETH_PTP_LOSSES, ETH_HOST_UUID, ETH_PATH_MTU]

/-- SMB.ADDRESS, R467. -/
def SMB_ADDRESS : Fld := ⟨587, .smb, 0x20, 0, 1, 0, 7, .ro, .const 90, .any, .plat⟩
/-- SMB.POS_ID, R467. -/
def SMB_POS_ID : Fld := ⟨588, .smb, 0x24, 0, 1, 0, 8, .ro, .const 0, .any, .plat⟩
/-- SMB.PEC_ERRORS, R467. -/
def SMB_PEC_ERRORS : Fld := ⟨589, .smb, 0x28, 0, 1, 16, 16, .rc, .const 0, .any, .plat⟩
/-- SMB.TIMEOUTS, R467. -/
def SMB_TIMEOUTS : Fld := ⟨590, .smb, 0x28, 0, 1, 0, 16, .rc, .const 0, .any, .plat⟩
/-- SMB.ALERT_CAUSE, R467. -/
def SMB_ALERT_CAUSE : Fld := ⟨591, .smb, 0x2c, 0, 1, 0, 4, .w1c, .const 0, .any, .plat⟩
/-- SMB.ALERT_MASK, R467. -/
def SMB_ALERT_MASK : Fld := ⟨592, .smb, 0x30, 0, 1, 0, 4, .rw, .const 15, .any, .plat⟩
/-- SMB.FLASH_CLAIM, R467. -/
def SMB_FLASH_CLAIM : Fld := ⟨593, .smb, 0x34, 0, 1, 0, 2, .rw, .const 0, .over 2 0, .plat⟩
/-- SMB.FLASH_ADDR, R467. -/
def SMB_FLASH_ADDR : Fld := ⟨594, .smb, 0x38, 0, 1, 0, 26, .rw, .const 0, .align 5, .plat⟩
/-- SMB.FLASH_CMD, R467. -/
def SMB_FLASH_CMD : Fld := ⟨595, .smb, 0x3c, 0, 1, 0, 2, .wo, .const 0, .any, .plat⟩
/-- SMB.FLASH_STATUS, R467. -/
def SMB_FLASH_STATUS : Fld := ⟨596, .smb, 0x40, 0, 1, 0, 2, .ro, .const 0, .any, .plat⟩
/-- SMB.FLASH_DATA, R467. -/
def SMB_FLASH_DATA : Fld := ⟨597, .smb, 0x60, 4, 8, 0, 32, .rw, .const 0, .any, .plat⟩
/-- SMB.TIMEOUT_MS, R467. -/
def SMB_TIMEOUT_MS : Fld := ⟨598, .smb, 0x800, 0, 1, 0, 6, .rw, .const 35, .span 25 35, .plat⟩

/-- The fields of the SMB page. -/
def smbFields : List Fld :=
  [SMB_ADDRESS, SMB_POS_ID, SMB_PEC_ERRORS, SMB_TIMEOUTS, SMB_ALERT_CAUSE,
   SMB_ALERT_MASK, SMB_FLASH_CLAIM, SMB_FLASH_ADDR, SMB_FLASH_CMD, SMB_FLASH_STATUS,
   SMB_FLASH_DATA, SMB_TIMEOUT_MS]

end Sys2Proof.Machine.Reg
end

