-- ==== Sys2Proof/Machine/State.lean ====
section
/-! DEFINITION. Sys2Proof/Machine/State.lean: the whole state of the module, the reasons a step can stop, and the state
before the 48 V input first enters its range (R417). -/

namespace Sys2Proof.Machine

/-- Reasons for a fault. No meaning of this model raises one: every event of the table that the spec describes has an
effect, and an event whose conditions do not hold has none (log entry 9). -/
inductive Fault where
  /-- never raised; the type needs a member. Safe: a run that stops proves nothing. -/
  | unreachable
deriving DecidableEq, Repr

/-- Reasons for a refusal. -/
inductive Refusal where
  /-- raised by an arm of exec that has no meaning yet. Safe: a run that stops proves nothing. -/
  | notModelled (mnemonic : String)
deriving DecidableEq, Repr

/-- The state of the module. -/
structure State where
  /-- commands waiting, first in, first out -/
  pending : List Instr
  /-- what has left the module, newest first (log entry 3) -/
  out : List Out
  /-- counter of free values: the model's own (log entry 2) -/
  free : Nat
  /-- register fields that differ from their reset value or have been written -/
  regs : SMap Nat
  /-- held upper words of 64-bit RO fields, by page × 4,096 + offset (R428) -/
  snaps : SMap Nat
  /-- held lower words of 64-bit RW fields, by page × 4,096 + offset (R428) -/
  held : SMap Nat
  /-- bytes of near memory, the Storeroom and the stores, by local address -/
  mem : List Host.Cell
  /-- poisoned 64-byte lines: local address / 64 -/
  poison : List Nat
  fills : FillSt
  time : TimeSt
  clocks : SMap ClockSt
  /-- rings by die × 16 + tenant -/
  rings : SMap RingSt
  /-- engine queues by number, in acceptance order -/
  queues : SMap (List QEntry)
  /-- vtime by queue × 16 + tenant (R141) -/
  vtime : SMap Nat
  /-- last filler tenant plus 1 by queue; 0 lies below tenant 0 (R141) -/
  filler : SMap Nat
  /-- the accumulator bank of the Lathe docket just completed, by core (R102) -/
  carry : SMap CarrySt
  links : SMap LinkSt
  route : RouteSt
  msf : MsfSt
  sbus : SbusSt
  ledger : LedgerSt
  freeze : FreezeSt
  /-- control counters by die × 8 + control -/
  perturb : SMap PertCnt
  resets : ResetSt
  health : HealthSt
  power : PowerSt
  boot : BootSt
  pins : PinSt
  pcie : PcieSt
  flash : FlashSt
  smbus : SmbusSt
  eth : SMap EthSt
  mill : SMap MillSt
  /-- the draw in progress by Hopper number -/
  hopper : SMap HopDraw
  /-- collectives in progress, oldest first -/
  colls : List Coll
  /-- the APPLY in progress by compute die -/
  upd : SMap UpdSt
  /-- re-layout dockets in progress, oldest first -/
  chest : List ChestJob
deriving DecidableEq, Repr

/-- Time at reset: R41, R62. -/
def TimeSt.reset : TimeSt :=
  { ft := 0, cyc := 0, joined := false, stepped := false, streak := 0, lastWord := 0, slew := 0, slewPhase := 0,
    pause := 0, snap := 0, ptpStep := false, sawPulse := false, goodSync := 0, missedSync := 0, ftrefGood := 0 }

/-- Clocks of a die at reset: every gate on, the PLLs on IOSC, nothing coasting (R52, R63). -/
def ClockSt.reset : ClockSt :=
  { coast := [], relock := false, src := 0, xtalGood := 0, off := [], reqOff := [], meters := [], spoiled := [] }

/-- A ring at reset: R155. -/
def RingSt.reset : RingSt := { fetched := [], retries := 0, readAt := 0, stalled := false, heldTail := none, acc := [] }

/-- A link at reset: DISABLED, empty (R264, R266). -/
def LinkSt.reset : LinkSt :=
  { lanes := [], cws := 0, good := 0, bad := 0, winCws := 0, winBad := 0, expect := 0, nak := false, next := 0,
    ack := BitVec.ofNat 12 4095, replay := [], resends := 0, nakServed := none, resendEnd := 0, slot := 0, marker := 0, timeAt := 0,
    farTurn := 0, used := [], pool := 0, toReturn := [],
    part := [], rx := [], tx := [], failed := 0, bringing := false, since := 0,
    ackAt := 0, upOnce := false }

/-- The Ledger at power-on: an empty ring and full buckets (R390). -/
def LedgerSt.reset : LedgerSt :=
  { ao := [], recs := [], capRecs := [], tokens := [], base := [64, 16, 8, 4, 16, 16, 16, 16], profs := [], supp := [],
    lost := 0, capLost := 0,
    grid := [100000, 1000000, 10000000, 100000000, 1000000, 1000000, 1000000, 1000000],
    sumEnd := 1000000000 }

/-- An Ethernet port at reset. -/
def EthSt.reset : EthSt := { ptpStreak := 0, rateCuts := 0, paused := [] }

/-- A Mill die at reset: nothing in progress. -/
def MillSt.reset : MillSt :=
  { jobs := [], pipes := [], reserved := [], cmds := [], backlog := [], nextCid := 0, idleFrom := [], waiting := [] }

/-- The module before its 48 V input first enters the range of R444: no switched domain has power, every register holds
its reset value, every queue is empty (R403, R417, log entries 4, 5, 6 and 10). -/
def State.reset : State :=
  { pending := [], out := [], free := 0, regs := [], snaps := [], held := [], mem := [], poison := [],
    fills := { busy := [], queued := [], counters := [], flaws := [] },
    time := TimeSt.reset, clocks := [], rings := [], queues := [], vtime := [], filler := [], carry := [],
    links := [], route := { peer0 := [], peer1 := [], pend := [], groups := [], rejectAt := [],
                                   inbox := [], held := [], mwait := [] },
    msf := { nextSeq := [], open' := [], ops := [], windows := [], cache := [], dir := [], fences := [] },
    sbus := { beats := 0, watch := 0, ignored := [], crossing := [], crossQ := [], posted := [] },
    ledger := LedgerSt.reset,
    freeze := { pinAt := none, resumeAt := none, pinEnd := none, pos := 0 },
    perturb := [],
    resets := { active := [], stopped := [], gens := [], hangs := [], lastSent := [], drains := [], ownGen := none,
                tenants := [] },
    health := { score := [], warn := [], act := [], mirror := [], own := [], mismatch := none, decayAt := 1000000000 },
    power := { on := [], cclk := [], capHeld := [], hot := [], temp := [], thermLow := false, floor := false, floorEnd := 0,
               tripped := false, sleep := [] },
    boot := { inRange := false, loaded := false, verified := false, mapped := [], bench := [], outOf := [],
              published := false, image := none, svnUp := 0, revoked := 0, pageGens := 0, rerun := false },
    pins := { perstN := true, trstN := true, pwrGood := false, acked := 0, bladeLimit := none },
    pcie := { enabled := true, rrs := true, cfg := [], msix := [] },
    flash := { bytes := [], busy := none },
    smbus := { off := 0, notReachable := false },
    eth := [], mill := [], hopper := [], colls := [], upd := [], chest := [] }

end Sys2Proof.Machine
end

