-- ==== Sys2Proof/Machine/Ops.lean ====
section
/-! DEFINITION. Sys2Proof/Machine/Ops.lean: the named operations over registers, bytes of memory, pages, time and the
outputs, which every meaning is written with. -/

namespace Sys2Proof.Machine

-- numbers and bytes ---------------------------------------------------------------------------------------------------

/-- The number whose little-endian bytes are l (R10). -/
def leNat (l : List Byte) : Nat :=
  match l with
  | [] => 0
  | b :: r => b.toNat + 256 * leNat r

/-- The k little-endian bytes of n (R10). -/
def natLe (n k : Nat) : List Byte :=
  match k with
  | 0 => []
  | k + 1 => BitVec.ofNat 8 n :: natLe (n / 256) k

/-- n with bits [lo + w - 1 : lo] replaced by v. -/
def putBits (n lo w v : Nat) : Nat := n - bitsAt n lo w * 2 ^ lo + (v % 2 ^ w) * 2 ^ lo

/-- n with bit i set. -/
def setBit (n i : Nat) : Nat := n ||| 2 ^ i

/-- n with bit i clear. -/
def clrBit (n i : Nat) : Nat := if bitAt n i then n - 2 ^ i else n

/-- ceil(a / b). -/
def ceilDiv (a b : Nat) : Nat := (a + b - 1) / b

/-- v, not below lo and not above hi. -/
def clampNat (lo hi v : Nat) : Nat := max lo (min hi v)

/-- The w-bit two's-complement number of bits n. -/
def sext (w n : Nat) : Int := if bitAt n (w - 1) then (n % 2 ^ w : Int) - 2 ^ w else (n % 2 ^ w : Int)

/-- The w bits of an integer in two's complement. -/
def twos (w : Nat) (i : Int) : Nat := (i % (2 ^ w : Int)).toNat

/-- Serial-number comparison with a half window of 2^31 (R42, R123): a lies ahead of b. -/
def ahead (a b : W32) : Bool := a != b && (a - b).toNat < 2 ^ 31

/-- a lies behind b (R123, R125). -/
def behind (a b : W32) : Bool := (a - b).toNat ≥ 2 ^ 31

/-- The list without repeats of x, then x. -/
def addOnce (l : List Nat) (x : Nat) : List Nat := if l.contains x then l else x :: l

/-- The list without x. -/
def dropAll (l : List Nat) (x : Nat) : List Nat := l.filter (· != x)

-- register fields -----------------------------------------------------------------------------------------------------

/-- The die kind of a CLOCK or PERTURB page: 0 compute, 1 fabric, 2 Mill. -/
def dieKind (d : Nat) : Nat := if d < 8 then 0 else if d < 10 then 1 else 2

/-- Default measured clock of meter m on die d (R55). -/
def meterClk0 (d m : Nat) : Nat :=
  if m = 0 then 0 else if m = 1 then 2 else if m ≤ 4 then m + 1 else if d < 8 then m + 3 else m - 2

/-- Role of link l (R252): 0 pod, 1 hall, 2 global, 3 spare. -/
def linkRole (l : Nat) : Nat := if l < 30 then 0 else if l < 46 then 1 else if l < 62 then 2 else 3

/-- Reset value of a field. -/
def rstVal (f : Fld) (inst idx : Nat) : Nat :=
  match f.rst with
  | .const n => n
  | .byIdx l => l.getD idx 0
  | .byInst l => l.getD inst 0
  | .meterRef => if idx = 0 then 1 else 0
  | .meterClk => meterClk0 inst idx
  | .meterFail => if idx = 0 then 50000 else 500
  | .meterWarn => if idx = 0 then 20000 else 100
  | .linkRole => linkRole inst
  | .tenantClass => if idx = 15 then 2 else 0
  | .fused 0 => Config.mac inst % 2 ^ 32
  | .fused 1 => Config.mac inst / 2 ^ 32 % 2 ^ 16
  | .fused _ => Config.uuid idx % 2 ^ 32

/-- The value of a register field of a page instance. -/
def rget (s : State) (f : Fld) (inst : Nat := 0) (idx : Nat := 0) : Nat :=
  mapGet s.regs (regKey f inst idx) (rstVal f inst idx)

/-- The field written with the low bits of v. -/
def rset (s : State) (f : Fld) (inst : Nat := 0) (idx : Nat := 0) (v : Nat) : State :=
  { s with regs := mapSet s.regs (regKey f inst idx) (v % 2 ^ f.width) }

/-- A counter advanced by n: 32-bit counters wrap (R120); a narrower one past its largest value holds a free value
(log entry 2). -/
def rinc (s : State) (f : Fld) (inst : Nat := 0) (idx : Nat := 0) (n : Nat := 1) : State :=
  let v := rget s f inst idx
  if v + n < 2 ^ f.width then rset s f inst idx (v + n)
  else if f.width = 32 then rset s f inst idx (v + n)
  else rset s f inst idx (Config.counterOverflow (regKey f inst idx) v n)

/-- A counter advanced by n that stays at its largest value. -/
def rsat (s : State) (f : Fld) (inst : Nat := 0) (idx : Nat := 0) (n : Nat := 1) : State :=
  rset s f inst idx (min (rget s f inst idx + n) (2 ^ f.width - 1))

/-- One bit of a field set to b. -/
def rbit (s : State) (f : Fld) (inst idx i : Nat) (b : Bool) : State :=
  rset s f inst idx (if b then setBit (rget s f inst idx) i else clrBit (rget s f inst idx) i)

/-- A 64-bit field held as a low and a high word. -/
def rget64 (s : State) (lo hi : Fld) (inst : Nat := 0) (idx : Nat := 0) : Nat :=
  rget s lo inst idx + rget s hi inst idx * 2 ^ 32

/-- A 64-bit field written. -/
def rset64 (s : State) (lo hi : Fld) (inst : Nat := 0) (idx : Nat := 0) (v : Nat) : State :=
  rset (rset s lo inst idx v) hi inst idx (v / 2 ^ 32)

-- pages (R427, R471) --------------------------------------------------------------------------------------------------

/-- A register page: block and instance. -/
structure Page where
  blk : Blk
  inst : Nat
deriving DecidableEq, Repr

/-- The page at an offset of the register space (R427). -/
def pageAt (off : Nat) : Option Page :=
  let p := off / 4096
  if off < 0x800000 then
    some ⟨if p % 4 = 0 then .lathe else if p % 4 = 1 then .vec else if p % 4 = 2 then .port else .clerk, p / 4⟩
  else if off < 0x840000 then some ⟨.cstore, p - 0x800⟩
  else if off < 0x860000 then
    let q := p - 0x840
    if q % 4 = 0 then some ⟨.hbmc, q / 4⟩ else if q % 4 = 1 then some ⟨.update, q / 4⟩
    else if q % 4 = 2 then some ⟨.dock, q / 4⟩ else none
  else if off < 0x8A0000 then some ⟨.zlink, p - 0x860⟩
  else if off < 0x8B0000 then
    let q := p - 0x8A0
    if q < 8 ∧ q % 4 = 0 then some ⟨.storc, q / 4⟩ else if q < 8 ∧ q % 4 = 1 then some ⟨.tally, q / 4⟩ else none
  else if off < 0x8C0000 then
    let q := p - 0x8B0
    if q < 8 ∧ q % 4 = 0 then some ⟨.mill, q / 4⟩ else if q < 8 ∧ q % 4 = 1 then some ⟨.hopper, q / 4⟩
    else if q < 8 ∧ q % 4 = 2 then some ⟨.eth, q / 4⟩ else none
  else if off < 0x8D8000 then
    let q := p - 0x8C0
    some ⟨if q % 2 = 0 then .clock else .perturb, q / 2⟩
  else if off < 0x900000 then none
  else
    match p - 0x900 with
    | 0 => some ⟨.route, 0⟩ | 1 => some ⟨.msf, 0⟩ | 2 => some ⟨.chest, 0⟩ | 3 => some ⟨.tenant, 0⟩
    | 4 => some ⟨.ftime, 0⟩ | 5 => some ⟨.pcie, 0⟩ | 6 => some ⟨.dimtab, 0⟩ | 7 => some ⟨.power, 0⟩
    | 8 => some ⟨.reset, 0⟩ | 9 => some ⟨.pmc, 0⟩ | 10 => some ⟨.health, 0⟩ | 11 => some ⟨.sbus, 0⟩
    | 12 => some ⟨.ledger, 0⟩ | 13 => some ⟨.freeze, 0⟩ | 14 => some ⟨.smb, 0⟩
    | _ => none

/-- The offset of a page (R427). -/
def Page.base (p : Page) : Nat :=
  4096 * match p.blk with
  | .lathe => 4 * p.inst | .vec => 4 * p.inst + 1 | .port => 4 * p.inst + 2 | .clerk => 4 * p.inst + 3
  | .cstore => 0x800 + p.inst
  | .hbmc => 0x840 + 4 * p.inst | .update => 0x841 + 4 * p.inst | .dock => 0x842 + 4 * p.inst
  | .zlink => 0x860 + p.inst
  | .storc => 0x8A0 + 4 * p.inst | .tally => 0x8A1 + 4 * p.inst
  | .mill => 0x8B0 + 4 * p.inst | .hopper => 0x8B1 + 4 * p.inst | .eth => 0x8B2 + 4 * p.inst
  | .clock => 0x8C0 + 2 * p.inst | .perturb => 0x8C1 + 2 * p.inst
  | .route => 0x900 | .msf => 0x901 | .chest => 0x902 | .tenant => 0x903 | .ftime => 0x904 | .pcie => 0x905
  | .dimtab => 0x906 | .power => 0x907 | .reset => 0x908 | .pmc => 0x909 | .health => 0x90A | .sbus => 0x90B
  | .ledger => 0x90C | .freeze => 0x90D | .smb => 0x90E | .hdr => 0

/-- The number by which the header fields of a page are kept. -/
def Page.num (p : Page) : Nat := p.base / 4096

/-- Home die of a page as the DIE field of R386. -/
def Page.die (p : Page) : Nat :=
  match p.blk with
  | .lathe | .vec | .port | .clerk => p.inst / 64
  | .cstore => p.inst / 8
  | .hbmc | .update | .dock => p.inst
  | .zlink => 8 + p.inst % 2
  | .storc | .tally => 8 + p.inst
  | .mill | .hopper | .eth => 10 + p.inst
  | .clock | .perturb => p.inst
  | .route | .msf | .chest | .tenant | .ftime | .pcie => 8
  | .dimtab | .power | .reset | .pmc | .health | .sbus => 12
  | .ledger | .freeze | .smb | .hdr => 13

/-- Physical position of logical cluster c (R23). -/
def physPos (s : State) (c : Nat) : Nat :=
  if mapFind s.boot.mapped (c / 8) = some (c % 8) then 8 else c % 8

/-- UNIT of a core or of one of its engines (R471). -/
def coreUnit (s : State) (core : Nat) : Nat := physPos s (core / 8) * 8 + core % 8

/-- UNIT of a record raised for a page (R471). -/
def Page.unit (s : State) (p : Page) : Nat :=
  match p.blk with
  | .lathe | .vec | .port | .clerk => coreUnit s p.inst
  | .cstore => physPos s p.inst * 8
  | .zlink => p.inst
  | _ => 0

-- memory bytes --------------------------------------------------------------------------------------------------------

/-- What a byte of memory that is not listed reads as (R366; log entry 4). -/
def emptyByte : Byte := 0

/-- The byte at a local address. -/
def memGet (m : List Host.Cell) (a : Nat) : Byte := (mapFind m a).getD emptyByte

/-- The entries that bytes l from address a need: one that equals an unlisted byte is not kept. -/
def cellsOf (a : Nat) (l : List Byte) : List Host.Cell :=
  match l with
  | [] => []
  | b :: r => if b = emptyByte then cellsOf (a + 1) r else (a, b) :: cellsOf (a + 1) r

/-- The n bytes from address a, found one by one. -/
def memBytes (m : List Host.Cell) (a n : Nat) : List Byte :=
  match n with
  | 0 => []
  | n + 1 => memGet m a :: memBytes m (a + 1) n

/-- The entries of memory in [a, a + n). -/
def memWindow (m : List Host.Cell) (a n : Nat) : List Host.Cell := m.filter (fun c => decide (a ≤ c.1) && decide (c.1 < a + n))

/-- The n bytes from address a. -/
def memRead (m : List Host.Cell) (a n : Nat) : List Byte := memBytes (memWindow m a n) a n

/-- The memory with bytes l from address a. -/
def memWrite (m : List Host.Cell) (a : Nat) (l : List Byte) : List Host.Cell :=
  match l with
  | [] => m
  | b :: r => m.filter (fun c => decide (c.1 < a)) ++ (cellsOf a (b :: r) ++ m.filter (fun c => decide (a + (b :: r).length ≤ c.1)))

/-- The memory with zeros in [a, a + n). -/
def memZero (m : List Host.Cell) (a n : Nat) : List Host.Cell := m.filter (fun c => c.1 < a || c.1 ≥ a + n)

/-- The canonical form of memory: addresses strictly rising, no entry equal to an unlisted byte. -/
def Memory.wf (m : List Host.Cell) : Bool :=
  match m with
  | [] => true
  | c :: r => c.2 != emptyByte && (match r with | [] => true | d :: _ => decide (c.1 < d.1)) && Memory.wf r

/-- The number in n bytes from address a. -/
def memNat (s : State) (a n : Nat) : Nat := leNat (memRead s.mem a n)

/-- n little-endian bytes of v stored at a. -/
def memSetNat (s : State) (a n v : Nat) : State := { s with mem := memWrite s.mem a (natLe v n) }

-- outputs and free values ---------------------------------------------------------------------------------------------

/-- An output added. -/
def emit (s : State) (o : Out) : State := { s with out := o :: s.out }

/-- The next free value, and the state that has used it (log entry 2). -/
def freeVal (s : State) : Nat × State := (Config.freeNat s.free, { s with free := s.free + 1 })

/-- The host can be reached: the function is out of reset and enabled (R153, R418). -/
def hostUp (s : State) : Bool := s.pins.perstN && s.pcie.enabled && !s.pcie.rrs

/-- An MSI-X message (R126, R453): sent while the function is out of reset and enabled. -/
def msix (s : State) (v : Nat) : State := if hostUp s then emit s (.msix v) else s

/-- The page generation advanced (R435). -/
def pageGenUp (s : State) (p : Page) : State :=
  rset s Reg.HDR_PAGE_GEN p.num 0 (rget s Reg.HDR_PAGE_GEN p.num 0 + 1)

-- time ----------------------------------------------------------------------------------------------------------------

/-- The short stamp FT[35:4] (R42). -/
def stamp (s : State) : W32 := BitVec.ofNat 32 (s.time.ft.toNat / 16)

/-- FROZEN (R395, R402). -/
def frozen (s : State) : Bool := bitAt (rget s Reg.FREEZE_STATUS) 0

/-- The rate at which the run timer of a docket of logical cluster c advances in one FTCLK cycle (R408). -/
def runRate (s : State) (c : Nat) : Rat :=
  if mapGet s.power.capHeld c 0 ≠ 0 then
    (rget s Reg.POWER_CCLK_APPLIED 0 c : Rat) / (rget s Reg.POWER_CCLK_MHZ 0 c : Rat)
  else 1

/-- The die of an engine queue, as the DIE field of R386. -/
def queueDie (q : Nat) : Nat :=
  if q < 2048 then q / 256 else if q < 2056 then q - 2048 else if q < 2060 then 8 else if q < 2062 then 10 + (q - 2060) else 10 + (q - 2062)

/-- Clocks of a die. -/
def clockOf (s : State) (d : Nat) : ClockSt := mapGet s.clocks d ClockSt.reset

/-- Clocks of a die replaced. -/
def setClock (s : State) (d : Nat) (c : ClockSt) : State := { s with clocks := mapSet s.clocks d c }

/-- n FTCLK cycles more on the run timers (R145, R408). A queue of an uncore engine runs unscaled, and none advances on a die whose PLLs
relock, their outputs gated (R53). -/
def runTimers (s : State) (n : Nat) : State :=
  { s with queues := s.queues.map (fun q => (q.1, q.2.map (fun e =>
      if e.running && !(clockOf s (queueDie q.1)).relock then
        { e with ran := e.ran + (n : Rat) * (if q.1 < 2048 then runRate s (q.1 / 32) else 1) }
      else e))) }

/-- Cycles between two slewed ticks, so that the slew stays within SLEW_PPM_MAX (R50; log entry 5). -/
def slewPeriod (s : State) : Nat := ceilDiv 1000000 (max 1 (rget s Reg.FTIME_SLEW_PPM_MAX))

/-- FT after n FTCLK cycles (R40, R50): it stands for the pause, then takes one tick per cycle, with at most one slewed tick per slewPeriod
of the cycles in which it runs. It stands while FD0's PLLs relock, their outputs gated (R53). -/
def ftAfter (s : State) (n : Nat) : TimeSt :=
  let t := s.time
  if (clockOf s 8).relock then t
  else
    let still := min t.pause n
    let runs := n - still
    let per := slewPeriod s
    let steps := min t.slew.natAbs ((t.slewPhase + runs) / per)
    let d : Int := if t.slew < 0 then -(steps : Int) else steps
    { t with
      ft := BitVec.ofInt 64 ((t.ft.toNat : Int) + (runs : Nat) + d)
      slew := t.slew - d
      slewPhase := if t.slew = 0 then 0 else (t.slewPhase + runs) % per
      pause := t.pause - still }

/-- n FTCLK cycles pass: FT advances; outside a freeze the timers advance too (R145, R396). -/
def advance (s : State) (n : Nat) : State :=
  if frozen s then { s with time := ftAfter s n }
  else runTimers { s with time := { ftAfter s n with cyc := s.time.cyc + n } } n

/-- Time passes until the timers read at least c: the instant at which a time-driven event falls due (log entry 5). -/
def advanceTo (s : State) (c : Nat) : State := if s.time.cyc < c then advance s (c - s.time.cyc) else s

/-- A switched domain of R403 is powered. -/
def domainOn (s : State) (i : Nat) : Bool := s.power.on.contains i

/-- The domain of the quad that holds link l (R28, R403). -/
def quadDomain (l : Nat) : Nat := 96 + 10 * (l % 2) + l / 8

/-- Work of a stopped clock: nothing in a freeze, nor after a trip, when no domain but the PMC island's has power (R396, R410;
log entry 9). -/
def live (s : State) (k : State → State) : State := if frozen s || s.power.tripped then s else k s

/-- Time passes until FT is at least v (log entry 5). -/
def advanceFt (s : State) (v : W64) : State :=
  if s.time.ft < v then
    let s := advance s (v.toNat - s.time.ft.toNat)
    if s.time.ft < v then { s with time := { s.time with ft := v } } else s
  else s

end Sys2Proof.Machine
end

