-- ==== Sys2Proof/Machine/LedgerOps.lean ====
section
/-! DEFINITION. Sys2Proof/Machine/LedgerOps.lean: raising a Ledger record (R386 to R393, R471), the clamp report of a page
(R433), health charges (R376 to R378) and ALERT_N causes (R463). -/

namespace Sys2Proof.Machine

/-- The docket words of a record (R386): SEQ, RING, ENGINE, STATUS and TAG. -/
structure DocketWords where
  seq : Nat
  ring : Nat
  engine : Nat
  status : Nat
  tag : Nat
deriving DecidableEq, Repr

/-- An event that raises a record. -/
structure Ev where
  code : Nat
  off : Nat
  lsb : Nat
  die : Nat
  unit : Nat
  /-- 15 when no tenant is concerned -/
  tenant : Nat := 15
  dk : Option DocketWords := none
  args : List Nat := []
  /-- class named by the rule that raises the record, where the table of R389 lists none -/
  cls : Option Nat := none
deriving DecidableEq, Repr

/-- CODE of the event of a field (R388): block number, and offset / 4 of its first instance. -/
def evCode (f : Fld) : Nat := f.blk.num * 1024 + f.off / 4

/-- An event counted or flagged by a field. -/
def evOf (f : Fld) (idx die unit : Nat) (tenant : Nat := 15) (dk : Option DocketWords := none) (args : List Nat := []) :
    Ev :=
  { code := evCode f, off := f.off + f.stride * idx, lsb := f.lsb, die, unit, tenant, dk, args }

/-- The flag of R389 that a FIELD_LSB names within a code: the two codes with flags of two classes. -/
def flagOf (code lsb : Nat) : Nat :=
  if code = 0x4409 then (if lsb ≥ 10 then 10 else 2)
  else if code = 0x6009 then (if lsb = 17 then 17 else 16)
  else 0

/-- The bucket of a code and flag (R390). -/
def bucketKey (code lsb : Nat) : Nat := code * 32 + flagOf code lsb

/-- Class and profile of a code and flag: the table of R389, otherwise class 2 with profile 1. -/
def classProfile (code lsb : Nat) : Nat × Nat :=
  if code % 1024 = 4 then (3, 1)
  else if code = 0x0C0B then (0, 0)
  else if code = 0x100D ∨ code = 0x140F ∨ code = 0x1809 then (1, 1)
  else if code = 0x140D then (2, 2)
  else if code = 0x1C0C then (3, 2)
  else if code = 0x1C0F ∨ code = 0x2408 then (1, 1)
  else if code = 0x280A then (0, 0)
  else if code = 0x2C0D then (1, 1)
  else if code = 0x4409 then (if flagOf code lsb = 10 then (0, 0) else (2, 1))
  else if code = 0x500E then (1, 1)
  else if code = 0x6009 then (if flagOf code lsb = 17 then (0, 0) else (1, 0))
  else if code = 0x6408 ∨ code = 0x5C0C then (0, 0)
  else if code / 1024 = 26 ∧ code % 1024 ≥ 0x200 then (1, 1)
  else (2, 1)

/-- Profile of a bucket: as CODE_PROFILE set it, otherwise of R389. -/
def profileOf (s : State) (code lsb : Nat) : Nat :=
  mapGet s.ledger.profs (bucketKey code lsb) (classProfile code lsb).2

/-- Tokens in a bucket (R390). -/
def tokensOf (s : State) (code lsb : Nat) : Nat :=
  mapGet s.ledger.tokens (bucketKey code lsb) (s.ledger.base.getD (profileOf s code lsb) 0)

/-- Source word of a record (R386). -/
def srcWord (unit die tenant : Nat) : Nat := unit % 256 + die % 16 * 256 + tenant % 16 * 4096

/-- Locator word of a record (R386). -/
def locWord (off lsb : Nat) (dk : Bool) : Nat := off % 4096 + lsb % 32 * 4096 + b2n dk * 2 ^ 17

/-- Words of a record from 0x18 on, as one number and its length in bytes (R386, R387). -/
def recBody (dk : Option DocketWords) (args : List Nat) : Nat × Nat :=
  let a := args.take 26
  let n := leNat (a.flatMap (fun w => natLe w 8))
  match dk with
  | none => (n, 8 * a.length)
  | some d => (d.seq % 2 ^ 32 + (d.ring + d.engine * 8 + d.status * 256) * 2 ^ 32 + d.tag % 2 ^ 32 * 2 ^ 64 + n * 2 ^ 128,
      16 + 8 * a.length)

/-- Units of 16 bytes of a record whose part from 0x18 on has n bytes (R386). -/
def recUnits (n : Nat) : Nat := max 2 (ceilDiv (24 + n) 16)

/-- The bytes of a record (R386). -/
def recBytes (seq prio code : Nat) (summary : Bool) (ft : W64) (src loc body units : Nat) : List Byte :=
  natLe (seq % 2 ^ 32) 4 ++ natLe (0x4C + (units - 1) * 256 + prio * 4096 + b2n summary * 16384 + code * 65536) 4 ++
    natLe ft.toNat 8 ++ natLe src 4 ++ natLe loc 4 ++ natLe body (16 * units - 24)

/-- The 16 bytes of a PAD of the given units (R388). -/
def padBytes (seq : Nat) (ft : W64) (units : Nat) : List Byte :=
  natLe (seq % 2 ^ 32) 4 ++ natLe (0x4C + (units - 1) * 256 + 3 * 4096 + 0xFFFF * 65536) 4 ++ natLe ft.toNat 8

/-- Units in the AO ring: 64 KiB of 16 bytes. -/
def aoUnits : Nat := 4096

/-- Units that the records of a ring hold. -/
def usedUnits (r : List (Nat × Nat)) : Nat := (r.map (·.2)).sum

/-- A cause of ALERT_N set (R463, R467): a new cause asserts ALERT_N again. -/
def alert (s : State) (bit : Nat) : State :=
  let s := rbit s Reg.SMB_ALERT_CAUSE 0 0 bit true
  { s with pins := { s.pins with acked := s.pins.acked &&& ~~~(BitVec.ofNat 4 (2 ^ bit)) } }

/-- ALERT_N is asserted: an unmasked cause is set that has not been acknowledged (R463). -/
def alertAsserted (s : State) : Bool :=
  (rget s Reg.SMB_ALERT_CAUSE &&& rget s Reg.SMB_ALERT_MASK &&& (~~~s.pins.acked).toNat) != 0

/-- The oldest records overwritten until n units fit (R392). -/
def overwriteFor (s : State) (n : Nat) (fuel : Nat) : State :=
  match fuel with
  | 0 => s
  | fuel + 1 =>
    if usedUnits s.ledger.recs + n ≤ aoUnits then s
    else match s.ledger.recs with
      | [] => s
      | (p, k) :: r =>
        let s := { s with ledger := { s.ledger with recs := r } }
        let s := rset s Reg.LEDGER_AO_TAIL 0 0 ((p + k) % aoUnits)
        let pad := memGet s.ledger.ao (16 * p + 6) = 0xFF ∧ memGet s.ledger.ao (16 * p + 7) = 0xFF
        overwriteFor (if pad then s else rinc s Reg.LEDGER_OVERWRITTEN) n fuel

/-- One record placed at AO_HEAD, after a PAD where it would straddle the wrap (R388, R392). -/
def placeRecord (s : State) (prio code : Nat) (summary : Bool) (ft : W64) (src loc body units : Nat) : State :=
  let head := rget s Reg.LEDGER_AO_HEAD
  let seq := rget s Reg.LEDGER_NEXT_SEQ
  let wrap := head + units > aoUnits
  let pad := if wrap then aoUnits - head else 0
  let at' := if wrap then 0 else head
  let ao := if wrap then memWrite s.ledger.ao (16 * head) (padBytes seq s.time.ft pad) else s.ledger.ao
  let ao := memWrite ao (16 * at') (recBytes seq prio code summary ft src loc body units)
  let recs := s.ledger.recs ++ (if wrap then [(head, pad)] else []) ++ [(at', units)]
  let s := { s with ledger := { s.ledger with ao := ao, recs := recs } }
  let s := rset s Reg.LEDGER_AO_HEAD 0 0 ((at' + units) % aoUnits)
  let s := rset s Reg.LEDGER_NEXT_SEQ 0 0 (seq + 1)
  let s := if prio ≤ 1 then msix s 128 else s
  if prio = 0 then alert s 1 else s

/-- Units that a record of the given length needs at AO_HEAD, its PAD included. -/
def needUnits (s : State) (units : Nat) : Nat :=
  let head := rget s Reg.LEDGER_AO_HEAD
  if head + units > aoUnits then aoUnits - head + units else units

/-- The collector writes a record, subject to the reserve, or drops it (R392). -/
def collect (s : State) (prio code : Nat) (summary : Bool) (ft : W64) (src loc body units : Nat) : State :=
  let need := needUnits s units
  let free := aoUnits - usedUnits s.ledger.recs
  if prio = 0 then
    placeRecord (overwriteFor s need (s.ledger.recs.length)) prio code summary ft src loc body units
  else if need + rget s Reg.LEDGER_RESERVE_KIB * 64 ≤ free then
    placeRecord s prio code summary ft src loc body units
  else
    let s := rinc s Reg.LEDGER_DROPPED_FULL
    { s with ledger := { s.ledger with lost := s.ledger.lost + 1 } }

/-- The records-lost record, once space has returned after a drop (R392). -/
def lostRecord (s : State) : State :=
  if s.ledger.lost = 0 then s
  else
    let b := recBody none [s.ledger.lost]
    let u := recUnits b.2
    if needUnits s u + usedUnits s.ledger.recs ≤ aoUnits then
      let s := placeRecord s 0 (evCode Reg.LEDGER_DROPPED_FULL) false s.time.ft (srcWord 0 13 15)
        (locWord Reg.LEDGER_DROPPED_FULL.off 0 false) b.1 u
      { s with ledger := { s.ledger with lost := 0 } }
    else s

/-- Class of an event. -/
def Ev.prio (e : Ev) : Nat := e.cls.getD (classProfile e.code e.lsb).1

/-- An event counted as suppressed (R390, R391). -/
def suppress (s : State) (e : Ev) : State :=
  let s := rinc s Reg.LEDGER_SUPPRESSED
  let src := BitVec.ofNat 32 (srcWord e.unit e.die e.tenant)
  let loc := BitVec.ofNat 32 (locWord e.off e.lsb false)
  let k := bucketKey e.code e.lsb
  let n : Supp := match mapFind s.ledger.supp k with
    | none => { count := 1, first := s.time.ft, last := s.time.ft, src, loc }
    | some p => { p with count := min (p.count + 1) (2 ^ 64 - 1), last := s.time.ft, src, loc }
  { s with ledger := { s.ledger with supp := mapSet s.ledger.supp k n } }

/-- An event raises its record: it spends a token, or is suppressed where the bucket is empty (R390). -/
def raise (s : State) (e : Ev) : State :=
  let t := tokensOf s e.code e.lsb
  if t = 0 then suppress s e
  else
    let s := { s with ledger := { s.ledger with tokens := mapSet s.ledger.tokens (bucketKey e.code e.lsb) (t - 1) } }
    let b := recBody e.dk e.args
    collect s e.prio e.code false s.time.ft (srcWord e.unit e.die e.tenant) (locWord e.off e.lsb e.dk.isSome) b.1
      (recUnits b.2)

-- clamp reports (R433) ------------------------------------------------------------------------------------------------

/-- An event of the clamp report: KIND, offset and lowest bit of the field, value written and value applied. -/
structure ClampEv where
  kind : Nat
  off : Nat
  lsb : Nat
  written : Nat
  applied : Nat
deriving DecidableEq, Repr

/-- One event into a page's clamp report, and its CLAMP record (R430, R433). -/
def report (s : State) (p : Page) (w : Writer) (e : ClampEv) : State :=
  let n := p.num
  let s :=
    if rget s Reg.HDR_CLAMP0_VALID n = 1 then rset s Reg.HDR_CLAMP0_OVERRUN n 0 1
    else
      let s := rset s Reg.HDR_CLAMP0_VALID n 0 1
      let s := rset s Reg.HDR_CLAMP0_KIND n 0 e.kind
      let s := rset s Reg.HDR_CLAMP0_SOURCE n 0 w.input.val
      let s := rset s Reg.HDR_CLAMP0_TENANT n 0 w.tenant.val
      let s := rset s Reg.HDR_CLAMP0_FIELD_LSB n 0 e.lsb
      let s := rset s Reg.HDR_CLAMP0_OFFSET n 0 e.off
      let s := rset s Reg.HDR_CLAMP1_APPLIED n 0 e.applied
      rset s Reg.HDR_CLAMP1_WRITTEN n 0 e.written
  raise s { code := p.blk.num * 1024 + 4, off := e.off, lsb := e.lsb, die := p.die, unit := p.unit s,
            tenant := w.tenant.val, args := [e.written, e.applied] }

/-- The event inserted by offset, then lowest bit (R433). -/
def insertClamp (e : ClampEv) (l : List ClampEv) : List ClampEv :=
  match l with
  | [] => [e]
  | x :: r => if e.off * 32 + e.lsb < x.off * 32 + x.lsb then e :: x :: r else x :: insertClamp e r

/-- The events of one transaction, the lowest offset and then the lowest bit first (R433). -/
def reportAll (s : State) (p : Page) (w : Writer) (l : List ClampEv) : State :=
  (l.foldl (fun acc e => insertClamp e acc) []).foldl (fun s e => report s p w e) s

/-- One event of a field of a page. -/
def reportFld (s : State) (p : Page) (w : Writer) (f : Fld) (idx kind written applied : Nat) : State :=
  report s p w { kind, off := f.off + f.stride * idx, lsb := f.lsb, written, applied }

-- health (R376 to R378) -----------------------------------------------------------------------------------------------

/-- HEALTH.WARN_PARTS and ACT_PARTS after a flag has changed. -/
def healthCounts (s : State) : State :=
  rset (rset s Reg.HEALTH_WARN_PARTS 0 0 s.health.warn.length) Reg.HEALTH_ACT_PARTS 0 0 s.health.act.length

/-- WARN sets at its level: flag, record, MSI-X 129 and ALERT_N (R378, R453). -/
def healthWarn (s : State) (part : Nat) : State :=
  let sc := mapGet s.health.score part 0 / 16
  if sc ≥ rget s Reg.HEALTH_WARN_LEVEL ∧ part ∉ s.health.warn then
    let s := { s with health := { s.health with warn := part :: s.health.warn } }
    let s := raise s (evOf Reg.HEALTH_WARN 0 12 part 15 none [part, sc])
    alert (msix s 129) 0
  else s

/-- ACT sets at its level: flag, record, MSI-X 129 and one checkpoint request (R378, R347). -/
def healthAct (s : State) (part : Nat) : State :=
  let sc := mapGet s.health.score part 0 / 16
  if sc ≥ rget s Reg.HEALTH_ACT_LEVEL ∧ part ∉ s.health.act then
    let s := { s with health := { s.health with act := part :: s.health.act } }
    let s := raise s (evOf Reg.HEALTH_ACT 0 12 part 15 none [part, sc])
    rinc (msix s 129) Reg.CHEST_ACT_REQS
  else s

/-- Flags clear below their level less HYST (R378). -/
def healthClear (s : State) (part : Nat) : State :=
  let sc := mapGet s.health.score part 0 / 16
  let low (lvl : Nat) : Bool := sc + rget s Reg.HEALTH_HYST < lvl
  let h := s.health
  { s with health := { h with
      warn := if low (rget s Reg.HEALTH_WARN_LEVEL) then dropAll h.warn part else h.warn
      act := if low (rget s Reg.HEALTH_ACT_LEVEL) then dropAll h.act part else h.act } }

/-- The score of a part set, and its flags brought up to date. -/
def setScore (s : State) (part v : Nat) : State :=
  let s := { s with health := { s.health with score := mapSet s.health.score part v } }
  healthCounts (healthClear (healthAct (healthWarn s part) part) part)

/-- Event e charged to a part (R376, R377). -/
def charge (s : State) (e part : Nat) : State :=
  setScore s part (min (mapGet s.health.score part 0 + rget s Reg.HEALTH_WEIGHT 0 e) 16383)

/-- Part number of a die by its DIE code (R376). -/
def diePart (d : Nat) : Nat := 112 + d

end Sys2Proof.Machine
end

