-- ==== Sys2Proof/Machine/PertOps.lean ====
section
/-! DEFINITION. Sys2Proof/Machine/PertOps.lean: the perturbation controls as the engines meet them (R399, R400). -/

namespace Sys2Proof.Machine

/-- A control's counters (R399). -/
def pertCnt (s : State) (d ctl : Nat) : PertCnt := mapGet s.perturb (8 * d + ctl) { seen := 0, acted := 0 }

/-- An eligible event of a control of die d: whether the control acts on it, by EVERY and COUNT (R399). -/
def pertEvent (s : State) (d ctl every count : Nat) : Bool × State :=
  let c := pertCnt s d ctl
  let n := c.seen + 1
  let hit := every != 0 && n % every == 0 && (count == 0 || c.acted < count)
  let s := { s with perturb := mapSet s.perturb (8 * d + ctl) { seen := n, acted := c.acted + b2n hit } }
  (hit, if hit then rinc s Reg.PERTURB_EVENTS d else s)

/-- A check value of kind k formed on die d by the given unit (R400: CHK_KIND 1 to 8). -/
def pertCheck (s : State) (d k unit : Nat) : Bool × State :=
  if rget s Reg.PERTURB_DEBUG_EN d = 1 ∧ rget s Reg.PERTURB_CHK_KIND d = k ∧ rget s Reg.PERTURB_CHK_UNIT d = unit then
    pertEvent s d 3 (rget s Reg.PERTURB_CHK_EVERY d) (rget s Reg.PERTURB_CHK_COUNT d)
  else (false, s)

/-- A check value of w bits as it is sent: corrupted to another value, which no rule states, where the control acts. -/
def pertValue (s : State) (d k unit w v : Nat) : Nat × State :=
  let r := pertCheck s d k unit
  if r.1 then
    let f := freeVal r.2
    (v ^^^ (1 + f.1 % (2 ^ w - 1)), f.2)
  else (v, r.2)

/-- A response packet of the given OPC and tenant arrives at die d: whether it is dropped (RPL_KIND 2). A held one
(RPL_KIND 1) is counted and takes effect at the row that lands it. -/
def pertResponse (s : State) (d opc tenant : Nat) : Bool × State :=
  let k := rget s Reg.PERTURB_RPL_KIND d
  if rget s Reg.PERTURB_DEBUG_EN d = 1 ∧ k ≠ 0 ∧ rget s Reg.PERTURB_RPL_OPC d = opc ∧
      rget s Reg.PERTURB_RPL_TENANT d = tenant then
    let r := pertEvent s d 4 (rget s Reg.PERTURB_RPL_EVERY d) (rget s Reg.PERTURB_RPL_COUNT d)
    (r.1 && k == 2, r.2)
  else (false, s)

/-- A codeword or flit leaves on link l: the injected error, if the control acts (INJ_KIND 1 to 3). -/
def pertFlit (s : State) (l : LinkId) : State :=
  let d := 8 + l.val % 2
  let k := rget s Reg.PERTURB_INJ_KIND d
  if rget s Reg.PERTURB_DEBUG_EN d = 1 ∧ k ≠ 0 ∧ rget s Reg.PERTURB_INJ_LINK d = l.val then
    let r := pertEvent s d 2 (rget s Reg.PERTURB_INJ_EVERY d) (rget s Reg.PERTURB_INJ_COUNT d)
    if r.1 then { r.2 with out := .injected l k (rget r.2 Reg.PERTURB_INJ_SYMBOLS d) :: r.2.out } else r.2
  else s

/-- Run and wait timeouts of die d divided by 2^TMO_SHIFT (R400). -/
def tmoShift (s : State) (d : Nat) : Nat :=
  if rget s Reg.PERTURB_DEBUG_EN d = 1 then 2 ^ rget s Reg.PERTURB_TMO_SHIFT d else 1

/-- Resend timers of die d divided by 2^RESEND_SHIFT (R400). -/
def resendShift (s : State) (d : Nat) : Nat :=
  if rget s Reg.PERTURB_DEBUG_EN d = 1 then 2 ^ rget s Reg.PERTURB_RESEND_SHIFT d else 1

end Sys2Proof.Machine
end

