-- ==== Sys2Proof/Machine/MemOps.lean ====
section
/-! DEFINITION. Sys2Proof/Machine/MemOps.lean: the local address map, ownership, poison and accesses of a tenant to the
stores, near memory and the Storeroom: R88 to R95, R157 to R169, R280 to R282. -/

namespace Sys2Proof.Machine

/-- What holds a local address (R88, R157). -/
inductive Region where
  | near (g : Nat)
  | way (cluster w : Nat)
  | seg (core s : Nat)
  | reg
  | room (n : Nat)
  | hole
deriving DecidableEq, Repr

/-- Base of the register space (R426). -/
def regBase : Nat := 0x030000000000

/-- Base of the Storeroom (R157). -/
def roomBase : Nat := 0x040000000000

/-- Base of the core store of core k (R88). -/
def coreBase (k : Nat) : Nat := 0x020100000000 + k * 0x200000

/-- Base of the cluster store of cluster c (R88). -/
def clusterBase (c : Nat) : Nat := 0x020000000000 + c * 0x2000000

/-- The local address map (R88, R90, R157, R159, R161). -/
def regionOf (a : Nat) : Region :=
  if a < 0x00C000000000 then .near (a / 0x180000000)
  else if a < 0x020000000000 then .hole
  else if a < 0x020080000000 then
    .way ((a - 0x020000000000) / 0x2000000) ((a - 0x020000000000) / 0x200000 % 16)
  else if a < 0x020100000000 then .hole
  else if a < 0x020140000000 then
    .seg ((a - 0x020100000000) / 0x200000) ((a - 0x020100000000) / 0x20000 % 16)
  else if a < regBase then .hole
  else if a < regBase + 0x4000000 then .reg
  else if a < roomBase then .hole
  else if a < 0x060000000000 then .room ((a - roomBase) / 0x40000000)
  else .hole

/-- The key of a part that is owned and filled (FillSt). -/
def Region.key (r : Region) : Nat :=
  match r with
  | .seg c s => 16 * c + s
  | .way c w => 16384 + 16 * c + w
  | .near g => 32768 + g
  | .room n => 65536 + n
  | .reg | .hole => 131072

/-- Valid bit and owner of a part (R92, R163). -/
def owner (s : State) (r : Region) : Bool × Nat :=
  match r with
  | .near g =>
    let i := g % 16
    (bitAt (rget s Reg.HBMC_SET_VALID (g / 16)) i,
      bitsAt (rget64 s Reg.HBMC_SET_OWNER_LO Reg.HBMC_SET_OWNER_HI (g / 16)) (4 * i) 4)
  | .way c w =>
    (bitAt (rget s Reg.CSTORE_WAY_VALID c) w,
      bitsAt (rget64 s Reg.CSTORE_WAY_OWNER_LO Reg.CSTORE_WAY_OWNER_HI c) (4 * w) 4)
  | .seg k g =>
    let j := k % 8
    (bitAt (rget s Reg.CSTORE_SEG_VALID (k / 8) j) g,
      bitsAt (rget64 s Reg.CSTORE_SEG_OWNER_LO Reg.CSTORE_SEG_OWNER_HI (k / 8) j) (4 * g) 4)
  | .room n =>
    (bitAt (rget s Reg.STORC_REGION_VALID 0 (n / 32)) (n % 32),
      bitsAt (rget s Reg.STORC_REGION_OWNER 0 (n / 8)) (4 * (n % 8)) 4)
  | .reg | .hole => (false, 0)

/-- Tenant t may access the part: TC15 any, another tenant only what it owns (R92, R164). -/
def mayAccess (s : State) (t : Nat) (r : Region) : Bool :=
  t == 15 || ((owner s r).1 && (owner s r).2 == t)

/-- Where a near-memory address lies: stack, channel of the stack and address in the channel (R158, R159). -/
def nearPlace (a : Nat) : Nat × Nat × Nat :=
  let g := a / 0x180000000
  let o := a % 0x180000000
  let line := o / 4096
  (g / 8, 4 * (g % 8) + line % 4, line / 4 * 4096 + o % 4096)

/-- Where a Storeroom address lies: channel and address in the channel (R161). -/
def roomPlace (a : Nat) : Nat × Nat :=
  let o := a - roomBase
  let line := o / 4096
  (line % 32, line / 32 * 4096 + o % 4096)

/-- The Storeroom channel of a local address (R161). -/
def channelOf (a : Nat) : Nat := (roomPlace a).1

/-- The fabric die that serves a Storeroom channel (R28, R160). -/
def channelDie (k : Nat) : Nat := k / 16

/-- The page that counts the faults of a part, by an address in it. -/
def faultPage (a : Nat) : Page :=
  match regionOf a with
  | .near g => ⟨.hbmc, g / 16⟩
  | .way c _ => ⟨.cstore, c⟩
  | .seg k _ => ⟨.cstore, k / 8⟩
  | _ => ⟨.storc, channelDie (channelOf a)⟩

/-- UNIT of a record about a line (R471): the cluster, the stack or the channel. -/
def lineUnit (s : State) (a : Nat) : Nat :=
  match regionOf a with
  | .near _ => (nearPlace a).1
  | .way c _ => physPos s c * 8
  | .seg k _ => physPos s (k / 8) * 8
  | _ => channelOf a

/-- The health part of a line (R376, R377): the die of a store, the stack or the channel. -/
def linePart (a : Nat) : Nat :=
  match regionOf a with
  | .near _ => 64 + (nearPlace a).1
  | .way c _ => diePart (c / 8)
  | .seg k _ => diePart (k / 64)
  | _ => 80 + channelOf a

/-- The stack or channel of a line is out of service (R365, R417). -/
def outOfService (s : State) (a : Nat) : Bool :=
  match regionOf a with
  | .near _ => s.boot.outOf.contains (nearPlace a).1
  | .room _ => s.boot.outOf.contains (64 + channelOf a)
  | _ => false

/-- A domain is resetting, by code and index (R364). -/
def inReset (s : State) (code i : Nat) : Bool := s.resets.active.any (fun d => d.1 == code * 4096 + i)

/-- What holds the address is in a domain under reset, into which requests wait (R30, R365, R367). -/
def heldByReset (s : State) (a : Nat) : Bool :=
  match regionOf a with
  | .near g => inReset s 4 (g / 8) || inReset s 3 (g / 16)
  | .way c _ => inReset s 2 c || inReset s 3 (c / 8)
  | .seg k _ => inReset s 1 k || inReset s 2 (k / 8) || inReset s 3 (k / 64)
  | .room _ => inReset s 6 (channelDie (channelOf a))
  | .reg | .hole => false

/-- The counter of poisoned lines of a page, and of refused accesses. -/
def ueField (b : Blk) : Fld :=
  match b with | .hbmc => Reg.HBMC_UE_COUNT | .cstore => Reg.CSTORE_UE_COUNT | _ => Reg.STORC_UE_COUNT

/-- The counter of refused accesses of a page. -/
def ofField (b : Blk) : Fld :=
  match b with | .hbmc => Reg.HBMC_OWNER_FAULTS | .cstore => Reg.CSTORE_OWNER_FAULTS | _ => Reg.STORC_OWNER_FAULTS

/-- The lines of [a, a + n). -/
def linesOf (a n : Nat) : List Nat :=
  if n = 0 then [] else (List.range ((a + n - 1) / 64 - a / 64 + 1)).map (a / 64 + ·)

/-- A set's class (R280): 0 UNCACHED, 1 CONTROL, 2 PARAM. -/
def setClass (s : State) (g : Nat) : Nat :=
  let fs := [Reg.MSF_SET_CLASS_0, Reg.MSF_SET_CLASS_1, Reg.MSF_SET_CLASS_2, Reg.MSF_SET_CLASS_3, Reg.MSF_SET_CLASS_4,
    Reg.MSF_SET_CLASS_5, Reg.MSF_SET_CLASS_6, Reg.MSF_SET_CLASS_7, Reg.MSF_SET_CLASS_8, Reg.MSF_SET_CLASS_9,
    Reg.MSF_SET_CLASS_10, Reg.MSF_SET_CLASS_11, Reg.MSF_SET_CLASS_12, Reg.MSF_SET_CLASS_13, Reg.MSF_SET_CLASS_14,
    Reg.MSF_SET_CLASS_15]
  rget s (fs.getD (g % 16) Reg.MSF_SET_CLASS_0) 0 (g / 16)

/-- The class of a local address: only near memory can be CONTROL or PARAM (R280). -/
def classOf (s : State) (a : Nat) : Nat :=
  match regionOf a with | .near g => setClass s g | _ => 0

/-- The key of a line in the die cache of CDn, by the line's global address / 64. -/
def cacheKey (n gline : Nat) : Nat := n * 2 ^ 60 + gline

/-- The global address / 64 of a line of this module. -/
def ownLine (s : State) (line : Nat) : Nat := rget s Reg.ROUTE_OWN_DEV * 2 ^ 42 + line

/-- A CONTROL line leaves every die cache before a write to it becomes visible (R282). -/
def invalControl (s : State) (line : Nat) : State :=
  match mapFind s.msf.dir line with
  | none => s
  | some h =>
    let ds := (List.range 8).filter (fun n => h.getLsbD n)
    let cache := ds.foldl (fun c n => mapErase c (cacheKey n (ownLine s line))) s.msf.cache
    let s := { s with msf := { s.msf with cache := cache, dir := mapErase s.msf.dir line } }
    rinc s Reg.MSF_INVAL_LINES 0 0 ds.length

/-- A line becomes poisoned: counted, recorded, its address held, charged (R95, R167). -/
def poisonLine (s : State) (line : Nat) : State :=
  let a := 64 * line
  let p := faultPage a
  let s := { s with poison := addOnce s.poison line }
  let s := rinc s (ueField p.blk) p.inst
  let s := match p.blk with
    | .hbmc => rset64 s Reg.HBMC_POISON_ADDR_LO Reg.HBMC_POISON_ADDR_HI p.inst 0 a
    | .storc => rset64 s Reg.STORC_POISON_ADDR_LO Reg.STORC_POISON_ADDR_HI p.inst 0 a
    | _ => s
  let s := raise s (evOf (ueField p.blk) 0 p.die (lineUnit s a) 15 none [a, 0])
  charge s 1 (linePart a)

/-- A corrected error of a line: counted and charged (R95, R167). -/
def correctedLine (s : State) (line : Nat) : State :=
  let a := 64 * line
  let p := faultPage a
  let f := match p.blk with
    | .hbmc => if lineUnit s a % 2 = 0 then Reg.HBMC_CE_COUNT_LO else Reg.HBMC_CE_COUNT_HI
    | .cstore => Reg.CSTORE_CE_COUNT
    | _ => Reg.STORC_CE_COUNT
  charge (rinc s f p.inst) 0 (linePart a)

/-- The error that a line holds, replaced: 0 none (R95, R166). -/
def setFlaw (s : State) (line k : Nat) : State :=
  { s with fills := { s.fills with flaws := if k = 0 then mapErase s.fills.flaws line else mapSet s.fills.flaws line k } }

/-- A controller reads a line: an error that its code corrects is corrected and written back, one that it only detects poisons the line
(R95, R166, R167). -/
def readLine (s : State) (line : Nat) : State :=
  match mapFind s.fills.flaws line with
  | none => s
  | some k => if k = 1 then correctedLine (setFlaw s line 0) line else poisonLine (setFlaw s line 0) line

/-- The lines of an access as the controllers read them. -/
def readLines (s : State) (l : List Nat) : State := l.foldl readLine s

/-- A line written while its die provokes ECC errors on writes: it holds an error until it is next read (R95, R166, R399, R400). -/
def provokeEcc (s : State) (line : Nat) : State :=
  let a := 64 * line
  let d := (faultPage a).die
  let u := lineUnit s a
  let c := pertCheck s d 7 u
  let s := if c.1 then setFlaw c.2 line 1 else c.2
  let p := pertCheck s d 8 u
  if p.1 then setFlaw p.2 line 2 else p.2

/-- A sequence of accesses of one tenant: the state they reach and the faults they meet (R92, R138, R164, R167). -/
structure Access where
  s : State
  tenant : Nat
  dk : Option DocketWords
  /-- completion codes of the faults met -/
  faults : List Nat
  /-- first offending global address (R470) -/
  bad : Option Nat
  /-- an access waits: for a zero-fill, or for a reset of what holds the address (R93, R165, R367) -/
  stalled : Bool
  /-- non-finite elements in what has been written (R68) -/
  nonfinite : Nat
deriving DecidableEq, Repr

/-- An access sequence at its start. -/
def Access.start (s : State) (tenant : Nat) (dk : Option DocketWords) : Access :=
  { s, tenant, dk, faults := [], bad := none, stalled := false, nonfinite := 0 }

/-- A fault met. -/
def Access.fault (x : Access) (code : Nat) : Access := { x with faults := addOnce x.faults code }

/-- Non-finite elements written (R68). -/
def Access.count (x : Access) (n : Nat) : Access := { x with nonfinite := x.nonfinite + n }

/-- An invalid address met: the first is kept (R470). -/
def Access.invalid (x : Access) (a : Nat) : Access :=
  { x.fault 4 with bad := some (x.bad.getD a) }

/-- The record and count of a refused access (R92, R164). -/
def Access.refused (x : Access) (a : Nat) : Access :=
  let p := faultPage a
  let s := rinc x.s (ofField p.blk) p.inst
  let s := raise s (evOf (ofField p.blk) 0 p.die (lineUnit s a) x.tenant (x.dk.map (fun d => { d with status := 2 })) [a])
  { x.fault 2 with s := s }

/-- The record of a poisoned line met by a docket (R167). -/
def Access.poisoned (x : Access) (line : Nat) : Access :=
  let a := 64 * line
  let p := faultPage a
  let s := raise x.s (evOf (ueField p.blk) 0 p.die (lineUnit x.s a) x.tenant
    (x.dk.map (fun d => { d with status := 3 })) [a, 1])
  { x.fault 3 with s := s }

/-- The first address of [a, a + n) in a hole, in the register space or past the map (R88, R157, R470). -/
def firstHole (a n : Nat) : Option Nat :=
  ((linesOf a n).find? (fun l => regionOf (64 * l) == .hole || regionOf (64 * l) == .reg)).map (fun l => max a (64 * l))

/-- A hole, the register space or an address past the map lies in [a, a + n). -/
def hasHole (a n : Nat) : Bool := (firstHole a n).isSome

/-- The global address of a local address of this module (R14). -/
def ownGlobal (s : State) (a : Nat) : Nat := rget s Reg.ROUTE_OWN_DEV * 2 ^ 48 + a

/-- The lines of an access that the tenant may not touch. -/
def refusedLines (s : State) (t a n : Nat) : List Nat :=
  (linesOf a n).filter (fun l => !mayAccess s t (regionOf (64 * l)))

/-- A line of the access lies in a part being filled, or in a domain under reset (R93, R165, R367). -/
def fillStall (s : State) (a n : Nat) : Bool :=
  (linesOf a n).any (fun l => s.fills.busy.contains (regionOf (64 * l)).key || heldByReset s (64 * l))

-- refresh (R170 to R173) ----------------------------------------------------------------------------------------------

/-- A compute die is in self-refresh: asleep in P3 (R173). -/
def selfRefresh (s : State) (n : Nat) : Bool :=
  match mapFind s.power.sleep (576 + n) with | some (.asleep p) => decide (3 ≤ p.val) | _ => false

/-- Period, window and phase number of a unit's refresh, and whether it refreshes in windows now (R170, R172, R173). -/
def refreshOf (s : State) (u : RefreshUnit) : Nat × Nat × Nat × Bool :=
  match u with
  | .set g =>
    let n := g.val / 16
    let p := rget s Reg.HBMC_REFRESH_PERIOD_NS n
    let hot := bitAt (rget s Reg.HBMC_HOT n) (g.val / 8 % 2)
    (if hot then p / 2 else p, rget s Reg.HBMC_REFRESH_WINDOW_NS n, g.val % 4,
      rget s Reg.HBMC_REFRESH_MODE n == 0 && !selfRefresh s n)
  | .channel k =>
    let f := k.val / 16
    (rget s Reg.STORC_REFRESH_PERIOD_NS f, rget s Reg.STORC_REFRESH_WINDOW_NS f, k.val % 4,
      rget s Reg.STORC_REFRESH_MODE f == 0)

/-- Page and cutoff of a unit (R170, R176, R177). -/
def refreshPage (s : State) (u : RefreshUnit) : Page × Fld × Nat :=
  match u with
  | .set g => (⟨.hbmc, g.val / 16⟩, Reg.HBMC_REFRESH_WAITS, rget s Reg.HBMC_ISSUE_CUTOFF_NS (g.val / 16))
  | .channel k => (⟨.storc, k.val / 16⟩, Reg.STORC_REFRESH_WAITS, rget s Reg.STORC_ISSUE_CUTOFF_NS (k.val / 16))

/-- Time until the refresh in progress at this Fabric Time is over, its cutoff with it; 0 where a request is served at once (R170). -/
def refreshWait (s : State) (u : RefreshUnit) : Nat :=
  let r := refreshOf s u
  let cut := (refreshPage s u).2.2
  let p := max 1 r.1
  let into := (s.time.ft.toNat + cut + (p - r.2.2.1 * r.1 / 4 % p)) % p
  if r.2.2.2 && into < cut + r.2.1 then cut + r.2.1 - into else 0

/-- The sets and channels that lines lie in, each once. -/
def refreshUnits (l : List Nat) : List RefreshUnit :=
  (l.filterMap (fun l => match regionOf (64 * l) with
    | .near g => if h : g < 128 then some (.set ⟨g, h⟩) else none
    | .room _ => some (.channel ⟨channelOf (64 * l) % 32, Nat.mod_lt _ (by decide)⟩)
    | _ => none)).eraseDups

/-- Requests to near memory or the Storeroom that come in a cutoff or a window are counted and served once it is over (R170, R176, R177;
log entry 29). -/
def awaitRefresh (s : State) (l : List Nat) : State :=
  let due := (refreshUnits l).filter (fun u => refreshWait s u != 0)
  if due = [] then s
  else
    let n := (due.map (refreshWait s)).foldl max 0
    advance (due.foldl (fun s u => let p := refreshPage s u; rinc s p.2.1 p.1.inst) s) n

-- reads and writes ----------------------------------------------------------------------------------------------------

/-- A read of n bytes at local address a: refused lines read zero, each counted and recorded; a poisoned or out-of-service line gives free
values; a read with both reads zero (R92, R95, R138, R164, R167; log entry 11). -/
def Access.rd (x : Access) (a n : Nat) : List Byte × Access :=
  match firstHole a n with
  | some h => (List.replicate n 0, x.invalid (ownGlobal x.s h))
  | none =>
    let no := refusedLines x.s x.tenant a n
    let yes := (linesOf a n).filter (fun l => !no.contains l)
    let x := { x with s := readLines (awaitRefresh x.s yes) yes, stalled := x.stalled || fillStall x.s a n }
    let sick := yes.filter (fun l => x.s.poison.contains l || outOfService x.s (64 * l))
    let f := freeVal x.s
    let mem := memWindow x.s.mem a n
    let bytes := (List.range n).map (fun i =>
      let l := (a + i) / 64
      if no.contains l || (no != [] && sick != []) then (0 : Byte)
      else if sick.contains l then BitVec.ofNat 8 (f.1 / 256 ^ i)
      else memGet mem (a + i))
    let x := if sick = [] then x else { x.fault 3 with s := f.2 }
    let x := (sick.filter (fun l => x.s.poison.contains l)).foldl (fun x l => x.poisoned l) x
    (bytes, no.foldl (fun x l => x.refused (max a (64 * l))) x)

/-- The bytes of a write that fall into one line, stored; a part of a line by a read-modify-write (R92, R95, R164, R168, R282). -/
def Access.wrLine (x : Access) (a : Nat) (data : List Byte) (line : Nat) : Access :=
  let lo := max a (64 * line)
  let hi := min (a + data.length) (64 * line + 64)
  let whole := lo = 64 * line ∧ hi = 64 * line + 64
  if ¬ mayAccess x.s x.tenant (regionOf (64 * line)) then x.refused lo
  else if outOfService x.s (64 * line) then x.fault 3
  else
    let x := { x with s := if whole then setFlaw x.s line 0 else readLine x.s line }
    if ¬ whole ∧ x.s.poison.contains line then x.poisoned line
    else
      let s := if classOf x.s (64 * line) = 1 then invalControl x.s line else x.s
      { x with s := provokeEcc { s with
          mem := memWrite s.mem lo ((data.drop (lo - a)).take (hi - lo))
          poison := if whole then dropAll s.poison line else s.poison } line }

/-- A write at local address a, line by line: refused lines are discarded, each counted and recorded (R92, R138, R164, R168). -/
def Access.wr (x : Access) (a : Nat) (data : List Byte) : Access :=
  let n := data.length
  match firstHole a n with
  | some h => x.invalid (ownGlobal x.s h)
  | none =>
    let yes := (linesOf a n).filter (fun l => mayAccess x.s x.tenant (regionOf (64 * l)))
    let x := { x with s := awaitRefresh x.s yes, stalled := x.stalled || fillStall x.s a n }
    (linesOf a n).foldl (fun x l => x.wrLine a data l) x

/-- A read of a number. -/
def Access.rdNat (x : Access) (a n : Nat) : Nat × Access := let r := x.rd a n; (leNat r.1, r.2)

/-- A write of a number. -/
def Access.wrNat (x : Access) (a n v : Nat) : Access := x.wr a (natLe v n)

/-- The completion code that ranks first among the faults (R138); 0 where there are none. -/
def worst (l : List Nat) : Nat :=
  if l.contains 4 then 4 else if l.contains 2 then 2 else if l.contains 8 then 8 else if l.contains 3 then 3
  else if l.contains 9 then 9 else 0

/-- The counter way of tenant t in cluster c (R94). -/
def counterWay (s : State) (c t : Nat) : Option Nat :=
  if rget s Reg.CSTORE_CTR_WAY_VALID c t = 1 then some (rget s Reg.CSTORE_CTR_WAY_WAY c t) else none

/-- Local address of counter i of tenant t in cluster c (R94). -/
def counterAddr (s : State) (c t i : Nat) : Option Nat :=
  (counterWay s c t).map (fun w => clusterBase c + w * 0x200000 + 0x1F8000 + 8 * i)

/-- The value of a counter, 0 where the tenant has none. -/
def counterVal (s : State) (c t i : Nat) : Nat :=
  match counterAddr s c t i with | none => 0 | some a => memNat s a 8

/-- n added to a counter, or an owner fault where the tenant has no counter way (R94, R118). -/
def Access.counterAdd (x : Access) (c t i n : Nat) : Access :=
  match counterAddr x.s c t i with
  | none => x.fault 2
  | some a =>
    let x := { x with s := readLine x.s (a / 64) }
    if x.s.poison.contains (a / 64) then x.poisoned (a / 64)
    else { x with s := memSetNat x.s a 8 ((memNat x.s a 8 + n) % 2 ^ 64),
                  stalled := x.stalled || fillStall x.s a 8 || x.s.fills.counters.contains (16 * c + t) }

end Sys2Proof.Machine
end

