-- ==== Sys2Proof/Machine/BusOps.lean ====
section
/-! DEFINITION. Sys2Proof/Machine/BusOps.lean: what every register write is checked for: its writer, a freeze, the expert
level and the field's range (R396, R429, R431 to R433), the clamping of one field, and the sleeping units that a write wakes
(R415, R416). -/

namespace Sys2Proof.Machine

/-- A page of the AO domain stays writable in a freeze (R396). -/
def Page.ao (p : Page) : Bool := p.blk == .ledger || p.blk == .freeze || p.blk == .smb

/-- The writer may write the field (R429 and the page's own rule). -/
def permitted (f : Fld) (idx : Nat) (w : Writer) : Bool :=
  match f.perm with
  | .any => true
  | .plat => w.tenant.val == 15
  | .own => w.tenant.val == 15 || w.tenant.val == idx

/-- The smallest distance from v to a multiple of step within lo to hi (R406). -/
def nearestStep (step lo hi v : Nat) : Nat :=
  let v := clampNat lo hi v
  let d := v / step * step
  if v - d ≤ d + step - v then d else d + step

/-- The gate numbers of a die (R58). -/
def gates (d : Nat) : List Nat :=
  match dieKind d with
  | 0 => (List.range 11) ++ (List.range 72).map (16 + ·) ++ (List.range 288).map (128 + ·)
  | 1 => List.range 11
  | _ => List.range 10

/-- The clock numbers that a meter of a die may name (R63). -/
def clockNumbers (d : Nat) : List Nat :=
  if dieKind d = 0 then [0, 1, 2, 3, 4, 5, 8, 9, 10, 11, 12, 13, 14, 15, 16] else [0, 1, 2, 3, 4, 5]

/-- The shares of VC_MIN, VC 0 first. -/
def vcShares (v : Nat) : List Nat := (List.range 8).map (fun i => bitsAt v (4 * i) 4)

/-- One unit at a time taken from the largest share, the lowest VC among equals, until the sum is 48 (R266). -/
def vcReduce (l : List Nat) (fuel : Nat) : List Nat :=
  match fuel with
  | 0 => l
  | n + 1 =>
    if l.sum ≤ 48 then l
    else
      let m := l.foldl max 0
      vcReduce (l.set (firstIdx l (· == m)) (m - 1)) n

/-- VC_MIN within its range: each share 1 to 15, the sum at most 48 (R266). -/
def vcClamp (v : Nat) : Nat :=
  let l := vcReduce ((vcShares v).map (max 1)) 128
  (List.range 8).foldl (fun acc i => acc + l.getD i 0 * 16 ^ i) 0

/-- A value brought into the range of its field (R432). -/
def clampRng (r : Rng) (inst v : Nat) : Nat :=
  match r with
  | .any => v
  | .span lo hi => clampNat lo hi v
  | .over hi d => if v > hi then d else v
  | .align k => v / 2 ^ k * 2 ^ k
  | .steps step lo hi => nearestStep step lo hi v
  | .zeroOr lo hi => if v = 0 then 0 else clampNat lo hi v
  | .oneOf l d => if l.contains v then v else d
  | .gate => if (gates inst).contains v then v else 0
  | .clk => if (clockNumbers inst).contains v then v else 0
  | .vcMin => vcClamp v

-- the clocks of a die (R52 to R58) ------------------------------------------------------------------------------------

/-- The logical cluster that a physical position of a compute die serves (R23). -/
def clusterAt (s : State) (d k : Nat) : Option Nat :=
  match mapFind s.boot.mapped d with
  | none => if k < 8 then some (8 * d + k) else none
  | some x => if k = 8 then some (8 * d + x) else if k = x then none else some (8 * d + k)

/-- Nominal frequency of a clock of a die in MHz (R52, R55). -/
def nominalMHz (s : State) (d k : Nat) : Nat :=
  match k with
  | 0 | 1 => 25
  | 2 => 10
  | 3 => 1000
  | 4 => 200
  | 5 => 1200
  | _ => match clusterAt s d (k - 8) with | some l => rget s Reg.POWER_CCLK_APPLIED 0 l | none => 25

/-- The meter's configuration in its present window: the page's reset values until the first window has ended (R63). -/
def meterCfg (s : State) (d m : Nat) : MeterCfg :=
  mapGet (clockOf s d).meters m
    { ref := rstVal Reg.CLOCK_METER_REF d m, clk := rstVal Reg.CLOCK_METER_CLK d m,
      fail := rstVal Reg.CLOCK_METER_BAND_FAIL d m, warn := rstVal Reg.CLOCK_METER_BAND_WARN d m
      mhz := nominalMHz s d (rstVal Reg.CLOCK_METER_CLK d m) }

/-- The present windows of the meters of a die that measure one of these clocks are to be discarded (R55). -/
def spoil (s : State) (d : Nat) (ks : List Nat) : State :=
  match (List.range 8).filter (fun m => ks.contains (meterCfg s d m).clk) with
  | [] => s
  | ms =>
    let c := clockOf s d
    setClock s d { c with spoiled := ms.foldl addOnce c.spoiled }

/-- The PLL outputs of a die by clock number (R63). -/
def pllsOf (d : Nat) : List Nat := (clockNumbers d).filter (3 ≤ ·)

/-- The die and the clocks of a switched domain (R403). -/
def domainClocks (i : Nat) : Nat × List Nat :=
  if i < 96 then (i / 12, if i % 12 < 9 then [8 + i % 12] else if i % 12 = 9 then [3, 4, 5] else [])
  else if i < 116 then (8 + (i - 96) / 10, if (i - 96) % 10 = 9 then [3, 4, 5] else [])
  else if 118 ≤ i ∧ i < 136 then (10 + (i - 118) / 9, if (i - 118) % 9 = 8 then [3, 4, 5] else [])
  else (0, [])

/-- A cluster's applied CCLK set: a change discards the windows that measure it (R55). -/
def setCclk (s : State) (c v : Nat) : State :=
  let s := if rget s Reg.POWER_CCLK_APPLIED 0 c = v then s else spoil s (c / 8) [8 + physPos s c]
  rset s Reg.POWER_CCLK_APPLIED 0 c v

-- sleeping units (R415, R416) ---------------------------------------------------------------------------------------

/-- Keys of sleeping units: core c, cluster 512 + c, compute die 576 + n, the module 584. -/
def clusterUnit (c : Nat) : Nat := 512 + c
/-- Key of a compute die. -/
def dieUnit (n : Nat) : Nat := 576 + n
/-- Key of the module. -/
def moduleUnit : Nat := 584

/-- What a unit does, where it is not awake. -/
def sleepOf (s : State) (k : Nat) : Option Sleep := mapFind s.power.sleep k

/-- The unit's state replaced; none is awake. -/
def setSleep (s : State) (k : Nat) (v : Option Sleep) : State :=
  let p := s.power
  { s with power := { p with sleep := match v with | none => mapErase p.sleep k | some x => mapSet p.sleep k x } }

/-- An unannounced event wakes a core, a cluster or a die and counts in EARLY_WAKES (R415). -/
def earlyWake (s : State) (k : Nat) : State :=
  if k = moduleUnit then s
  else match sleepOf s k with
    | some (.asleep n) => rinc (setSleep s k (some (.leaving n))) Reg.POWER_EARLY_WAKES
    | some (.entering n false) => rinc (setSleep s k (some (.entering n true))) Reg.POWER_EARLY_WAKES
    | _ => s

/-- The units of a list woken. -/
def wakeUnits (s : State) (l : List Nat) : State := l.foldl earlyWake s

/-- P4 ends on an event of R416: a module on its way in leaves once it has entered. -/
def wakeModule (s : State) : State :=
  match sleepOf s moduleUnit with
  | some (.asleep n) => setSleep s moduleUnit (some (.leaving n))
  | some (.entering n _) => setSleep s moduleUnit (some (.entering n true))
  | _ => s

/-- The sleeping units that a page lies in. -/
def unitsOfPage (p : Page) : List Nat :=
  match p.blk with
  | .lathe | .vec | .port | .clerk => [p.inst, clusterUnit (p.inst / 8), dieUnit (p.inst / 64)]
  | .cstore => [clusterUnit p.inst, dieUnit (p.inst / 8)]
  | .hbmc | .update | .dock => [dieUnit p.inst]
  | .clock | .perturb => if p.inst < 8 then [dieUnit p.inst] else []
  | _ => []

/-- A register write as an event: PCIe wakes the module from P4, and TC15 the units that the page lies in (R415, R416). -/
def wakeWrite (s : State) (w : Writer) (p : Page) : State :=
  let s := if w.input = 12 then wakeModule s else s
  if w.tenant = 15 then wakeUnits s (unitsOfPage p) else s

/-- A write to one field of a page that passes the checks of its writer, the expert level and a freeze goes on with k;
one that does not is discarded and reported (R396, R429, R431, R433). -/
def gated (s : State) (w : Writer) (p : Page) (f : Fld) (idx v : Nat) (k : State → State) : State :=
  let held := rget s f p.inst idx
  let s := if frozen s then s else wakeWrite s w p
  if !permitted f idx w then reportFld s p w f idx 1 v held
  else if f.off ≥ 0x800 && rget s Reg.HDR_EXPERT_EN p.num == 0 then reportFld s p w f idx 1 v held
  else if frozen s && !p.ao then reportFld s p w f idx 2 v held
  else k s

/-- A field set to the legal value nearest to v, with a report where it differs (R432, R433). -/
def setClamped (s : State) (w : Writer) (p : Page) (f : Fld) (idx v : Nat) : State :=
  let v := v % 2 ^ f.width
  let c := clampRng f.rng p.inst v
  let s := rset s f p.inst idx c
  if c = v then s else reportFld s p w f idx 0 v c

/-- A write to a crossing field has taken effect and awaits its acknowledgement (R61; log entry 12). -/
def crossing (s : State) (p : Page) (f : Fld) (idx : Nat := 0) : State :=
  { s with sbus := { s.sbus with crossing := (p.num, regKey f p.inst idx) :: s.sbus.crossing } }

/-- A write to this field waits: an earlier one to it is not acknowledged, or a write to its page waits already (R61, R436). -/
def crossBusy (s : State) (p : Page) (f : Fld) (idx : Nat := 0) : Bool :=
  s.sbus.crossing.contains (p.num, regKey f p.inst idx) || s.sbus.crossQ.any (fun x => x.blk == p.blk && x.inst == p.inst)

/-- A write to a crossing field: it takes effect with k and awaits its acknowledgement, or is queued behind an earlier one (R59, R61). -/
def cross (s : State) (w : Writer) (p : Page) (f : Fld) (idx v : Nat) (k : State → State) : State :=
  if crossBusy s p f idx then
    { s with sbus := { s.sbus with crossQ := s.sbus.crossQ ++ [{ by' := w, blk := p.blk, inst := p.inst, f, idx, v }] } }
  else crossing (k s) p f idx

/-- STATUS.PENDING of a page (R430): a crossing write, or a queued ownership write on a page with ownership fields. -/
def pagePending (s : State) (p : Page) : Bool :=
  s.sbus.crossing.any (fun x => x.1 == p.num) || s.sbus.crossQ.any (fun x => x.blk == p.blk && x.inst == p.inst) ||
    s.fills.queued.any (fun q => !q.2.isEmpty && match p.blk with
      | .cstore => (q.1 < 16384 && q.1 / 128 == p.inst)
          || (16384 ≤ q.1 && q.1 < 32768 && (q.1 - 16384) / 16 == p.inst)
      | .hbmc => 32768 ≤ q.1 && q.1 < 65536 && (q.1 - 32768) / 16 == p.inst
      | .storc => p.inst == 0 && 65536 ≤ q.1 && q.1 < 131072
      | _ => false)
    || (p.blk == .route && s.resets.ownGen.isSome)

end Sys2Proof.Machine
end

