-- ==== Sys2Proof/Machine/Clocks.lean ====
section
/-! DEFINITION. Sys2Proof/Machine/Clocks.lean: Fabric Time, its references and followers, oscillators, meters and the gate
tree: R39 to R63, R456. -/

namespace Sys2Proof.Machine

/-- The FTIME page. -/
def ftimePage : Page := ⟨.ftime, 0⟩

/-- FT is INVALID on a die: the package's state reads INVALID, or the die's FTCLK coasts (R56). -/
def ftInvalid (s : State) (d : Nat) : Bool :=
  rget s Reg.FTIME_SYNC_STATE == 4 || (clockOf s d).coast.contains 3

/-- The follower's state after a write of ROLE, or as though it had been written (R50, R56). -/
def roleEntry (s : State) : State :=
  let st := if rget s Reg.FTIME_ROLE = 2 then 1 else 0
  let s := rset s Reg.FTIME_SYNC_STATE 0 0 st
  { s with time := { s.time with stepped := false, streak := 0, lastWord := s.time.cyc, slew := 0, slewPhase := 0,
                                 pause := 0 } }

/-- ROLE applied (R44, R50, R62): INVALID is left only when FTCLK relocks (R56). -/
def roleApply (w : Writer) (v : Nat) (s : State) : State :=
  cross s w ftimePage Reg.FTIME_ROLE 0 v (fun s =>
    let s := setClamped s w ftimePage Reg.FTIME_ROLE 0 v
    if rget s Reg.FTIME_SYNC_STATE = 4 then { roleEntry s with regs := s.regs } else roleEntry s)

/-- ROLE_WRITE. -/
def execRoleWrite (by' : Writer) (v : BitVec 2) (s : State) : Host.Outcome State Fault Refusal :=
  .next (gated s by' ftimePage Reg.FTIME_ROLE 0 v.toNat (roleApply by' v.toNat))

/-- Every ready flag that a source needs is set (R46). -/
def sourceReady (s : State) (v : Nat) : Bool :=
  let r := rget s Reg.FTIME_REF_READY
  match v with
  | 0 => true
  | 1 => bitAt r 0 && bitAt r 1
  | 2 => bitAt r 2
  | _ => bitAt r 3

/-- The source in force set: what the former source still had to slew is given up, and a PTP timescale is yet to be taken (R45, R47). -/
def setSource (s : State) (v : Nat) : State :=
  rset { s with time := { s.time with slew := 0, slewPhase := 0, ptpStep := false } } Reg.FTIME_SOURCE 0 0 v

/-- SOURCE applied, or refused where a ready flag is missing (R46). -/
def sourceApply (w : Writer) (v : Nat) (s : State) : State :=
  cross s w ftimePage Reg.FTIME_SOURCE 0 v (fun s =>
    if sourceReady s v then setSource s v
    else reportFld s ftimePage w Reg.FTIME_SOURCE 0 2 v (rget s Reg.FTIME_SOURCE))

/-- SOURCE_WRITE. -/
def execSourceWrite (by' : Writer) (v : BitVec 2) (s : State) : Host.Outcome State Fault Refusal :=
  .next (gated s by' ftimePage Reg.FTIME_SOURCE 0 v.toNat (sourceApply by' v.toNat))

/-- SET applied with both halves (R45, R62): only while STANDALONE; never behind FT once the module has joined. The halves stay in SET for a
later write of SET_HI alone (log entry 23). -/
def setApply (w : Writer) (v : W64) (s : State) : State :=
  cross (rset64 s Reg.FTIME_SET_LO Reg.FTIME_SET_HI 0 0 v.toNat) w ftimePage Reg.FTIME_SET_HI 0 v.toNat (fun s =>
    let ft := s.time.ft
    if rget s Reg.FTIME_ROLE ≠ 0 then reportFld s ftimePage w Reg.FTIME_SET_HI 0 2 v.toNat ft.toNat
    else if s.time.joined ∧ v < ft then reportFld s ftimePage w Reg.FTIME_SET_HI 0 0 v.toNat ft.toNat
    else { s with time := { s.time with ft := v, slew := 0, slewPhase := 0 } })

/-- The one-way delay of a link in whole ticks, to nearest, ties to even (R50). -/
def delayNs (s : State) (l : Nat) : Nat :=
  let d := rget s Reg.FTIME_LINK_DELAY 0 l
  let q := d / 1000
  let r := d % 1000
  if r < 500 then q else if r > 500 then q + 1 else if q % 2 = 0 then q else q + 1

/-- HOLDOVER is entered (R50). -/
def enterHoldover (s : State) : State :=
  let s := rset s Reg.FTIME_SYNC_STATE 0 0 3
  rbit s Reg.FTIME_EVENTS 0 0 2 true

/-- A step of FT by o (R40, R50): in either direction before the module has joined; afterwards forward, or a pause. -/
def stepFt (s : State) (o : Int) : State :=
  let t := { s.time with slew := 0 }
  if ¬ s.time.joined ∨ 0 < o then
    { s with time := { t with ft := BitVec.ofInt 64 (s.time.ft.toNat + o) } }
  else { s with time := { t with pause := o.natAbs } }

/-- The ACQUIRE step (R50). -/
def acquireStep (s : State) (o : Int) : State := stepFt { s with time := { s.time with stepped := true } } o

/-- A word after the step: slewing once the step's pause is over, LOCKED after 16 words within 4 ticks, HOLDOVER beyond 64 ticks (R50). -/
def followWord (s : State) (o : Int) : State :=
  let streak := if o.natAbs ≤ 4 then s.time.streak + 1 else 0
  let s := { s with time := { s.time with slew := if s.time.pause = 0 then o else 0, streak := streak } }
  let st := rget s Reg.FTIME_SYNC_STATE
  if st = 2 ∧ 64 < o.natAbs then
    let s := rbit (enterHoldover s) Reg.FTIME_EVENTS 0 0 3 true
    raise s (evOf Reg.FTIME_EVENTS 0 8 0 15 none [twos 64 o])
  else if st ≠ 2 ∧ 16 ≤ streak then
    { rset s Reg.FTIME_SYNC_STATE 0 0 2 with time := { s.time with joined := true } }
  else s

/-- A follower takes an accepted word of its parent link (R49, R50). -/
def takeTimeWord (s : State) (l : LinkId) (wordFt : W64) : State :=
  let st := rget s Reg.FTIME_SYNC_STATE
  if frozen s ∨ rget s Reg.FTIME_ROLE ≠ 2 ∨ rget s Reg.FTIME_PARENT_LINK ≠ l.val ∨ st = 4 then s
  else
    let o := (wordFt + BitVec.ofNat 64 (delayNs s l.val) - s.time.ft).toInt
    let s := rset s Reg.FTIME_OFFSET 0 0 (twos 32 o)
    let s := { s with time := { s.time with lastWord := s.time.cyc } }
    if s.time.stepped then followWord s o
    else
      let s := rset s Reg.FTIME_SYNC_STATE 0 0 1
      let s := acquireStep s o
      { s with time := { s.time with streak := if o.natAbs ≤ 4 then 1 else 0 } }

/-- TIME_WORD_RECEIVED: an accepted word that no FLIT_RECEIVED carries (R49, R50). -/
def execTimeWordReceived (l : LinkId) (wordFt : W64) (s : State) : Host.Outcome State Fault Refusal := .next (takeTimeWord s l wordFt)

/-- HOLDOVER_TIMEOUT: HOLDOVER_WORDS intervals of 4,096 ticks without a word (R50). -/
def execHoldoverTimeout (s : State) : Host.Outcome State Fault Refusal :=
  .next (
    let st := rget s Reg.FTIME_SYNC_STATE
    if frozen s ∨ rget s Reg.FTIME_ROLE ≠ 2 ∨ st = 3 ∨ st = 4 then s
    else
      let s := advanceTo s (s.time.lastWord + 4096 * rget s Reg.FTIME_HOLDOVER_WORDS)
      enterHoldover { s with time := { s.time with slew := 0, streak := 0 } })

/-- FTREF is lost while it is the source: the event, its record, and XTAL (R47). -/
def ftrefFallback (s : State) (bit : Nat) : State :=
  if rget s Reg.FTIME_SOURCE = 1 then
    let s := rbit s Reg.FTIME_EVENTS 0 0 bit true
    let s := raise s (evOf Reg.FTIME_EVENTS 0 8 0)
    setSource s 0
  else s

/-- The signed distance from FT to the nearest multiple of 10^9 ticks, the lower one where two are as near (R45; log entry 23). -/
def toMark (ft : W64) : Int :=
  let r : Int := ft.toNat % 1000000000
  if r ≤ 500000000 then -r else 1000000000 - r

/-- FTSYNC_EDGE: a rising edge, the given XTAL cycles after the previous one (R45 to R47). Every edge while FTSYNC_READY is set is accepted for
phase, one at a bad interval too (DEDUCED, log entry 23). -/
def execFtsyncEdge (xtalCycles : Nat) (s : State) : Host.Outcome State Fault Refusal :=
  .next (
    if frozen s then s
    else
      let ok := s.time.sawPulse && 24997500 ≤ xtalCycles && xtalCycles ≤ 25002500
      let n := if ok then s.time.goodSync + 1 else 0
      let s := { s with time := { s.time with sawPulse := true, missedSync := 0, goodSync := n } }
      let s := if 2 ≤ n then rbit s Reg.FTIME_REF_READY 0 0 1 true else s
      if rget s Reg.FTIME_SOURCE = 1 ∧ rget s Reg.FTIME_ROLE = 1 ∧ bitAt (rget s Reg.FTIME_REF_READY) 1 then
        { s with time := { s.time with slew := toMark s.time.ft } }
      else s)

/-- FTSYNC_MISSED: two missed pulses in a row clear FTSYNC_READY (R47). -/
def execFtsyncMissed (s : State) : Host.Outcome State Fault Refusal :=
  .next (
    if frozen s then s
    else
      let n := s.time.missedSync + 1
      let s := { s with time := { s.time with missedSync := n, goodSync := 0 } }
      if n = 2 then ftrefFallback (rbit s Reg.FTIME_REF_READY 0 0 1 false) 0 else s)

/-- FT follows the PTP timescale of the port that SOURCE selects: a step at the first Sync after the selection, or a pause where FT would move
backward after joining, and slewing from then on (R40, R45; log entry 23). -/
def ptpFollow (s : State) (ptpNs : W64) : State :=
  let o := (ptpNs - s.time.ft).toInt
  if !s.time.ptpStep then stepFt { s with time := { s.time with ptpStep := true } } o
  else { s with time := { s.time with slew := if s.time.pause = 0 then o else 0 } }

/-- PTP_SYNC: the servo of a port takes a Sync (R45, R46, R456). -/
def execPtpSync (m : MDie) (sync : PtpSync) (s : State) : Host.Outcome State Fault Refusal :=
  .next (
    if frozen s ∨ rget s Reg.ETH_PTP_EN m.val ≠ 1 then s
    else
      let e := mapGet s.eth m.val EthSt.reset
      let n := if sync.offsetNs.natAbs ≤ 50 then e.ptpStreak + 1 else 0
      let s := { s with eth := mapSet s.eth m.val { e with ptpStreak := n } }
      let s := rset s Reg.ETH_PTP_OFFSET_NS m.val 0 (twos 32 sync.offsetNs)
      let s :=
        if rget s Reg.ETH_PTP_LOCKED m.val = 1 ∧ 1000 < sync.offsetNs.natAbs then
          let s := rset s Reg.ETH_PTP_LOCKED m.val 0 0
          rbit (rinc s Reg.ETH_PTP_LOSSES m.val) Reg.FTIME_REF_READY 0 0 (2 + m.val) false
        else if 16 ≤ n then
          rbit (rset s Reg.ETH_PTP_LOCKED m.val 0 1) Reg.FTIME_REF_READY 0 0 (2 + m.val) true
        else s
      if rget s Reg.FTIME_SOURCE = 2 + m.val ∧ rget s Reg.FTIME_ROLE ≠ 2 then ptpFollow s sync.ptpNs else s)

/-- PTP_SYNC_LOSS: four Sync intervals without a Sync (R456). -/
def execPtpSyncLoss (m : MDie) (s : State) : Host.Outcome State Fault Refusal :=
  .next (
    let e := mapGet s.eth m.val EthSt.reset
    let s := { s with eth := mapSet s.eth m.val { e with ptpStreak := 0 } }
    if rget s Reg.ETH_PTP_LOCKED m.val = 1 then
      let s := rset s Reg.ETH_PTP_LOCKED m.val 0 0
      rbit (rinc s Reg.ETH_PTP_LOSSES m.val) Reg.FTIME_REF_READY 0 0 (2 + m.val) false
    else s)

-- oscillators and meters ----------------------------------------------------------------------------------------------

/-- A source selected: the PLLs of the die relock, their outputs gated meanwhile (R53, R55). -/
def startRelock (d v : Nat) (s : State) : State :=
  let s := spoil (rset s Reg.CLOCK_SOURCE_SEL d 0 v) d (pllsOf d)
  setClock s d { clockOf s d with relock := true }

/-- SOURCE_SEL applied, or refused while XTAL_READY is 0 (R52, R53). -/
def sourceSelApply (w : Writer) (d : Nat) (v : Nat) (s : State) : State :=
  if v = 1 ∧ rget s Reg.CLOCK_STATUS_XTAL_READY d = 0 then
    reportFld s ⟨.clock, d⟩ w Reg.CLOCK_SOURCE_SEL 0 2 v (rget s Reg.CLOCK_SOURCE_SEL d)
  else
    cross s w ⟨.clock, d⟩ Reg.CLOCK_SOURCE_SEL 0 v (startRelock d v)

/-- SOURCE_SEL_WRITE. -/
def execSourceSelWrite (by' : Writer) (d : DieId) (xtal : Bool) (s : State) : Host.Outcome State Fault Refusal :=
  .next (gated s by' ⟨.clock, d.val⟩ Reg.CLOCK_SOURCE_SEL 0 (b2n xtal) (sourceSelApply by' d.val (b2n xtal)))

/-- PLL_RELOCK_DONE: the PLLs of a die run from the selected source; FT leaves INVALID when FD0's FTCLK has relocked
(R53, R56). -/
def execPllRelockDone (d : DieId) (s : State) : Host.Outcome State Fault Refusal :=
  .next (
    let c := clockOf s d.val
    if ¬ c.relock then s
    else
      let s := setClock s d.val { c with relock := false, coast := [], src := rget s Reg.CLOCK_SOURCE_SEL d.val }
      let s := rset s Reg.CLOCK_STATUS_COAST d.val 0 0
      let s := (List.range 9).foldl (fun s k =>
        match clusterAt s d.val k with
        | some l => if c.coast.contains (8 + k) ∧ mapGet s.power.capHeld l 0 = 0 then
            setCclk s l (rget s Reg.POWER_CCLK_MHZ 0 l) else s
        | none => s) s
      if d.val = 8 ∧ rget s Reg.FTIME_SYNC_STATE = 4 then roleEntry s else s)

/-- The next window starts, with its configuration and the nominal frequency of its measured clock (R55, R63). -/
def meterNext (s : State) (d m : Nat) : State :=
  let c := clockOf s d
  let k := rget s Reg.CLOCK_METER_CLK d m
  let n : MeterCfg := {
    ref := rget s Reg.CLOCK_METER_REF d m, clk := k
    fail := rget s Reg.CLOCK_METER_BAND_FAIL d m, warn := rget s Reg.CLOCK_METER_BAND_WARN d m, mhz := nominalMHz s d k }
  setClock s d { c with meters := mapSet c.meters m n, spoiled := dropAll c.spoiled m }

/-- The reported deviation (R54): (count − expected) × 10^6 / expected, truncated toward zero. -/
def meterPpm (count fm fr : Nat) : Int :=
  Int.tdiv (((count : Int) * fr - 1048576 * fm) * 1000000) (1048576 * fm)

/-- The clocks that coast when a measured clock has failed: every PLL whose input it is, until a relock the source of the last one (R53, R56). -/
def coastFor (s : State) (d k : Nat) : List Nat :=
  if k = 2 then []
  else if 3 ≤ k then [k]
  else if (k = 0) = ((clockOf s d).src = 1) then pllsOf d else []

/-- PLLs begin to coast: CCLK at 400 MHz, FT INVALID where FD0's FTCLK coasts (R56). -/
def coast (s : State) (d : Nat) (ks : List Nat) : State :=
  if ks = [] then s
  else
    let c := clockOf s d
    let s := setClock s d { c with coast := ks.foldl addOnce c.coast }
    let s := rset s Reg.CLOCK_STATUS_COAST d 0 1
    let s := ks.foldl (fun s k => if k < 8 then s else
      match clusterAt s d (k - 8) with | some l => setCclk s l 400 | none => s) s
    if d = 8 ∧ ks.contains 3 then rset s Reg.FTIME_SYNC_STATE 0 0 4 else s

/-- WARN[m] sets (R56, R377). -/
def meterWarn (s : State) (d m : Nat) (ppm : Int) : State :=
  let s := rbit s Reg.CLOCK_STATUS_WARN d 0 m true
  let s := raise s (evOf Reg.CLOCK_STATUS_WARN 0 d 0 15 none [m, twos 64 ppm])
  charge s 8 (diePart d)

/-- FAIL[m] sets, and the failed clock coasts (R47, R56, R377). -/
def meterFail (s : State) (d m k : Nat) (ppm : Int) : State :=
  let s := rbit s Reg.CLOCK_STATUS_FAIL d 0 m true
  let s := raise s (evOf Reg.CLOCK_STATUS_FAIL 0 d 0 15 none [m, twos 64 ppm])
  let s := charge s 9 (diePart d)
  let s := coast s d (coastFor s d k)
  if d = 8 ∧ m = 1 ∧ k = 2 then
    ftrefFallback (rbit { s with time := { s.time with ftrefGood := 0 } } Reg.FTIME_REF_READY 0 0 0 false) 1
  else s

/-- The boot is between POWER_UP and PUBLISH (R417). -/
def bootSwitches (s : State) : Bool := 4 ≤ rget s Reg.PMC_BOOT_STAGE && rget s Reg.PMC_BOOT_STAGE ≤ 6

/-- XTAL_READY sets; during boot the PMC firmware then switches the die to XTAL (R52). -/
def xtalReady (s : State) (d : Nat) : State :=
  let s := rset s Reg.CLOCK_STATUS_XTAL_READY d 0 1
  if bootSwitches s ∧ rget s Reg.CLOCK_SOURCE_SEL d = 0 then startRelock d 1 s else s

/-- The ready flags that a window feeds (R46, R52). The four consecutive windows of XTAL_READY are windows of any meter of the die that
measures XTAL against IOSC, in one count (DEDUCED, log entry 23). -/
def meterReady (s : State) (d m k r : Nat) (ppm : Int) : State :=
  if k = 0 ∧ r = 1 then
    let c := clockOf s d
    let n := if ppm.natAbs ≤ 20000 then c.xtalGood + 1 else 0
    let s := setClock s d { c with xtalGood := n }
    if 4 ≤ n then xtalReady s d else s
  else if d = 8 ∧ m = 1 ∧ k = 2 ∧ r = 0 then
    let n := if ppm.natAbs ≤ 100 then s.time.ftrefGood + 1 else 0
    let s := { s with time := { s.time with ftrefGood := n } }
    if 4 ≤ n then rbit s Reg.FTIME_REF_READY 0 0 0 true else s
  else s

/-- A window of FD0's meter 1 that does not measure FTREF_10M against XTAL, or is discarded, ends a run of good ones (R46). -/
def ftrefRun (s : State) (d m k r : Nat) : State :=
  if d = 8 ∧ m = 1 ∧ ¬ (k = 2 ∧ r = 0) then { s with time := { s.time with ftrefGood := 0 } } else s

/-- The clocks that a gate feeds, of those that meters measure (R58, R63). -/
def gateClocks (d g : Nat) : List Nat :=
  if g = 0 then pllsOf d
  else match dieKind d with
    | 0 => if g ≤ 9 then [8 + (g - 1)] else if g = 10 then [5] else []
    | 1 => if g = 10 then [5] else []
    | _ => if g = 9 then [5] else []

/-- A measured clock has no edges: its gate is off, or its domain has no power (R55). -/
def clockOff (s : State) (d k : Nat) : Bool :=
  (clockOf s d).off.any (fun g => (gateClocks d g).contains k) ||
    (List.range 136).any (fun i => (domainClocks i).1 == d && (domainClocks i).2.contains k && !domainOn s i)

/-- METER_WINDOW_END: a window of 2^20 reference cycles ends with a count; where the reference has stopped no window does. It is discarded where its measured clock was gated, without power
or changed in it (R54 to R56). -/
def execMeterWindowEnd (d : DieId) (m : Fin 8) (count : W32) (refStopped : Bool) (s : State) : Host.Outcome State Fault Refusal :=
  .next (
    let c := meterCfg s d.val m.val
    if frozen s ∨ refStopped then s
    else if (clockOf s d.val).spoiled.contains m.val || clockOff s d.val c.clk then
      meterNext (if d = 8 ∧ m = 1 then { s with time := { s.time with ftrefGood := 0 } } else s) d.val m.val
    else
      let ppm := meterPpm count.toNat c.mhz (nominalMHz s d.val c.ref)
      let s := rset s Reg.CLOCK_METER_PPM d.val m.val (twos 32 ppm)
      let s := rset s Reg.CLOCK_METER_COUNT d.val m.val count.toNat
      let s := ftrefRun (meterReady s d.val m.val c.clk c.ref ppm) d.val m.val c.clk c.ref
      let s := if c.warn < ppm.natAbs then meterWarn s d.val m.val ppm else s
      let s := if c.fail < ppm.natAbs ∨ count = 0 then meterFail s d.val m.val c.clk ppm else s
      meterNext s d.val m.val)

-- the gate tree -------------------------------------------------------------------------------------------------------

/-- The parent of a gate (R58). -/
def gateParent (d g : Nat) : Nat :=
  if dieKind d = 0 ∧ 128 ≤ g then 16 + (g - 128) / 4
  else if dieKind d = 0 ∧ 16 ≤ g then 1 + (g - 16) / 8
  else 0

/-- The gates below a gate, the deepest first (R57). -/
def gatesBelow (d g : Nat) : List Nat :=
  ((gates d).filter (fun x => x ≠ g ∧ (gateParent d x = g ∨ gateParent d (gateParent d x) = g ∨
    gateParent d (gateParent d (gateParent d x)) = g) ∧ x ≠ 0)).reverse

/-- An engine queue has a docket in progress. -/
def inProgress (s : State) (q : Nat) : Bool := (mapGet s.queues q []).any (·.running)

/-- An engine fed by this gate itself has a docket in progress (R57, R58). -/
def gateBusy (s : State) (d g : Nat) : Bool :=
  match dieKind d with
  | 0 =>
    if 128 ≤ g then
      let k := (g - 128) / 32
      match clusterAt s d k with
      | some c => inProgress s (4 * (8 * c + (g - 128) / 4 % 8) + (g - 128) % 4)
      | none => false
    else g == 10 && inProgress s (2048 + d)
  | 1 => g == 9 && (inProgress s 2056 || inProgress s 2058)
  | _ =>
    if g = 9 then inProgress s (2062 + (d - 10)) || inProgress s (2060 + (d - 10))
    else g != 0 && bitsAt (rget s Reg.MILL_PIPES_BUSY (d - 10)) (4 * (g - 1)) 4 != 0

/-- The gates that refuse to let g be turned off: a child that is on, or a busy engine (R57). -/
def refusers (s : State) (d g : Nat) : List Nat :=
  let off := (clockOf s d).off
  (gates d).filter (fun x =>
    (gateParent d x = g ∧ x ≠ g ∧ x ≠ 0 ∧ ¬ off.contains x) ∨
    ((x = g ∨ (gatesBelow d g).contains x) ∧ gateBusy s d x = true))

/-- The request for one gate (R57). Where the busy engine is fed by the gate itself, and no child refuses, GATE_REFUSED names the gate itself
plus 1 (DEDUCED, log entry 23). -/
def gateOne (s : State) (d g : Nat) (on : Bool) : State :=
  let c := clockOf s d
  let c := { c with reqOff := if on then dropAll c.reqOff g else addOnce c.reqOff g }
  if on then setClock s d { c with off := dropAll c.off g }
  else
    match refusers s d g with
    | [] => let s := spoil s d (gateClocks d g); setClock s d { c with off := addOnce c.off g, spoiled := (clockOf s d).spoiled }
    | x :: _ =>
      let s := rset (setClock s d c) Reg.CLOCK_GATE_REFUSED d 0 (x + 1)
      raise s (evOf Reg.CLOCK_GATE_REFUSED 0 d 0 15 none [g, x])

/-- GATE_REQ applied to the selected gate, or children first to it and every gate below (R57). -/
def gateRequest (d : Nat) (on : Bool) (s : State) : State :=
  let g := rget s Reg.CLOCK_GATE_SEL d
  let gs := if rget s Reg.CLOCK_GATE_SUBTREE d = 1 then gatesBelow d g ++ [g] else [g]
  gs.foldl (fun s g => gateOne s d g on) s

/-- A gate field of a CLOCK page applied (R57 to R59, R61). -/
def gateApply (w : Writer) (d : Nat) (f : Fld) (v : Nat) (s : State) : State :=
  cross s w ⟨.clock, d⟩ f 0 v (if f = Reg.CLOCK_GATE_REQ then gateRequest d (v == 1) else fun s => setClamped s w ⟨.clock, d⟩ f 0 v)

/-- GATE_REQ_WRITE: with GATE_SEL in the same transaction or from an earlier one (R57, R58). -/
def execGateReqWrite (by' : Writer) (d : DieId) (sel : Option (BitVec 9)) (subtree : Bool) (on : Bool) (s : State) :
    Host.Outcome State Fault Refusal :=
  .next (gated s by' ⟨.clock, d.val⟩ Reg.CLOCK_GATE_REQ 0 (b2n on) (fun s =>
    let s := match sel with
      | none => s
      | some v => gateApply by' d.val Reg.CLOCK_GATE_SEL v.toNat s
    gateApply by' d.val Reg.CLOCK_GATE_REQ (b2n on) (gateApply by' d.val Reg.CLOCK_GATE_SUBTREE (b2n subtree) s)))

end Sys2Proof.Machine
end

