-- ==== Sys2Proof/Machine/Operands.lean ====
section
/-! DEFINITION. Sys2Proof/Machine/Operands.lean: the number formats every engine reads and writes: R64 to R75, R84 to R86. -/

namespace Sys2Proof.Machine

-- values --------------------------------------------------------------------------------------------------------------

/-- A decoded element: NaN, an infinity, or (-1)^neg × m × 2^e exactly. -/
inductive FVal where
  | nan
  | inf (neg : Bool)
  | fin (neg : Bool) (m : Nat) (e : Int)
deriving DecidableEq, Repr

/-- +0. -/
def FVal.zero : FVal := .fin false 0 0

/-- NaN or infinite (R68). -/
def FVal.nonfinite (v : FVal) : Bool := match v with | .fin _ _ _ => false | _ => true

/-- A number m / 2^s rounded to nearest, ties to even (R20). -/
def rneShift (m s : Nat) : Nat :=
  let q := m >>> s
  let r := m % 2 ^ s
  if 2 * r > 2 ^ s ∨ (2 * r = 2 ^ s ∧ q % 2 = 1) then q + 1 else q

/-- m × 2^e as a multiple of 2^g, to nearest, ties to even. -/
def toGrid (m : Nat) (e g : Int) : Nat := if g ≤ e then m * 2 ^ (e - g).toNat else rneShift m (g - e).toNat

/-- floor(log2(m × 2^e)) for m above 0. -/
def log2Of (m : Nat) (e : Int) : Int := (Nat.log2 m : Int) + e

/-- The negated value. -/
def FVal.neg (v : FVal) : FVal :=
  match v with | .nan => .nan | .inf n => .inf (!n) | .fin n m e => .fin (!n) m e

/-- The magnitude. -/
def FVal.abs (v : FVal) : FVal := match v with | .nan => .nan | .inf _ => .inf false | .fin _ m e => .fin false m e

/-- The value × 2^n. -/
def FVal.scale (v : FVal) (n : Int) : FVal := match v with | .fin s m e => .fin s m (e + n) | x => x

/-- The exact product (R100): zero by infinity is NaN. -/
def FVal.mul (a b : FVal) : FVal :=
  match a, b with
  | .nan, _ | _, .nan => .nan
  | .inf n, .inf k => .inf (n != k)
  | .inf n, .fin k m _ => if m = 0 then .nan else .inf (n != k)
  | .fin k m _, .inf n => if m = 0 then .nan else .inf (n != k)
  | .fin n m e, .fin k p f => .fin (n != k) (m * p) (e + f)

/-- A finite value as an integer multiple of 2^g, for g not above its exponent. -/
def signedAt (n : Bool) (m : Nat) (e g : Int) : Int :=
  let v : Int := (m * 2 ^ (e - g).toNat : Nat)
  if n then -v else v

/-- The exact sum (IEEE 754-2019): a zero sum is -0 only where both terms are negative. -/
def FVal.add (a b : FVal) : FVal :=
  match a, b with
  | .nan, _ | _, .nan => .nan
  | .inf n, .inf k => if n = k then .inf n else .nan
  | .inf n, _ => .inf n
  | _, .inf k => .inf k
  | .fin n m e, .fin k p f =>
    let g := min e f
    let s := signedAt n m e g + signedAt k p f g
    if s = 0 then .fin (n && k) 0 0 else .fin (s < 0) s.natAbs g

/-- a lies below b; false where either is NaN. -/
def FVal.lt (a b : FVal) : Bool :=
  match a, b with
  | .nan, _ | _, .nan => false
  | .inf n, .inf k => n && !k
  | .inf n, _ => n
  | _, .inf k => !k
  | .fin n m e, .fin k p f => let g := min e f; decide (signedAt n m e g < signedAt k p f g)

/-- The numerator and denominator form: a quotient of finite values with enough bits, the last of them sticky. -/
def FVal.div (a b : FVal) : FVal :=
  match a, b with
  | .nan, _ | _, .nan => .nan
  | .inf _, .inf _ => .nan
  | .inf n, .fin k _ _ => .inf (n != k)
  | .fin k _ _, .inf n => .fin (n != k) 0 0
  | .fin n m e, .fin k p f =>
    if p = 0 then (if m = 0 then .nan else .inf (n != k))
    else
      let q := m * 2 ^ 320 / p
      let r := m * 2 ^ 320 % p
      .fin (n != k) (2 * q + b2n (r != 0)) (e - f - 321)

/-- The square root with enough bits, the last of them sticky; of -0 it is -0, below zero it is NaN. -/
def FVal.sqrt (a : FVal) : FVal :=
  match a with
  | .nan => .nan
  | .inf n => if n then .nan else .inf false
  | .fin n m e =>
    if m = 0 then .fin n 0 0
    else if n then .nan
    else
      let k : Nat := 320 + (e % 2).toNat
      let x := m * 2 ^ k
      let r := Nat.sqrt x
      .fin false (2 * r + b2n (r * r != x)) ((e - k) / 2 - 1)

-- floating-point formats ----------------------------------------------------------------------------------------------

/-- Exponent and mantissa bits and bias of an element format (R65), by format code, or of the elements of an MX format. -/
structure FloatFmt where
  eb : Nat
  mb : Nat
  bias : Int
deriving DecidableEq, Repr

/-- Format codes (R64). -/
def floatOf (fmt : Nat) : FloatFmt :=
  match fmt with
  | 0 => ⟨8, 23, 127⟩
  | 1 => ⟨5, 10, 15⟩
  | 2 => ⟨8, 7, 127⟩
  | 3 | 5 => ⟨4, 3, 7⟩
  | 4 | 6 => ⟨5, 2, 15⟩
  | 7 => ⟨3, 2, 3⟩
  | 8 => ⟨2, 3, 1⟩
  | _ => ⟨2, 1, 1⟩

/-- FP64, which the Update Engine's schedule uses (R321). -/
def fp64 : FloatFmt := ⟨11, 52, 1023⟩

/-- Bits of an element (R64): of a kept element where the format is TOPK; a SIGN block has its scale besides. -/
def elemBits (fmt : Nat) : Nat :=
  match fmt with
  | 0 | 12 | 14 => 32
  | 1 | 2 => 16
  | 13 => 64
  | 15 => 40
  | 16 => 1
  | 7 | 8 => 6
  | 9 => 4
  | _ => 8

/-- An MX format (R71). -/
def isMX (fmt : Nat) : Bool := 5 ≤ fmt && fmt ≤ 10

/-- An FP8 format. -/
def isFP8 (fmt : Nat) : Bool := fmt == 3 || fmt == 4

/-- Special values of a format: 0 as IEEE, 1 the single NaN of E4M3, 2 none. -/
def specials (fmt : Nat) : Nat := if fmt = 3 ∨ fmt = 5 then 1 else if 7 ≤ fmt ∧ fmt ≤ 9 then 2 else 0

/-- The value of the bits of an IEEE-like format (R65, R66). -/
def decodeIeee (f : FloatFmt) (special : Nat) (bits : Nat) : FVal :=
  let n := bitAt bits (f.eb + f.mb)
  let ex := bitsAt bits f.mb f.eb
  let m := bitsAt bits 0 f.mb
  let top := 2 ^ f.eb - 1
  if special = 0 ∧ ex = top then (if m = 0 then .inf n else .nan)
  else if special = 1 ∧ ex = top ∧ m = 2 ^ f.mb - 1 then .nan
  else if ex = 0 then .fin n m (1 - f.bias - f.mb)
  else .fin n (2 ^ f.mb + m) ((ex : Int) - f.bias - f.mb)

/-- A finite magnitude rounded to nearest even in a format, before overflow: its code without the sign, which passes the
largest finite code where the value overflows (R69). -/
def roundMag (f : FloatFmt) (m : Nat) (e : Int) : Nat :=
  if m = 0 then 0
  else
    let low := 1 - f.bias - f.mb
    let g := max (log2Of m e - f.mb) low
    (g - low).toNat * 2 ^ f.mb + toGrid m e g

/-- The sign bit of a format in place. -/
def signBit (f : FloatFmt) (n : Bool) : Nat := b2n n * 2 ^ (f.eb + f.mb)

/-- The canonical NaN of a format (R67). -/
def canonNaN (fmt : Nat) : Nat :=
  match fmt with
  | 0 => 0x7FC00000
  | 1 => 0x7E00
  | 2 => 0x7FC0
  | 3 => 0x7F
  | _ => 0x7E

/-- A value rounded to FP32, FP16 or BF16 (R69), to FP8 with SAT (R70), or to an FP6 or FP4 element, which saturates
(R74). -/
def encodeFloat (fmt : Nat) (sat : Bool) (v : FVal) : Nat :=
  let f := floatOf fmt
  let top := (2 ^ f.eb - 1) * 2 ^ f.mb
  match v with
  | .nan => canonNaN fmt
  | .inf n => if fmt = 3 then canonNaN 3 else signBit f n + top
  | .fin n m e =>
    let c := roundMag f m e
    if fmt = 3 then
      if c > 0x7E ∨ (e ≥ 0 ∧ 464 ≤ m * 2 ^ e.toNat) ∨ (e < 0 ∧ 464 * 2 ^ (-e).toNat ≤ m) then
        (if sat then signBit f n + 0x7E else canonNaN 3)
      else signBit f n + c
    else if top ≤ c then (if fmt = 4 ∧ sat then signBit f n + (top - 1) else signBit f n + top)
    else signBit f n + c

/-- A value rounded to FP64. -/
def encode64 (v : FVal) : Nat :=
  match v with
  | .nan => 0x7FF8000000000000
  | .inf n => signBit fp64 n + 0x7FF0000000000000
  | .fin n m e => signBit fp64 n + min (roundMag fp64 m e) 0x7FF0000000000000

/-- The value of FP64 bits. -/
def decode64 (bits : Nat) : FVal := decodeIeee fp64 0 bits

/-- A value rounded to FP32, as a value (R20). -/
def f32 (v : FVal) : FVal := decodeIeee (floatOf 0) 0 (encodeFloat 0 false v)

/-- A value rounded to FP64, as a value. -/
def f64 (v : FVal) : FVal := decode64 (encode64 v)

/-- An integer as a value. -/
def FVal.ofInt (i : Int) : FVal := .fin (i < 0) i.natAbs 0

/-- A value rounded to an integer of w bits, saturated; NaN gives 0 (R75). -/
def toIntSat (w : Nat) (v : FVal) : Int :=
  let hi : Int := 2 ^ (w - 1) - 1
  match v with
  | .nan => 0
  | .inf n => if n then -hi - 1 else hi
  | .fin n m e =>
    let q : Int := (toGrid m e 0 : Nat)
    max (-hi - 1) (min hi (if n then -q else q))

/-- The value of an unscaled element of format codes 0 to 4, 11 and 12 (R65, R75). -/
def decodeElem (fmt bits : Nat) : FVal :=
  match fmt with
  | 11 => .ofInt (sext 8 bits)
  | 12 => .ofInt (sext 32 bits)
  | _ => decodeIeee (floatOf fmt) (specials fmt) bits

/-- The bits of a value in format codes 0 to 4, 11 and 12 (R69, R70, R75). -/
def encodeElem (fmt : Nat) (sat : Bool) (v : FVal) : Nat :=
  match fmt with
  | 11 => twos 8 (toIntSat 8 v)
  | 12 => twos 32 (toIntSat 32 v)
  | _ => encodeFloat fmt sat v

/-- An element counts as NONFINITE in its output format (R68, R75). -/
def countsNonfinite (fmt : Nat) (sat : Bool) (v : FVal) : Bool :=
  if fmt = 11 ∨ fmt = 12 then (v == .nan) else (decodeElem fmt (encodeElem fmt sat v)).nonfinite

-- packed elements -----------------------------------------------------------------------------------------------------

/-- Elements of w bits each from bytes, low bits first, eight elements in every w bytes (R10, R73). -/
def unpack (w : Nat) (bytes : List Byte) (count : Nat) : List Nat :=
  let n := leNat (bytes.take w)
  match count with
  | k + 8 => (List.range 8).map (fun i => bitsAt n (w * i) w) ++ unpack w (bytes.drop w) k
  | k => (List.range k).map (fun i => bitsAt n (w * i) w)

/-- The number whose w-bit fields, low first, hold the elements. -/
def packNat (w : Nat) (l : List Nat) : Nat :=
  match l with
  | [] => 0
  | x :: r => x % 2 ^ w + 2 ^ w * packNat w r

/-- The bytes that hold elements of w bits each, low bits first. -/
def pack (w : Nat) (l : List Nat) : List Byte :=
  match l with
  | a :: b :: c :: d :: e :: f :: g :: h :: r => natLe (packNat w [a, b, c, d, e, f, g, h]) w ++ pack w r
  | l => natLe (packNat w l) ((w * l.length + 7) / 8)

-- microscaling --------------------------------------------------------------------------------------------------------

/-- Bytes of a group of 4,096 elements (R72). -/
def groupBytes (fmt : Nat) : Nat := if fmt = 9 then 2176 else if fmt = 7 ∨ fmt = 8 then 3200 else 4224

/-- The value of an MX element under its block's scale byte (R71). -/
def decodeMX (fmt scale bits : Nat) : FVal :=
  if scale = 0xFF then .nan
  else if fmt = 10 then (FVal.ofInt (sext 8 bits)).scale ((scale : Int) - 127 - 6)
  else (decodeIeee (floatOf fmt) (specials fmt) bits).scale ((scale : Int) - 127)

/-- The exponent of the largest normal of an MX element (R74). -/
def emaxElem (fmt : Nat) : Int :=
  match fmt with | 5 => 8 | 6 => 15 | 7 => 4 | 8 => 2 | 9 => 2 | _ => 0

/-- An element of a block quantised with exponent e, saturated to the largest element (R74). -/
def quantElem (fmt : Nat) (e : Int) (v : FVal) : Nat :=
  match v with
  | .fin n m x =>
    if fmt = 10 then
      let q : Int := (min 127 (toGrid m (x - e + 6) 0) : Nat)
      twos 8 (if n then -q else q)
    else
      let f := floatOf fmt
      let big := if fmt = 5 then 0x7E else if fmt = 6 then 0x7B else 2 ^ (f.eb + f.mb) - 1
      signBit f n + min big (roundMag f m (x - e))
  | _ => 0

/-- 32 values quantised to an MX block: scale byte and element codes (R74). -/
def quantBlock (fmt : Nat) (l : List FVal) : Nat × List Nat :=
  if l.any FVal.nonfinite then (0xFF, l.map (fun _ => 0))
  else
    let exps := l.filterMap (fun v => match v with | .fin _ m e => if m = 0 then none else some (log2Of m e) | _ => none)
    match exps with
    | [] => (0, l.map (fun _ => 0))
    | x :: r =>
      let e := max (-127) (min 127 (r.foldl max x - emaxElem fmt))
      ((e + 127).toNat, l.map (quantElem fmt e))

/-- The pieces of n elements of a list. -/
def chunksOf {α : Type} (n : Nat) (l : List α) : List (List α) :=
  if n = 0 then [] else (List.range ((l.length + n - 1) / n)).map (fun i => (l.drop (n * i)).take n)

/-- The list brought to n elements with d. -/
def padTo {α : Type} (n : Nat) (d : α) (l : List α) : List α := l.take n ++ List.replicate (n - l.length) d

/-- The bytes of an MX group of blocks, padded with zero blocks (R72). -/
def packGroup (fmt : Nat) (bs : List (Nat × List Nat)) : List Byte :=
  (padTo 128 0 (bs.map (·.1))).map (BitVec.ofNat 8) ++ pack (elemBits fmt) (padTo 4096 0 (bs.flatMap (·.2)))

/-- One MX group from at most 4,096 values, padded under R72: its bytes, and how many elements count as NONFINITE: all 32 of a NaN block
(R74). -/
def quantGroup (fmt : Nat) (l : List FVal) : List Byte × Nat :=
  let bs := (chunksOf 32 l).map (fun b => quantBlock fmt (padTo 32 FVal.zero b))
  (packGroup fmt bs, 32 * bs.countP (fun b => b.1 == 0xFF))

/-- The first n values of an MX group's bytes (R71, R72). -/
def decodeGroup (fmt : Nat) (bytes : List Byte) (n : Nat) : List FVal :=
  let els := unpack (elemBits fmt) (bytes.drop 128) n
  (els.zip (List.range n)).map (fun p => decodeMX fmt (bytes.getD (p.2 / 32) 0).toNat p.1)

-- whole tensors -------------------------------------------------------------------------------------------------------

/-- Elements in n bytes of a format; an MX tensor is whole groups. -/
def elemsIn (fmt n : Nat) : Nat := if isMX fmt then n / groupBytes fmt * 4096 else 8 * n / elemBits fmt

/-- Bytes of n elements of a format (R64, R72, R85): of n kept elements where it is TOPK. -/
def bytesOf (fmt n : Nat) : Nat :=
  if isMX fmt then ceilDiv n 4096 * groupBytes fmt else if fmt = 16 then ceilDiv n 4096 * 516 else ceilDiv (n * elemBits fmt) 8

/-- Bytes of a tensor of n elements whose TOPK blocks keep k entries each (R84). -/
def tensorBytes (fmt k n : Nat) : Nat := if fmt = 15 then ceilDiv n 4096 * (5 * k) else bytesOf fmt n

/-- The values of n elements in bytes of a format (R65, R71, R75). -/
def decodeAll (fmt : Nat) (bytes : List Byte) (n : Nat) : List FVal :=
  if isMX fmt then ((chunksOf (groupBytes fmt) bytes).flatMap (fun g => decodeGroup fmt g 4096)).take n
  else (unpack (elemBits fmt) bytes n).map (decodeElem fmt)

/-- The bytes of values in a format, and how many count as NONFINITE (R68 to R75). -/
def encodeAll (fmt : Nat) (sat : Bool) (l : List FVal) : List Byte × Nat :=
  if isMX fmt then
    let gs := (chunksOf 4096 l).map (quantGroup fmt)
    (gs.flatMap (·.1), (gs.map (·.2)).sum)
  else (pack (elemBits fmt) (l.map (encodeElem fmt sat)), l.countP (countsNonfinite fmt sat))

/-- Non-finite elements among the n elements of a tensor's bytes (R68): by the codes of tally words (R76), the values of TOPK entries
(R84), the scales of SIGN blocks (R85). -/
def nonfiniteIn (fmt : Nat) (bytes : List Byte) (n : Nat) : Nat :=
  match fmt with
  | 11 | 12 => 0
  | 13 => (unpack 64 bytes n).countP (fun q => [2 ^ 63, 2 ^ 63 + 1, 2 ^ 63 - 1].contains q)
  | 14 => (unpack 32 bytes n).countP (fun q => [2 ^ 31, 2 ^ 31 + 1, 2 ^ 31 - 1].contains q)
  | 15 => (unpack 40 bytes n).countP (fun q => (decodeIeee (floatOf 2) 0 (q / 2 ^ 24)).nonfinite)
  | 16 => ((chunksOf 516 bytes).map (fun b =>
      if (decodeIeee (floatOf 0) 0 (leNat ((b.drop 512).take 4))).nonfinite then 4096 else 0)).sum
  | _ => (decodeAll fmt bytes n).countP FVal.nonfinite

/-- The Porter's conversions (R86). -/
def porterConverts (src dst : Nat) : Bool :=
  if dst = 0 then (1 ≤ src && src ≤ 4) || isMX src
  else if dst = 1 then src == 0 || isFP8 src
  else if dst = 2 then src == 0 || isFP8 src || isMX src
  else if isFP8 dst then src == 0 || src == 2
  else if isMX dst then src == 0 || src == 2
  else if dst = 13 ∨ dst = 14 then src ≤ 4
  else dst == 11 && (src == 0 || src == 2 || src == 12)

end Sys2Proof.Machine
end

