-- ==== Sys2Proof/Machine/Approx.lean ====
section
/-! DEFINITION. Sys2Proof/Machine/Approx.lean: the functions that the spec bounds without giving their bits, each the part's own free value
kept within the stated distance of the exact one: R111, R200, R201, R208, R321 (log entry 7). -/

namespace Sys2Proof.Machine

-- values to more than 200 bits ----------------------------------------------------------------------------------------

/-- A value cut to its 257 leading bits. -/
def FVal.trim (v : FVal) : FVal :=
  match v with
  | .fin n m e => let s := Nat.log2 m - 256; .fin n (m >>> s) (e + s)
  | v => v

/-- One. -/
def FVal.one (neg : Bool) : FVal := .fin neg 1 0

/-- The difference of two values. -/
def FVal.sub (a b : FVal) : FVal := a.add b.neg

/-- The quotient by a number. -/
def FVal.over (a : FVal) (k : Nat) : FVal := a.div (FVal.ofInt k)

/-- The sum of a power series by Horner's rule: c 0 + y × (c 1 + y × (… + y × c k)). -/
def horner (k : Nat) (c : Nat → FVal) (y : FVal) : FVal :=
  (List.range (k + 1)).foldr (fun i acc => ((c i).add (y.mul acc)).trim) FVal.zero

/-- e^x for a magnitude of at most 512: the series at x / 1,024, squared ten times. -/
def expVal (x : FVal) : FVal :=
  let y := x.scale (-10)
  let e := (List.range 60).foldr (fun i acc => ((FVal.one false).add ((y.mul acc).over (i + 1))).trim) (FVal.one false)
  (List.range 10).foldl (fun e _ => (e.mul e).trim) e

/-- The inverse hyperbolic tangent of a magnitude of at most 1/3. -/
def atanhVal (z : FVal) : FVal :=
  (z.mul (horner 90 (fun i => (FVal.one false).over (2 * i + 1)) ((z.mul z).trim))).trim

/-- The inverse tangent of 1 / k, for k of at least 5. -/
def atanInv (k : Nat) : FVal :=
  let z := (FVal.one false).over k
  (z.mul (horner 70 (fun i => (FVal.one (i % 2 == 1)).over (2 * i + 1)) ((z.mul z).trim))).trim

/-- ln 2. -/
def ln2Val : FVal := (atanhVal ((FVal.one false).over 3)).scale 1

/-- pi. -/
def piVal : FVal := ((atanInv 5).scale 4).sub ((atanInv 239).scale 2)

/-- ln x for a finite x above 0. -/
def lnVal (x : FVal) : FVal :=
  match x with
  | .fin _ m e =>
    let k := Nat.log2 m
    let y : FVal := .fin false m (-(k : Int))
    let z := ((y.sub (FVal.one false)).div (y.add (FVal.one false))).trim
    ((atanhVal z).scale 1).add (ln2Val.mul (FVal.ofInt (e + k)))
  | v => v

/-- cos t for a magnitude of at most 8. -/
def cosVal (t : FVal) : FVal :=
  let y := (t.mul t).trim
  (List.range 60).foldr (fun i acc => ((FVal.one false).sub ((y.mul acc).over ((2 * i + 1) * (2 * i + 2)))).trim) (FVal.one false)

/-- sin t for a magnitude of at most 16. -/
def sinVal (t : FVal) : FVal :=
  let y := (t.mul t).trim
  (t.mul ((List.range 60).foldr (fun i acc => ((FVal.one false).sub ((y.mul acc).over ((2 * i + 2) * (2 * i + 3)))).trim)
    (FVal.one false))).trim

/-- x to the power n. -/
def powVal (x : FVal) (n : Nat) : FVal :=
  (List.range 32).foldr (fun i acc => let sq := (acc.mul acc).trim; if bitAt n i then (sq.mul x).trim else sq) (FVal.one false)

-- the part's own value within its bound ------------------------------------------------------------------------------

/-- One unit in the last place of a format at a finite value. -/
def ulpAt (f : FloatFmt) (v : FVal) : FVal :=
  let low := 1 - f.bias - f.mb
  match v with
  | .fin _ m e => .fin false 1 (if m = 0 then low else max (log2Of m e - f.mb) low)
  | v => v

/-- own, where it lies within k units in the last place of the exact value or within a distance of it; else the exact value rounded. The
computed exact value is itself only close, by far less than the bound, which is widened by 2^-60 of itself and 2^-200. -/
def within (f : FloatFmt) (round : FVal → FVal) (k : Nat) (dist exact own : FVal) : FVal :=
  let r := round exact
  if r.nonfinite || own.nonfinite then r
  else
    let u := (ulpAt f exact).mul (FVal.ofInt k)
    let lim := (if u.lt dist then dist else u)
    let lim := (lim.add (lim.scale (-60))).add ((FVal.one false).scale (-200))
    if lim.lt (own.sub exact).abs then r else own

/-- The function of R111 by its code in R134, at a finite operand, to more than 200 bits: EXP2, LOG2, RECIP, RSQRT, TANH, SIGMOID, GELU in
its tanh form and SILU. -/
def exact111 (f : Nat) (x : FVal) : FVal :=
  let one := FVal.one false
  let bound (b : Int) (x : FVal) : FVal :=
    if (FVal.ofInt b).lt x then FVal.ofInt b else if x.lt (FVal.ofInt (-b)) then FVal.ofInt (-b) else x
  let sigmoid (x : FVal) : FVal := one.div (one.add (expVal (bound 300 x).neg))
  let tanh (x : FVal) : FVal := let e := expVal ((bound 150 x).scale 1); (e.sub one).div (e.add one)
  match f with
  | 10 => expVal (((bound 400 x).mul ln2Val).trim)
  | 11 => (lnVal x).div ln2Val
  | 12 => one.div x
  | 13 => one.div x.sqrt
  | 14 => tanh x
  | 15 => sigmoid x
  | 16 =>
    let c := ((FVal.one false).scale 1).div piVal
    let t := (c.sqrt.mul (x.add (((x.mul (x.mul x)).mul (FVal.ofInt 44715)).div (FVal.ofInt 1000000)))).trim
    ((x.mul (one.add (tanh t))).scale (-1)).trim
  | _ => (x.mul (sigmoid x)).trim

/-- A function of R111 at a finite operand where its result is finite: the part's own algorithm, within 1 unit in the last place, or for
TANH, SIGMOID, GELU and SILU within 3 units or 2^-30 (R111; log entry 7). -/
def near111 (f : Nat) (x : FVal) : FVal :=
  let own := decodeIeee (floatOf 0) 0 (Config.transcend f (BitVec.ofNat 32 (encodeFloat 0 false x))).toNat
  let wide := decide (14 ≤ f)
  within (floatOf 0) f32 (if wide then 3 else 1) (if wide then (FVal.one false).scale (-30) else FVal.zero) (exact111 f x) own

/-- A power in FP64, within 1 unit in the last place (R321; log entry 7). -/
def near64Pow (b : FVal) (n : Nat) : FVal :=
  within fp64 f64 1 FVal.zero (powVal b n) (decode64 (Config.pow64 (BitVec.ofNat 64 (encode64 b)) n).toNat)

/-- cos(pi x) in FP64 for x from 0 to 1, within 1 unit in the last place (R321; log entry 7). -/
def near64Cos (x : FVal) : FVal :=
  within fp64 f64 1 FVal.zero (cosVal (x.mul piVal).trim) (decode64 (Config.cos64 (BitVec.ofNat 64 (encode64 x))).toNat)

end Sys2Proof.Machine
end

