-- ==== Sys2Proof/Machine/TallyOps.lean ====
section
/-! DEFINITION. Sys2Proof/Machine/TallyOps.lean: tally words and anchors: R76 to R85, R469; and mix, stochastic rounding and
the layer digest: R87, R394. -/

namespace Sys2Proof.Machine

-- codes ---------------------------------------------------------------------------------------------------------------

/-- NAN_ANCHOR and EMPTY_ANCHOR (R77). -/
def nanAnchor : Int := 0x7FFF

/-- EMPTY_ANCHOR. -/
def emptyAnchor : Int := -32768

/-- The fraction bits of a word of w bits: 60 or 28 (R76). -/
def fracBits (w : Nat) : Nat := if w = 64 then 60 else 28

/-- NaN code (R76), as a signed number. -/
def nanCode (w : Nat) : Int := -(2 ^ (w - 1))

/-- The code of -infinity. -/
def negInf (w : Nat) : Int := -(2 ^ (w - 1)) + 1

/-- The code of +infinity. -/
def posInf (w : Nat) : Int := 2 ^ (w - 1) - 1

/-- q is a finite code (R469). -/
def finiteCode (w : Nat) (q : Int) : Bool := decide (-(2 ^ (w - 1) - 2) ≤ q ∧ q ≤ 2 ^ (w - 1) - 2)

/-- A result brought into the finite codes, or NaN (R469). -/
def orNan (w : Nat) (q : Int) : Int := if finiteCode w q then q else nanCode w

/-- ceil(log2 p) for p of at least 1. -/
def clog2 (p : Nat) : Nat := if p ≤ 1 then 0 else Nat.log2 (p - 1) + 1

/-- The headroom h of a participant count (R78). -/
def headroom (p : Nat) : Nat := clog2 p + 1

/-- The local anchor code of a block of contributions (R79). -/
def localCode (l : List FVal) : Int :=
  if l.any (· == .nan) then nanAnchor
  else
    let logs := l.filterMap (fun v => match v with | .fin _ m e => if m = 0 then none else some (log2Of m e) | _ => none)
    match logs with
    | [] => if l.any FVal.nonfinite then -256 else emptyAnchor
    | x :: r => r.foldl max x

/-- The anchor E of an agreed code (R79). -/
def anchorOf (c : Int) (h : Nat) : Int :=
  if c = nanAnchor ∨ c = emptyAnchor then c else if 32766 < c + h then nanAnchor else c + h

/-- Signed 16-bit number of two bytes (R77). -/
def anchorBits (n : Nat) : Int := sext 16 n

/-- A contribution converted to a tally word, and whether it was flushed (R80). -/
def toTally (w : Nat) (e : Int) (x : FVal) : Int × Bool :=
  if e = nanAnchor then (nanCode w, false)
  else match x with
  | .nan => (nanCode w, false)
  | _ =>
    if e = emptyAnchor then (0, false)
    else match x with
    | .nan => (nanCode w, false)
    | .inf n => (if n then negInf w else posInf w, false)
    | .fin n m x =>
      let q : Int := (toGrid m x (e - fracBits w) : Nat)
      (orNan w (if n then -q else q), q == 0 && m != 0)

/-- A finite value's word that lies outside the finite codes: it becomes NaN and counts as NONFINITE (R80, R469). -/
def tallyLost (w : Nat) (e : Int) (x : FVal) : Bool :=
  !x.nonfinite && e != nanAnchor && (toTally w e x).1 == nanCode w

/-- The sum of two words (R81, R469). -/
def tallyAdd (w : Nat) (a b : Int) : Int :=
  if a = nanCode w ∨ b = nanCode w then nanCode w
  else if (a = posInf w ∧ b = negInf w) ∨ (a = negInf w ∧ b = posInf w) then nanCode w
  else if a = posInf w ∨ a = negInf w then a
  else if b = posInf w ∨ b = negInf w then b
  else orNan w (a + b)

/-- A finite word beyond 2^(f + 1 - h) is replaced by NaN (R81). -/
def boundWord (w h : Nat) (q : Int) : Int × Bool :=
  if finiteCode w q ∧ 2 ^ (fracBits w + 1 - h) < q.natAbs then (nanCode w, true) else (q, false)

/-- The words of a list added, and whether only the range made the sum NaN, which counts as NONFINITE (R81, R469). -/
def tallySum (w : Nat) (l : List Int) : Int × Bool :=
  let q := match l with | [] => 0 | x :: r => r.foldl (tallyAdd w) x
  (q, q == nanCode w && !(l.contains (nanCode w)) && !(l.contains (posInf w) && l.contains (negInf w)))

/-- T64 to T32 (R83, R469). -/
def narrow (q : Int) : Int :=
  if q = nanCode 64 then nanCode 32
  else if q = posInf 64 then posInf 32
  else if q = negInf 64 then negInf 32
  else
    let m : Int := (rneShift q.natAbs 32 : Nat)
    orNan 32 (if q < 0 then -m else m)

/-- The value a word stands for, to be rounded once (R82). -/
def tallyVal (w : Nat) (e q : Int) : FVal :=
  if e = nanAnchor then .nan
  else if e = emptyAnchor then FVal.zero
  else if q = nanCode w then .nan
  else if q = posInf w then .inf false
  else if q = negInf w then .inf true
  else if q = 0 then FVal.zero
  else .fin (q < 0) q.natAbs (e - fracBits w)

/-- A word ends as NaN or infinity (R68): by its code or its anchor. -/
def wordNonfinite (w : Nat) (e q : Int) : Bool := (tallyVal w e q).nonfinite

/-- The words of a list of values under their blocks' anchors: words and the number flushed (R80). -/
def tallyAll (w : Nat) (anchors : List Int) (l : List FVal) : List Int × Nat :=
  let r := (l.zip (List.range l.length)).map (fun p => toTally w (anchors.getD (p.2 / 1024) emptyAnchor) p.1)
  (r.map (·.1), r.countP (·.2))

-- compressed blocks (R84, R85) ----------------------------------------------------------------------------------------

/-- Magnitude rank of R84: NaN above infinity above every finite value. -/
def magLt (a b : FVal) : Bool :=
  match a, b with
  | .nan, _ => false
  | _, .nan => true
  | a, b => (a.abs).lt b.abs

/-- A position put in order of falling magnitude, the lower offset first among equals. -/
def insertMag (p : Nat × FVal) (l : List (Nat × FVal)) : List (Nat × FVal) :=
  match l with
  | [] => [p]
  | x :: r => if magLt x.2 p.2 then p :: x :: r else x :: insertMag p r

/-- A TOPK block of 4,096 elements: k entries, ascending (R84). -/
def topkBlock (k block : Nat) (l : List FVal) : List Byte :=
  let ranked := ((List.range l.length).zip l).foldl (fun acc p => insertMag p acc) []
  let kept := (ranked.take k).map (·.1)
  ((List.range l.length).filter (fun i => kept.contains i)).flatMap (fun i =>
    natLe (i % 4096 + block % 4096 * 4096) 3 ++ natLe (encodeFloat 2 false (l.getD i FVal.zero)) 2)

/-- A TOPK block decoded: 4,096 values. An entry of another block and an offset named twice are NaN (R84). -/
def topkDecode (k block : Nat) (bytes : List Byte) : List FVal :=
  let es := (List.range k).map (fun i =>
    let n := leNat ((bytes.drop (5 * i)).take 5)
    (n % 4096, if n / 4096 % 4096 = block % 4096 then decodeIeee (floatOf 2) 0 (n / 2 ^ 24) else .nan))
  (List.range 4096).map (fun j =>
    match es.filter (·.1 == j) with
    | [] => FVal.zero
    | [x] => x.2
    | _ => .nan)

/-- The scale of a SIGN block (R85): the mean magnitude by a tally sum in T64 with P = 4,096; and the magnitudes flushed (R68, R80). -/
def signScale (l : List FVal) : FVal × Nat :=
  let a := l.map FVal.abs
  let e := anchorOf (localCode a) (headroom 4096)
  let ws := a.map (toTally 64 e)
  (f32 ((tallyVal 64 e (tallySum 64 (ws.map (·.1))).1).scale (-12)), ws.countP (·.2))

/-- A SIGN block of 4,096 elements: bits, then the FP32 scale (R85); and the magnitudes flushed. -/
def signBlock (l : List FVal) : List Byte × Nat :=
  let s := signScale l
  let neg (v : FVal) : Nat := match v with | .fin n m _ => b2n (n && m != 0) | .inf n => b2n n | .nan => 0
  (pack 1 (padTo 4096 0 (l.map neg)) ++ natLe (encodeFloat 0 false s.1) 4, s.2)

/-- A SIGN block decoded (R85). -/
def signDecode (bytes : List Byte) : List FVal :=
  let s := decodeIeee (floatOf 0) 0 (leNat ((bytes.drop 512).take 4))
  (unpack 1 bytes 4096).map (fun b => if b = 1 then s.neg else s)

-- mix and the layer digest --------------------------------------------------------------------------------------------

/-- mix of R87. -/
def mix (z : Nat) : Nat :=
  let m := 2 ^ 64
  let z := z % m
  let z := ((z ^^^ (z >>> 30)) * 0xBF58476D1CE4E5B9) % m
  let z := ((z ^^^ (z >>> 27)) * 0x94D049BB133111EB) % m
  z ^^^ (z >>> 31)

/-- FP32 bits narrowed to BF16 with 16 random bits (R87). -/
def stochasticBf16 (bits seed t j : Nat) : Nat :=
  match decodeIeee (floatOf 0) 0 bits with
  | .nan => 0x7FC0
  | .inf _ => bits / 65536
  | .fin n _ _ =>
    let r := mix (seed + t * 2 ^ 40 + j) / 2 ^ 48
    (bits % 2 ^ 31 + r) / 65536 + b2n n * 2 ^ 15

/-- The digest of one tile of 4,096 bytes (R394). -/
def tileDigest (t : Nat) (bytes : List Byte) : Nat :=
  let ws := (chunksOf 8 bytes).map leNat
  let ws := padTo 512 0 ws
  ((ws.zip (List.range 512)).foldl (fun d p => d + mix (p.1 ^^^ ((t * 512 + p.2) * 0x9E3779B97F4A7C15 % 2 ^ 64))) 0) % 2 ^ 64

/-- The layer digest of a docket's output (R394). -/
def layerDigest (bytes : List Byte) : Nat :=
  let ts := chunksOf 4096 bytes
  ((ts.zip (List.range ts.length)).foldl (fun s p => s + (2 * p.2 + 1) * tileDigest p.2 p.1) (mix bytes.length)) % 2 ^ 64

-- check values --------------------------------------------------------------------------------------------------------

/-- One bit of a reflected CRC. -/
def crcStep (poly c : Nat) : Nat := if c % 2 = 1 then c / 2 ^^^ poly else c / 2

/-- CRC-32C of bytes: Castagnoli, reflected, initial value and final XOR all ones (R299, R343). -/
def crc32c (bytes : List Byte) : Nat :=
  (bytes.foldl (fun c b => (List.range 8).foldl (fun c _ => crcStep 0x82F63B78 c) (c ^^^ b.toNat)) 0xFFFFFFFF) ^^^ 0xFFFFFFFF

/-- One bit of the CRC-64 of ECMA-182, most significant bit first. -/
def crc64Step (c : Nat) : Nat :=
  if c / 2 ^ 63 % 2 = 1 then (2 * c % 2 ^ 64) ^^^ 0x42F0E1EBA9EA3693 else 2 * c % 2 ^ 64

/-- CRC-64 of a flit's bytes 0x000-0x277 (R242). -/
def crc64 (bytes : List Byte) : Nat :=
  let m := 2 ^ 64 - 1
  (bytes.foldl (fun c b => (List.range 8).foldl (fun c _ => crc64Step c) (c ^^^ (b.toNat * 2 ^ 56))) m) ^^^ m

end Sys2Proof.Machine
end

