-- ==== Sys2Proof/Machine/Flags.lean ====
section
/-! DEFINITION. Sys2Proof/Machine/Flags.lean: the fields of a docket, the queues that hold dockets, and the flags and
status with which one completes: R68, R121, R131 to R139, R148, R149, R271, R470. -/

namespace Sys2Proof.Machine

-- the docket header (R131) --------------------------------------------------------------------------------------------

/-- A field of a docket: byte offset, lowest bit and width. -/
def dkf (dk : Docket) (off lsb w : Nat) : Nat := bitsAt dk.toNat (8 * off + lsb) w

/-- A docket with a field replaced by its applied value (R129). -/
def dkSet (dk : Docket) (off lsb w v : Nat) : Docket := BitVec.ofNat 1024 (putBits dk.toNat (8 * off + lsb) w v)

/-- SEQ. -/
def dkSeq (dk : Docket) : W32 := BitVec.ofNat 32 (dkf dk 0 0 32)
/-- ENGINE. -/
def dkEngine (dk : Docket) : Nat := dkf dk 4 0 4
/-- OP. -/
def dkOp (dk : Docket) : Nat := dkf dk 4 4 8
/-- TENANT. -/
def dkTenant (dk : Docket) : Nat := dkf dk 4 12 4
/-- CORE. -/
def dkCore (dk : Docket) : Nat := dkf dk 4 16 6
/-- RELEASE_EN. -/
def dkReleaseEn (dk : Docket) : Bool := dkf dk 4 22 1 == 1
/-- SIGNAL_EN. -/
def dkSignalEn (dk : Docket) : Bool := dkf dk 4 23 1 == 1
/-- DIGEST_EN. -/
def dkDigestEn (dk : Docket) : Bool := dkf dk 4 24 1 == 1
/-- IRQ. -/
def dkIrq (dk : Docket) : Bool := dkf dk 4 25 1 == 1
/-- WAIT_ANY. -/
def dkWaitAny (dk : Docket) : Bool := dkf dk 4 26 1 == 1
/-- NWAIT. -/
def dkNwait (dk : Docket) : Nat := dkf dk 4 27 2
/-- RELEASE. -/
def dkRelease (dk : Docket) : W32 := BitVec.ofNat 32 (dkf dk 8 0 32)
/-- EST. -/
def dkEst (dk : Docket) : Nat := dkf dk 12 0 16
/-- WAIT_LIMIT. -/
def dkWaitLimit (dk : Docket) : Nat := dkf dk 12 16 16
/-- TAG. -/
def dkTag (dk : Docket) : Nat := dkf dk 0x2C 0 32

/-- Logical core of a docket of ring r (R121), the home core of an uncore engine's docket (R132). -/
def dkHome (r : Nat) (dk : Docket) : Nat := 64 * r + dkCore dk

/-- The queue of a docket of ring r, by its ENGINE (R117, R178, R220, R287, R336). -/
def queueOf (r : Nat) (dk : Docket) : Nat :=
  match dkEngine dk with
  | 4 => 2048 + r
  | 5 => 2056
  | 6 => 2060 + r / 4
  | 7 => 2062 + r / 4
  | 8 => 2058
  | e => 4 * dkHome r dk + e

/-- Block, DIE and UNIT of the engine that runs a queue (R386, R471). -/
def queueSrc (s : State) (q : Nat) : Blk × Nat × Nat :=
  if q < 2048 then
    (if q % 4 = 0 then .lathe else if q % 4 = 1 then .vec else if q % 4 = 2 then .port else .clerk,
      q / 256, coreUnit s (q / 4))
  else if q < 2056 then (.update, q - 2048, 0)
  else if q = 2056 then (.tally, 8, 0)
  else if q < 2060 then (.chest, 8, 0)
  else if q < 2062 then (.mill, 10 + (q - 2060), 0)
  else (.hopper, 10 + (q - 2062), 0)

-- queues --------------------------------------------------------------------------------------------------------------

/-- The dockets of a queue, in acceptance order. -/
def queue (s : State) (q : Nat) : List QEntry := mapGet s.queues q []

/-- A queue replaced. -/
def setQueue (s : State) (q : Nat) (l : List QEntry) : State := { s with queues := mapSet s.queues q l }

/-- The reference of an entry. -/
def QEntry.ref (e : QEntry) : Nat × Nat × W32 := (e.die.val, e.tenant.val, e.seq)

/-- The entry is the referenced docket. -/
def QEntry.is (e : QEntry) (r : DocketRef) : Bool := e.die == r.die && e.tenant == r.tenant && e.seq == r.seq

/-- The reference of an entry as a command names it. -/
def QEntry.toRef (e : QEntry) : DocketRef := { die := e.die, tenant := e.tenant, seq := e.seq }

/-- The referenced docket of a queue. -/
def entryOf (s : State) (q : Nat) (r : DocketRef) : Option QEntry := (queue s q).find? (·.is r)

/-- A docket of a queue changed. -/
def updEntry (s : State) (q : Nat) (r : DocketRef) (f : QEntry → QEntry) : State :=
  setQueue s q (updFirst (queue s q) (·.is r) f)

/-- The home core of an entry. -/
def QEntry.home (e : QEntry) : Nat := dkHome e.die.val e.dk

/-- The cluster whose counters the header names (R131, R132). -/
def QEntry.cluster (e : QEntry) : Nat := e.home / 8

/-- The docket waits on counters of its home cluster: by its header or as a CWAIT (R131, R136). -/
def namesCounters (e : QEntry) : Bool := dkNwait e.dk != 0 || (dkEngine e.dk == 3 && dkOp e.dk == 1)

/-- The docket words of a record about an entry (R386). -/
def QEntry.words (e : QEntry) : DocketWords :=
  { seq := e.seq.toNat, ring := e.die.val, engine := dkEngine e.dk, status := e.status, tag := dkTag e.dk }

/-- The start of an access sequence of an entry's docket. -/
def QEntry.access (e : QEntry) (s : State) : Access := Access.start s e.tenant.val (some e.words)

/-- The docket that the engine of a queue runs with the given engine and operation codes, its work not finished. -/
def runningOp (s : State) (q engine op : Nat) : Option QEntry :=
  (queue s q).find? (fun e => e.running && !e.done && !e.cut && dkEngine e.dk == engine && dkOp e.dk == op)

-- completion records (R137, R138) -------------------------------------------------------------------------------------

/-- The completion record of a docket. -/
def recordOf (e : QEntry) (status : Nat) (fin' : W32) (digest : Nat) : Record :=
  let sat (n : Nat) : Nat := min n (2 ^ 32 - 1)
  BitVec.ofNat 256 (e.seq.toNat
    + (status + dkEngine e.dk * 2 ^ 8 + dkTenant e.dk * 2 ^ 12 + dkCore e.dk * 2 ^ 16 + b2n e.late * 2 ^ 22
        + b2n e.clamped * 2 ^ 23 + b2n e.reexec * 2 ^ 24 + b2n e.carry * 2 ^ 25) * 2 ^ 32
    + dkTag e.dk * 2 ^ 64 + fin'.toNat * 2 ^ 96 + sat e.nonfinite * 2 ^ 128 + sat e.flushed * 2 ^ 160
    + digest % 2 ^ 64 * 2 ^ 192)

/-- STATUS of a record. -/
def recStatus (r : Record) : Nat := bitsAt r.toNat 32 8

/-- DIGEST of a record. -/
def recDigest (r : Record) : Nat := bitsAt r.toNat 192 64

-- sequence numbers (R271) ---------------------------------------------------------------------------------------------

/-- SEQs of a tenant resolved, and their operations forgotten. -/
def resolveSeqs (s : State) (t : Nat) (l : List W32) : State :=
  let m := s.msf
  { s with msf := { m with
      open' := mapUpd m.open' t [] (fun o => o.filter (fun x => !l.contains x))
      ops := m.ops.filter (fun o => !(o.tenant.val == t && l.contains o.seq)) } }

-- completing a docket -------------------------------------------------------------------------------------------------

/-- The record of a non-finite output, under the engine's block, with its fixed arguments (R68, R331, R387, R388). -/
def raiseNonfinite (s : State) (q : Nat) (e : QEntry) (status : Nat) : State :=
  if e.nonfinite = 0 then s
  else
    let src := queueSrc s q
    raise s { code := src.1.num * 1024 + 0x3FF, off := 0xFFC, lsb := 0, die := src.2.1, unit := src.2.2,
              tenant := e.tenant.val, dk := some { e.words with status := status },
              args := [e.nonfinite, e.flushed] ++ e.xargs }

/-- A completion with INVALID_ADDRESS is counted and recorded (R470). -/
def raiseInvalid (s : State) (e : QEntry) : State :=
  let s := rinc s Reg.DOCK_INVALID_ADDR e.die.val
  raise s (evOf Reg.DOCK_INVALID_ADDR 0 e.die.val 0 e.tenant.val (some { e.words with status := 4 }) [e.badAddr])

/-- The header SIGNAL (R139): made when STATUS is OK; where the tenant has no counter way the status is OWNER_FAULT. -/
def signalOf (s : State) (e : QEntry) (status : Nat) : Access × Nat :=
  let x := e.access s
  if !dkSignalEn e.dk || !([0, 2, 3, 8, 9].contains status) then (x, status)
  else if (counterWay s e.cluster e.tenant.val).isNone then (x, 2)
  else if status = 0 then
    let y := x.counterAdd e.cluster e.tenant.val (dkf e.dk 0x24 0 12) (dkf e.dk 0x28 0 32)
    (y, worst y.faults)
  else (x, status)

/-- The slot of an accepted docket receives its record (R139). -/
def slotDone (s : State) (die t : Nat) (seq : W32) (r : Record) (irq : Bool) : State :=
  let k := 16 * die + t
  { s with rings := mapUpd s.rings k RingSt.reset (fun g =>
      { g with acc := updFirst g.acc (fun a => a.seq == seq) (fun a => { a with done := some (r, irq) }) }) }

/-- A docket completes with a status: signal, records, the freed entry and the record that waits to be written; a Lathe docket stopped
short of its output leaves nothing to carry over (R68, R102, R139, R140, R271, R470). -/
def complete (s : State) (q : Nat) (e : QEntry) (status : Nat) : State :=
  let g := signalOf s e status
  if g.1.stalled then s
  else
    let s := g.1.s
    let status := g.2
    let s := if status = 4 then raiseInvalid s e else s
    let s := raiseNonfinite s q e status
    let s := if status = 7 then rinc s Reg.TENANT_PURGED 0 e.tenant.val else s
    let s := setQueue s q (dropFirst (queue s q) (·.is e.toRef))
    let s := if q < 2048 ∧ q % 4 = 0 ∧ e.running ∧ !e.done then { s with carry := mapErase s.carry (q / 4) } else s
    let s := resolveSeqs s e.tenant.val e.seqs
    let digest := if dkDigestEn e.dk then e.digest else 0
    slotDone s e.die.val e.tenant.val e.seq (recordOf { e with status := status } status (stamp s) digest) (dkIrq e.dk)

/-- The outputs of a docket in ascending destination address (R394). -/
def sortOut (l : List (Nat × List Byte)) : List (Nat × List Byte) :=
  let rec ins (p : Nat × List Byte) (l : List (Nat × List Byte)) : List (Nat × List Byte) :=
    match l with
    | [] => [p]
    | x :: r => if p.1 < x.1 then p :: x :: r else x :: ins p r
  l.foldl (fun acc p => ins p acc) []

/-- The docket's digest over its outputs. -/
def digestOf (e : QEntry) (outs : List (Nat × List Byte)) : Nat :=
  if dkDigestEn e.dk then layerDigest ((sortOut outs).flatMap (·.2)) else 0

/-- An engine's work on a docket is finished: the accesses' faults, the counts and the digest go into its entry. Where an
access stalls on a zero-fill the work waits (R93, R165). -/
def finish (s0 : State) (q : Nat) (e : QEntry) (x : Access) (nonfinite flushed digest : Nat) : State :=
  if x.stalled then s0
  else updEntry x.s q e.toRef (fun e => { e with
    done := true, status := worst ((e.status :: x.faults)), badAddr := if e.status = 4 then e.badAddr else x.bad.getD 0,
    nonfinite := e.nonfinite + nonfinite, flushed := e.flushed + flushed, digest := digest })

/-- Outputs written one after the other. -/
def writeAll (x : Access) (outs : List (Nat × List Byte)) : Access := outs.foldl (fun x p => x.wr p.1 p.2) x

end Sys2Proof.Machine
end

