-- ==== Sys2Proof/Machine/HopOps.lean ====
section
/-! DEFINITION. Sys2Proof/Machine/HopOps.lean: a Hopper's geometry, control block, slots and generator: R217, R218, R222 to
R226. -/

namespace Sys2Proof.Machine

/-- A field of the HOPPER page of Hopper h (R217, R235). -/
def hopF (s : State) (f : Fld) (h : Nat) : Nat := rget s f (h % 2) (h / 2)

/-- A field of the HOPPER page of Hopper h set. -/
def hopSet (s : State) (f : Fld) (h v : Nat) : State := rset s f (h % 2) (h / 2) v

/-- Local address of a Hopper's control block (R218). -/
def hopBase (s : State) (h : Nat) : Nat := roomBase + hopF s Reg.HOPPER_HOP_BASE_REGION h * 0x40000000

/-- Bytes of the control block of a window of w slots (R218). -/
def hopCtrl (w : Nat) : Nat := ceilDiv (64 + 8 * w) 65536 * 65536

/-- SLOT_BYTES (R218). -/
def hopSlotBytes (s : State) (h : Nat) : Nat := hopF s Reg.HOPPER_HOP_SLOT_UNITS h * 65536

/-- W. -/
def hopW (s : State) (h : Nat) : Nat := hopF s Reg.HOPPER_HOP_WINDOW h

/-- slot_address(i) (R218). -/
def hopSlot (s : State) (h i : Nat) : Nat := hopBase s h + hopCtrl (hopW s h) + i * hopSlotBytes s h

/-- entry_address(i) (R218). -/
def hopEntryAt (s : State) (h i : Nat) : Nat := hopBase s h + 64 + 8 * i

/-- CAPACITY: the largest W that fits (R218). -/
def hopCapacity (regions units : Nat) : Nat :=
  let size := regions * 0x40000000
  let slot := units * 65536
  let fits (w : Nat) : Bool := hopCtrl w + w * slot ≤ size
  let w := (size - 64) / (slot + 8)
  if fits w then w else if fits (w - 1) then w - 1 else w - 2

/-- EXPECT of a slot. -/
def hopExpect (s : State) (h i : Nat) : Nat := memNat s (hopEntryAt s h i) 6

/-- STATE of a slot: 0 EMPTY, 1 FILLING, 2 FULL, 3 VOID. -/
def hopState (s : State) (h i : Nat) : Nat := bitsAt (memNat s (hopEntryAt s h i) 8) 48 2

/-- An entry written as one 8-byte store of the Hopper logic, checked as every access is; EMPTY_SLOTS follows what the block then holds
(R164, R168, R226, R235). -/
def Access.hopEntry (x : Access) (h i expect st : Nat) : Access :=
  let waits (s : State) : Nat := b2n (hopState s h i ≤ 1)
  let y := x.wrNat (hopEntryAt x.s h i) 8 (expect % 2 ^ 48 + st * 2 ^ 48)
  { y with s := hopSet y.s Reg.HOPPER_HOP_EMPTY_SLOTS h (hopF y.s Reg.HOPPER_HOP_EMPTY_SLOTS h + waits y.s - waits x.s) }

/-- The STATE of a slot set. -/
def Access.hopTurn (x : Access) (h i st : Nat) : Access := x.hopEntry h i (hopExpect x.s h i) st

/-- DRAWN (R218). -/
def hopDrawn (s : State) (h : Nat) : Nat := memNat s (hopBase s h + 16) 6

/-- The page shows the DRAWN of the control block (R235). -/
def hopShowDrawn (s : State) (h : Nat) : State :=
  hopSet (hopSet s Reg.HOPPER_HOP_DRAWN_LO h (hopDrawn s h)) Reg.HOPPER_HOP_DRAWN_HI h (hopDrawn s h / 2 ^ 32)

/-- DRAWN written as one 8-byte store, and shown in the page (R168, R227, R235). -/
def Access.hopDrawn (x : Access) (h v : Nat) : Access :=
  let y := x.wrNat (hopBase x.s h + 16) 8 (v % 2 ^ 48)
  { y with s := hopShowDrawn y.s h }

/-- SEED. -/
def hopSeed (s : State) (h : Nat) : Nat := memNat s (hopBase s h) 8

/-- draw_slot of R225. -/
def drawSlot (seed w j : Nat) : Nat :=
  let r := mix ((seed + (j + 1) * 0x9E3779B97F4A7C15) % 2 ^ 64)
  ((r / 2 ^ 32) * w) / 2 ^ 32

/-- The slot of draw j of Hopper h. -/
def hopDrawSlot (s : State) (h j : Nat) : Nat := drawSlot (hopSeed s h) (hopW s h) j

/-- The slot that expects intake number k (R222). -/
def hopSlotFor (s : State) (h k : Nat) : Option Nat := (List.range (hopW s h)).find? (fun i => hopExpect s h i == k)

/-- The Hopper is READY (R219). -/
def hopReady (s : State) (h : Nat) : Bool := hopF s Reg.HOPPER_HOP_STATE h == 2

/-- The control block lies in a region that is being filled, or in a domain under reset (R165, R367). -/
def hopFilling (s : State) (h : Nat) : Bool := fillStall s (hopBase s h) (64 + 8 * hopW s h)

/-- A draw of the Hopper copies from the slot: it counts as drawn (R224, R229). -/
def slotDrawn (s : State) (h i : Nat) : Bool :=
  match mapFind s.hopper h with | some d => d.copying && hopDrawSlot s h d.j == i | none => false

/-- Uncore cycles of a draw's wait at step 1 of R227 that STARVE_CYCLES does not hold yet (R228). -/
def starveDue (s : State) (d : HopDraw) : Nat := if d.copying then 0 else (s.time.cyc - d.waitFrom) * 6 / 5 - d.starved

/-- The cycles that the draws of MDm wait at the moment, as a read of STARVE_CYCLES adds them (R228, R235). -/
def starveNow (s : State) (m : Nat) : Nat := ((s.hopper.filter (fun d => d.1 % 2 == m)).map (fun d => starveDue s d.2)).sum

/-- A read of STARVE_CYCLES has taken the cycles of the waits in progress. -/
def starveRead (s : State) (m : Nat) : State :=
  { s with hopper := s.hopper.map (fun d => if d.1 % 2 = m then (d.1, { d.2 with starved := d.2.starved + starveDue s d.2 }) else d) }

/-- The draw of a Hopper is over, or its wait: its cycles go into STARVE_CYCLES (R228, R235). -/
def starveEnd (s : State) (h : Nat) (d : HopDraw) : State := rinc s Reg.HOPPER_STARVE_CYCLES (h % 2) 0 (starveDue s d)

-- Hopper dockets (R220) -----------------------------------------------------------------------------------------------

/-- HOPPER of a Hopper docket. -/
def hdHopper (d : Docket) : Nat := dkf d 0x30 0 4
/-- COUNT. -/
def hdCount (d : Docket) : Nat := dkf d 0x30 8 7
/-- DST2_EN. -/
def hdDst2En (d : Docket) : Bool := dkf d 0x30 16 1 == 1
/-- ARRIVE_EN. -/
def hdArriveEn (d : Docket) : Bool := dkf d 0x30 17 1 == 1
/-- ARRIVE_CTR. -/
def hdArriveCtr (d : Docket) : Nat := dkf d 0x34 0 12
/-- ARRIVE_CLUSTER. -/
def hdArriveCluster (d : Docket) : Nat := dkf d 0x34 16 6
/-- ARG. -/
def hdArg (d : Docket) : Nat := dkf d 0x38 0 64
/-- DST. -/
def hdDst (d : Docket) : Nat := dkf d 0x40 0 64
/-- DST2. -/
def hdDst2 (d : Docket) : Nat := dkf d 0x48 0 64
/-- DST_STRIDE. -/
def hdStride (d : Docket) : Nat := dkf d 0x50 0 32
/-- LIST. -/
def hdList (d : Docket) : Nat := dkf d 0x58 0 64

/-- A Hopper docket of ring r completes PARAM_ERROR at acceptance (R220). -/
def hopperError (s : State) (r : Nat) (d : Docket) : Bool :=
  let h := hdHopper d
  h % 2 != r / 4 || 3 < dkOp d ||
    (dkOp d == 1 && (hdCount d == 0 || 64 < hdCount d || hdStride d % 64 != 0 || hdStride d < hopSlotBytes s h))

-- INGEST dockets (R186, R222) -----------------------------------------------------------------------------------------

/-- PLAN. -/
def ingPlan (d : Docket) : Nat := dkf d 0x30 0 64
/-- ENTRIES. -/
def ingEntries (d : Docket) : Nat := dkf d 0x38 0 7
/-- PROFILE. -/
def ingProfile (d : Docket) : Nat := dkf d 0x38 8 4
/-- CAPTIONS. -/
def ingCaptions (d : Docket) : Bool := dkf d 0x38 12 1 == 1
/-- AUDIO_MASK. -/
def ingAudio (d : Docket) : Nat := dkf d 0x38 13 3
/-- DEST_HOPPER. -/
def ingToHopper (d : Docket) : Bool := dkf d 0x38 16 1 == 1
/-- CC_SERVICE. -/
def ingService (d : Docket) : Nat := dkf d 0x38 24 6
/-- OUT. -/
def ingOut (d : Docket) : Nat := dkf d 0x40 0 64
/-- The Hopper that OUT names. -/
def ingHopper (d : Docket) : Nat := dkf d 0x40 0 8
/-- OUT_MAX. -/
def ingOutMax (d : Docket) : Nat := dkf d 0x48 0 32
/-- SAMPLE_ID. -/
def ingSample (d : Docket) : Nat := dkf d 0x50 0 64
/-- The intake number (R222). -/
def ingIntake (d : Docket) : Nat := ingSample d % 2 ^ 48

/-- An INGEST docket completes PARAM_ERROR at acceptance (R178, R186). -/
def millError (d : Docket) : Bool := dkOp d != 0 || ingEntries d == 0 || 64 < ingEntries d || ingPlan d % 16 != 0

/-- The Hopper of an INGEST docket as it stands: 0 fit, or the completion code (R186, R217, R222). -/
def ingestFault (s : State) (e : QEntry) : Nat :=
  let h := ingHopper e.dk
  if !ingToHopper e.dk then 0
  else if 16 ≤ h || !hopReady s h then 1
  else if hopF s Reg.HOPPER_HOP_OWNER h ≠ e.tenant.val then 2
  else 0

/-- The slot that an INGEST docket delivers to (R222). -/
def ingestSlot (s : State) (e : QEntry) : Option Nat := hopSlotFor s (ingHopper e.dk) (ingIntake e.dk)

/-- The slot STATE after an INGEST docket has completed with a status: a slot that it took and that still awaits its number becomes EMPTY
where the docket is PURGED and VOID on any other status but OK (R224). -/
def ingestDone (s : State) (e : QEntry) (status : Nat) : Access :=
  let h := ingHopper e.dk
  match e.slot with
  | none => e.access s
  | some i =>
    if status = 0 ∨ hopExpect s h i ≠ ingIntake e.dk then e.access s
    else (e.access s).hopTurn h i (if status = 7 then 0 else 3)

end Sys2Proof.Machine
end

