-- ==== Sys2Proof/Machine/Lathe.lean ====
section
/-! DEFINITION. Sys2Proof/Machine/Lathe.lean: the Lathe's operands, FP32, INT32 and tally accumulation and the exponent pass:
R96 to R106, R133. -/

namespace Sys2Proof.Machine

/-- A docket field that is clamped (R129): byte offset, lowest bit, width, value written, value applied. -/
structure DkClamp where
  off : Nat
  lsb : Nat
  width : Nat
  written : Nat
  applied : Nat
deriving DecidableEq, Repr

-- the body (R133) -----------------------------------------------------------------------------------------------------

/-- A_FMT, B_FMT and OUT_FMT. -/
def laAFmt (d : Docket) : Nat := dkf d 0x30 0 5
/-- B_FMT. -/
def laBFmt (d : Docket) : Nat := dkf d 0x30 5 5
/-- OUT_FMT. -/
def laOut (d : Docket) : Nat := dkf d 0x30 10 5
/-- SAT. -/
def laSat (d : Docket) : Bool := dkf d 0x30 15 1 == 1
/-- ACC_MODE is TALLY. -/
def laTally (d : Docket) : Bool := dkf d 0x30 16 1 == 1
/-- ANCHOR_SRC is EXTERNAL. -/
def laExternal (d : Docket) : Bool := dkf d 0x30 17 1 == 1
/-- SLICE_LOG2. -/
def laSlice (d : Docket) : Nat := dkf d 0x30 18 5
/-- C_IN_EN. -/
def laCInEn (d : Docket) : Bool := dkf d 0x30 23 1 == 1
/-- M. -/
def laM (d : Docket) : Nat := dkf d 0x34 0 13
/-- N. -/
def laN (d : Docket) : Nat := dkf d 0x34 16 13
/-- K, or SLICES. -/
def laK (d : Docket) : Nat := dkf d 0x38 0 17
/-- C_IN. -/
def laCIn (d : Docket) : Nat := dkf d 0x50 0 21
/-- C_OUT, or OUT. -/
def laCOut (d : Docket) : Nat := dkf d 0x54 0 21
/-- SCRATCH. -/
def laScratch (d : Docket) : Nat := dkf d 0x58 0 21
/-- CODES_OUT, or CODES_IN. -/
def laCodes (d : Docket) : Nat := dkf d 0x60 0 21
/-- P. -/
def laP (d : Docket) : Nat := dkf d 0x64 0 25

/-- Tiles of the output. -/
def laTiles (d : Docket) : Nat := (laM d / 64) * (laN d / 64)

/-- The tiles in the order in which the Lathe walks them: blocks of up to 2 × 2 tiles, row-major, and the tiles of a block likewise (R98). -/
def laWalk (d : Docket) : List Nat :=
  let rows := laM d / 64
  let cols := laN d / 64
  (List.range (ceilDiv rows 2)).flatMap (fun bi => (List.range (ceilDiv cols 2)).flatMap (fun bj =>
    ([(0, 0), (0, 1), (1, 0), (1, 1)].map (fun p => (2 * bi + p.1, 2 * bj + p.2))).filterMap (fun p =>
      if p.1 < rows ∧ p.2 < cols then some (p.1 * cols + p.2) else none)))

/-- The row of the table of R99 that holds a format; 6 for none. -/
def latheRow (fmt : Nat) : Nat :=
  match fmt with
  | 0 => 0
  | 1 | 2 => 1
  | 11 => 2
  | 3 | 4 => 3
  | 5 | 6 | 10 => 4
  | 7 | 8 | 9 => 5
  | _ => 6

/-- Products summed per k-step: g of R99. -/
def latheG (row : Nat) : Nat := if row ≤ 2 then 1 else if row = 5 then 4 else 2

/-- OUT_FMT permitted for a row (R99). -/
def latheOutOk (row out : Nat) : Bool :=
  if row = 0 then out ≤ 2 else if row = 2 then out == 11 || out == 12 else out ≤ 4

/-- Bytes of a panel over K (R96). -/
def panelBytes (fmt k : Nat) : Nat := if isMX fmt then k / 32 * (64 + 256 * elemBits fmt) else k * 8 * elemBits fmt

/-- Bytes of an output of the given tiles; T64 words are followed by four anchors a tile (R104; log entry 18). -/
def latheOutBytes (out tiles : Nat) : Nat := if out = 13 then tiles * 32776 else tiles * 512 * elemBits out

/-- The region lies in the core store (R98). -/
def inStore (off n : Nat) : Bool := off + n ≤ 0x200000

/-- M and N of R98. -/
def latheShape (d : Docket) : Bool :=
  laM d % 64 == 0 && 64 ≤ laM d && laM d ≤ 4096 && laN d % 64 == 0 && 64 ≤ laN d && laN d ≤ 4096

/-- SLICE_LOG2 in force (R103). -/
def sliceOf (s : State) (core : Nat) (d : Docket) : Nat :=
  if laSlice d = 0 then rget s Reg.LATHE_SLICE_LOG2_DEFAULT core else laSlice d

/-- The number of slices of a docket: K / S, or SLICES. -/
def slicesOf (s : State) (core : Nat) (d : Docket) : Nat :=
  if dkOp d = 1 then laK d else laK d / 2 ^ sliceOf s core d

/-- A Lathe docket completes PARAM_ERROR (R98, R99, R103, R104, R106). -/
def latheError (s : State) (core : Nat) (d : Docket) : Bool :=
  let t := laTiles d
  let k := laK d
  let out := laOut d
  if 1 < dkOp d then true
  else if dkOp d = 1 then
    !latheShape d || k == 0 || !([0, 2, 13].contains out) || !inStore (laScratch d) (t * k * 16384)
      || !inStore (laCOut d) (latheOutBytes out t) || !inStore (laCodes d) (8 * t)
  else
    let row := latheRow (laAFmt d)
    let base := !latheShape d || k % 32 != 0 || k < 32 || 65536 < k || row == 6 || row != latheRow (laBFmt d)
      || !inStore (dkf d 0x40 0 21) ((laM d / 64 - 1) * dkf d 0x44 0 21 + panelBytes (laAFmt d) k)
      || !inStore (dkf d 0x48 0 21) ((laN d / 64 - 1) * dkf d 0x4C 0 21 + panelBytes (laBFmt d) k)
    if laTally d then
      let lg := sliceOf s core d
      let size := 2 ^ lg
      base || row == 2 || laCInEn d || lg < 5 || 16 < lg || dkf d 0x3C 0 32 % size != 0 || k % size != 0
        || dkf d 0x5C 0 22 < t * (k / size) * 16384 || !inStore (laScratch d) (t * (k / size) * 16384)
        || (if laExternal d then !inStore (laCodes d) (8 * t)
            else !([0, 2, 13].contains out) || !inStore (laCOut d) (latheOutBytes out t))
    else
      base || !latheOutOk row out || !inStore (laCOut d) (latheOutBytes out t)
        || (laCInEn d && !inStore (laCIn d) (t * 16384))

/-- The clamped fields of a Lathe docket: SLICE_LOG2 given as 0 and P (R103, R105, R129). -/
def latheClamps (s : State) (core : Nat) (d : Docket) : List DkClamp :=
  let sl : List DkClamp := if dkOp d = 0 ∧ laTally d ∧ laSlice d = 0 then
    [{ off := 0x30, lsb := 18, width := 5, written := 0, applied := sliceOf s core d }] else []
  let p := laP d
  let n := slicesOf s core d
  let a := min (2 ^ 24) (max p n)
  let ps : List DkClamp := if (dkOp d = 1 ∨ (laTally d ∧ !laExternal d)) ∧ p ≠ 0 ∧ p ≠ a then
    [{ off := 0x64, lsb := 0, width := 25, written := p, applied := a }] else []
  sl ++ ps

-- operands (R96) ------------------------------------------------------------------------------------------------------

/-- The element of lane i at k of a panel's bytes (R96). -/
def panelElem (fmt : Nat) (panel : Array Byte) (i k : Nat) : FVal :=
  let w := elemBits fmt
  let rec' := 8 * w
  let at' (base : Nat) : Nat :=
    let b := base + i * w / 8
    bitsAt ((panel.getD b 0).toNat + 256 * (panel.getD (b + 1) 0).toNat + 65536 * (panel.getD (b + 2) 0).toNat
      + 16777216 * (panel.getD (b + 3) 0).toNat) (i * w % 8) w
  if isMX fmt then
    let g := k / 32 * (64 + 32 * rec')
    decodeMX fmt (panel.getD (g + i) 0).toNat (at' (g + 64 + k % 32 * rec'))
  else decodeElem fmt (at' (k * rec'))

/-- The panels of an operand, read in the docket's name. -/
def readPanels (x : Access) (a stride n bytes : Nat) : List (Array Byte) × Access :=
  (List.range n).foldl (fun acc p =>
    let r := acc.2.rd (a + p * stride) bytes
    (acc.1 ++ [r.1.toArray], r.2)) ([], x)

/-- The exact sum of the products of k-steps [k, k + n) of one output element (R100). -/
def dotExact (fa fb : Nat) (pa pb : Array Byte) (i j k n : Nat) : FVal :=
  (List.range n).foldl (fun acc t => acc.add ((panelElem fa pa i (k + t)).mul (panelElem fb pb j (k + t))))
    (.fin true 0 0)

/-- FP32 accumulation over [k0, k0 + n) from acc, one rounding per k-step of g products (R100). -/
def accumulate (fa fb g : Nat) (pa pb : Array Byte) (i j k0 n : Nat) (acc : FVal) : FVal :=
  (List.range (n / g)).foldl (fun a t => f32 (a.add (dotExact fa fb pa pb i j (k0 + t * g) g))) acc

/-- INT32 accumulation (R101). -/
def accumulateInt (pa pb : Array Byte) (i j n : Nat) (acc : Int) : Int :=
  (List.range n).foldl (fun a k =>
    a + sext 8 (pa.getD (64 * k + i) 0).toNat * sext 8 (pb.getD (64 * k + j) 0).toNat) acc

/-- The rows and columns of a tile in order: 4,096 pairs. -/
def tileElems : List (Nat × Nat) := (List.range 64).flatMap (fun i => (List.range 64).map (fun j => (i, j)))

-- the exponent pass (R104) --------------------------------------------------------------------------------------------

/-- Slice partials of one block summed to tally words: words, anchor and flushed inputs (R79 to R81, R104). -/
def blockWords (code : Int) (p : Nat) (slices : List (List FVal)) : List Int × Int × Nat :=
  let h := headroom p
  let e := anchorOf code h
  let ws := slices.map (fun l => l.map (toTally 64 e))
  let sum := (List.range 1024).map (fun i =>
    ws.foldl (fun acc l => tallyAdd 64 acc (boundWord 64 h (l.getD i (0, false)).1).1) 0)
  (sum, e, (ws.map (fun l => l.countP (·.2))).sum)

/-- A tile's tally result: bytes at OUT, its four anchors, NONFINITE and FLUSHED (R82, R104). -/
def tileResult (out p : Nat) (codes : List Int) (slices : List (List FVal)) : List Byte × List Byte × Nat × Nat :=
  let bs := (List.range 4).map (fun b =>
    blockWords (codes.getD b 0) p (slices.map (fun l => (l.drop (1024 * b)).take 1024)))
  let fl := (bs.map (fun b => b.2.2)).sum
  let vals := bs.flatMap (fun b => b.1.map (tallyVal 64 b.2.1))
  if out = 13 then
    (pack 64 (bs.flatMap (fun b => b.1.map (twos 64))), pack 16 (bs.map (fun b => twos 16 b.2.1)),
      vals.countP FVal.nonfinite, fl)
  else
    let r := encodeAll out false vals
    (r.1, [], r.2, fl)

/-- The tally outputs of all tiles: (address, bytes), NONFINITE, FLUSHED. -/
def tallyOut (base : Nat) (d : Docket) (p : Nat) (codes : Nat → List Int) (parts : Nat → List (List FVal)) :
    List (Nat × List Byte) × Nat × Nat :=
  let n := laTiles d
  (laWalk d).foldl (fun acc t =>
    let r := tileResult (laOut d) p (codes t) (parts t)
    let words := (base + laCOut d + t * 512 * elemBits (laOut d), r.1)
    let anchors := if laOut d = 13 then [(base + laCOut d + n * 32768 + 8 * t, r.2.1)] else []
    (acc.1 ++ [words] ++ anchors, acc.2.1 + r.2.2.1, acc.2.2 + r.2.2.2)) ([], 0, 0)

-- operations ----------------------------------------------------------------------------------------------------------

/-- What a Lathe operation gives: the accesses made, outputs, NONFINITE and FLUSHED. -/
structure OpOut where
  x : Access
  outs : List (Nat × List Byte)
  nonfinite : Nat
  flushed : Nat
deriving DecidableEq, Repr

/-- LMMA in FP32 or INT32 accumulation (R98, R100, R101, R102), C_IN from the accumulator bank where one is given. -/
def latheProduct (x : Access) (base : Nat) (d : Docket) (bank : Option (List Byte)) : OpOut :=
  let fa := laAFmt d
  let fb := laBFmt d
  let row := latheRow fa
  let k := laK d
  let a := readPanels x (base + dkf d 0x40 0 21) (dkf d 0x44 0 21) (laM d / 64) (panelBytes fa k)
  let b := readPanels a.2 (base + dkf d 0x48 0 21) (dkf d 0x4C 0 21) (laN d / 64) (panelBytes fb k)
  let n := laTiles d
  let cin := if !laCInEn d then ([], b.2)
    else match bank with
      | some l => (l, b.2)
      | none => b.2.rd (base + laCIn d) (n * 16384)
  let c := (unpack 32 cin.1 (if laCInEn d then n * 4096 else 0)).toArray
  let cols := laN d / 64
  let tile (t : Nat) : List FVal :=
    let pa := a.1.getD (t / cols) #[]
    let pb := b.1.getD (t % cols) #[]
    tileElems.map (fun e =>
      let c0 := c.getD (4096 * t + 64 * e.1 + e.2) 0
      if row = 2 then .ofInt (sext 32 (twos 32 (accumulateInt pa pb e.1 e.2 k (sext 32 c0))))
      else accumulate fa fb (latheG row) pa pb e.1 e.2 0 k (decodeElem 0 c0))
  let rs := (laWalk d).map (fun t => (t, encodeAll (laOut d) (laSat d) (tile t)))
  { x := cin.2, outs := rs.map (fun r => (base + laCOut d + r.1 * 512 * elemBits (laOut d), r.2.1)),
    nonfinite := (rs.map (fun r => r.2.2)).sum, flushed := 0 }

/-- LMMA in TALLY mode (R103, R104). Tiles are walked as R98 says and placed in SCRATCH, CODES_OUT and OUT by their row-major number over
the whole output: DESIGN CHOICE, the rules say tile-major and tile order only (log entry 18). -/
def latheTally (x : Access) (base : Nat) (d : Docket) : OpOut :=
  let fa := laAFmt d
  let fb := laBFmt d
  let g := latheG (latheRow fa)
  let k := laK d
  let size := 2 ^ laSlice d
  let ns := k / size
  let a := readPanels x (base + dkf d 0x40 0 21) (dkf d 0x44 0 21) (laM d / 64) (panelBytes fa k)
  let b := readPanels a.2 (base + dkf d 0x48 0 21) (dkf d 0x4C 0 21) (laN d / 64) (panelBytes fb k)
  let cols := laN d / 64
  let part (t j : Nat) : List FVal :=
    tileElems.map (fun e => accumulate fa fb g (a.1.getD (t / cols) #[]) (b.1.getD (t % cols) #[]) e.1 e.2 (j * size) size
      FVal.zero)
  let parts := (List.range (laTiles d)).map (fun t => (List.range ns).map (part t))
  let codes := parts.map (fun sl => (List.range 4).map (fun q =>
    localCode (sl.flatMap (fun l => (l.drop (1024 * q)).take 1024))))
  let scratch := (laWalk d).flatMap (fun t => (List.range ns).map (fun j =>
    (base + laScratch d + (t * ns + j) * 16384, (encodeAll 0 false ((parts.getD t []).getD j [])).1)))
  if laExternal d then
    { x := b.2,
      outs := scratch ++ [(base + laCodes d, pack 16 ((codes.flatMap id).map (twos 16)))],
      nonfinite := (parts.map (fun sl => (sl.map (fun l => l.countP FVal.nonfinite)).sum)).sum, flushed := 0 }
  else
    let p := if laP d = 0 then ns else laP d
    let r := tallyOut base d p (fun t => codes.getD t []) (fun t => parts.getD t [])
    { x := b.2, outs := scratch ++ r.1, nonfinite := r.2.1, flushed := r.2.2 }

/-- LTALLY over stored partials and agreed codes (R104). -/
def latheExponent (x : Access) (base : Nat) (d : Docket) : OpOut :=
  let n := laTiles d
  let ns := laK d
  let a := x.rd (base + laScratch d) (n * ns * 16384)
  let b := a.2.rd (base + laCodes d) (8 * n)
  let codes := (unpack 16 b.1 (4 * n)).map anchorBits
  let parts (t : Nat) : List (List FVal) := (List.range ns).map (fun j =>
    decodeAll 0 ((a.1.drop ((t * ns + j) * 16384)).take 16384) 4096)
  let p := if laP d = 0 then ns else laP d
  let r := tallyOut base d p (fun t => (codes.drop (4 * t)).take 4) parts
  { x := b.2, outs := r.1, nonfinite := r.2.1, flushed := r.2.2 }

/-- Both panel streams of tile t share a bank in every k-step (R97). -/
def panelsCollide (d : Docket) (t : Nat) : Bool :=
  let row := latheRow (laAFmt d)
  let r (fmt : Nat) : Nat := ceilDiv (latheG row * 8 * elemBits fmt) 64 * 64
  let m := max (r (laAFmt d)) (r (laBFmt d))
  let cols := laN d / 64
  let a := dkf d 0x40 0 21 + t / cols * dkf d 0x44 0 21
  let b := dkf d 0x48 0 21 + t % cols * dkf d 0x4C 0 21
  let x := (b + 4096 - a % 4096) % 4096
  decide (x < m ∨ 4096 - m < x)

/-- A single-block docket that accumulates in FP32 (R102). -/
def singleBlock (d : Docket) : Bool :=
  dkOp d == 0 && laM d ≤ 128 && laN d ≤ 128 && latheRow (laAFmt d) != 2 && !laTally d

/-- The accumulator bank that a docket takes C_IN from: the docket just completed wrote its C_IN as FP32 C_OUT, both are single-block FP32
dockets of one tenant, and the bank holds every tile that the docket reads (R102; log entry 18). -/
def carriesOver (s : State) (core : Nat) (e : QEntry) : Option (List Byte) :=
  match mapFind s.carry core with
  | none => none
  | some c =>
    if c.single ∧ singleBlock e.dk ∧ laCInEn e.dk ∧ c.out = laCIn e.dk ∧ c.tenant = e.tenant.val
        ∧ rget s Reg.LATHE_CARRY_EN core = 1 ∧ laTiles e.dk * 16384 ≤ c.bank.length then some c.bank
    else none

/-- What the accumulator bank holds once a docket has run (R102). -/
def bankAfter (e : QEntry) (r : OpOut) : CarrySt :=
  let single := singleBlock e.dk && laOut e.dk == 0
  { out := laCOut e.dk, tenant := e.tenant.val, single := single, bank := if single then r.outs.flatMap (·.2) else [] }

/-- A Lathe operation's outputs are written and the docket's work is done. -/
def latheFinish (s0 : State) (core : Nat) (e : QEntry) (r : OpOut) : State :=
  let x := writeAll r.x r.outs
  if x.stalled then s0
  else
    let s := finish s0 (4 * core) e x r.nonfinite r.flushed (digestOf e r.outs)
    { s with carry := mapSet s.carry core (bankAfter e r) }

/-- LMMA. -/
def execLmma (core : CoreId) (s : State) : Host.Outcome State Fault Refusal :=
  .next (live s (fun s =>
    match runningOp s (4 * core.val) 0 0 with
    | none => s
    | some e =>
      let base := coreBase core.val
      let bank := carriesOver s core.val e
      let r := if laTally e.dk then latheTally (e.access s) base e.dk else latheProduct (e.access s) base e.dk bank
      let t := latheFinish s core.val e r
      if (entryOf t (4 * core.val) e.toRef).any (·.done) then
        let steps := laK e.dk / latheG (latheRow (laAFmt e.dk))
        let t := rinc t Reg.LATHE_ISSUE_CYCLES core.val 0 (laTiles e.dk * steps)
        let t := rinc t Reg.LATHE_CONFLICT_CYCLES core.val 0 ((laWalk e.dk).countP (panelsCollide e.dk) * steps)
        if bank.isSome then
          updEntry (rinc t Reg.LATHE_CARRY_COUNT core.val) (4 * core.val) e.toRef (fun e => { e with carry := true })
        else t
      else t))

/-- LTALLY. -/
def execLtally (core : CoreId) (s : State) : Host.Outcome State Fault Refusal :=
  .next (live s (fun s =>
    match runningOp s (4 * core.val) 0 1 with
    | none => s
    | some e => latheFinish s core.val e (latheExponent (e.access s) (coreBase core.val) e.dk)))

end Sys2Proof.Machine
end

