-- ==== Sys2Proof/Machine/Ledger.lean ====
section
/-! DEFINITION. Sys2Proof/Machine/Ledger.lean: the Ledger's rings, buckets and summaries: R390 to R393, R401. -/

namespace Sys2Proof.Machine

/-- The LEDGER page. -/
def ledgerPage : Page := ⟨.ledger, 0⟩

/-- The records of a ring kept after its tail has moved k units on. -/
def dropUnits (l : List (Nat × Nat)) (k : Nat) : List (Nat × Nat) :=
  match l with
  | [] => []
  | (p, n) :: r => if n ≤ k then dropUnits r (k - n) else (p, n) :: r

/-- Units to the last record start at most k units on (R392). -/
def startBefore (l : List (Nat × Nat)) (k : Nat) : Nat :=
  match l with
  | [] => 0
  | (_, n) :: r => if n ≤ k then n + startBefore r (k - n) else 0

/-- AO_TAIL applied (R392, R393): refused outside the span, clamped down inside a record. -/
def aoTailApply (w : Writer) (v : Nat) (s : State) : State :=
  let f := Reg.LEDGER_AO_TAIL
  let tail := rget s f
  let k := (v + aoUnits - tail) % aoUnits
  if rget s Reg.LEDGER_CAP_EN = 1 ∨ usedUnits s.ledger.recs < k then reportFld s ledgerPage w f 0 2 v tail
  else
    let j := startBefore s.ledger.recs k
    let t := (tail + j) % aoUnits
    let s := rset { s with ledger := { s.ledger with recs := dropUnits s.ledger.recs j } } f 0 0 t
    let s := if j = k then s else reportFld s ledgerPage w f 0 0 v t
    lostRecord s

/-- AO_TAIL_WRITE. -/
def execAoTailWrite (by' : Writer) (v : BitVec 12) (s : State) : Host.Outcome State Fault Refusal :=
  .next (gated s by' ledgerPage Reg.LEDGER_AO_TAIL 0 v.toNat (aoTailApply by' v.toNat))

/-- Units in the capacity ring (R393). -/
def capUnits (s : State) : Nat := 2 ^ (rget s Reg.LEDGER_CAP_LOG2_MIB + 16)

/-- CAP_BASE, a local address of the Storeroom. -/
def capBase (s : State) : Nat := rget64 s Reg.LEDGER_CAP_BASE_LO Reg.LEDGER_CAP_BASE_HI

/-- CAP_TAIL applied, by the rules of AO_TAIL against CAP_HEAD (R392). Records dropped at the capacity ring are reported
by the next records-lost record (log entry 13). -/
def capTailApply (w : Writer) (v : Nat) (s : State) : State :=
  let f := Reg.LEDGER_CAP_TAIL
  let tail := rget s f
  let n := capUnits s
  let k := (v + n - tail % n) % n
  if n ≤ v ∨ usedUnits s.ledger.capRecs < k then reportFld s ledgerPage w f 0 2 v tail
  else
    let j := startBefore s.ledger.capRecs k
    let t := (tail + j) % n
    let l := s.ledger
    let s := { s with ledger := { l with capRecs := dropUnits l.capRecs j, lost := l.lost + l.capLost, capLost := 0 } }
    let s := rset s f 0 0 t
    let s := if j = k then s else reportFld s ledgerPage w f 0 0 v t
    lostRecord s

/-- CAP_TAIL_WRITE. -/
def execCapTailWrite (by' : Writer) (v : BitVec 26) (s : State) : Host.Outcome State Fault Refusal :=
  .next (gated s by' ledgerPage Reg.LEDGER_CAP_TAIL 0 v.toNat (capTailApply by' v.toNat))

/-- The oldest records of the capacity ring overwritten until n units fit (R392). -/
def capOverwrite (s : State) (n fuel : Nat) : State :=
  match fuel with
  | 0 => s
  | fuel + 1 =>
    if usedUnits s.ledger.capRecs + n ≤ capUnits s then s
    else match s.ledger.capRecs with
      | [] => s
      | (p, k) :: r =>
        let s := { s with ledger := { s.ledger with capRecs := r } }
        let s := rset s Reg.LEDGER_CAP_TAIL 0 0 ((p + k) % capUnits s)
        let pad := memNat s (capBase s + 16 * p + 6) 2 = 0xFFFF
        capOverwrite (if pad then s else rinc s Reg.LEDGER_OVERWRITTEN) n fuel

/-- A record's bytes written at CAP_HEAD, after a PAD where it would straddle the wrap, as TC15's accesses to its regions (R165, R168, R388,
R393). -/
def capPlace (s : State) (bytes : List Byte) (units : Nat) : Access :=
  let n := capUnits s
  let head := rget s Reg.LEDGER_CAP_HEAD
  let wrap := head + units > n
  let at' := if wrap then 0 else head
  let base := capBase s
  let x := Access.start s 15 none
  let x := if wrap then x.wr (base + 16 * head) (padBytes (leNat (bytes.take 4)) s.time.ft (n - head)) else x
  let x := x.wr (base + 16 * at') bytes
  let recs := s.ledger.capRecs ++ (if wrap then [(head, n - head)] else []) ++ [(at', units)]
  let s := { x.s with ledger := { x.s.ledger with capRecs := recs } }
  { x with s := rset s Reg.LEDGER_CAP_HEAD 0 0 ((at' + units) % n) }

/-- One record put into the capacity ring, or dropped there (R392, R393). -/
def capCollect (s : State) (bytes : List Byte) (units : Nat) : Access :=
  let n := capUnits s
  let head := rget s Reg.LEDGER_CAP_HEAD
  let need := if head + units > n then n - head + units else units
  let used := usedUnits s.ledger.capRecs
  if leNat (bytes.drop 4) / 4096 % 4 = 0 then capPlace (capOverwrite s need s.ledger.capRecs.length) bytes units
  else if used + need + rget s Reg.LEDGER_RESERVE_KIB * 64 ≤ n then capPlace s bytes units
  else
    let s := rinc s Reg.LEDGER_DROPPED_FULL
    Access.start { s with ledger := { s.ledger with capLost := s.ledger.capLost + 1 } } 15 none

/-- The drain may move a record: CAP_EN, the capacity ring inside the Storeroom, the bus not locked by another input
(R393, R438). -/
def mayDrain (s : State) : Bool :=
  rget s Reg.LEDGER_CAP_EN == 1 && !frozen s && roomBase ≤ capBase s &&
    capBase s + 16 * capUnits s ≤ 0x060000000000 &&
    !(rget s Reg.SBUS_LOCKED == 1 && rget s Reg.SBUS_OWNER != 1)

/-- LEDGER_DRAIN: the oldest record of the AO ring moves to the capacity ring and AO_TAIL passes it; a PAD is only
passed (R393; log entry 13). A record waits where its place in the capacity ring is being filled or under reset (R165). -/
def execLedgerDrain (s : State) : Host.Outcome State Fault Refusal :=
  .next (
    if !mayDrain s then s
    else match s.ledger.recs with
      | [] => s
      | (p, n) :: r =>
        let bytes := memRead s.ledger.ao (16 * p) (16 * n)
        let pad := leNat ((bytes.drop 6).take 2) = 0xFFFF
        let x := if pad then Access.start s 15 none else capCollect s bytes n
        if x.stalled then s
        else
          let l := x.s.ledger
          lostRecord (rset { x.s with ledger := { l with recs := r ++ l.recs.drop s.ledger.recs.length } } Reg.LEDGER_AO_TAIL 0 0
            ((p + n) % aoUnits)))

/-- Depth of a profile's buckets. -/
def depthOf (s : State) (p : Nat) : Nat := rget s Reg.LEDGER_DEPTH 0 p

/-- f applied to the tokens of every bucket of profile p (R390). -/
def mapTokens (s : State) (p : Nat) (f : Nat → Nat) : State :=
  { s with ledger := { s.ledger with
      tokens := s.ledger.tokens.map (fun b => if profileOf s (b.1 / 32) (b.1 % 32) = p then (b.1, f b.2) else b)
      base := s.ledger.base.set p (f (s.ledger.base.getD p 0)) } }

/-- The next point of a profile's grid. -/
def setGrid (s : State) (p c : Nat) : State := { s with ledger := { s.ledger with grid := s.ledger.grid.set p c } }

/-- TOKEN_REFILL: at a grid point every bucket of the profile gains one token, up to its depth (R390). -/
def execTokenRefill (p : Fin 8) (s : State) : Host.Outcome State Fault Refusal :=
  .next (
    if frozen s then s
    else
      let due := s.ledger.grid.getD p.val 0
      let s := advanceTo s due
      let s := mapTokens s p.val (fun t => min (t + 1) (max t (depthOf s p.val)))
      setGrid s p.val (due + 1000 * rget s Reg.LEDGER_REFILL_US 0 p.val))

/-- REFILL_US applied: the grid restarts at the write (R390). -/
def refillUsApply (w : Writer) (p v : Nat) (s : State) : State :=
  let s := setClamped s w ledgerPage Reg.LEDGER_REFILL_US p v
  setGrid s p (s.time.cyc + 1000 * rget s Reg.LEDGER_REFILL_US 0 p)

/-- REFILL_US_WRITE. -/
def execRefillUsWrite (by' : Writer) (p : Fin 8) (v : BitVec 24) (s : State) : Host.Outcome State Fault Refusal :=
  .next (gated s by' ledgerPage Reg.LEDGER_REFILL_US p.val v.toNat (refillUsApply by' p.val v.toNat))

/-- DEPTH applied: tokens above the new depth are discarded (R390). -/
def depthApply (w : Writer) (p v : Nat) (s : State) : State :=
  let s := setClamped s w ledgerPage Reg.LEDGER_DEPTH p v
  mapTokens s p (fun t => min t (depthOf s p))

/-- DEPTH_WRITE. -/
def execDepthWrite (by' : Writer) (p : Fin 8) (v : Byte) (s : State) : Host.Outcome State Fault Refusal :=
  .next (gated s by' ledgerPage Reg.LEDGER_DEPTH p.val v.toNat (depthApply by' p.val v.toNat))

/-- CODE_PROFILE applied to the selected bucket, whose tokens are kept up to the new depth (R389, R401; log entry 13). -/
def codeProfileApply (v : Nat) (s : State) : State :=
  let code := rget s Reg.LEDGER_CODE_INDEX
  let flag := rget s Reg.LEDGER_CODE_FLAG
  let t := tokensOf s code flag
  let k := bucketKey code flag
  { s with ledger := { s.ledger with
      profs := mapSet s.ledger.profs k (v % 8)
      tokens := mapSet s.ledger.tokens k (min t (depthOf s (v % 8))) } }

/-- Order of records that arrive together: class, DIE, UNIT (R392). -/
def suppRank (b : Nat × Supp) : Nat :=
  (classProfile (b.1 / 32) (b.1 % 32)).1 * 65536 + b.2.src.toNat / 256 % 16 * 256 + b.2.src.toNat % 256

/-- A bucket put in the order of its record. -/
def insertSupp (b : Nat × Supp) (l : List (Nat × Supp)) : List (Nat × Supp) :=
  match l with
  | [] => [b]
  | x :: r => if suppRank b < suppRank x then b :: x :: r else x :: insertSupp b r

/-- The summary record of one bucket, counted when it is written (R391). -/
def summaryOf (s : State) (b : Nat × Supp) : State :=
  let code := b.1 / 32
  let body := recBody none [b.2.count, b.2.first.toNat, b.2.last.toNat]
  let t := collect s (classProfile code (b.1 % 32)).1 code true s.time.ft b.2.src.toNat b.2.loc.toNat body.1 (recUnits body.2)
  if rget t Reg.LEDGER_NEXT_SEQ = rget s Reg.LEDGER_NEXT_SEQ then t else rinc t Reg.LEDGER_SUMMARIES

/-- Every summary of the interval that closes (R391). -/
def summaries (s : State) : State :=
  let l := s.ledger.supp.foldl (fun acc b => insertSupp b acc) []
  l.foldl summaryOf { s with ledger := { s.ledger with supp := [] } }

/-- SUMMARY_INTERVAL_END (R391). -/
def execSummaryIntervalEnd (s : State) : Host.Outcome State Fault Refusal :=
  .next (
    if frozen s then s
    else
      let due := s.ledger.sumEnd
      let s := summaries (advanceTo s due)
      { s with ledger := { s.ledger with sumEnd := due + 1000000 * rget s Reg.LEDGER_SUMMARY_MS } })

/-- SUMMARY_MS applied: the interval closes at once and the next starts at the write (R391). -/
def summaryMsApply (w : Writer) (v : Nat) (s : State) : State :=
  let s := summaries s
  let s := setClamped s w ledgerPage Reg.LEDGER_SUMMARY_MS 0 v
  { s with ledger := { s.ledger with sumEnd := s.time.cyc + 1000000 * rget s Reg.LEDGER_SUMMARY_MS } }

/-- SUMMARY_MS_WRITE. -/
def execSummaryMsWrite (by' : Writer) (v : BitVec 16) (s : State) : Host.Outcome State Fault Refusal :=
  .next (gated s by' ledgerPage Reg.LEDGER_SUMMARY_MS 0 v.toNat (summaryMsApply by' v.toNat))

end Sys2Proof.Machine
end

