-- ==== Sys2Proof/Machine/NetOps.lean ====
section
/-! DEFINITION. Sys2Proof/Machine/NetOps.lean: packets, a link's transmitter with its credits and replay buffer, and the
router: R242 to R263. -/

namespace Sys2Proof.Machine

-- packets (R251, R270) ------------------------------------------------------------------------------------------------

/-- A field of a packet's header. -/
def pf (p : Packet) (lsb w : Nat) : Nat := bitsAt p.hdr.toNat lsb w

/-- DST. -/
def pDst (p : Packet) : Nat := pf p 0 16
/-- SRC. -/
def pSrc (p : Packet) : Nat := pf p 16 16
/-- DST_GEN. -/
def pDstGen (p : Packet) : Nat := pf p 32 8
/-- SRC_GEN. -/
def pSrcGen (p : Packet) : Nat := pf p 40 8
/-- TENANT. -/
def pTenant (p : Packet) : Nat := pf p 48 4
/-- MCAST. -/
def pMcast (p : Packet) : Bool := pf p 52 1 == 1
/-- CLASS: 0 REQ, 1 RSP, 2 BULK, 3 CTRL. -/
def pClass (p : Packet) : Nat := pf p 53 2
/-- LAYER. -/
def pLayer (p : Packet) : Nat := pf p 55 1
/-- HOPS. -/
def pHops (p : Packet) : Nat := pf p 56 3
/-- LEN. -/
def pLen (p : Packet) : Nat := pf p 64 8
/-- FLOW. -/
def pFlow (p : Packet) : Nat := pf p 80 16
/-- OPC. -/
def pOpc (p : Packet) : Nat := pf p 128 4

/-- A packet with a header field replaced. -/
def pSet (p : Packet) (lsb w v : Nat) : Packet := { p with hdr := BitVec.ofNat 256 (putBits p.hdr.toNat lsb w v) }

/-- A packet's virtual channel (R243). -/
def pVc (p : Packet) : Nat := 2 * pClass p + pLayer p

/-- A packet's units: header and data (R243). -/
def pUnits (p : Packet) : Nat := 1 + pLen p

/-- The routing fields and operation fields of a new packet (R251). -/
def mkPacket (s : State) (dst dgen tenant : Nat) (mcast : Bool) (cls flow : Nat) (op : Nat) (data : List Byte) : Packet :=
  { hdr := BitVec.ofNat 256 (dst % 2 ^ 16 + rget s Reg.ROUTE_OWN_DEV * 2 ^ 16 + dgen % 256 * 2 ^ 32
      + rget s Reg.ROUTE_OWN_GEN * 2 ^ 40 + tenant * 2 ^ 48 + b2n mcast * 2 ^ 52 + cls * 2 ^ 53
      + ceilDiv data.length 32 * 2 ^ 64 + flow % 2 ^ 16 * 2 ^ 80 + op % 2 ^ 128 * 2 ^ 128),
    data := data, side := 0 }

-- peer table (R260) ---------------------------------------------------------------------------------------------------

/-- The copy of a peer entry on fabric die f. -/
def peerEntry (s : State) (f dev : Nat) : W32 :=
  mapGet (if f = 0 then s.route.peer0 else s.route.peer1) (dev / 4) 0

/-- GEN of an entry. -/
def peerGen (e : W32) : Nat := bitsAt e.toNat 0 8

/-- VALID. -/
def peerValid (e : W32) : Bool := bitAt e.toNat 8

/-- FENCED. -/
def peerFenced (e : W32) : Bool := bitAt e.toNat 9

-- a link's transmitter (R246, R249) -----------------------------------------------------------------------------------

/-- The state of a link. -/
def linkOf (s : State) (l : Nat) : LinkSt := mapGet s.links l LinkSt.reset

/-- The state of a link replaced. -/
def setLink (s : State) (l : Nat) (k : LinkSt) : State := { s with links := mapSet s.links l k }

/-- A link is UP. -/
def linkUp (s : State) (l : Nat) : Bool := rget s Reg.ZLINK_STATE l == 7

/-- Units reserved for VC v (R249, R266). -/
def vcShare (s : State) (l v : Nat) : Nat := 256 * bitsAt (rget s Reg.ZLINK_VC_MIN l) (4 * v) 4

/-- Units of the shared pool. -/
def poolSize (s : State) (l : Nat) : Nat := 16384 - ((List.range 8).map (vcShare s l)).sum

/-- Units that VC v may still send. -/
def credits (s : State) (l v : Nat) : Nat :=
  let k := linkOf s l
  (vcShare s l v - mapGet k.used v 0) + (poolSize s l - k.pool)

/-- Credits taken for n units: the reserved share first (R249). -/
def takeCredits (s : State) (l v n : Nat) : State :=
  let k := linkOf s l
  let a := min n (vcShare s l v - mapGet k.used v 0)
  setLink s l { k with used := mapUpd k.used v 0 (· + a), pool := k.pool + (n - a) }

/-- Credits of n units returned: the reserved share is refilled first (R249). -/
def giveCredits (k : LinkSt) (v n : Nat) : LinkSt :=
  let a := min n (mapGet k.used v 0)
  { k with used := mapUpd k.used v 0 (· - a), pool := k.pool - (n - a) }

/-- The VC with the most credits to return, the lower on a tie (R249). -/
def mostWaiting (m : SMap Nat) : Option (Nat × Nat) :=
  m.foldl (fun acc e => if e.2 = 0 then acc else match acc with
    | none => some e
    | some b => if b.2 < e.2 then some e else acc) none

/-- A CR field, and the credits left to return. -/
def takeReturn (m : SMap Nat) : Nat × SMap Nat :=
  match mostWaiting m with
  | none => (0, m)
  | some (v, n) => let c := min n 8191; (c + v * 8192, mapSet m v (n - c))

/-- The units of a packet as numbers, header first (R243). -/
def unitsOf (p : Packet) : List Nat :=
  p.hdr.toNat :: (List.range (pLen p)).map (fun i => leNat ((p.data.drop (32 * i)).take 32))

/-- A flit (R242): FSEQ, ACK, NAK, KIND, time word, returns and units of one VC. -/
def mkFlit (fseq ack : BitVec 12) (nak : Bool) (kind : Nat) (time : Option W64) (cr0 cr1 vc : Nat) (units : List Nat) : Flit :=
  let n := units.length
  let vcs := (List.range n).foldl (fun acc i => acc + vc * 2 ^ (3 * i)) 0
  let us := (List.range n).foldl (fun acc i => acc + units.getD i 0 * 2 ^ (192 + 256 * i)) 0
  let b := fseq.toNat + ack.toNat * 2 ^ 12 + b2n nak * 2 ^ 24 + b2n time.isSome * 2 ^ 25 + kind * 2 ^ 26 + cr0 * 2 ^ 32
    + cr1 * 2 ^ 48 + (time.getD 0).toNat * 2 ^ 64
    + vcs * 2 ^ 128 + n * 2 ^ 185 + us
  BitVec.ofNat 5120 (b + crc64 (natLe b 632) * 2 ^ 5056)

/-- ACK of what a link sends: the last flit received in order (R242, R245). -/
def linkAck (k : LinkSt) : BitVec 12 := k.expect - 1

/-- A codeword slot of a link goes to a flit; every 4,096th slot is a marker slot, which goes first (R239; log entry 17). -/
def sendSlot (s : State) (l : LinkId) : State :=
  let k := linkOf s l.val
  if k.slot < 4095 then setLink s l.val { k with slot := k.slot + 1 }
  else emit (setLink s l.val { k with slot := 1, marker := k.marker + 1 }) (.marker l k.marker)

/-- The time word that the next flit of a link carries: FT, once per multiple of 4,096 ticks, in DELAY and UP and not while FT is INVALID
(R49, R56, R244, R264). -/
def timeDue (s : State) (l : LinkId) : Option W64 :=
  if rget s Reg.ZLINK_STATE l.val < 6 ∨ rget s Reg.FTIME_SYNC_STATE = 4 ∨ s.time.ft.toNat / 4096 ≤ (linkOf s l.val).timeAt then none
  else some s.time.ft

/-- The next flit of a link: a slot, the time word that is due, ACK, NAK and the two returns with the most credits (R239, R242, R244, R245,
R249). -/
def nextFlit (s : State) (l : LinkId) (kind : Nat) (fseq : BitVec 12) (vc : Nat) (units : List Nat) : Flit × State :=
  let s := sendSlot s l
  let w := timeDue s l
  let k := linkOf s l.val
  let a := takeReturn k.toReturn
  let b := takeReturn a.2
  let s := setLink s l.val { k with toReturn := b.2, timeAt := if w.isSome then s.time.ft.toNat / 4096 else k.timeAt }
  let s := match w with | some v => emit s (.timeWord l v) | none => s
  (mkFlit fseq (linkAck k) k.nak kind w a.1 b.1 vc units, s)

/-- An IDLE flit (R242, R245, R249). -/
def sendIdle (s : State) (l : LinkId) : State := let f := nextFlit s l 1 0 0 []; emit f.2 (.flit l f.1)

/-- A CONTROL flit with one unit of content (R242, R264; log entry 17). -/
def sendControl (s : State) (l : LinkId) (unit : Nat) : State := let f := nextFlit s l 2 0 6 [unit]; emit f.2 (.flit l f.1)

/-- A DATA flit joins the replay buffer as it leaves (R246). -/
def sendData (s : State) (l : LinkId) (vc : Nat) (units : List Nat) : State :=
  let f := nextFlit s l 0 (linkOf s l.val).next vc units
  let k := linkOf f.2 l.val
  pertFlit (setLink f.2 l.val { k with
    replay := k.replay ++ [f.1], next := k.next + 1, ackAt := if k.replay = [] then s.time.cyc else k.ackAt }) l

/-- A packet leaves on a link: credits, DATA flits into the replay buffer (R246, R249). -/
def transmit (s : State) (l : LinkId) (p : Packet) : State :=
  let s := takeCredits s l.val (pVc p) (pUnits p)
  emit ((chunksOf 19 (unitsOf p)).foldl (fun s g => sendData s l (pVc p) g) s) (.packet l p)

/-- The link can take the packet whole: UP, credits for every unit, room in the replay buffer (R246, R249). -/
def canSend (s : State) (l : Nat) (p : Packet) : Bool :=
  linkUp s l && pUnits p ≤ credits s l (pVc p) && (linkOf s l).replay.length + ceilDiv (pUnits p) 19 ≤ 1024

/-- A packet sent, or kept behind the packets of its VC that wait (R243, R249). -/
def linkSend (s : State) (l : LinkId) (p : Packet) : State :=
  let k := linkOf s l.val
  if canSend s l.val p && !k.tx.any (fun q => pVc q == pVc p) then transmit s l p
  else setLink s l.val { k with tx := k.tx ++ [p] }

/-- Every waiting packet of a link that can go now is sent, each VC in order (R243). -/
def pump (s : State) (l : LinkId) : State :=
  let k := linkOf s l.val
  k.tx.foldl linkSend' (setLink s l.val { k with tx := [] })
where
  linkSend' (s : State) (p : Packet) : State := linkSend s l p

/-- Units of a packet handled on the receiving side become credits to return (R249). -/
def returnUnits (s : State) (l : LinkId) (p : Packet) : State :=
  let k := linkOf s l.val
  let k := { k with toReturn := mapUpd k.toReturn (pVc p) 0 (· + pUnits p) }
  sendIdle (setLink s l.val k) l

-- routing (R252 to R257) ----------------------------------------------------------------------------------------------

/-- Hall, pod and slot of a device ID (R14). -/
def devHall (d : Nat) : Nat := d / 1024
/-- Pod. -/
def devPod (d : Nat) : Nat := d / 64 % 16
/-- Slot. -/
def devSlot (d : Nat) : Nat := d / 4 % 16

/-- The links to a peer slot (R252). -/
def podLinks (own slot : Nat) : List Nat :=
  let i := (slot + 31 - own) % 16
  [2 * i, 2 * i + 1]

/-- The links to a peer pod (R252). -/
def hallLinks (own pod : Nat) : List Nat :=
  let j := (pod + 31 - own) % 16
  if (own + 8) % 16 = pod then [30 + j, 45] else [30 + j]

/-- Spares in REPLACE mode for one of the links are added, in ascending order (R252, R254). -/
def withSpares (s : State) (ls : List Nat) : List Nat :=
  ls ++ (List.range 2).filterMap (fun x =>
    if rget s Reg.ROUTE_SPARE_ROLE 0 x = 1 ∧ ls.contains (rget s Reg.ROUTE_SPARE_REPLACES 0 x) then some (62 + x) else none)

/-- A gateway entry of a hall (R267): global link, pod and slot, where it is VALID. -/
def gatewayOf (s : State) (hall e : Nat) : Option (Nat × Nat × Nat) :=
  let f := if e % 2 = 0 then Reg.ROUTE_GATEWAY_EVEN else Reg.ROUTE_GATEWAY_ODD
  let v := rget s f 0 (2 * hall + e / 2)
  if bitAt v 15 then some (bitsAt v 8 4, bitsAt v 4 4, bitsAt v 0 4) else none

/-- The hash index among n candidates (R254). -/
def hashIndex (p : Packet) (n : Nat) : Nat :=
  ((mix (pSrc p * 2 ^ 32 + pDst p * 2 ^ 16 + pFlow p) >>> 32) * n) >>> 32

/-- Links in ascending order. -/
def ascending (l : List Nat) : List Nat := (List.range 64).filter (fun x => l.contains x)

/-- The live ones of some links and of the spares that replace one of them, in ascending order (R254, R265). -/
def liveLinks (s : State) (ls : List Nat) : List Nat := (ascending (withSpares s ls)).filter (linkUp s)

/-- A candidate of a step: live links that lead there, and LAYER on them. -/
structure Hop where
  links : List Nat
  layer : Nat
deriving DecidableEq, Repr

/-- Most free credits for a packet's VC on a link of a candidate. -/
def hopCredits (s : State) (p : Packet) (h : Hop) : Nat :=
  (h.links.map (fun l => credits s l (2 * pClass p + h.layer))).foldl max 0

/-- One of the candidates: of those on the die of arrival where there is one, else of all, by hash, or by credits with the hash breaking ties
(R254; log entry 14). -/
def pickHop (s : State) (from' : Option LinkId) (p : Packet) (cs : List Hop) : Option Hop :=
  let here := match from' with | none => [] | some f => cs.filter (fun h => h.links.any (fun l => l % 2 == f.val % 2))
  if here ≠ [] then here[hashIndex p here.length]?
  else if rget s Reg.ROUTE_MODE = 0 then cs[hashIndex p cs.length]?
  else
    let m := (cs.map (hopCredits s p)).foldl max 0
    let best := cs.filter (fun h => hopCredits s p h == m)
    best[hashIndex p best.length]?

/-- One of the live links of a step. -/
def pickLink (s : State) (from' : Option LinkId) (p : Packet) (layer : Nat) (ls : List Nat) : Option Nat :=
  (pickHop s from' p ((liveLinks s ls).map (fun l => { links := [l], layer := layer }))).bind (·.links.head?)

/-- The step toward a module of this hall: pod link then hall link in layer 0, the reverse in layer 1 (R253). -/
def hallStep (s : State) (layer pod slot : Nat) : List Nat :=
  let own := rget s Reg.ROUTE_OWN_DEV
  let pl := if slot = devSlot own then [] else podLinks (devSlot own) slot
  let hl := if pod = devPod own then [] else hallLinks (devPod own) pod
  if layer = 0 then (if pl = [] then hl else pl) else (if hl = [] then pl else hl)

/-- The candidates toward another hall: its valid gateway entries in ascending index, one that names this module as each of its live global
links in layer 1, another one as its live links toward that module (R253, R254; log entry 14). -/
def gatewayHops (s : State) (hall : Nat) : List Hop :=
  let own := rget s Reg.ROUTE_OWN_DEV
  (List.range 4).flatMap (fun e => match gatewayOf s hall e with
    | none => []
    | some g =>
      if g.2.1 = devPod own ∧ g.2.2 = devSlot own then (liveLinks s [46 + g.1]).map (fun l => { links := [l], layer := 1 })
      else match liveLinks s (hallStep s 0 g.2.1 g.2.2) with | [] => [] | ls => [{ links := ls, layer := 0 }])

/-- The link a unicast packet takes next and its layer there, or none (R253, R254). -/
def routeStep (s : State) (from' : Option LinkId) (p : Packet) : Option (Nat × Nat) :=
  let dst := pDst p
  if devHall dst = devHall (rget s Reg.ROUTE_OWN_DEV) ∨ pLayer p = 1 then
    (pickLink s from' p (pLayer p) (hallStep s (pLayer p) (devPod dst) (devSlot dst))).map (fun l => (l, pLayer p))
  else
    (pickHop s from' p (gatewayHops s (devHall dst))).bind (fun h => (pickLink s from' p h.layer h.links).map (fun l => (l, h.layer)))

/-- The fabric die that handles what this module sends to a device: that of the link which a packet with the given FLOW takes (R260). -/
def sendDie (s : State) (dev flow : Nat) : Nat :=
  match routeStep s none (mkPacket s dev 0 0 false 0 flow 0 []) with | some (l, _) => l % 2 | none => 0

/-- The peer entry of a device in the copy of the die that handles what goes there (R260). -/
def peerOut (s : State) (dev : Nat) : W32 := peerEntry s (sendDie s dev 0) dev

/-- The completion code with which an operation toward a device fails at its source, 0 where it may be sent (R262). -/
def peerFault (s : State) (dev : Nat) : Nat :=
  let e := peerOut s dev
  if peerFenced e then 8 else if peerValid e then 0 else 4

/-- A record of the ROUTE page about a packet: its device IDs. -/
def routeRecord (s : State) (f : Fld) (p : Packet) : State :=
  raise s (evOf f 0 8 0 (pTenant p) none [pSrc p, pDst p])

/-- A unicast packet that is not for this module is sent on, or dropped and counted (R253 to R256). -/
def forward (s : State) (from' : Option LinkId) (p : Packet) : State :=
  if pDst p % 4 ≠ 0 then routeRecord (rinc s Reg.ROUTE_NO_ROUTE_DROPS) Reg.ROUTE_NO_ROUTE_DROPS p
  else if 5 < pHops p + 1 then routeRecord (rinc s Reg.ROUTE_LOOP_DROPS) Reg.ROUTE_LOOP_DROPS p
  else match routeStep s from' p with
    | none => routeRecord (rinc s Reg.ROUTE_NO_ROUTE_DROPS) Reg.ROUTE_NO_ROUTE_DROPS p
    | some (l, layer) =>
      if h : l < 64 then linkSend s ⟨l, h⟩ (pSet (pSet p 55 1 layer) 56 3 (min 7 (pHops p + 1))) else s

/-- The links of a group entry but the one of arrival (R257). -/
def groupLinks (m : Mcast) (from' : Option LinkId) : List LinkId :=
  (List.finRange 64).filter (fun l => m.mask.getLsbD l.val && from' != some l)

/-- A copy of a multicast packet as a link carries it: one hop more, LAYER 1 from a global link on. -/
def mcastCopy (l : LinkId) (p : Packet) : Packet :=
  pSet (pSet p 55 1 (if linkRole l.val = 2 then 1 else pLayer p)) 56 3 (min 7 (pHops p + 1))

/-- A packet for this module is kept for its operation; the reserved OPC 15 is dropped and counted (R270). -/
def keepPacket (s : State) (p : Packet) : State :=
  if pOpc p = 15 then rinc s Reg.MSF_BAD_OPC else { s with route := { s.route with inbox := s.route.inbox ++ [p] } }

/-- A multicast packet sent on every masked link, and into the inbox where LOCAL is set (R257). -/
def replicate (s : State) (from' : Option LinkId) (m : Mcast) (p : Packet) : State :=
  let s := (groupLinks m from').foldl (fun s l => linkSend s l (mcastCopy l p)) s
  if m.loc then keepPacket s p else s

/-- A multicast group's entry. -/
def groupOf (s : State) (g : Nat) : Mcast := mapGet s.route.groups g { valid := false, loc := false, mask := 0 }

/-- Every branch of a group can take the packet whole (R257). -/
def branchesReady (s : State) (m : Mcast) (from' : Option LinkId) (p : Packet) : Bool :=
  (groupLinks m from').all (fun l =>
    canSend s l.val (mcastCopy l p) && !(linkOf s l.val).tx.any (fun q => pVc q == pVc (mcastCopy l p)))

/-- The packets at the head of the module's own multicast queue that every branch can take leave (R257). -/
def pumpMcast (s : State) : State :=
  s.route.mwait.foldl (fun s p =>
    let m := groupOf s (pDst p % 4096)
    let r := s.route
    if r.mwait.head? ≠ some p then s
    else if !m.valid then rinc { s with route := { r with mwait := r.mwait.drop 1 } } Reg.ROUTE_MCAST_DROPS
    else if branchesReady s m none p then replicate { s with route := { r with mwait := r.mwait.drop 1 } } none m p
    else s) s

/-- A packet of this module is sent: held back in shadow mode (R380), after FENCED_SELF (R263) and while OWN_GEN drains
(R373); q is the engine queue that sends it, die a link on the fabric die that handles it (R293). -/
def send (s : State) (q : Option Nat) (p : Packet) (die : Option LinkId := none) : State :=
  let t := pTenant p
  if rget s Reg.HEALTH_SHADOW_EN = 1 ∧ rget s Reg.HEALTH_SHADOW_TENANT = t then rinc s Reg.HEALTH_SHADOW_DROPS
  else if rget s Reg.ROUTE_FENCED_SELF = 1 ∧ t ≠ 15 then rinc s Reg.ROUTE_FENCED_DROPS
  else if s.resets.ownGen.isSome ∧ t ≠ 15 then { s with route := { s.route with held := s.route.held ++ [p] } }
  else
    let r := s.resets
    let last := mapSet (if t = 15 then r.lastSent else mapSet r.lastSent 131072 s.time.cyc) (65536 + t) s.time.cyc
    let last := match q with | none => last | some q => mapSet last q s.time.cyc
    let s := { s with resets := { r with lastSent := last } }
    if pMcast p then
      let m := groupOf s (pDst p % 4096)
      if m.valid then pumpMcast { s with route := { s.route with mwait := s.route.mwait ++ [p] } } else rinc s Reg.ROUTE_MCAST_DROPS
    else forward s die p

-- checks on arrival (R261) --------------------------------------------------------------------------------------------

/-- A REJECT that names the failed check, 0 SRC or 1 DST_GEN, at most once per source per 64 µs (R261; log entry 15). -/
def sendReject (s : State) (p : Packet) (check : Nat) : State :=
  let src := pSrc p
  let due := match mapFind s.route.rejectAt (src / 4) with | none => true | some c => decide (c + 64000 ≤ s.time.cyc)
  if !due then s
  else
    let s := { s with route := { s.route with rejectAt := mapSet s.route.rejectAt (src / 4) s.time.cyc } }
    send s none (mkPacket s src (peerGen (peerOut s src)) (pTenant p) false 3 (pFlow p)
      (6 + check * 16 + pf p 160 32 * 2 ^ 32) [])

/-- The fabric die that handles a packet from a link. -/
def arrivalDie (l : LinkId) : Nat := l.val % 2

/-- The packet is a REJECT of this module's own SRC_GEN: it reaches the module although its generation is no longer the one its peers hold
(R263; log entry 15). -/
def isFenceReject (p : Packet) : Bool := pClass p == 3 && pOpc p == 6 && pf p 132 4 == 0

/-- The checks of R261 on a packet from link l: the state, and whether the packet passed. -/
def checkArrival (s : State) (l : LinkId) (p : Packet) : State × Bool :=
  let e := peerEntry s (arrivalDie l) (pSrc p)
  if peerGen e ≠ pSrcGen p ∨ !peerValid e ∨ peerFenced e then (sendReject (rinc s Reg.ROUTE_GEN_DROPS) p 0, false)
  else if !pMcast p ∧ pDst p = rget s Reg.ROUTE_OWN_DEV ∧ pDstGen p ≠ rget s Reg.ROUTE_OWN_GEN ∧ !isFenceReject p then
    (sendReject (rinc s Reg.ROUTE_GEN_DROPS) p 1, false)
  else (s, true)

/-- A whole packet leaves a link's receive buffer, which returns its credits (R249). -/
def takeRx (s : State) (l : LinkId) (p : Packet) : State :=
  let k := linkOf s l.val
  if k.rx.contains p then returnUnits (setLink s l.val { k with rx := dropFirst k.rx (· == p) }) l p else s

/-- A packet reaches its operation: from the inbox, or from a link after the checks of R261; false where it is dropped. -/
def admitPacket (s : State) (l : Option LinkId) (p : Packet) : State × Bool :=
  if s.route.inbox.contains p then
    ({ s with route := { s.route with inbox := dropFirst s.route.inbox (· == p) } }, true)
  else match l with
    | none => (s, true)
    | some l => checkArrival (takeRx s l p) l p

end Sys2Proof.Machine
end

