-- ==== Sys2Proof/Machine/Links.lean ====
section
/-! DEFINITION. Sys2Proof/Machine/Links.lean: lane lock, flits received, resends, retrains and the bring-up of a link: R240 to
R249, R264, R265. -/

namespace Sys2Proof.Machine

/-- The page of a link. -/
def linkPage (l : Nat) : Page := ⟨.zlink, l⟩

/-- A reset is noted: RESETS, LAST and the class-1 record (R367, R384). -/
def noteReset (s : State) (code index cause : Nat) : State :=
  let s := rinc s Reg.RESET_RESETS
  let s := rset s Reg.RESET_LAST_DOMAIN 0 0 code
  let s := rset s Reg.RESET_LAST_INDEX 0 0 index
  let s := rset s Reg.RESET_LAST_CAUSE 0 0 cause
  raise s (evOf Reg.RESET_LAST_DOMAIN 0 12 0 15 none [code, index, cause])

-- lanes (R240, R241) --------------------------------------------------------------------------------------------------

/-- A lane before its search. -/
def LaneSt.reset : LaneSt := { hits := 0, locked := false, inverted := false, logical := 0, counter := 0, missed := 0 }

/-- A lane of a link. -/
def laneOf (k : LinkSt) (n : Nat) : LaneSt := mapGet k.lanes n LaneSt.reset

/-- LANE_LOCK, LANE_MAP and LANE_INVERT as the lanes stand. -/
def showLanes (s : State) (l : Nat) : State :=
  let k := linkOf s l
  (List.range 4).foldl (fun s n =>
    let a := laneOf k n
    let s := rbit s Reg.ZLINK_LANE_LOCK l 0 n a.locked
    if a.locked then
      let s := rset s Reg.ZLINK_LANE_MAP l 0 (putBits (rget s Reg.ZLINK_LANE_MAP l) (2 * n) 2 a.logical)
      rbit s Reg.ZLINK_LANE_INVERT l 0 n a.inverted
    else s) s

/-- The phase of a link. -/
def linkState (s : State) (l : Nat) : Nat := rget s Reg.ZLINK_STATE l

/-- The phase set. -/
def setLinkState (s : State) (l v : Nat) : State := rset s Reg.ZLINK_STATE l 0 v

/-- The receiver drops all lane locks and returns to the lane search, counting a lock restart (R241). -/
def restartSearch (s : State) (l : Nat) : State :=
  let k := linkOf s l
  let s := setLink s l { k with lanes := [], cws := 0, good := 0, bad := 0 }
  showLanes (rinc (setLinkState s l 3) Reg.ZLINK_LOCK_RESTARTS l) l

/-- A lane's state replaced; when all four are locked in LANE_SEARCH the link goes on to DESKEW (R241). -/
def setLane (s : State) (l n : Nat) (a : LaneSt) : State :=
  let k := linkOf s l
  let k := { k with lanes := mapSet k.lanes n a }
  let s := showLanes (setLink s l k) l
  if linkState s l = 3 ∧ (List.range 4).all (fun n => (laneOf k n).locked) then
    setLinkState (setLink s l { k with cws := 0, good := 0, bad := 0 }) l 4
  else s

-- retrain and loss (R248, R264, R265) ---------------------------------------------------------------------------------

/-- The work of a CONTROL flit, in bits [7:0] of its unit (DESIGN CHOICE, log entry 17): 1 parameters, 2 credits, 3 a retrain is asked for. -/
def ctlParam : Nat := 1
/-- The credit return when a link comes UP. -/
def ctlCredit : Nat := 2
/-- The request to retrain. -/
def ctlRetrain : Nat := 3

/-- A retrain begins: at LANE_SEARCH, at ADAPT after two failed ones (R264); trigger says that the link itself asked. -/
def beginRetrain (s : State) (l : Nat) (trigger : Bool) : State :=
  let k := linkOf s l
  let s := setLink s l { k with lanes := [], cws := 0, good := 0, bad := 0, winCws := 0, winBad := 0, resends := 0,
                                nakServed := none, bringing := true, since := s.time.cyc }
  let s := setLinkState s l (if 2 ≤ k.failed then 2 else 3)
  let s := charge (rinc (showLanes s l) Reg.ZLINK_RETRAINS l) 3 l
  if trigger then noteReset { s with resets := { s.resets with gens := mapUpd s.resets.gens (5 * 4096 + l) 0 (fun n => (n + 1) % 256) } } 5 l 3
  else s

/-- An UP link asks its far end to retrain with it, in a CONTROL flit (R265). -/
def askRetrain (s : State) (l : Nat) : State :=
  if h : l < 64 then (if linkState s l = 7 then sendControl s ⟨l, h⟩ ctlRetrain else s) else s

/-- A retrain starts at this end: the far end is asked to follow (R264, R265). -/
def startRetrain (s : State) (l : Nat) (trigger : Bool) : State := beginRetrain (askRetrain s l) l trigger

/-- A packet as it was before a link was chosen for it: a hop less, and in layer 0 where the link is a global one (R251, R253). -/
def unrouted (s : State) (l : Nat) (p : Packet) : Packet :=
  let g (l : Nat) : Bool := linkRole l == 2
  let glob := g l || (62 ≤ l && rget s Reg.ROUTE_SPARE_ROLE 0 (l - 62) == 1 && g (rget s Reg.ROUTE_SPARE_REPLACES 0 (l - 62)))
  pSet (if glob then pSet p 55 1 0 else p) 56 3 (pHops p - 1)

/-- The flits of a link are lost: discarded and counted; unicast packets that no flit carries yet are routed anew (R248; log
entry 17). -/
def loseFlits (s : State) (l : Nat) : State :=
  let k := linkOf s l
  let s := rinc s Reg.ZLINK_LOST_FLITS l 0 k.replay.length
  let s := setLink s l { LinkSt.reset with failed := k.failed, slot := k.slot, marker := k.marker, timeAt := k.timeAt
                                           tx := k.tx.filter pMcast }
  (k.tx.filter (fun p => !pMcast p)).foldl (fun s p => forward s none (unrouted s l p)) s

/-- ENABLE applied (R264). -/
def enableApply (l : Nat) (v : Nat) (s : State) : State :=
  let was := linkState s l
  let s := rset s Reg.ZLINK_ENABLE l 0 v
  if v = 1 then
    if was ≠ 0 then s
    else
      let k := linkOf s l
      let s := setLink s l { LinkSt.reset with failed := k.failed, bringing := true, since := s.time.cyc }
      msix (setLinkState s l 1) 131
  else if was = 0 then s
  else showLanes (loseFlits (setLinkState s l 0) l) l

/-- LINK_ENABLE_WRITE. -/
def execLinkEnableWrite (by' : Writer) (l : LinkId) (en : Bool) (s : State) : Host.Outcome State Fault Refusal :=
  .next (gated s by' (linkPage l.val) Reg.ZLINK_ENABLE 0 (b2n en) (enableApply l.val (b2n en)))

/-- A retrain asked for: an UP link retrains; a DOWN one restarts only for TC15; otherwise it is ignored (R264, R265). -/
def retrainApply (l : Nat) (tc15 : Bool) (s : State) : State :=
  if linkState s l = 7 then (if tc15 then startRetrain s l false else beginRetrain s l true)
  else if linkState s l = 1 ∧ !(linkOf s l).bringing ∧ tc15 then startRetrain s l false
  else s

/-- RETRAIN: by a register write, or by the far end. -/
def execRetrain (l : LinkId) (by' : Option Writer) (s : State) : Host.Outcome State Fault Refusal :=
  .next (match by' with
    | some w => gated s w (linkPage l.val) Reg.ZLINK_RETRAIN 0 1 (retrainApply l.val true)
    | none => live s (retrainApply l.val false))

/-- BRINGUP_TIMEOUT: the link is not UP in time and goes DOWN (R248, R264, R377). -/
def execBringupTimeout (l : LinkId) (s : State) : Host.Outcome State Fault Refusal :=
  .next (live s (fun s =>
    let k := linkOf s l.val
    if !k.bringing then s
    else
      let s := advanceTo s (k.since + 1000000 * rget s Reg.ZLINK_BRINGUP_TIMEOUT_MS l.val)
      let s := setLink s l.val { k with failed := k.failed + 1 }
      let s := setLinkState s l.val 1
      let s := loseFlits s l.val
      let s := raise (showLanes s l.val) (evOf Reg.ZLINK_STATE 0 (8 + l.val % 2) l.val)
      charge (msix s 131) 4 l.val))

-- resends (R246, R248) ------------------------------------------------------------------------------------------------

/-- A buffered flit as it is resent: TW 0, the present ACK and NAK, a new CRC (R244, R245). -/
def restamp (k : LinkSt) (f : Flit) : Flit :=
  let b := putBits (f.toNat % 2 ^ 5056) 12 12 (linkAck k).toNat
  let b := putBits (putBits b 24 1 (b2n k.nak)) 25 1 0
  BitVec.ofNat 5120 (b + crc64 (natLe b 632) * 2 ^ 5056)

/-- Every buffered flit is sent again from ACK + 1, and the resend counted; it is in progress for a codeword time of 6.071 ns a flit (R237,
R246, R377). -/
def resendFlits (s : State) (l : LinkId) : State :=
  let k := linkOf s l.val
  if k.replay = [] then s
  else
    let s := setLink s l.val { k with ackAt := s.time.cyc, nakServed := some k.ack
                                      resendEnd := s.time.cyc + ceilDiv (6071 * k.replay.length) 1000 }
    let s := k.replay.foldl (fun s f => emit (pertFlit (sendSlot s l) l) (.flit l (restamp k f))) s
    charge (rinc s Reg.ZLINK_RETRIES l.val) 2 l.val

/-- A resend is made, or the link retrains after RETRY_LIMIT of them without ACK advancing (R246, R248, R377). -/
def resend (s : State) (l : LinkId) : State :=
  let k := linkOf s l.val
  if k.replay = [] then s
  else if rget s Reg.ZLINK_RETRY_LIMIT l.val ≤ k.resends then startRetrain s l.val true
  else resendFlits (setLink s l.val { k with resends := k.resends + 1 }) l

/-- REPLAY_TIMEOUT_NS in force (R266). -/
def replayNs (s : State) (l : Nat) : Nat :=
  let v := rget s Reg.ZLINK_REPLAY_TIMEOUT_NS l
  if v = 0 then 2 * ceilDiv (rget s Reg.FTIME_LINK_DELAY 0 l) 1000 + 200 else v

/-- REPLAY_TIMEOUT. -/
def execReplayTimeout (l : LinkId) (s : State) : Host.Outcome State Fault Refusal :=
  .next (live s (fun s =>
    let k := linkOf s l.val
    if linkState s l.val ≠ 7 ∨ k.replay = [] then s
    else resend (advanceTo s (k.ackAt + replayNs s l.val)) l))

-- bring-up (R264) -----------------------------------------------------------------------------------------------------

/-- The parameters that each end sends in PARAM: device ID, OWN_GEN, link number, part code, turnaround (R264; log entry 17). -/
def paramUnit (s : State) (l : LinkId) : Nat :=
  ctlParam + rget s Reg.ROUTE_OWN_DEV * 2 ^ 16 + rget s Reg.ROUTE_OWN_GEN * 2 ^ 32 + l.val * 2 ^ 40
    + rget s Reg.DIMTAB_FAMILY_MEMBER * 2 ^ 64 + Config.turnaroundPs % 2 ^ 32 * 2 ^ 96

/-- Four lanes are locked, and their latest markers bear the same counter, by which the receiver aligns them (R241). -/
def lanesAligned (k : LinkSt) : Bool :=
  (List.range 4).all (fun n => (laneOf k n).locked && (laneOf k n).counter == (laneOf k 0).counter)

/-- The link is locked: parameters are exchanged (R241, R264). -/
def enterParam (s : State) (l : LinkId) : State := sendControl (setLinkState s l.val 5) l (paramUnit s l)

/-- The mean one-way delay in ps of the round trips of DELAY: half of each less the far end's turnaround (R49, R250). -/
def meanDelay (trips : List Nat) (turnaround : Nat) : Nat := (trips.sum - trips.length * turnaround) / (2 * max 1 trips.length)

/-- Each end returns its full buffer: every reserved share, and the pool in what a return can hold (R249, R264). -/
def returnBuffer (s : State) (l : LinkId) : State :=
  let k := linkOf s l.val
  let give (s : State) (v n : Nat) : State :=
    sendControl (setLink s l.val { linkOf s l.val with toReturn := [(v, n)] }) l ctlCredit
  let s := (List.range 8).foldl (fun s v => give s v (vcShare s l.val v)) s
  let pool := poolSize s l.val
  let s := (List.range (ceilDiv pool 8191)).foldl (fun s i => give s 0 (min 8191 (pool - 8191 * i))) s
  setLink s l.val { linkOf s l.val with toReturn := k.toReturn }

/-- The link comes UP: its delay is stored, each end returns its buffer, and unacknowledged flits go again (R49, R248, R264). -/
def linkComesUp (s : State) (l : LinkId) (trips : List Nat) : State :=
  let i := l.val
  let k := linkOf s i
  let s := rset s Reg.FTIME_LINK_DELAY 0 i (meanDelay trips k.farTurn)
  let s := setLink (setLinkState s i 7) i { k with used := [], pool := 0, toReturn := [], bringing := false, failed := 0,
                                                   upOnce := true, resends := 0, ackAt := s.time.cyc }
  pumpMcast (pump (resendFlits (returnBuffer (msix s 131) l) l) l)

/-- The fabric die of a link resets, with every link on it (R30). -/
def linkHeld (s : State) (l : Nat) : Bool := inReset s 6 (l % 2)

/-- LINK_PHASE_DONE: the work of the present phase is complete: in LANE_SEARCH with all lanes locked, in DESKEW with 64 good codewords, in
DELAY with 64 round trips (R49, R241, R264). PARAM gives what the far end has reported. A link of a fabric die in reset does not come UP
(R30). -/
def execLinkPhaseDone (l : LinkId) (peerDev : BitVec 16) (peerLink : Fin 64) (delay : DelayReport) (s : State) :
    Host.Outcome State Fault Refusal :=
  .next (live s (fun s =>
    let i := l.val
    let k := linkOf s i
    if !k.bringing then s
    else match linkState s i with
      | 1 => if domainOn s (quadDomain i) then setLinkState s i 2 else s
      | 2 => setLinkState s i 3
      | 3 => if (List.range 4).all (fun n => (laneOf k n).locked) then setLinkState (setLink s i { k with cws := 0, good := 0, bad := 0 }) i 4 else s
      | 4 => if 64 ≤ k.good then enterParam s l else s
      | 5 =>
        let s := rset s Reg.ZLINK_PEER_DEV i 0 peerDev.toNat
        let s := setLink s i { k with farTurn := delay.turnaround.toNat }
        setLinkState (rset s Reg.ZLINK_PEER_LINK i 0 peerLink.val) i 6
      | 6 => if delay.trips.length ≠ 64 ∨ linkHeld s i then s else linkComesUp s l delay.trips
      | _ => s))

/-- MARKER_SLOT_RECEIVED: a marker slot in a lane, with its bit errors, polarity, lane number and counter (R239 to R241). -/
def execMarkerSlotReceived (l : LinkId) (lane : Fin 4) (bitErrors : Nat) (inverted : Bool) (logical : Fin 4)
    (counter : BitVec 16) (onPeriod : Bool) (s : State) : Host.Outcome State Fault Refusal :=
  .next (live s (fun s =>
    let a := laneOf (linkOf s l.val) lane.val
    if 8 < bitErrors ∨ linkState s l.val < 3 then s
    else if a.locked then
      if onPeriod then setLane s l.val lane.val { a with missed := 0, counter := counter } else s
    else if linkState s l.val ≠ 3 then s
    else if a.hits = 0 ∨ onPeriod then
      setLane s l.val lane.val { hits := a.hits + 1, locked := 4 ≤ a.hits + 1, inverted, logical := logical.val, counter,
                                 missed := 0 }
    else s))

/-- LANE_MARKER_MISSED: an expected marker is absent (R240, R241, R265). -/
def execLaneMarkerMissed (l : LinkId) (lane : Fin 4) (s : State) : Host.Outcome State Fault Refusal :=
  .next (live s (fun s =>
    let a := laneOf (linkOf s l.val) lane.val
    let st := linkState s l.val
    if st = 7 then
      if 4 ≤ a.missed + 1 then startRetrain s l.val true
      else setLane s l.val lane.val { a with missed := a.missed + 1 }
    else if 4 ≤ st then restartSearch s l.val
    else if st = 3 ∧ 0 < a.hits then
      rinc (setLane s l.val lane.val LaneSt.reset) Reg.ZLINK_LOCK_RESTARTS l.val
    else s))

/-- TIME_WORD_SEND: at the next multiple of 4,096 FT ticks a flit carries FT, unless one has carried it already; not while FT is INVALID (R49,
R56, R244). -/
def execTimeWordSend (l : LinkId) (s : State) : Host.Outcome State Fault Refusal :=
  .next (live s (fun s =>
    if rget s Reg.ZLINK_STATE l.val < 6 ∨ rget s Reg.FTIME_SYNC_STATE = 4 then s
    else
      let s := if (timeDue s l).isSome then s else advanceFt s (BitVec.ofNat 64 ((s.time.ft.toNat / 4096 + 1) * 4096))
      sendIdle s l))

-- flits (R242, R245) --------------------------------------------------------------------------------------------------

/-- A field of a flit. -/
def ff (f : Flit) (lsb w : Nat) : Nat := bitsAt f.toNat lsb w

/-- The CRC of a flit matches (R242). -/
def flitCrcOk (f : Flit) : Bool := crc64 (natLe (f.toNat % 2 ^ 5056) 632) == ff f 5056 64

/-- The units of a flit with their VCs (R242). -/
def flitUnits (f : Flit) : List (Nat × Nat) :=
  (List.range (min 19 (ff f 185 5))).map (fun u => (ff f (128 + 3 * u) 3, ff f (192 + 256 * u) 256))

/-- One unit joins its VC's packet, which moves to rx when it is whole (R243). -/
def takeUnit (k : LinkSt) (u : Nat × Nat) : LinkSt :=
  let l := mapGet k.part u.1 [] ++ [u.2]
  match l with
  | [] => k
  | h :: data =>
    if data.length < bitsAt h 64 8 then { k with part := mapSet k.part u.1 l }
    else
      { k with part := mapSet k.part u.1 []
               rx := k.rx ++ [{ hdr := BitVec.ofNat 256 h, data := data.flatMap (fun d => natLe d 32), side := 0 }] }

/-- The ACK of a received flit: acknowledged flits leave the replay buffer (R246). -/
def takeAck (k : LinkSt) (a : BitVec 12) (cyc : Nat) : LinkSt :=
  let n := (a - k.ack).toNat
  if n = 0 ∨ k.replay.length < n then k
  else { k with replay := k.replay.drop n, ack := a, resends := 0, nakServed := none, ackAt := cyc }

/-- ACK, credits and NAK of a received flit, credits first; a NAK whose ACK the resend in progress began from is ignored (R246, R249). -/
def takeReturns (s : State) (l : LinkId) (f : Flit) : State :=
  let k := linkOf s l.val
  let k := giveCredits k (ff f 45 3) (ff f 32 13)
  let k := giveCredits k (ff f 61 3) (ff f 48 13)
  let ack := BitVec.ofNat 12 (ff f 12 12)
  let k := takeAck k ack s.time.cyc
  let s := pumpMcast (pump (setLink s l.val k) l)
  let k := linkOf s l.val
  if ff f 24 1 = 1 ∧ !(k.nakServed == some ack && decide (s.time.cyc < k.resendEnd)) then resend s l else s

/-- The receiver enters NAK state (R245). -/
def enterNak (s : State) (l : LinkId) : State :=
  sendIdle (setLink s l.val { linkOf s l.val with nak := true }) l

/-- A DATA flit that decoded and checked: accepted in order, a duplicate, or answered with NAK (R245). -/
def takeData (s : State) (l : LinkId) (f : Flit) : State :=
  let k := linkOf s l.val
  let q := BitVec.ofNat 12 (ff f 0 12)
  if q = k.expect then
    let k := (flitUnits f).foldl takeUnit k
    sendIdle (setLink s l.val { k with expect := k.expect + 1, nak := false }) l
  else if (k.expect - q).toNat ≤ 2048 then s
  else enterNak s l

/-- A codeword while the link aligns (R241). -/
def deskewFlit (s : State) (l : LinkId) (fec : Fec) : State :=
  let k := linkOf s l.val
  let bad := fec = .uncorrectable
  if !lanesAligned k then s else
  let k := { k with cws := k.cws + 1, good := if bad then 0 else k.good + 1, bad := if bad then k.bad + 1 else 0 }
  let s := setLink s l.val k
  if 64 ≤ k.good then enterParam s l
  else if 8 ≤ k.bad ∨ 65536 ≤ k.cws then restartSearch s l.val
  else s

/-- What a flit carries beside DATA: its time word, and a far end's request to retrain (R49, R242, R265). -/
def takeExtras (s : State) (l : LinkId) (f : Flit) : State :=
  let s := if ff f 25 1 = 1 then takeTimeWord s l (BitVec.ofNat 64 (ff f 64 64)) else s
  if ff f 26 2 = 2 ∧ 0 < ff f 185 5 ∧ ff f 192 8 = ctlRetrain then retrainApply l.val false s else s

/-- A flit of an UP link (R242, R245, R265). -/
def upFlit (s : State) (l : LinkId) (fec : Fec) (f : Flit) : State :=
  let k := linkOf s l.val
  let bad := fec = .uncorrectable
  let k := if 1048576 ≤ k.winCws then { k with winCws := 1, winBad := b2n bad }
           else { k with winCws := k.winCws + 1, winBad := k.winBad + b2n bad }
  let s := setLink s l.val k
  if bad then
    if rget s Reg.ZLINK_UNCORR_RETRAIN l.val ≤ k.winBad then startRetrain (enterNak s l) l.val true else enterNak s l
  else if !flitCrcOk f ∨ ff f 26 2 = 3 then enterNak (rinc s Reg.ZLINK_CRC_ERRORS l.val) l
  else
    let s := takeReturns s l f
    if ff f 26 2 = 0 then takeExtras (takeData s l f) l f else takeExtras s l f

/-- A flit of a link in PARAM or DELAY: checked as on an UP link; its ACK counts, its credits do not until the link is UP (R242, R245, R248, R264). -/
def earlyFlit (s : State) (l : LinkId) (fec : Fec) (f : Flit) : State :=
  if fec = .uncorrectable then enterNak s l
  else if !flitCrcOk f ∨ ff f 26 2 = 3 then enterNak (rinc s Reg.ZLINK_CRC_ERRORS l.val) l
  else
    let s := setLink s l.val (takeAck (linkOf s l.val) (BitVec.ofNat 12 (ff f 12 12)) s.time.cyc)
    if ff f 26 2 = 0 then takeData s l f else s

/-- A CONTROL flit on the time parent link wakes the module from P4 (R416). -/
def parentControl (s : State) (l : LinkId) (fec : Fec) (flit : Flit) : State :=
  if fec ≠ .uncorrectable ∧ flitCrcOk flit = true ∧ ff flit 26 2 = 2 ∧ rget s Reg.FTIME_PARENT_LINK = l.val then wakeModule s else s

/-- FLIT_RECEIVED: a codeword with the outcome of its decode and the flit it carries. -/
def execFlitReceived (l : LinkId) (fec : Fec) (flit : Flit) (s : State) : Host.Outcome State Fault Refusal :=
  .next (live s (fun s =>
    let st := linkState s l.val
    if st < 4 then s
    else
      let s := match fec with
        | .clean => s
        | .corrected => rinc s Reg.ZLINK_CW_CORRECTED l.val
        | .uncorrectable => rinc s Reg.ZLINK_CW_UNCORRECTABLE l.val
      if st = 4 then deskewFlit s l fec
      else if st = 7 then parentControl (upFlit s l fec flit) l fec flit
      else earlyFlit s l fec flit))

end Sys2Proof.Machine
end

