-- ==== Sys2Proof/Machine/PowerOps.lean ====
section
/-! DEFINITION. Sys2Proof/Machine/PowerOps.lean: sleeping units: what the PMC firmware chooses, entries, wakes and exits, and the
switched domains that go with them: R403, R412 to R416. -/

namespace Sys2Proof.Machine

/-- The state P1 to P4 of a unit (R412). -/
def unitState (k : Nat) : Nat := if k < 512 then 1 else if k < 576 then 2 else if k < 584 then 3 else 4

/-- The units that hold a core, the outermost last. -/
def unitsOfCore (c : Nat) : List Nat := [c, clusterUnit (c / 8), dieUnit (c / 64), moduleUnit]

/-- The units that hold a cluster. -/
def unitsOfCluster (c : Nat) : List Nat := [clusterUnit c, dieUnit (c / 8), moduleUnit]

/-- The units that hold the engine of a queue (R412). -/
def unitsOfQueue (q : Nat) : List Nat :=
  if q < 2048 then unitsOfCore (q / 4) else if q < 2056 then [dieUnit (q - 2048), moduleUnit] else [moduleUnit]

/-- The engine queues of a unit (R413). -/
def queuesOf (k : Nat) : List Nat :=
  if k < 512 then (List.range 4).map (4 * k + ·)
  else if k < 576 then (List.range 32).map (32 * (k - 512) + ·)
  else if k < 584 then (List.range 256).map (256 * (k - 576) + ·) ++ [2048 + (k - 576)]
  else List.range 2056 ++ [2056, 2058, 2060, 2061, 2062, 2063]

/-- A queued docket is held by a release ahead (R42, R413). -/
def heldByRelease (s : State) (e : QEntry) : Bool := dkReleaseEn e.dk && ahead (dkRelease e.dk) (stamp s)

/-- The dockets of a queue allow P1: none in progress, every one held by a release ahead. -/
def queueQuiet (s : State) (q : Nat) : Bool := (queue s q).all (fun e => !e.running && heldByRelease s e)

/-- The unit may enter its state (R413). -/
def mayEnter (s : State) (k : Nat) : Bool :=
  let die (n : Nat) : Bool :=
    bitAt (rget s Reg.POWER_P3_EN) n && (List.range 256).all (fun i => queueQuiet s (256 * n + i)) && queue s (2048 + n) == []
  if k < 576 then (queuesOf k).all (queueQuiet s)
  else if k < 584 then die (k - 576)
  else rget s Reg.POWER_P4_PERMIT == 1 && (List.range 8).all die
    && [2056, 2058, 2060, 2061, 2062, 2063].all (fun q => queue s q == [])

/-- The earlier of two instants. -/
def earlier (a b : Option Nat) : Option Nat :=
  match a, b with | none, x => x | x, none => x | some x, some y => some (min x y)

/-- Nanoseconds to a unit's earliest known event (R413). -/
def nextEvent (s : State) (k : Nat) : Option Nat :=
  let es := (queuesOf k).flatMap (queue s)
  let r := es.foldl (fun acc e =>
    if heldByRelease s e then earlier acc (some (16 * (dkRelease e.dk - stamp s).toNat)) else acc) none
  let w := rget64 s Reg.POWER_WAKE_AT_LO Reg.POWER_WAKE_AT_HI
  if k = moduleUnit ∧ w ≠ 0 ∧ s.time.ft.toNat < w then earlier r (some (w - s.time.ft.toNat)) else r

/-- Exit and guard of a state, in ns (R412). -/
def exitGuard (s : State) (p : Nat) : Nat :=
  [20, 2000, 200000, 20000000].getD (p - 1) 0 + rget s Reg.POWER_GUARD_NS 0 (p - 1)

/-- Entry of a state, in ns. -/
def entryNs (p : Nat) : Nat := [10, 4000, 300000, 40000000].getD (p - 1) 0

/-- The choice of R414 on a unit. -/
def choosesSleep (s : State) (k : Nat) : Bool :=
  mayEnter s k && match nextEvent s k with | none => true | some t => decide (entryNs (unitState k) + exitGuard s (unitState k) ≤ t)

/-- The units around a unit, itself the first. -/
def unitsAround (k : Nat) : List Nat :=
  if k < 512 then unitsOfCore k else if k < 576 then unitsOfCluster (k - 512) else if k < 584 then [k, moduleUnit] else [k]

/-- A unit is awake: neither it nor one that encloses it sleeps. -/
def awake (s : State) (k : Nat) : Bool := (unitsAround k).all (fun x => (sleepOf s x).isNone)

/-- One unit evaluated: an awake one begins its entry where R414 chooses it. -/
def evalUnit (s : State) (k : Nat) : State :=
  if awake s k ∧ choosesSleep s k = true ∧ rget s Reg.PMC_BOOT_STAGE = 7 then
    setSleep s k (some (.entering (Fin.ofNat 5 (unitState k)) false))
  else s

/-- The units of a queue evaluated, the largest first: its queue or its known events have changed (R414). -/
def evalQueue (s : State) (q : Nat) : State := (unitsOfQueue q).reverse.foldl evalUnit s

/-- Every unit evaluated. -/
def evalAll (s : State) : State := ((List.range 585).reverse).foldl evalUnit s

-- domains (R403) ------------------------------------------------------------------------------------------------------

/-- The module's domains that P4 switches off beside the compute dies': every quad but the time parent's, the Tally and Storeroom
groups, the Mill dies (R412, R416). -/
def moduleDomains (s : State) : List Nat :=
  let parent := quadDomain (rget s Reg.FTIME_PARENT_LINK)
  ((List.range 8).flatMap (fun q => [96 + q, 106 + q])).filter (· != parent) ++ [104, 114, 116, 117]
    ++ (List.range 18).map (118 + ·)

/-- The switched domains that a unit's state takes power from. -/
def unitDomains (s : State) (k : Nat) : List Nat :=
  let cluster (c : Nat) : Nat := 12 * (c / 8) + physPos s c
  if k < 512 then []
  else if k < 576 then [cluster (k - 512)]
  else if k < 584 then (List.range 8).map (fun i => cluster (8 * (k - 576) + i)) ++ (List.range 3).map (fun i => 12 * (k - 576) + 9 + i)
  else (List.range 64).map cluster ++ (List.range 8).flatMap (fun n => [12 * n + 9, 12 * n + 10, 12 * n + 11]) ++ moduleDomains s

/-- Domains switched off; the windows that measure their clocks are discarded (R55). -/
def domainsOff (s : State) (l : List Nat) : State :=
  let s := l.foldl (fun s i => spoil s (domainClocks i).1 (domainClocks i).2) s
  { s with power := { s.power with on := s.power.on.filter (fun i => !l.contains i) } }

/-- Domains switched on. -/
def domainsOn (s : State) (l : List Nat) : State := { s with power := { s.power with on := l.foldl addOnce s.power.on } }

/-- The links of a quad. -/
def quadLinks (i : Nat) : List Nat :=
  let f := (i - 96) / 10
  (List.range 4).map (fun j => 2 * (4 * ((i - 96) % 10) + j) + f)

/-- The links of a quad that loses power go to DISABLED and wait for ENABLE (R404, R416). -/
def quadOff (s : State) (i : Nat) : State := (quadLinks i).foldl (fun s l => enableApply l 0 s) s

/-- A unit's entry counted in ENTRIES, saturating (R424). -/
def countEntry (s : State) (k : Nat) : State :=
  let f := Reg.POWER_ENTRIES
  let v := rget s f
  let put (lo w : Nat) : State := rset s f 0 0 (putBits v lo w (min (bitsAt v lo w + 1) (2 ^ w - 1)))
  match unitState k with
  | 2 => put 0 16
  | 3 => put 16 8
  | 4 => put 24 8
  | _ => s

/-- What a module in P4 lets go: links, and storage connections (R416). -/
def moduleDown (s : State) : State :=
  let quads := (moduleDomains s).filter (fun i => 96 ≤ i && i < 116 && (i - 96) % 10 < 8)
  let s := quads.foldl quadOff s
  (List.range 32).foldl (fun s i => rset s Reg.MILL_STATE (i / 16) (i % 16) 0) s

/-- An entry finishes: the unit sleeps, or leaves at once where an event arrived (R412, R415). -/
def entryDone (s : State) (k : Nat) : State :=
  match sleepOf s k with
  | some (.entering n woken) =>
    let s := if k = moduleUnit then moduleDown s else s
    let s := countEntry (domainsOff s (unitDomains s k)) k
    setSleep s k (some (if woken then .leaving n else .asleep n))
  | _ => s

/-- An exit finishes: the unit is awake, with everything in it; P4_PERMIT clears (R414, R416). -/
def exitDone (s : State) (k : Nat) : State :=
  match sleepOf s k with
  | some (.leaving _) =>
    let s := domainsOn (setSleep s k none) (unitDomains s k)
    if k = moduleUnit then rset s Reg.POWER_P4_PERMIT 0 0 0 else s
  | _ => s

/-- Units that leave their state have left it by the time that work in them goes on (R415; log entry 31). -/
def rouse (s : State) (l : List Nat) : State := l.foldl (fun s k => exitDone (match sleepOf s k with
  | some (.entering _ true) => entryDone s k
  | _ => s) k) s

/-- The units that hold a local address: store, near memory (R415). -/
def unitsOfAddr (a : Nat) : List Nat :=
  match regionOf a with
  | .near g => [dieUnit (g / 16), moduleUnit]
  | .way c _ => unitsOfCluster c
  | .seg c _ => unitsOfCore c
  | _ => [moduleUnit]

/-- An arrival or a remote request addressed into a unit: it wakes, and the traffic goes on once it is awake (R415). -/
def arriveAt (s : State) (a : Nat) : State := rouse (wakeUnits s (unitsOfAddr a)) (unitsOfAddr a)

/-- The units of an engine queue are awake, or on their way out: the ones on their way have left. -/
def rouseQueue (s : State) (q : Nat) : State := rouse s (unitsOfQueue q)

/-- The engine of a queue has power and clocks. -/
def queueAwake (s : State) (q : Nat) : Bool := (unitsOfQueue q).all (fun k => (sleepOf s k).isNone)

-- throttling (R408 to R411) -------------------------------------------------------------------------------------------

/-- A logical cluster has power. -/
def clusterOn (s : State) (c : Nat) : Bool := domainOn s (12 * (c / 8) + physPos s c)

/-- The VCORE level of a CCLK, in mV (R406). -/
def vcoreLevel (mhz : Nat) : Nat :=
  if mhz ≤ 800 then 620 else if mhz ≤ 1200 then 680 else if mhz ≤ 1600 then 740 else if mhz ≤ 2000 then 800
  else if mhz ≤ 2200 then 860 else 920

/-- VCORE of a compute die, its clusters' CCLKs given: the level of the highest among the powered ones (R406). -/
def vcoreAt (s : State) (n : Nat) (cclk : Nat → Nat) : Nat :=
  vcoreLevel (((((List.range 8).map (8 * n + ·)).filter (clusterOn s)).map cclk).foldl max 0)

/-- VCORE(n) as it stands, in mV (R406). -/
def vcore (s : State) (n : Nat) : Nat := vcoreAt s n (rget s Reg.POWER_CCLK_APPLIED 0)

/-- Nanoseconds of the ramp that takes VCORE to where cluster c runs at v MHz: 10 mV per µs (R407). -/
def rampNs (s : State) (c v : Nat) : Nat :=
  let a := vcore s (c / 8)
  let b := vcoreAt s (c / 8) (fun x => if x = c then v else rget s Reg.POWER_CCLK_APPLIED 0 x)
  100 * (max a b - min a b)

/-- THROTTLE as the clusters, the dies and the floor stand; MSI-X 133 where a bit sets (R424, R453). -/
def showThrottle (s : State) : State :=
  let any (i : Nat) : Bool := s.power.capHeld.any (fun e => bitAt e.2 i)
  let old := rget s Reg.POWER_THROTTLE
  let now := b2n (any 0) + b2n (any 1 || s.power.hot != []) * 2 + b2n s.power.floor * 4 + b2n s.power.tripped * 8
  let s := rset s Reg.POWER_THROTTLE 0 0 now
  if (List.range 4).any (fun i => bitAt now i && !bitAt old i) then msix s 133 else s

/-- A cluster's applied CCLK lowered, to 400 MHz at least, and held below its written value for reason i. -/
def lowerCluster (s : State) (c mhz i : Nat) : State :=
  let a := rget s Reg.POWER_CCLK_APPLIED 0 c
  let n := max 400 (a - mhz)
  if a ≤ n then s
  else
    let p := s.power
    setCclk { s with power := { p with capHeld := mapUpd p.capHeld c 0 (setBit · i) } } c n

/-- The thermal floor begins: every cluster at 400 MHz, idle decode groups beyond the first two of a die off (R411). -/
def floorOn (s : State) : State :=
  let s := { s with power := { s.power with floor := true } }
  let s := (List.range 64).foldl (fun s c => lowerCluster s c 4096 2) s
  let idle (m g : Nat) : Bool := !(mapGet s.mill m MillSt.reset).pipes.any (fun p => p.1 / 4 == g)
  let off := (List.range 2).flatMap (fun m => ((List.range 8).filter (fun g => 2 ≤ g && idle m g)).map (fun g => 118 + 9 * m + g))
  showThrottle (domainsOff s off)

end Sys2Proof.Machine
end

