-- ==== Sys2Proof/Machine/RegRead.lean ====
section
/-! DEFINITION. Sys2Proof/Machine/RegRead.lean: what a read of the register space returns and does, and the freeze read-out:
R15 to R18, R60, R397, R426 to R430. -/

namespace Sys2Proof.Machine

/-- The fields of a block's page from 0x020 on. -/
def blkFields (b : Blk) : List Fld :=
  match b with
  | .lathe => Reg.latheFields | .vec => Reg.vecFields | .port => Reg.portFields | .clerk => Reg.clerkFields
  | .cstore => Reg.cstoreFields | .hbmc => Reg.hbmcFields | .storc => Reg.storcFields | .mill => Reg.millFields
  | .hopper => Reg.hopperFields | .zlink => Reg.zlinkFields | .route => Reg.routeFields | .tally => Reg.tallyFields
  | .msf => Reg.msfFields | .update => Reg.updateFields | .chest => Reg.chestFields | .dock => Reg.dockFields
  | .tenant => Reg.tenantFields | .clock => Reg.clockFields | .ftime => Reg.ftimeFields | .power => Reg.powerFields
  | .reset => Reg.resetFields | .pmc => Reg.pmcFields | .sbus => Reg.sbusFields | .ledger => Reg.ledgerFields
  | .health => Reg.healthFields | .freeze => Reg.freezeFields | .perturb => Reg.perturbFields | .pcie => Reg.pcieFields
  | .eth => Reg.ethFields | .smb => Reg.smbFields | .dimtab => Reg.dimtabFields | .hdr => []

/-- The index of a field in the word at an offset of its page. -/
def Fld.at? (f : Fld) (off : Nat) : Option Nat :=
  if f.count ≤ 1 then (if f.off = off then some 0 else none)
  else
    let d := off - f.off
    if f.off ≤ off ∧ d % f.stride = 0 ∧ d / f.stride < f.count then some (d / f.stride) else none

/-- The fields in a word of a page, each with its index. -/
def fieldsAt (p : Page) (off : Nat) : List (Fld × Nat) :=
  (Reg.hdrFields ++ blkFields p.blk).filterMap (fun f => (f.at? off).map (fun i => (f, i)))

/-- The page has fields that cross clock domains (R59, R61). -/
def Page.crosses (p : Page) : Bool :=
  p.blk == .lathe || p.blk == .port || p.blk == .clerk || p.blk == .ftime || p.blk == .clock

/-- A field of the common header (R430). -/
def hdrRead (s : State) (p : Page) (f : Fld) : Nat :=
  if f = Reg.HDR_ID_VERSION then 1
  else if f = Reg.HDR_ID_DIE then p.die
  else if f = Reg.HDR_ID_INSTANCE then p.inst
  else if f = Reg.HDR_ID_BLOCK then p.blk.num
  else if f = Reg.HDR_CAP_CROSSING then b2n p.crosses
  else if f = Reg.HDR_CAP_EXPERT then b2n ((blkFields p.blk).any (fun g => g.off ≥ 0x800))
  else if f = Reg.HDR_STATUS_PENDING then b2n (pagePending s p)
  else if f = Reg.HDR_STATUS_LOCKED then rget s Reg.HDR_CTRL_LOCK p.num
  else if f = Reg.HDR_PAGE_GEN then (rget s f p.num + s.boot.pageGens) % 2 ^ 16
  else rget s f p.num

/-- Lower and upper words of the 64-bit RO fields but FTIME.NOW (R428). -/
def ro64 : List (Fld × Fld) :=
  [(Reg.DIMTAB_NEAR_BYTES_LO, Reg.DIMTAB_NEAR_BYTES_HI), (Reg.DIMTAB_STOREROOM_BYTES_LO, Reg.DIMTAB_STOREROOM_BYTES_HI),
   (Reg.HBMC_POISON_ADDR_LO, Reg.HBMC_POISON_ADDR_HI), (Reg.STORC_POISON_ADDR_LO, Reg.STORC_POISON_ADDR_HI),
   (Reg.HOPPER_HOP_DRAWN_LO, Reg.HOPPER_HOP_DRAWN_HI), (Reg.FREEZE_FROZEN_FT_LO, Reg.FREEZE_FROZEN_FT_HI),
   (Reg.POWER_CLUSTER_P2_LO, Reg.POWER_CLUSTER_P2_HI), (Reg.ETH_MAC_LO, Reg.ETH_MAC_HI)]

/-- The key of a word's snapshot. -/
def snapKey (p : Page) (off : Nat) : Nat := p.num * 4096 + off

-- fields that show other state ----------------------------------------------------------------------------------------

/-- Dockets of a core's queues that wait on counters or stamps (R120): the release is not reached, or the waits have not been seen to hold
(log entry 42). -/
def clerkWaiting (s : State) (core : Nat) : Nat :=
  ((List.range 4).map (fun e => (queue s (4 * core + e)).countP (fun x =>
    !x.running && !x.eligible && ((dkReleaseEn x.dk && !x.released) || namesCounters x)))).sum

/-- QUEUE_FILL of a core (R120). -/
def queueFill (s : State) (core : Nat) : Nat :=
  ((List.range 4).map (fun e => (queue s (4 * core + e)).length * 256 ^ e)).sum

/-- STATE of a Lathe (R120): until the operation of its docket takes effect it loads C_IN, issues, or runs the exponent pass; from then until
the docket completes it drains, or ends the exponent pass of a TALLY docket (log entry 42). -/
def latheState (s : State) (core : Nat) : Nat :=
  match (queue s (4 * core)).find? (·.running) with
  | none => 0
  | some e =>
    if e.done then (if dkOp e.dk = 0 ∧ laTally e.dk ∧ !laExternal e.dk then 2 else 3)
    else if dkOp e.dk = 1 then 2
    else if laCInEn e.dk ∧ (carriesOver s core e).isNone then 3
    else 1

/-- Logical cluster c is in P2 or deeper (R424). -/
def inP2 (s : State) (c : Nat) : Bool :=
  (unitsOfCluster c).any (fun k => match sleepOf s k with | some (.asleep _) => true | _ => false)

/-- Clusters first to first + 31 in P2 or deeper, as bits. -/
def p2Bits (s : State) (first : Nat) : Nat := ((List.range 32).map (fun i => b2n (inP2 s (first + i)) * 2 ^ i)).sum

/-- A unit is in its state. -/
def isAsleep (s : State) (k : Nat) : Bool := match sleepOf s k with | some (.asleep _) => true | _ => false

/-- Key of the domain that RESET.REQ selects. -/
def reqKey (s : State) : Nat := rget s Reg.RESET_REQ_DOMAIN * 4096 + rget s Reg.RESET_REQ_INDEX

/-- A control of a PERTURB page is non-zero (R400). -/
def perturbActive (s : State) (d : Nat) : Bool :=
  [Reg.PERTURB_ARB_KIND, Reg.PERTURB_BP_KIND, Reg.PERTURB_INJ_KIND, Reg.PERTURB_CHK_KIND, Reg.PERTURB_TMO_SHIFT,
   Reg.PERTURB_RESEND_SHIFT, Reg.PERTURB_RPL_KIND].any (fun f => rget s f d != 0)

/-- The chain that CHAIN_SEL selects: die and chain (R402). -/
def chainSel (s : State) : Nat × Nat := (rget s Reg.FREEZE_CHAIN_SEL / 16, rget s Reg.FREEZE_CHAIN_SEL % 16)

/-- The pages of a read-out chain, in page-index order (R397). -/
def chainPages (s : State) (die ch : Nat) : List Page :=
  if die < 8 then
    if ch < 9 then
      match clusterAt s die ch with
      | none => []
      | some c => (List.range 8).flatMap (fun j => [⟨.lathe, 8 * c + j⟩, ⟨.vec, 8 * c + j⟩, ⟨.port, 8 * c + j⟩, ⟨.clerk, 8 * c + j⟩])
          ++ [⟨.cstore, c⟩]
    else if ch = 9 then [⟨.hbmc, die⟩, ⟨.update, die⟩, ⟨.dock, die⟩, ⟨.clock, die⟩, ⟨.perturb, die⟩]
    else []
  else if die < 10 then
    if ch < 8 then (List.range 4).map (fun j => ⟨.zlink, 2 * (4 * ch + j) + (die - 8)⟩)
    else if ch = 8 then [⟨.tally, die - 8⟩]
    else if ch = 9 then
      [⟨.clock, die⟩, ⟨.perturb, die⟩] ++
        (if die = 8 then [⟨.route, 0⟩, ⟨.msf, 0⟩, ⟨.chest, 0⟩, ⟨.tenant, 0⟩, ⟨.ftime, 0⟩, ⟨.pcie, 0⟩] else [])
    else [⟨.storc, die - 8⟩]
  else if die < 12 then
    if ch = 8 then [⟨.mill, die - 10⟩, ⟨.hopper, die - 10⟩, ⟨.eth, die - 10⟩, ⟨.clock, die⟩, ⟨.perturb, die⟩] else []
  else [⟨.dimtab, 0⟩, ⟨.power, 0⟩, ⟨.reset, 0⟩, ⟨.pmc, 0⟩, ⟨.health, 0⟩, ⟨.sbus, 0⟩]

/-- The engine queues of a read-out chain. -/
def chainQueues (s : State) (die ch : Nat) : List Nat :=
  if die < 8 then
    if ch < 9 then (match clusterAt s die ch with | none => [] | some c => (List.range 32).map (32 * c + ·))
    else if ch = 9 then [2048 + die] else []
  else if die = 8 ∧ ch = 8 then [2056, 2058]
  else if 10 ≤ die ∧ die < 12 ∧ ch = 8 then [2060 + (die - 10), 2062 + (die - 10)]
  else []

/-- Bits of a chain (R397). -/
def chainLen (s : State) (die ch : Nat) : Nat :=
  64 + 32768 * (chainPages s die ch).length + (65536 + 1088) * (chainQueues s die ch).length

/-- The header of a chain. -/
def chainHeader (s : State) (die ch : Nat) : Nat := die + ch * 2 ^ 8 + chainLen s die ch % 2 ^ 24 * 2 ^ 12 + 2 ^ 36

/-- The progress word of an engine (R397): chunks acknowledged, RGEN and TGEN. A docket of another engine has made no step
between two commands of this model (log entry 32). -/
def progressWord (s : State) (q : Nat) (e : QEntry) : Nat :=
  let n := s.msf.ops.foldl (fun acc o => if o.queue = q ∧ e.is o.ref then acc + (o.nextChunk - o.unacked.length) else acc) 0
  n % 2 ^ 32 + mapGet s.resets.gens q 0 % 256 * 2 ^ 32 + rget s Reg.TENANT_GEN 0 e.tenant.val * 2 ^ 40

/-- Word i of the part of a chain that holds a queue. -/
def queueWord (s : State) (q i : Nat) : Nat :=
  match (queue s q)[i / 32]? with | none => 0 | some e => bitsAt e.dk.toNat (32 * (i % 32)) 32

/-- Word i of the part of a chain that holds an engine's docket and its progress. -/
def engineWord (s : State) (q i : Nat) : Nat :=
  match (queue s q).find? (·.running) with
  | none => 0
  | some e => if i < 32 then bitsAt e.dk.toNat (32 * i) 32 else bitsAt (progressWord s q e) (32 * (i - 32)) 32

/-- A word of the bench map (R38): four logical clusters, or the bench states. -/
def benchWord (s : State) (off : Nat) : Nat :=
  let byte (c : Nat) : Nat := b2n (physPos s c == 8) * 128 + c / 8 * 16 + physPos s c
  if 0x800 ≤ off ∧ off < 0x840 then ((List.range 4).map (fun i => byte (off - 0x800 + i) * 256 ^ i)).sum
  else if off = 0x840 then ((List.range 8).map (fun n => mapGet s.boot.bench n 0 % 4 * 4 ^ n)).sum
  else 0

/-- A field of a block as it reads (R15). -/
def fieldRead (s : State) (p : Page) (f : Fld) (idx : Nat) : Nat :=
  let i := p.inst
  if f.blk = .hdr then hdrRead s p f
  else if f.acc = .wo then 0
  else match p.blk with
  | .lathe => if f = Reg.LATHE_STATE then latheState s i else rget s f i idx
  | .vec => if f = Reg.VEC_BUSY then b2n (inProgress s (4 * i + 1)) else rget s f i idx
  | .port => if f = Reg.PORT_BUSY then b2n (inProgress s (4 * i + 2)) else rget s f i idx
  | .clerk =>
    if f = Reg.CLERK_QUEUE_FILL then queueFill s i
    else if f = Reg.CLERK_WAITING then clerkWaiting s i % 256 else rget s f i idx
  | .update =>
    if f = Reg.UPDATE_STATE then
      (match (queue s (2048 + i)).find? (·.running) with | none => 0 | some e => (dkOp e.dk + 1) % 4)
    else rget s f i idx
  | .tally =>
    if f = Reg.TALLY_PART_BUSY then
      ((List.range 16).map (fun t => b2n ((queue s 2056).any (fun e => e.running && e.tenant.val == t)) * 2 ^ t)).sum
    else if f = Reg.TALLY_IN_PROGRESS ∧ i = 0 then (queue s 2056).countP (·.running)
    else rget s f i idx
  | .chest => if f = Reg.CHEST_IN_PROGRESS then (queue s 2058).countP (·.running) else rget s f i idx
  | .hopper =>
    if f = Reg.HOPPER_ACTIVE then
      ((List.range 8).map (fun j => b2n ((queue s (2062 + i)).any (fun e => e.running && dkf e.dk 0x30 0 4 == 2 * j + i)) * 2 ^ j)).sum
    else if f = Reg.HOPPER_STARVE_CYCLES then min (rget s f i idx + starveNow s i) (2 ^ 32 - 1)
    else rget s f i idx
  | .mill => if f = Reg.MILL_IN_PROGRESS then (queue s (2060 + i)).countP (·.running) else rget s f i idx
  | .tenant => if f = Reg.TENANT_RESET_CTL_RESET_BUSY then b2n (s.resets.tenants.contains idx) else rget s f i idx
  | .clock =>
    if f = Reg.CLOCK_GATE_STATE then b2n (!(clockOf s i).off.contains (rget s Reg.CLOCK_GATE_SEL i))
    else if f = Reg.CLOCK_GATE_REQ then b2n (!(clockOf s i).reqOff.contains (rget s Reg.CLOCK_GATE_SEL i))
    else rget s f i idx
  | .ftime =>
    if f = Reg.FTIME_NOW_LO then s.time.ft.toNat % 2 ^ 32
    else if f = Reg.FTIME_NOW_HI then s.time.snap.toNat / 2 ^ 32 else rget s f i idx
  | .zlink => if f = Reg.ZLINK_REPLAY_FILL then (mapGet s.links i LinkSt.reset).replay.length else rget s f i idx
  | .route =>
    if f = Reg.ROUTE_INDIRECT_BUSY then b2n (s.route.pend != [])
    else if f = Reg.ROUTE_PEER_DATA then (mapGet s.route.peer0 (rget s Reg.ROUTE_PEER_INDEX) 0).toNat else rget s f i idx
  | .reset =>
    if f = Reg.RESET_BUSY then b2n (s.resets.active != [] || s.resets.drains != [])
    else if f = Reg.RESET_GEN then mapGet s.resets.gens (reqKey s) 0 % 256 else rget s f i idx
  | .health =>
    let part := rget s Reg.HEALTH_PART
    if f = Reg.HEALTH_ACT then b2n (s.health.act.contains part)
    else if f = Reg.HEALTH_WARN then b2n (s.health.warn.contains part)
    else if f = Reg.HEALTH_SCORE then mapGet s.health.score part 0 / 16 else rget s f i idx
  | .dimtab => if rget s Reg.DIMTAB_READY = 0 then 0 else rget s f i idx
  | .perturb => if f = Reg.PERTURB_ACTIVE then b2n (perturbActive s i) else rget s f i idx
  | .freeze =>
    if f = Reg.FREEZE_CHAIN_LEN then chainLen s (chainSel s).1 (chainSel s).2 % 2 ^ 24
    else if f = Reg.FREEZE_READOUT_DATA ∨ f = Reg.FREEZE_STORE_DATA then 0 else rget s f i idx
  | .power =>
    if f = Reg.POWER_MODULE_STATE then (if isAsleep s moduleUnit then 4 else 0)
    else if f = Reg.POWER_DIE_P3 then ((List.range 8).map (fun n => b2n (isAsleep s (dieUnit n)) * 2 ^ n)).sum
    else if f = Reg.POWER_CLUSTER_P2_LO then p2Bits s 0
    else if f = Reg.POWER_CLUSTER_P2_HI then p2Bits s 32
    else if f = Reg.POWER_DOMAIN_PWR ∨ f = Reg.POWER_DOMAIN_ON then b2n (domainOn s (rget s Reg.POWER_DOMAIN_SEL))
    else rget s f i idx
  | .ledger =>
    let code := rget s Reg.LEDGER_CODE_INDEX
    let flag := rget s Reg.LEDGER_CODE_FLAG
    if f = Reg.LEDGER_CODE_PROFILE then profileOf s code flag
    else if f = Reg.LEDGER_CODE_CLASS then (classProfile code flag).1 else rget s f i idx
  | _ => rget s f i idx

/-- A field as a bus read returns it: the upper word of a 64-bit RO field comes from the latest snapshot (R60, R428). DIMTAB's entries show in
one cycle and stand from then on, whatever was read before it (R33). -/
def busField (s : State) (p : Page) (f : Fld) (idx : Nat) : Nat :=
  if p.blk ≠ .dimtab ∧ ro64.any (fun x => x.2 == f) = true then mapGet s.snaps (snapKey p (f.off + f.stride * idx)) (rstVal f p.inst idx)
  else fieldRead s p f idx

/-- A word of a page from its fields; reserved bits read zero (R18). -/
def wordOf (g : Fld → Nat → Nat) (p : Page) (off : Nat) : Nat :=
  (fieldsAt p off).foldl (fun acc x => acc ||| (g x.1 x.2 % 2 ^ x.1.width) <<< x.1.lsb) 0

/-- A word of a page with what no field holds: the bench map once the Dimension Table is published (R33, R38). -/
def pageWord (s : State) (g : Fld → Nat → Nat) (p : Page) (off : Nat) : Nat :=
  wordOf g p off + if p.blk = .dimtab ∧ rget s Reg.DIMTAB_READY = 1 then benchWord s off else 0

/-- Word i of the selected chain (R397). -/
def chainWord (s : State) (die ch i : Nat) : Nat :=
  let ps := chainPages s die ch
  let qs := chainQueues s die ch
  if i < 2 then bitsAt (chainHeader s die ch) (32 * i) 32
  else if i - 2 < 1024 * ps.length then
    match ps[(i - 2) / 1024]? with
    | none => 0
    | some p => pageWord s (fieldRead s p) p (4 * ((i - 2) % 1024))
  else
    let j := i - 2 - 1024 * ps.length
    if j < 2048 * qs.length then queueWord s (qs.getD (j / 2048) 0) (j % 2048)
    else
      let k := j - 2048 * qs.length
      engineWord s (qs.getD (k / 34) 0) (k % 34)

/-- The next 32 bits of the chain, and the position moved on; zero outside a freeze (R397). -/
def readoutNext (s : State) : Nat × State :=
  if !frozen s then (0, s)
  else
    let c := chainSel s
    let n := chainLen s c.1 c.2
    (chainWord s c.1 c.2 (s.freeze.pos / 32), { s with freeze := { s.freeze with pos := (s.freeze.pos + 32) % n } })

/-- The store word at STORE_ADDR, which moves on by 4; zero outside a freeze and outside the stores (R397). -/
def storeNext (s : State) : Nat × State :=
  if !frozen s then (0, s)
  else
    let a := rget64 s Reg.FREEZE_STORE_ADDR_LO Reg.FREEZE_STORE_ADDR_HI
    let v := match regionOf a with | .seg _ _ | .way _ _ => memNat s a 4 | _ => 0
    (v, rset64 s Reg.FREEZE_STORE_ADDR_LO Reg.FREEZE_STORE_ADDR_HI 0 0 (a + 4))

/-- What a read of a word does: RC fields clear and hold the increments of the same cycle, a lower word takes its snapshot;
nothing in a freeze (R17, R60, R396, R428). -/
def readEffect (s : State) (p : Page) (off : Nat) (inc : W32) : State :=
  if frozen s then s
  else (fieldsAt p off).foldl (fun s x =>
    let f := x.1
    if f.acc = .rc then
      rset (if f = Reg.HOPPER_STARVE_CYCLES then starveRead s p.inst else s) f p.inst x.2 (bitsAt inc.toNat f.lsb f.width)
    else if f = Reg.FTIME_NOW_LO then { s with time := { s.time with snap := s.time.ft } }
    else match ro64.find? (fun y => y.1 == f) with
      | none => s
      | some y =>
        { s with snaps := mapSet s.snaps (snapKey p (y.2.off + y.2.stride * x.2)) (fieldRead s p y.2 x.2) }) s

/-- A word read over the Service Bus, or over the AO domain's own path: its value, and the state after it (R426, R428). -/
def busRead (s : State) (off : Nat) (inc : W32) : Nat × State :=
  if 0x3FF0000 ≤ off ∧ off < 0x4000000 then (leNat (memRead s.ledger.ao (off - 0x3FF0000) 4), s)
  else match pageAt off with
    | none => (0, s)
    | some p =>
      let o := off % 4096
      if p.blk = .freeze ∧ o = Reg.FREEZE_READOUT_DATA.off then readoutNext s
      else if p.blk = .freeze ∧ o = Reg.FREEZE_STORE_DATA.off then storeNext s
      else (pageWord s (busField s p) p o, readEffect s p o inc)

/-- Words read one after the other. -/
def busReads (s : State) (off n : Nat) : List Nat × State :=
  match n with
  | 0 => ([], s)
  | n + 1 =>
    let r := busRead s off 0
    let rest := busReads r.2 (off + 4) n
    (r.1 :: rest.1, rest.2)

/-- A whole access lies in the register space (R426). -/
def inRegs (a n : Nat) : Bool := n != 0 && regionOf a == .reg && regionOf (a + n - 1) == .reg

/-- Bytes of the register space as a Porter or a remote READ takes them, in whole words (R428, R429). -/
def regBytes (s : State) (a n : Nat) : List Byte × State :=
  let off := a - regBase
  let lo := off / 4 * 4
  let r := busReads s lo ((off + n + 3) / 4 - off / 4)
  (((r.1.flatMap (fun w => natLe w 4)).drop (off - lo)).take n, r.2)

/-- The words of a write of bytes, with their byte enables (R428). -/
def wordsOf (off : Nat) (data : List Byte) : List WordWrite :=
  let n := data.length
  (List.range ((off + n + 3) / 4 - off / 4)).map (fun i =>
    let w := off / 4 * 4 + 4 * i
    let b (j : Nat) : Option Byte := if off ≤ w + j then data[w + j - off]? else none
    { off := w, data := BitVec.ofNat 32 (leNat ((List.range 4).map (fun j => (b j).getD 0)))
      be := BitVec.ofNat 4 ((List.range 4).map (fun j => b2n (b j).isSome * 2 ^ j)).sum })

/-- The words as transactions: at most 16 words, within one page (R436). -/
def transactions (l : List WordWrite) : List (List WordWrite) :=
  l.foldl (fun acc w =>
    match acc.getLast? with
    | some t =>
      if t.length < 16 ∧ (t.headD w).off / 4096 = w.off / 4096 then acc.dropLast ++ [t ++ [w]] else acc ++ [[w]]
    | none => [[w]]) []

/-- Bytes written into the register space are posted (R429, R436). -/
def postBytes (s : State) (w : Writer) (a : Nat) (data : List Byte) : State :=
  let ts := transactions (wordsOf (a - regBase) data)
  { s with sbus := { s.sbus with posted := s.sbus.posted ++ ts.map (fun t => (w, t)) } }

/-- A chunk's bytes placed: in the register space through the Service Bus input of its requester, or in a store or memory. -/
def Access.place (x : Access) (input : Fin 16) (a : Nat) (data : List Byte) : Access :=
  if inRegs a data.length then { x with s := postBytes x.s { input := input, tenant := Fin.ofNat 16 x.tenant } a data }
  else x.wr a data

end Sys2Proof.Machine
end

