-- ==== Sys2Proof/Machine/Sha.lean ====
section
/-! DEFINITION. Sys2Proof/Machine/Sha.lean: SHA-256 and SHA-384 of FIPS 180-4, which R342 and R420 name. -/

namespace Sys2Proof.Machine

/-- The word size, rotations and shifts, round constants and start values of one of the two hashes (FIPS 180-4). -/
structure ShaKind where
  w : Nat
  big0 : List Nat
  big1 : List Nat
  small0 : List Nat
  small1 : List Nat
  k : List Nat
  h : List Nat
deriving DecidableEq, Repr

/-- SHA-256. -/
def sha256Kind : ShaKind :=
  { w := 32, big0 := [2, 13, 22], big1 := [6, 11, 25], small0 := [7, 18, 3], small1 := [17, 19, 10]
    k := [0x428a2f98, 0x71374491, 0xb5c0fbcf, 0xe9b5dba5, 0x3956c25b, 0x59f111f1, 0x923f82a4, 0xab1c5ed5] ++
   [0xd807aa98, 0x12835b01, 0x243185be, 0x550c7dc3, 0x72be5d74, 0x80deb1fe, 0x9bdc06a7, 0xc19bf174] ++
   [0xe49b69c1, 0xefbe4786, 0x0fc19dc6, 0x240ca1cc, 0x2de92c6f, 0x4a7484aa, 0x5cb0a9dc, 0x76f988da] ++
   [0x983e5152, 0xa831c66d, 0xb00327c8, 0xbf597fc7, 0xc6e00bf3, 0xd5a79147, 0x06ca6351, 0x14292967] ++
   [0x27b70a85, 0x2e1b2138, 0x4d2c6dfc, 0x53380d13, 0x650a7354, 0x766a0abb, 0x81c2c92e, 0x92722c85] ++
   [0xa2bfe8a1, 0xa81a664b, 0xc24b8b70, 0xc76c51a3, 0xd192e819, 0xd6990624, 0xf40e3585, 0x106aa070] ++
   [0x19a4c116, 0x1e376c08, 0x2748774c, 0x34b0bcb5, 0x391c0cb3, 0x4ed8aa4a, 0x5b9cca4f, 0x682e6ff3] ++
   [0x748f82ee, 0x78a5636f, 0x84c87814, 0x8cc70208, 0x90befffa, 0xa4506ceb, 0xbef9a3f7, 0xc67178f2]
    h := [0x6a09e667, 0xbb67ae85, 0x3c6ef372, 0xa54ff53a, 0x510e527f, 0x9b05688c, 0x1f83d9ab, 0x5be0cd19] }

/-- SHA-384, by SHA-512's rounds. -/
def sha384Kind : ShaKind :=
  { w := 64, big0 := [28, 34, 39], big1 := [14, 18, 41], small0 := [1, 8, 7], small1 := [19, 61, 6]
    k := [0x428a2f98d728ae22, 0x7137449123ef65cd, 0xb5c0fbcfec4d3b2f, 0xe9b5dba58189dbbc] ++
   [0x3956c25bf348b538, 0x59f111f1b605d019, 0x923f82a4af194f9b, 0xab1c5ed5da6d8118] ++
   [0xd807aa98a3030242, 0x12835b0145706fbe, 0x243185be4ee4b28c, 0x550c7dc3d5ffb4e2] ++
   [0x72be5d74f27b896f, 0x80deb1fe3b1696b1, 0x9bdc06a725c71235, 0xc19bf174cf692694] ++
   [0xe49b69c19ef14ad2, 0xefbe4786384f25e3, 0x0fc19dc68b8cd5b5, 0x240ca1cc77ac9c65] ++
   [0x2de92c6f592b0275, 0x4a7484aa6ea6e483, 0x5cb0a9dcbd41fbd4, 0x76f988da831153b5] ++
   [0x983e5152ee66dfab, 0xa831c66d2db43210, 0xb00327c898fb213f, 0xbf597fc7beef0ee4] ++
   [0xc6e00bf33da88fc2, 0xd5a79147930aa725, 0x06ca6351e003826f, 0x142929670a0e6e70] ++
   [0x27b70a8546d22ffc, 0x2e1b21385c26c926, 0x4d2c6dfc5ac42aed, 0x53380d139d95b3df] ++
   [0x650a73548baf63de, 0x766a0abb3c77b2a8, 0x81c2c92e47edaee6, 0x92722c851482353b] ++
   [0xa2bfe8a14cf10364, 0xa81a664bbc423001, 0xc24b8b70d0f89791, 0xc76c51a30654be30] ++
   [0xd192e819d6ef5218, 0xd69906245565a910, 0xf40e35855771202a, 0x106aa07032bbd1b8] ++
   [0x19a4c116b8d2d0c8, 0x1e376c085141ab53, 0x2748774cdf8eeb99, 0x34b0bcb5e19b48a8] ++
   [0x391c0cb3c5c95a63, 0x4ed8aa4ae3418acb, 0x5b9cca4f7763e373, 0x682e6ff3d6b2b8a3] ++
   [0x748f82ee5defb2fc, 0x78a5636f43172f60, 0x84c87814a1f0ab72, 0x8cc702081a6439ec] ++
   [0x90befffa23631e28, 0xa4506cebde82bde9, 0xbef9a3f7b2c67915, 0xc67178f2e372532b] ++
   [0xca273eceea26619c, 0xd186b8c721c0c207, 0xeada7dd6cde0eb1e, 0xf57d4f7fee6ed178] ++
   [0x06f067aa72176fba, 0x0a637dc5a2c898a6, 0x113f9804bef90dae, 0x1b710b35131c471b] ++
   [0x28db77f523047d84, 0x32caab7b40c72493, 0x3c9ebe0a15c9bebc, 0x431d67c49c100d4c] ++
   [0x4cc5d4becb3e42b6, 0x597f299cfc657e2a, 0x5fcb6fab3ad6faec, 0x6c44198c4a475817]
    h := [0xcbbb9d5dc1059ed8, 0x629a292a367cd507, 0x9159015a3070dd17, 0x152fecd8f70e5939] ++
   [0x67332667ffc00b31, 0x8eb44a8768581511, 0xdb0c2e0d64f98fa7, 0x47b5481dbefa4fa4] }

/-- x rotated right by n in w bits. -/
def rotr (w x n : Nat) : Nat := (x / 2 ^ n + x % 2 ^ n * 2 ^ (w - n)) % 2 ^ w

/-- Three rotations combined. -/
def shaBig (w : Nat) (r : List Nat) (x : Nat) : Nat := r.foldl (fun a n => a ^^^ rotr w x n) 0

/-- Two rotations and a shift combined. -/
def shaSmall (w : Nat) (r : List Nat) (x : Nat) : Nat :=
  rotr w x (r.getD 0 0) ^^^ rotr w x (r.getD 1 0) ^^^ x / 2 ^ r.getD 2 0

/-- The message schedule, latest word first, to n words more. -/
def shaSchedule (c : ShaKind) (l : List Nat) (n : Nat) : List Nat :=
  match n with
  | 0 => l
  | n + 1 =>
    let x := (shaSmall c.w c.small1 (l.getD 1 0) + l.getD 6 0 + shaSmall c.w c.small0 (l.getD 14 0) + l.getD 15 0) % 2 ^ c.w
    shaSchedule c (x :: l) n

/-- One round on the eight working variables. -/
def shaRound (c : ShaKind) (v : List Nat) (kw : Nat × Nat) : List Nat :=
  match v with
  | [a, b, cc, d, e, f, g, h] =>
    let m := 2 ^ c.w
    let ch := (e &&& f) ^^^ ((m - 1 - e) &&& g)
    let t1 := (h + shaBig c.w c.big1 e + ch + kw.1 + kw.2) % m
    let t2 := (shaBig c.w c.big0 a + ((a &&& b) ^^^ (a &&& cc) ^^^ (b &&& cc))) % m
    [(t1 + t2) % m, a, b, cc, (d + t1) % m, e, f, g]
  | _ => v

/-- One block of 16 words. -/
def shaBlock (c : ShaKind) (h ws : List Nat) : List Nat :=
  let sched := (shaSchedule c ws.reverse (c.k.length - 16)).reverse
  let v := (c.k.zip sched).foldl (shaRound c) h
  (h.zip v).map (fun p => (p.1 + p.2) % 2 ^ c.w)

/-- The number whose big-endian bytes are l. -/
def beNat (l : List Byte) : Nat := l.foldl (fun a b => 256 * a + b.toNat) 0

/-- The big-endian words of a padded message, n bytes each. -/
def beWords (n : Nat) (l : List Byte) (fuel : Nat) : List Nat :=
  match fuel with
  | 0 => []
  | fuel + 1 => if l = [] then [] else beNat (l.take n) :: beWords n (l.drop n) fuel

/-- The padded message: 1, zeros, and the length in bits. -/
def shaPad (w : Nat) (l : List Byte) : List Byte :=
  let blk := 2 * w
  let tail := w / 4
  let z := (blk - (l.length + 1 + tail) % blk) % blk
  l ++ [0x80] ++ List.replicate z 0 ++ (natLe (8 * l.length) tail).reverse

/-- The blocks of a word list folded in. -/
def shaBlocks (c : ShaKind) (h ws : List Nat) (fuel : Nat) : List Nat :=
  match fuel with
  | 0 => h
  | fuel + 1 => if ws = [] then h else shaBlocks c (shaBlock c h (ws.take 16)) (ws.drop 16) fuel

/-- The hash words of a message. -/
def shaWords (c : ShaKind) (l : List Byte) : List Nat :=
  let p := shaPad c.w l
  shaBlocks c c.h (beWords (c.w / 8) p p.length) p.length

/-- The first n bytes of a hash. -/
def shaBytes (c : ShaKind) (n : Nat) (l : List Byte) : List Byte :=
  ((shaWords c l).flatMap (fun w => (natLe w (c.w / 8)).reverse)).take n

/-- SHA-256: 32 bytes. -/
def sha256 (l : List Byte) : List Byte := shaBytes sha256Kind 32 l

/-- SHA-384: 48 bytes. -/
def sha384 (l : List Byte) : List Byte := shaBytes sha384Kind 48 l

end Sys2Proof.Machine
end

