-- ==== Sys2Proof/Machine/Boot.lean ====
section
/-! DEFINITION. Sys2Proof/Machine/Boot.lean: power input, the boot stages, the boot image and its fuses, package resets and reboots: R23 to
R25, R33, R366, R417 to R423, R445, R446, R459. -/

namespace Sys2Proof.Machine

-- registers kept ------------------------------------------------------------------------------------------------------

/-- The field codes of blocks. -/
def codesOf (bs : List Blk) : List Nat := (bs.flatMap blkFields).map (·.code)

/-- The field of a register key, and the page whose header field it is. -/
def keyCode (k : Nat) : Nat := k / 16777216
/-- The page number of a header field's key. -/
def keyPage (k : Nat) : Nat := k / 1024 % 16384

/-- The registers of the given blocks, and the headers of the given pages. -/
def keepRegs (m : SMap Nat) (bs : List Blk) (lo hi : Nat) : SMap Nat :=
  let cs := codesOf bs
  let hs := Reg.hdrFields.map (·.code)
  m.filter (fun e => cs.contains (keyCode e.1) || (hs.contains (keyCode e.1) && lo ≤ keyPage e.1 && keyPage e.1 ≤ hi))

/-- The pages of the AO domain. -/
def aoBlocks : List Blk := [.ledger, .freeze, .smb]

/-- The pages of the PMC island. -/
def pmcBlocks : List Blk := [.dimtab, .power, .reset, .pmc, .health, .sbus]

/-- The page generations of all pages, which count through resets (R435). -/
def keepGens (m : SMap Nat) : SMap Nat := m.filter (fun e => keyCode e.1 == Reg.HDR_PAGE_GEN.code)

/-- The registers that a package reset keeps: the pages of AO and of the PMC island, the page numbers of DIMTAB and of SMB, between which
the headers of both lie (R427), and the page generations. -/
def keptRegs (m : SMap Nat) : SMap Nat :=
  mapMerge (keepRegs m (aoBlocks ++ pmcBlocks) 0x906 0x90E) (keepGens m)

-- package reset (R366, R419) ------------------------------------------------------------------------------------------

/-- Generations after a package reset: every domain's count advances. -/
def allGens (s : State) : SMap Nat :=
  let up (m : SMap Nat) (base n : Nat) : SMap Nat :=
    (List.range n).foldl (fun m i => mapUpd m (base + i) 0 (fun g => (g + 1) % 256)) m
  let m := s.resets.gens
  let m := up (up (up m 0 2064) 4096 512) 8192 64
  let m := up (up (up m 12288 8) 16384 16) 20480 64
  up (up (up m 24576 2) 28672 2) 32768 1

/-- The capacity ring is given up (R366). -/
def dropCapRing (s : State) : State :=
  let s := rset (rset (rset s Reg.LEDGER_CAP_EN 0 0 0) Reg.LEDGER_CAP_HEAD 0 0 0) Reg.LEDGER_CAP_TAIL 0 0 0
  { s with ledger := { s.ledger with capRecs := [], capLost := 0 } }

/-- Everything but the AO domain and the PMC island is cleared, the boot reruns from POWER_UP, and no die is powered (R364, R366,
R419; log entry 35). -/
def packageCore (s : State) : State :=
  let r := State.reset
  let p := s.power
  let t := { r with
    pending := s.pending, out := s.out, free := s.free, regs := keptRegs s.regs
    time := { r.time with cyc := s.time.cyc }
    sbus := s.sbus, ledger := s.ledger, freeze := s.freeze, health := s.health
    resets := { r.resets with gens := allGens s, hangs := s.resets.hangs }
    power := { p with on := [136], tripped := false, sleep := [] }
    boot := { s.boot with mapped := [], bench := [], outOf := [], published := false, rerun := true }
    pins := { s.pins with pwrGood := s.pins.pwrGood && !p.tripped }
    flash := s.flash, smbus := s.smbus }
  let t := rset (rset t Reg.DIMTAB_READY 0 0 0) Reg.DIMTAB_SHAPE_OK 0 0 0
  let t := rset (rset t Reg.PMC_BOOT_STAGE 0 0 3) Reg.POWER_THROTTLE 0 0 (clrBit (rget t Reg.POWER_THROTTLE) 3)
  dropCapRing t

/-- RESETS and LAST of RESET with a record (R384, R389). -/
def notePackage (s : State) : State :=
  let s := rinc s Reg.RESET_RESETS
  let s := rset (rset (rset s Reg.RESET_LAST_DOMAIN 0 0 8) Reg.RESET_LAST_INDEX 0 0 0) Reg.RESET_LAST_CAUSE 0 0 0
  raise s (evOf Reg.RESET_LAST_DOMAIN 0 12 0 15 none [8, 0, 0])

/-- After a trip the package reset is refused until every die is below 90 °C (R410). -/
def tripHolds (s : State) : Bool := s.power.tripped && s.power.temp.any (fun t => 90 ≤ t.2)

/-- A package reset: from the image in the PMC island, refused while a trip holds (R366, R410, R419). -/
def packageReset (s : State) : State :=
  if s.boot.image.isNone ∨ tripHolds s = true then s else notePackage (packageCore s)

/-- PACKAGE_RESET: asked by JTAG or a pin of the tray. -/
def execPackageReset (s : State) : Host.Outcome State Fault Refusal := .next (if frozen s then s else packageReset s)

/-- The entries of the Dimension Table that a firmware release may change, with the values of stepping B1 (R36). -/
def releasedFields : List (Fld × Nat) :=
  [(Reg.DIMTAB_CONTRACT_MINOR, 0), (Reg.DIMTAB_RING_MAX_LOG2, 16), (Reg.DIMTAB_LEDGER_CAP_MAX_MIB, 1024), (Reg.DIMTAB_CCLK_MAX_MHZ, 2400)]

/-- The values published last, with which a new release is compared (R36). -/
def keepReleased (m : SMap Nat) : SMap Nat := m.filter (fun e => releasedFields.any (fun x => regKey x.1 0 0 == e.1))

/-- The values of a release that boots: never below those of B1, and otherwise as the release has them (R36; log entry 6). -/
def releaseValue (x : Fld × Nat) (fw : Nat) : Nat := max x.2 (Config.release fw x.1.code % 2 ^ x.1.width)

/-- The entries that are not fixed take the values of the release that boots; a change advances DIMTAB's page generation (R36, R435). -/
def takeRelease (fw : Nat) (s : State) : State :=
  let t := releasedFields.foldl (fun s x => rset s x.1 0 0 (releaseValue x fw)) s
  if (mapFind s.regs (regKey Reg.DIMTAB_CONTRACT_MINOR 0 0)).isSome && releasedFields.any (fun x => rget s x.1 != rget t x.1) then pageGenUp t ⟨.dimtab, 0⟩ else t

/-- The PMC island is reset too, and boots from ROM (R419). -/
def rebootCore (s : State) : State :=
  let t := packageCore s
  let r := State.reset
  let t := { t with
    regs := mapMerge (keepRegs t.regs aoBlocks 0x90C 0x90E) (keepGens t.regs ++ keepReleased t.regs)
    sbus := r.sbus, resets := r.resets, health := { r.health with decayAt := s.time.cyc + 1000000000 }
    power := { r.power with temp := s.power.temp, thermLow := s.power.thermLow }
    boot := { t.boot with loaded := false, verified := false, image := none } }
  rset t Reg.PMC_BOOT_STAGE 0 0 0

/-- A reboot, refused as a package reset is after a trip (R410, R419). -/
def reboot (s : State) : State := if tripHolds s then s else rebootCore s

/-- The PMC page. -/
def pmcPage : Page := ⟨.pmc, 0⟩

/-- REBOOT. -/
def execReboot (by' : Writer) (s : State) : Host.Outcome State Fault Refusal :=
  .next (gated s by' pmcPage Reg.PMC_REBOOT 0 1 reboot)

-- power input (R417, R445, R446) --------------------------------------------------------------------------------------

/-- POWER_INPUT_IN_RANGE: the boot starts at ROM. -/
def execPowerInputInRange (s : State) : Host.Outcome State Fault Refusal :=
  .next (if s.boot.inRange then s else { s with boot := { s.boot with inRange := true } })

/-- POWER_INPUT_OUT_OF_RANGE: every domain loses power, AO included; the flash and the fuses keep what they hold (R446). -/
def execPowerInputOutOfRange (s : State) : Host.Outcome State Fault Refusal :=
  let r := State.reset
  .next { r with
    pending := s.pending, out := s.out, free := s.free
    boot := { r.boot with svnUp := s.boot.svnUp, revoked := s.boot.revoked }
    power := { r.power with thermLow := s.power.thermLow }
    pins := { r.pins with perstN := s.pins.perstN, trstN := s.pins.trstN }
    flash := { s.flash with busy := none } }

/-- BLADE_CURRENT_LOSS: input power is limited to 50 A at the measured input voltage (R445). -/
def execBladeCurrentLoss (milliVolts : Nat) (s : State) : Host.Outcome State Fault Refusal :=
  .next (live s (fun s =>
    let w := 50 * milliVolts / 1000
    let s := { s with pins := { s.pins with bladeLimit := some w } }
    raise s { evOf Reg.POWER_POWER_W 0 12 0 15 none [w] with cls := some 1 }))

-- the boot stages (R417) ----------------------------------------------------------------------------------------------

/-- BOOT_STAGE. -/
def bootStage (s : State) : Nat := rget s Reg.PMC_BOOT_STAGE

/-- The work of a stage, done while that stage is in progress; the next stage begins. -/
def bootStep (s : State) (stage : Nat) (k : State → State) : State :=
  if s.boot.inRange ∧ bootStage s = stage ∧ !frozen s ∧ !s.power.tripped then k s else s

/-- BOOT_STAGE set. -/
def setStage (s : State) (n : Nat) : State := rset s Reg.PMC_BOOT_STAGE 0 0 n

/-- The fuses as burnt so far (R420, R422). -/
def fuseSvn (s : State) : Nat := max (Config.svnFused % 65) s.boot.svnUp
/-- Key slots revoked so far. -/
def fuseRevoked (s : State) : Nat := (Config.keyRevoked % 16) ||| s.boot.revoked

/-- The position that the fuses map out on a die, where they map one (R23, R24). -/
def fusedOut (n : Nat) : Option Nat := if Config.benchFuse n < 8 then some (Config.benchFuse n) else none

/-- Die n with a position mapped out, or none, and its BENCH_STATE (R38). -/
def setBench (s : State) (n : Nat) (out : Option Nat) (st : Nat) : State :=
  let b := s.boot
  { s with boot := { b with
      mapped := match out with | some k => mapSet b.mapped n k | none => mapErase b.mapped n
      bench := mapSet b.bench n st } }

/-- The fused bench map. -/
def fuseBench (s : State) : State :=
  (List.range 8).foldl (fun s n => setBench s n (fusedOut n) (b2n (fusedOut n).isSome)) s

/-- ROM: AO and the PMC island run, fuses and straps are read, REFCLK is sampled (R417, R420, R451, R459). -/
def execRom (posId : Byte) (refclk : Bool) (s : State) : Host.Outcome State Fault Refusal :=
  .next (bootStep s 0 (fun s =>
    let s := { s with power := { s.power with on := addOnce s.power.on 136 } }
    let s := fuseBench s
    let s := rset s Reg.SMB_POS_ID 0 0 posId.toNat
    let s := rset s Reg.PCIE_SRIS 0 0 (b2n (!refclk))
    let s := rset (rset s Reg.PMC_SVN_FUSE 0 0 (fuseSvn s)) Reg.PMC_KEY_REVOKED 0 0 (fuseRevoked s)
    setStage (if s.power.thermLow then floorOn s else s) 1))

/-- FLASH: the image slot has been read. -/
def execFlash (s : State) : Host.Outcome State Fault Refusal :=
  .next (bootStep s 1 (fun s => setStage { s with boot := { s.boot with loaded := true } } 2))

/-- A byte of the flash; an erased one reads 0xFF. -/
def flashByte (s : State) (a : Nat) : Byte := (mapFind s.flash.bytes a).getD 0xFF

/-- n bytes of the flash. -/
def flashBytes (s : State) (a n : Nat) : List Byte := (List.range n).map (fun i => flashByte s (a + i))

/-- A field of the header of an image slot (R420). -/
def imgField (s : State) (slot off n : Nat) : Nat := leNat (flashBytes s (slot * 0x2000000 + off) n)

/-- The key slot whose digest is that of the image's public key. -/
def imgKey (s : State) (slot : Nat) : Option Nat :=
  let d := leNat (sha384 (flashBytes s (slot * 0x2000000 + 0x440) 97))
  (List.range 4).find? (fun k => Config.keyDigest k == d)

/-- A segment's digest matches. -/
def segOk (s : State) (slot i : Nat) : Bool :=
  let base := slot * 0x2000000
  let h := 0x40 + 64 * i
  leNat (sha384 (flashBytes s (base + imgField s slot h 4) (imgField s slot (h + 4) 4))) == imgField s slot (h + 0x10) 48

/-- The ROM's verify of a slot: 0, or the failure code (R420). -/
def verifySlot (s : State) (slot : Nat) : Nat :=
  let base := slot * 0x2000000
  if imgField s slot 0 4 ≠ 0x4D494B4F ∨ imgField s slot 4 2 ≠ 1 then 1
  else match imgKey s slot with
    | none => 2
    | some k =>
      if bitAt (fuseRevoked s) k then 2
      else if !Config.ecdsaP384 (flashBytes s (base + 0x440) 97) (leNat (sha384 (flashBytes s base 0x500))) (flashBytes s (base + 0x500) 96)
        then 3
      else if imgField s slot 0xC 2 < fuseSvn s then 4
      else if bitAt (imgField s slot 0xC 4) 17 ∧ imgField s slot 0x10 8 ≠ Config.serial.toNat then 4
      else if (List.range (imgField s slot 0x18 1 % 32)).all (segOk s slot) then 0
      else 5

/-- The image of a slot is the one that runs. -/
def takeImage' (s : State) (slot : Nat) : State :=
  let s := { s with boot := { s.boot with verified := true, image := some slot } }
  let s := rset (rset s Reg.PMC_IMAGE_SLOT 0 0 slot) Reg.PMC_KEY_SLOT 0 0 ((imgKey s slot).getD 0)
  let s := rset s Reg.PMC_DEBUG_PERMIT 0 0 (b2n (bitAt (imgField s slot 0xC 4) 16))
  let s := rset (rset s Reg.PMC_FW_VERSION 0 0 (imgField s slot 8 4)) Reg.PMC_SVN_IMAGE 0 0 (imgField s slot 0xC 2)
  setStage (takeRelease (imgField s slot 8 4) s) 3

/-- VERIFY: slot A, then slot B, or RECOVERY (R420, R421, R463). -/
def execVerify (s : State) : Host.Outcome State Fault Refusal :=
  .next (bootStep s 2 (fun s =>
    let a := verifySlot s 0
    if a = 0 then takeImage' (rset s Reg.PMC_BOOT_FAIL 0 0 0) 0
    else
      let b := verifySlot s 1
      let s := rset s Reg.PMC_BOOT_FAIL 0 0 (a + 16 * b)
      if b = 0 then raise (takeImage' s 1) (evOf Reg.PMC_IMAGE_SLOT 0 12 0 15 none [a])
      else alert (setStage s 8) 3))

/-- A die whose XTAL_READY is set has been switched to XTAL, and its PLLs have relocked, by the end of POWER_UP (R52, R53). One whose XTAL
comes later in range is switched in meterReady. -/
def useXtal (s : State) (d : Nat) : State :=
  if rget s Reg.CLOCK_STATUS_XTAL_READY d = 1 then
    setClock (rset s Reg.CLOCK_SOURCE_SEL d 0 1) d { clockOf s d with src := 1 }
  else s

/-- Every page generation advances where POWER_UP reruns after a package reset (R435). -/
def rerunGens (s : State) : State :=
  if s.boot.rerun then { s with boot := { s.boot with rerun := false, pageGens := s.boot.pageGens + 1 } } else s

/-- POWER_UP: dies are switched to XTAL, every domain has power, PWR_GOOD is released (R52, R417, R435, R458; log entry 35). -/
def execPowerUp (s : State) : Host.Outcome State Fault Refusal :=
  .next (bootStep s 3 (fun s =>
    let s := { s with power := { s.power with on := List.range 137 }, pins := { s.pins with pwrGood := true } }
    setStage (rerunGens ((List.range 12).foldl useXtal s)) 4))

/-- What SELFTEST decides on a die from the positions that failed: the map, BENCH_STATE, and whether the die is whole (R25, R423). -/
def benchOf (fails : List Nat) (fuse : Option Nat) : Option Nat × Nat × Bool :=
  let new := fails.filter (fun k => fuse != some k)
  match new, fuse with
  | [], _ => (fuse, b2n fuse.isSome, true)
  | [k], none => if k = 8 then (none, 3, true) else (some k, 2, true)
  | l, f => (f, if l.contains 8 then 3 else b2n f.isSome, false)

/-- The clusters of a die that serve nothing lose power (R24, R423). -/
def unusedOff (s : State) (n : Nat) : State :=
  domainsOff s [12 * n + (match mapFind s.boot.mapped n with | some k => k | none => 8)]

/-- SELFTEST: the positions that failed, by die (R423). -/
def execSelftest (failed : List (Fin 8 × Fin 9)) (s : State) : Host.Outcome State Fault Refusal :=
  .next (bootStep s 4 (fun s =>
    let of (n : Nat) : Option Nat × Nat × Bool :=
      benchOf (((List.range 9).filter (fun k => failed.any (fun p => p.1.val == n && p.2.val == k)))) (fusedOut n)
    let s := (List.range 8).foldl (fun s n => unusedOff (setBench s n (of n).1 (of n).2.1) n) s
    let s := rset s Reg.DIMTAB_SHAPE_OK 0 0 (b2n ((List.range 8).all (fun n => (of n).2.2)))
    setStage s 5))

/-- A stack or channel goes out of service: its accesses end with DATA_ERROR, its score reads 1,023, a record (R365, R417). -/
def partOut (s : State) (out part : Nat) : State :=
  let s := { s with boot := { s.boot with outOf := addOnce s.boot.outOf out } }
  raise (setScore s part 16383) (evOf Reg.HEALTH_SCORE 0 12 0 15 none [part])

/-- TRAIN: the stacks and channels that trained within two attempts; the others are taken out of service (R417). -/
def execTrain (trained : List StackId) (channels : List (Fin 32)) (s : State) : Host.Outcome State Fault Refusal :=
  .next (bootStep s 5 (fun s =>
    let st := (List.range 16).filter (fun i => !trained.any (fun x => x.val == i))
    let ch := (List.range 32).filter (fun i => !channels.any (fun x => x.val == i))
    let s := st.foldl (fun s i => partOut s i (64 + i)) s
    let s := ch.foldl (fun s i => partOut s (64 + i) (80 + i)) s
    let up (f : Nat) : Nat := ((List.range 16).map (fun i => b2n (!ch.contains (16 * f + i)) * 2 ^ i)).sum
    let s := rset (rset s Reg.STORC_CHAN_UP 0 0 (up 0)) Reg.STORC_CHAN_UP 1 0 (up 1)
    setStage (rset s Reg.PMC_PARTS_OUT 0 0 (st.length + ch.length)) 6))

/-- PUBLISH: the Dimension Table shows in one cycle, and the PCIe function is released (R33, R417, R418). -/
def execPublish (ms : Nat) (s : State) : Host.Outcome State Fault Refusal :=
  .next (bootStep s 6 (fun s =>
    let s := rset (rset s Reg.DIMTAB_READY 0 0 1) Reg.PMC_BOOT_MS 0 0 ms
    let s := { s with boot := { s.boot with published := true }, pcie := { s.pcie with rrs := false } }
    let s := if s.pins.perstN then emit s .readiness else s
    evalAll (setStage s 7)))

-- fuses (R422) --------------------------------------------------------------------------------------------------------

/-- SVN_COMMIT applied. -/
def svnApply (v : Nat) (s : State) : State :=
  if v % 2 = 0 then s
  else
    let n := max (rget s Reg.PMC_SVN_FUSE) (rget s Reg.PMC_SVN_IMAGE)
    rset { s with boot := { s.boot with svnUp := max s.boot.svnUp n } } Reg.PMC_SVN_FUSE 0 0 n

/-- SVN_COMMIT. -/
def execSvnCommit (by' : Writer) (s : State) : Host.Outcome State Fault Refusal :=
  .next (gated s by' pmcPage Reg.PMC_SVN_COMMIT 0 1 (svnApply 1))

/-- KEY_REVOKE applied: a write that names the slot in use is discarded and reported. -/
def keyApply (w : Writer) (v : Nat) (s : State) : State :=
  let v := v % 16
  if s.boot.image.isSome ∧ bitAt v (rget s Reg.PMC_KEY_SLOT) then
    reportFld s pmcPage w Reg.PMC_KEY_REVOKE 0 2 v (rget s Reg.PMC_KEY_REVOKED)
  else
    rset { s with boot := { s.boot with revoked := s.boot.revoked ||| v } } Reg.PMC_KEY_REVOKED 0 0 (rget s Reg.PMC_KEY_REVOKED ||| v)

/-- KEY_REVOKE. -/
def execKeyRevoke (by' : Writer) (mask : BitVec 4) (s : State) : Host.Outcome State Fault Refusal :=
  .next (gated s by' pmcPage Reg.PMC_KEY_REVOKE 0 mask.toNat (keyApply by' mask.toNat))

end Sys2Proof.Machine
end

