-- ==== Sys2Proof/Machine/MsfOps.lean ====
section
/-! DEFINITION. Sys2Proof/Machine/MsfOps.lean: sequence numbers, receipt windows, atomics, the die caches and the mirror of
shadow mode: R269 to R283, R379. -/

namespace Sys2Proof.Machine

-- generations (R371) --------------------------------------------------------------------------------------------------

/-- RGEN of the engine domain of a queue, by the numbering of R364. -/
def rgenOf (s : State) (q : Nat) : Nat := mapGet s.resets.gens q 0

/-- TENANT.GEN of a tenant. -/
def tgenOf (s : State) (t : Nat) : Nat := rget s Reg.TENANT_GEN 0 t

-- sequence numbers (R271) ---------------------------------------------------------------------------------------------

/-- The tenant's sequencer issues a SEQ, or the engine waits. -/
def issueSeq (s : State) (t : Nat) : Option W32 × State :=
  let n := mapGet s.msf.nextSeq t 0
  let o := mapGet s.msf.open' t []
  let free := match o with | [] => true | x :: _ => decide ((n - x).toNat < 1024)
  if free then
    (some n, { s with msf := { s.msf with nextSeq := mapSet s.msf.nextSeq t (n + 1), open' := mapSet s.msf.open' t (o ++ [n]) } })
  else (none, rinc s Reg.MSF_SEQ_WAITS)

/-- The unresolved operation of a tenant and SEQ. -/
def ropOf (s : State) (t : Nat) (seq : W32) : Option ROp := s.msf.ops.find? (fun o => o.tenant.val == t && o.seq == seq)

/-- An operation changed. -/
def updRop (s : State) (o : ROp) (f : ROp → ROp) : State :=
  { s with msf := { s.msf with ops := updFirst s.msf.ops (fun x => x.tenant == o.tenant && x.seq == o.seq) f } }

/-- An operation added. -/
def addRop (s : State) (o : ROp) : State := { s with msf := { s.msf with ops := s.msf.ops ++ [o] } }

-- receipt windows (R277) ----------------------------------------------------------------------------------------------

/-- The key of the window of an origin device and tenant. -/
def windowKey (dev t : Nat) : Nat := dev * 16 + t

/-- An empty slot. -/
def Receipt.empty : Receipt := { seq := 0, kind := 0, status := 0, result := 0, low := 0, map := 0 }

/-- The windows replaced, with WINDOWS_USED. -/
def setWindows (s : State) (w : SMap Window) : State :=
  rset { s with msf := { s.msf with windows := w } } Reg.MSF_WINDOWS_USED 0 0 w.length

/-- The window least recently changed. -/
def oldestWindow (w : SMap Window) : Option (Nat × Window) :=
  w.foldl (fun acc e => match acc with | none => some e | some b => if e.2.changed < b.2.changed then some e else acc) none

/-- The window of a pair, allocated where there is none: false where none is free (R277). -/
def windowFor (s : State) (dev t : Nat) : State × Bool :=
  let w := s.msf.windows
  let k := windowKey dev t
  let new (d : Nat) : Window := { die := d, slots := [], changed := s.time.cyc }
  if (mapFind w k).isSome then (s, true)
  else
    let n0 := w.countP (fun e => e.2.die == 0)
    let n1 := w.length - n0
    if w.length < 256 then
      let d := if n0 < n1 then 0 else if n1 < n0 then 1 else dev / 4 % 2
      (setWindows s (mapSet w k (new d)), true)
    else match oldestWindow w with
      | none => (s, false)
      | some b =>
        if b.2.changed + 1000000 * rget s Reg.MSF_WINDOW_IDLE_MS ≤ s.time.cyc then
          (setWindows s (mapSet (mapErase w b.1) k (new b.2.die)), true)
        else (s, false)

/-- The slot of a SEQ in a pair's window. -/
def slotOf (s : State) (dev t : Nat) (seq : W32) : Receipt :=
  match mapFind s.msf.windows (windowKey dev t) with
  | none => Receipt.empty
  | some w => mapGet w.slots (seq.toNat % 1024) Receipt.empty

/-- The slot of a SEQ written. -/
def setSlot (s : State) (dev t : Nat) (seq : W32) (r : Receipt) : State :=
  let none' : Window := { die := 0, slots := [], changed := 0 }
  let ws := mapUpd s.msf.windows (windowKey dev t) none'
    (fun w => { w with slots := mapSet w.slots (seq.toNat % 1024) r, changed := s.time.cyc })
  { s with msf := { s.msf with windows := ws } }

/-- What the receipt table says of a counted chunk (R273, R278). -/
inductive Chunk where
  /-- to be written and counted -/
  | new
  /-- to be rewritten, not counted -/
  | dup
  /-- beyond the window of R272: dropped without acknowledgement -/
  | stale
  /-- a later SEQ holds the slot -/
  | drop
  /-- written, not counted, INDETERMINATE -/
  | unknown
  /-- no window is free -/
  | busy
deriving DecidableEq, Repr

/-- The decision of R273 on chunk c at a slot. -/
def chunkAt (r : Receipt) (c : BitVec 16) : Chunk :=
  let d := (c - r.low).toNat
  if d < 64 then (if r.map.getLsbD d then .dup else .new)
  else if 2 ^ 15 ≤ d then .dup
  else .stale

/-- The decision of R278 on a counted chunk, with its slot made ready. -/
def chunkDecide (s : State) (dev t : Nat) (seq : W32) (retry : Bool) (c : BitVec 16) : State × Chunk :=
  let w := windowFor s dev t
  if !w.2 then (rinc s Reg.MSF_WINDOW_BUSY, .busy)
  else
    let s := w.1
    let r := slotOf s dev t seq
    let fresh : Receipt := { Receipt.empty with seq := seq, kind := 2 }
    if r.kind = 0 then
      if retry then (s, .unknown) else (setSlot s dev t seq fresh, chunkAt fresh c)
    else if r.seq = seq then (s, chunkAt r c)
    else if behind r.seq seq then (setSlot s dev t seq fresh, chunkAt fresh c)
    else (s, .drop)

/-- LOW and MAP with bit 0 shifted out while it is set (R273). -/
def shiftMap (low : BitVec 16) (map : W64) (fuel : Nat) : BitVec 16 × W64 :=
  match fuel with
  | 0 => (low, map)
  | fuel + 1 => if map.getLsbD 0 then shiftMap (low + 1) (map >>> 1) fuel else (low, map)

/-- Chunk c marked as counted (R273). -/
def markChunk (s : State) (dev t : Nat) (seq : W32) (c : BitVec 16) : State :=
  let r := slotOf s dev t seq
  let m := r.map ||| (1#64 <<< (c - r.low).toNat)
  let x := shiftMap r.low m 64
  setSlot s dev t seq { r with low := x.1, map := x.2 }

/-- A landed chunk is counted at its arrival counter (R273), or the tenant has no counter way there. -/
def countChunk (x : Access) (dev : Nat) (seq : W32) (c : BitVec 16) (cluster ctr : Nat) : Access :=
  if (counterWay x.s cluster x.tenant).isNone then x.fault 2
  else
    let y := x.counterAdd cluster x.tenant ctr 1
    { y with s := markChunk y.s dev x.tenant seq c }

-- atomics (R269) ------------------------------------------------------------------------------------------------------

/-- The new word of an atomic of w bits (R269). -/
def atomicNew (aop w old operand compare : Nat) : Nat :=
  let m := 2 ^ w
  let a := operand % m
  match aop with
  | 0 => (old + a) % m
  | 1 => a
  | 2 => if old = compare % m then a else old
  | 3 => old &&& a
  | 4 => old ||| a
  | 5 => old ^^^ a
  | 6 => min old a
  | 7 => max old a
  | 8 => if sext w old ≤ sext w a then old else a
  | _ => if sext w old ≤ sext w a then a else old

/-- An atomic may target near memory, the Storeroom or a cluster store (R269). -/
def atomicTarget (a : Nat) : Bool :=
  match regionOf a with | .near _ | .room _ | .way _ _ => true | _ => false

/-- An atomic applied at a local address for the access's tenant: the old value (R168, R269). -/
def Access.atomic (x : Access) (a aop w operand compare : Nat) : Nat × Access :=
  if !atomicTarget a then (0, x.invalid (rget x.s Reg.ROUTE_OWN_DEV * 2 ^ 48 + a))
  else
    let r := x.rdNat a (w / 8)
    if r.2.faults ≠ x.faults then r
    else (r.1, r.2.wrNat a (w / 8) (atomicNew aop w r.1 operand compare))

-- die caches (R281 to R283) -------------------------------------------------------------------------------------------

/-- The die cache of CDn is enabled. -/
def cacheOn (s : State) (n : Nat) : Bool := bitAt (rget s Reg.MSF_CACHE_EN) n

/-- A line leaves a die cache. -/
def cacheDrop (s : State) (n gline : Nat) : State :=
  { s with msf := { s.msf with cache := mapErase s.msf.cache (cacheKey n gline) } }

/-- A line installed in the die cache of CDn; a free value says whether it replaces another line of that cache, and which: a full cache of
65,536 lines always replaces one (R281; log entry 16). -/
def cacheInstall (s : State) (n t gline data : Nat) : State :=
  let f := freeVal s
  let s := f.2
  let c := s.msf.cache
  let mine := c.filter (fun e => e.1 / 2 ^ 60 == n && e.1 != cacheKey n gline)
  let c := match mine[f.1 / 2 % max 1 mine.length]? with
    | none => c
    | some e => if f.1 % 2 = 1 ∨ 65536 ≤ mine.length then mapErase c e.1 else c
  { s with msf := { s.msf with
      cache := mapSet c (cacheKey n gline) { tenant := Fin.ofNat 16 t, data := BitVec.ofNat 512 data } } }

/-- The set of a near-memory address: the directory of FD(g mod 2) tracks its lines (R282). -/
def regionSet (a : Nat) : Nat := match regionOf a with | .near g => g | _ => 0

/-- A CONTROL line of this module read by the Porters of CDn is cached and enters the directory of its set's fabric die (R281, R282). -/
def controlRead (s : State) (n t line : Nat) : State :=
  if !cacheOn s n ∨ classOf s (64 * line) ≠ 1 then s
  else
    let s :=
      let dir := s.msf.dir.filter (fun e => regionSet (64 * e.1) % 2 == regionSet (64 * line) % 2 && e.1 != line)
      if dir.length < 1048576 then s
      else
        let f := freeVal s
        match dir[f.1 % dir.length]? with
        | none => f.2
        | some e => rinc (invalControl f.2 e.1) Reg.MSF_DIR_EVICTIONS
    let s := { s with msf := { s.msf with dir := mapUpd s.msf.dir line 0 (· ||| BitVec.ofNat 8 (2 ^ n)) } }
    cacheInstall s n t (ownLine s line) (memNat s (64 * line) 64)

/-- The bytes of [a, a + n) of another device as the die cache of CDn holds them for a tenant, where it holds every line
(R281, R283). -/
def cacheRead (s : State) (n t ga len : Nat) : Option (List Byte) :=
  if !cacheOn s n ∨ len = 0 then none
  else
    let ls := linesOf ga len
    let hit := ls.map (fun l => match mapFind s.msf.cache (cacheKey n l) with
      | some c => if c.tenant.val = t then some c.data.toNat else none
      | none => none)
    if hit.all Option.isSome then
      let bytes := (hit.filterMap id).flatMap (fun d => natLe d 64)
      some ((bytes.drop (ga % 64)).take len)
    else none

/-- Whole lines of a chunk that another device returned as CACHEABLE are installed (R281). -/
def cacheChunk (s : State) (n t ga : Nat) (data : List Byte) : State :=
  if !cacheOn s n then s
  else (linesOf ga data.length).foldl (fun s l =>
    if ga ≤ 64 * l ∧ 64 * l + 64 ≤ ga + data.length then
      cacheInstall s n t l (leNat ((data.drop (64 * l - ga)).take 64))
    else s) s

/-- A read of local memory by a Porter of CDn (R281, R282). -/
def porterRead (x : Access) (n a len : Nat) : List Byte × Access :=
  let r := x.rd a len
  if r.2.faults ≠ x.faults then r
  else (r.1, { r.2 with s := (linesOf a len).foldl (fun s l => controlRead s n x.tenant l) r.2.s })

-- the mirror of shadow mode (R379) ------------------------------------------------------------------------------------

/-- S shadows this tenant (R380). -/
def shadowed (s : State) (t : Nat) : Bool := rget s Reg.HEALTH_SHADOW_EN == 1 && rget s Reg.HEALTH_SHADOW_TENANT == t

/-- A chunk that has landed for the mirrored tenant goes out as a multicast WRITE with its own operation fields. -/
def mirrorChunk (s : State) (t flow op : Nat) (data : List Byte) : State :=
  if rget s Reg.HEALTH_MIRROR_EN = 1 ∧ rget s Reg.HEALTH_MIRROR_TENANT = t then
    send s none (mkPacket s (rget s Reg.HEALTH_MIRROR_GROUP) 0 t true 2 flow op data)
  else s

/-- The operation fields of a WRITE (R270). -/
def writeOp (a seq tgen rgen : Nat) (widenPos : Nat) (retry arrive widen : Bool) (ctr cluster : Nat) : Nat :=
  widenPos * 2 ^ 5 + b2n retry * 2 ^ 9 + b2n arrive * 2 ^ 10 + b2n widen * 2 ^ 11 + tgen * 2 ^ 16 + rgen * 2 ^ 24
    + seq * 2 ^ 32 + a % 2 ^ 43 * 2 ^ 64 + ctr % 2 ^ 12 * 2 ^ 107 + cluster % 64 * 2 ^ 119

/-- The header fields of a response: its STATUS and the request's SEQ and generations (R270). -/
def responseOp (opc status : Nat) (p : Packet) : Nat :=
  opc + status * 16 + pf p 144 8 * 2 ^ 16 + pf p 152 8 * 2 ^ 24 + pf p 160 32 * 2 ^ 32

/-- A response sent back to a packet's source, with the request's FLOW (R270). -/
def respond (s : State) (p : Packet) (opc cls status : Nat) (extra : Nat) (data : List Byte) : State :=
  let dst := pSrc p
  let e := peerOut s dst
  if dst = rget s Reg.ROUTE_OWN_DEV ∨ peerFenced e ∨ !peerValid e then s
  else send s none (mkPacket s dst (peerGen e) (pTenant p) false cls (pFlow p) (responseOp opc status p + extra) data)

end Sys2Proof.Machine
end

