-- ==== Sys2Proof/Machine/Porter.lean ====
section
/-! DEFINITION. Sys2Proof/Machine/Porter.lean: copies in chunks, conversions, layouts, gathers and fills: R113 to R116, R135,
R268, R272, R273, R468. -/

namespace Sys2Proof.Machine

-- the body (R135) -----------------------------------------------------------------------------------------------------

/-- SRC. -/
def poSrc (d : Docket) : Nat := dkf d 0x30 0 64
/-- DST. -/
def poDst (d : Docket) : Nat := dkf d 0x38 0 64
/-- BYTES. -/
def poBytes (d : Docket) : Nat := dkf d 0x40 0 40
/-- SRC_FMT. -/
def poSrcFmt (d : Docket) : Nat := dkf d 0x48 0 5
/-- DST_FMT. -/
def poDstFmt (d : Docket) : Nat := dkf d 0x48 5 5
/-- SAT. -/
def poSat (d : Docket) : Bool := dkf d 0x48 10 1 == 1
/-- QUANT. -/
def poQuant (d : Docket) : Bool := dkf d 0x48 11 1 == 1
/-- WIDEN. -/
def poWiden (d : Docket) : Bool := dkf d 0x48 12 1 == 1
/-- TRANSPOSE. -/
def poTranspose (d : Docket) : Bool := dkf d 0x48 13 1 == 1
/-- ARRIVE_EN. -/
def poArriveEn (d : Docket) : Bool := dkf d 0x48 14 1 == 1
/-- DIR. -/
def poDir (d : Docket) : Bool := dkf d 0x48 15 1 == 1
/-- WIDEN_CORE. -/
def poWidenCore (d : Docket) : Nat := dkf d 0x48 16 9
/-- ARRIVE_CTR. -/
def poArriveCtr (d : Docket) : Nat := dkf d 0x4C 0 12
/-- ARRIVE_CLUSTER. -/
def poArriveCluster (d : Docket) : Nat := dkf d 0x4C 16 6
/-- ROWS. -/
def poRows (d : Docket) : Nat := dkf d 0x50 0 32
/-- ROW_BYTES, or PLAYOUT's columns. -/
def poRowBytes (d : Docket) : Nat := dkf d 0x54 0 32
/-- INDEX. -/
def poIndex (d : Docket) : Nat := dkf d 0x58 0 64

/-- Device ID of a global address (R14). -/
def gDev (a : Nat) : Nat := a / 2 ^ 48 % 2 ^ 16
/-- Local address of a global address. -/
def gLoc (a : Nat) : Nat := a % 2 ^ 48

/-- This module's device ID. -/
def ownDev (s : State) : Nat := rget s Reg.ROUTE_OWN_DEV

/-- The first global address of a copy docket whose device ID is not one (R14). -/
def badDevice (d : Docket) : Option Nat :=
  if dkOp d ≠ 5 ∧ gDev (poSrc d) % 4 ≠ 0 then some (poSrc d) else if gDev (poDst d) % 4 ≠ 0 then some (poDst d) else none

/-- The global address that a remote device answers INVALID_ADDRESS for: the first one of [a, a + n) that its map does not hold (R157, R470). -/
def remoteHole (a n : Nat) : Nat := gDev a * 2 ^ 48 + (firstHole (gLoc a) n).getD (gLoc a)

-- conversion (R86, R113) ----------------------------------------------------------------------------------------------

/-- The conversion a copy docket asks for is one the Porter performs under its flags (R86, R113; log entry 21). -/
def poConvertible (d : Docket) : Bool :=
  let s := poSrcFmt d
  let t := poDstFmt d
  if dkOp d = 1 then s == t || porterConverts s t
  else if poQuant d && poWiden d then false
  else if poQuant d then (s == 0 || s == 2) && isMX t
  else isMX s && (t == 0 || t == 2)

/-- The docket reads DST_FMT: a PCONV, or a PCOPY with QUANT or WIDEN (R129). -/
def poReadsDst (d : Docket) : Bool := dkOp d == 1 || (dkOp d == 0 && (poQuant d || poWiden d))

/-- The docket converts: its formats differ, after the clamp to the identity (R86, R129). -/
def poConverts (d : Docket) : Bool := poReadsDst d && poSrcFmt d != poDstFmt d

/-- The conversion is made on arrival (R115). -/
def poWidens (d : Docket) : Bool := dkOp d == 0 && poWiden d && poConverts d

/-- The clamped field of a Porter docket: a conversion that R86 does not list (R86, R129). -/
def porterClamps (d : Docket) : List DkClamp :=
  if poReadsDst d ∧ !poConvertible d ∧ poSrcFmt d ≠ poDstFmt d then
    [{ off := 0x48, lsb := 5, width := 5, written := poDstFmt d, applied := poSrcFmt d }] else []

/-- Elements in the n source bytes of a chunk. -/
def chunkElems (fmt n : Nat) : Nat :=
  if isMX fmt then (if groupBytes fmt ≤ n then 4096 else (n - 128) * 8 / elemBits fmt) else 8 * n / elemBits fmt

/-- Bytes of n elements of a chunk in a destination format. -/
def chunkBytes (fmt n : Nat) : Nat := if n = 0 then 0 else bytesOf fmt n

/-- Source bytes of a whole chunk (R114; log entry 21). -/
def chunkSrc (d : Docket) : Nat :=
  if (dkOp d ≤ 1) ∧ isMX (poSrcFmt d) then groupBytes (poSrcFmt d)
  else if poConverts d ∧ isMX (poDstFmt d) then 512 * elemBits (poSrcFmt d)
  else 4096

/-- The values of a chunk converted (R69 to R75, R80, R86, R468): bytes, NONFINITE, FLUSHED. first is the index of the
chunk's first element, anchors the docket's anchor array. -/
def convertChunk (s t : Nat) (sat : Bool) (anchors : List Int) (first : Nat) (data : List Byte) : List Byte × Nat × Nat :=
  let n := chunkElems s data.length
  let vals := if isMX s then decodeGroup s data n else decodeAll s data n
  if t = 13 ∨ t = 14 then
    let w := elemBits t
    let es := (List.range n).map (fun i => anchors.getD ((first + i) / 1024) emptyAnchor)
    let r := (vals.zip es).map (fun p => toTally w p.2 p.1)
    (pack w (r.map (fun q => twos w q.1)), (r.zip es).countP (fun p => wordNonfinite w p.2 p.1.1), r.countP (·.2))
  else
    let r := encodeAll t sat vals
    (r.1, r.2, 0)

-- PLAYOUT (R96, R113) -------------------------------------------------------------------------------------------------

/-- Bit position of element (lane, k) in panel layout, for a panel stride (R96). -/
def panelBit (fmt stride lane k : Nat) : Nat :=
  let w := elemBits fmt
  8 * (lane / 64 * stride + (if isMX fmt then k / 32 * (64 + 256 * w) + 64 + k % 32 * 8 * w else k * 8 * w))
    + lane % 64 * w

/-- Byte of the scale of lane and k-group in panel layout. -/
def panelScale (fmt stride lane k : Nat) : Nat := lane / 64 * stride + k / 32 * (64 + 256 * elemBits fmt) + lane % 64

/-- Bit position of element i in row-major or group layout (R72). -/
def flatBit (fmt i : Nat) : Nat :=
  if isMX fmt then 8 * (i / 4096 * groupBytes fmt + 128) + i % 4096 * elemBits fmt else i * elemBits fmt

/-- Byte of the scale of element i in group layout. -/
def flatScale (fmt i : Nat) : Nat := i / 4096 * groupBytes fmt + i % 4096 / 32

/-- Lanes and length of the matrix in panel terms: rows and columns, swapped by TRANSPOSE. -/
def layoutDims (d : Docket) : Nat × Nat :=
  if poTranspose d then (poRowBytes d, poRows d) else (poRows d, poRowBytes d)

/-- Bytes of one panel of a PLAYOUT. -/
def layoutPanel (d : Docket) : Nat :=
  let m := layoutDims d
  panelBytes (poSrcFmt d) (if isMX (poSrcFmt d) then ceilDiv m.2 32 * 32 else m.2)

/-- n bytes from an offset in pieces of c bytes, the last one shorter: offset and length of each. -/
def cutPieces (off n c : Nat) : List (Nat × Nat) := (List.range (ceilDiv n c)).map (fun i => (off + i * c, min c (n - i * c)))

/-- The chunks of one side of a PLAYOUT, as offset and length: of the panels, which the bytes between them are no part of, or of the
row-major or group layout (R96, R114; log entry 22). -/
def layoutPieces (d : Docket) (panel : Bool) : List (Nat × Nat) :=
  let fmt := poSrcFmt d
  if panel then (List.range (ceilDiv (layoutDims d).1 64)).flatMap (fun p => cutPieces (p * dkf d 0x60 0 21) (layoutPanel d) 4096)
  else cutPieces 0 (chunkBytes fmt (poRows d * poRowBytes d)) (if isMX fmt then groupBytes fmt else 4096)

/-- The chunks of a PLAYOUT's source. -/
def layoutSrc (d : Docket) : List (Nat × Nat) := layoutPieces d (poDir d)

/-- The chunks of a PLAYOUT's destination. -/
def layoutDst (d : Docket) : List (Nat × Nat) := layoutPieces d (!poDir d)

/-- Bytes of a side of a PLAYOUT up to the end of its last chunk. -/
def layoutSize (l : List (Nat × Nat)) : Nat := l.foldl (fun n p => max n (p.1 + p.2)) 0

/-- Index of element (lane, k) in the row-major matrix. -/
def flatIndex (d : Docket) (lane k : Nat) : Nat := if poTranspose d then k * poRowBytes d + lane else lane * poRowBytes d + k

/-- w bits at bit position p of bytes. -/
def bitsIn (bytes : Array Byte) (p w : Nat) : Nat :=
  bitsAt ((List.range 9).foldl (fun acc j => acc + (bytes.getD (p / 8 + j) 0).toNat * 256 ^ j) 0) (p % 8) w

/-- The number of a layout's bytes built from its fields: (bit position, width, value). -/
def placeBits (n : Nat) (l : List (Nat × Nat × Nat)) : List Byte :=
  natLe (l.foldl (fun acc f => acc ||| (f.2.2 % 2 ^ f.2.1) <<< f.1) 0) n

/-- The fields of a PLAYOUT's destination. Where a transposed MX tensor has no scale per lane and k-group, the scale is a
free value (log entry 22). -/
def layoutFields (d : Docket) (src : Array Byte) (free : Nat) : List (Nat × Nat × Nat) :=
  let fmt := poSrcFmt d
  let w := elemBits fmt
  let st := dkf d 0x60 0 21
  let m := layoutDims d
  (List.range m.1).flatMap (fun i => (List.range m.2).flatMap (fun k =>
    let f := flatIndex d i k
    let el := if poDir d then (flatBit fmt f, w, bitsIn src (panelBit fmt st i k) w)
      else (panelBit fmt st i k, w, bitsIn src (flatBit fmt f) w)
    if isMX fmt ∧ k % 32 = 0 then
      let v := if poTranspose d then free / 256 ^ (i + m.1 * (k / 32)) % 256
        else if poDir d then bitsIn src (8 * panelScale fmt st i k) 8 else bitsIn src (8 * flatScale fmt f) 8
      [el, (8 * (if poDir d then flatScale fmt f else panelScale fmt st i k), 8, v)]
    else [el]))

/-- The bytes of a side put together from its pieces. -/
def joinPieces (n : Nat) (l : List (Nat × List Byte)) : Array Byte :=
  l.foldl (fun a p => (p.2.zip (List.range p.2.length)).foldl (fun a b => a.setIfInBounds (p.1 + b.2) b.1) a) (Array.replicate n 0)

/-- The bytes of chunk i of a PLAYOUT's destination, from the pieces of its source. -/
def layoutChunk (d : Docket) (src : List (Nat × List Byte)) (free i : Nat) : List Byte :=
  let c := (layoutDst d).getD i (0, 0)
  let out := placeBits (layoutSize (layoutDst d)) (layoutFields d (joinPieces (layoutSize (layoutSrc d)) src) free)
  (out.drop c.1).take c.2

-- the chunks of a docket (R113, R114) ---------------------------------------------------------------------------------

/-- Pieces of one row of a gather or scatter. -/
def rowPieces (d : Docket) : Nat := ceilDiv (poRowBytes d) 4096

/-- Chunks of a copy docket. -/
def chunkCount (d : Docket) : Nat :=
  if dkOp d = 2 then (layoutDst d).length
  else if dkOp d = 3 ∨ dkOp d = 4 then poRows d * rowPieces d else ceilDiv (poBytes d) (chunkSrc d)

/-- Chunks that a copy with its source on another device asks for: a PLAYOUT asks for those of its source. -/
def chunkAsked (d : Docket) : Nat := if dkOp d = 2 then (layoutSrc d).length else chunkCount d

/-- Source bytes of chunk i. -/
def chunkLen (d : Docket) (i : Nat) : Nat :=
  if dkOp d = 2 then ((layoutSrc d).getD i (0, 0)).2
  else if dkOp d = 3 ∨ dkOp d = 4 then min 4096 (poRowBytes d - i % rowPieces d * 4096)
  else min (chunkSrc d) (poBytes d - i * chunkSrc d)

/-- Output bytes of a chunk of n source bytes. -/
def chunkOut (d : Docket) (n : Nat) : Nat :=
  if poConverts d then chunkBytes (poDstFmt d) (chunkElems (poSrcFmt d) n) else n

/-- Offset of chunk i in the docket's output, rows in index-list order (R394). -/
def chunkOff (d : Docket) (i : Nat) : Nat :=
  if dkOp d = 2 then (((layoutDst d).take i).map (·.2)).sum
  else if dkOp d = 3 ∨ dkOp d = 4 then i / rowPieces d * poRowBytes d + i % rowPieces d * 4096
  else i * chunkOut d (chunkSrc d)

/-- Source global address of chunk i, with the index list of a gather. -/
def chunkFrom (d : Docket) (idx : List Nat) (i : Nat) : Nat :=
  match dkOp d with
  | 2 => poSrc d + ((layoutSrc d).getD i (0, 0)).1
  | 3 => poSrc d + idx.getD (i / rowPieces d) 0 * poRowBytes d + i % rowPieces d * 4096
  | 4 => poSrc d + chunkOff d i
  | _ => poSrc d + i * chunkSrc d

/-- Destination global address of chunk i, with the index list of a scatter. -/
def chunkTo (d : Docket) (idx : List Nat) (i : Nat) : Nat :=
  match dkOp d with
  | 2 => poDst d + ((layoutDst d).getD i (0, 0)).1
  | 4 => poDst d + idx.getD (i / rowPieces d) 0 * poRowBytes d + i % rowPieces d * 4096
  | _ => poDst d + chunkOff d i

/-- The source lies on another device. A fill has no source. -/
def poRemoteSrc (s : State) (d : Docket) : Bool := dkOp d != 5 && gDev (poSrc d) != ownDev s

/-- The destination lies on another device. -/
def poRemoteDst (s : State) (d : Docket) : Bool := gDev (poDst d) != ownDev s

/-- A widening core belongs to the window of a destination address (R270). -/
def widenCoreOk (core a : Nat) : Bool :=
  match regionOf (gLoc a) with | .way c _ => core / 8 == c | .seg k _ => core == k | _ => false

/-- A Porter docket completes PARAM_ERROR (R113, R129, R268, R269, R270, R468). An address whose device bits [1:0] are set is no device's: such
a docket ends INVALID_ADDRESS when it starts (R14). -/
def porterError (s : State) (d : Docket) : Bool :=
  let devs := (badDevice d).isNone
  let both := devs && poRemoteSrc s d && poRemoteDst s d
  let core (i : Nat) : Bool := widenCoreOk (poWidenCore d) (chunkTo d [] i)
  match dkOp d with
  | 0 | 1 =>
    let t := poDstFmt d
    16 < poSrcFmt d || (poReadsDst d && 16 < t) || both
      || (dkOp d == 1 && (t == 13 || t == 14) && 4 < poSrcFmt d)
      || (dkOp d == 0 && poWiden d && devs && (!core 0 || !core (chunkCount d - 1)))
  | 2 => 16 < poSrcFmt d || both ||
      (devs && match regionOf (gLoc (poDst d)) with | .seg _ _ => false | _ => true)
  | 3 | 4 => poRowBytes d % 64 != 0 || poRowBytes d == 0 || 65536 < poRowBytes d || both
  | 5 | 7 | 8 => false
  | 6 => 9 < dkf d 0x38 0 4 || dkf d 0x30 0 64 % (if dkf d 0x38 4 1 = 1 then 8 else 4) != 0 || dkf d 0x50 0 64 % 8 != 0
  | _ => true

-- digests of copies (R394) --------------------------------------------------------------------------------------------

/-- The digest terms of the 8-byte words of bytes at an offset of the output. -/
def digestWords (off : Nat) (bytes : List Byte) : Nat :=
  let ws := (chunksOf 8 bytes).map leNat
  ((ws.zip (List.range ws.length)).foldl (fun acc p =>
    let j := off / 8 + p.2
    acc + (2 * (j / 512) + 1) * mix (p.1 ^^^ (j * 0x9E3779B97F4A7C15 % 2 ^ 64))) 0) % 2 ^ 64

/-- The digest before any chunk: the length, and the zero words that pad the last tile. -/
def digestStart (length : Nat) : Nat :=
  let words := ceilDiv length 8
  (mix length + digestWords (8 * words) (List.replicate (8 * (ceilDiv length 4096 * 512 - words)) 0)) % 2 ^ 64

/-- The length of a copy's output. -/
def poOutLength (d : Docket) : Nat :=
  let n := chunkCount d
  if n = 0 then 0 else if dkOp d = 2 then chunkOff d n else if dkOp d = 3 ∨ dkOp d = 4 then poRows d * poRowBytes d
  else chunkOff d (n - 1) + chunkOut d (chunkLen d (n - 1))

-- landing one chunk ---------------------------------------------------------------------------------------------------

/-- An entry's anchor array (R468). -/
def entryAnchors (e : QEntry) : List Int := e.idx.map anchorBits

/-- The conversion of chunk i of an entry. -/
def entryConvert (e : QEntry) (i : Nat) (data : List Byte) : List Byte × Nat × Nat :=
  if poConverts e.dk then
    convertChunk (poSrcFmt e.dk) (poDstFmt e.dk) (poSat e.dk) (entryAnchors e) (i * chunkElems (poSrcFmt e.dk) (chunkSrc e.dk)) data
  else (data, 0, 0)

/-- The pieces of a PLAYOUT's source: those that a remote device has sent, or read here. -/
def layoutRead (x : Access) (core : Nat) (e : QEntry) : List (Nat × List Byte) × Access :=
  if poRemoteSrc x.s e.dk then (e.parts, x)
  else (layoutSrc e.dk).foldl (fun acc c =>
    let r := porterRead acc.2 (core / 64) (gLoc (poSrc e.dk) + c.1) c.2
    (acc.1 ++ [(c.1, r.1)], r.2)) ([], x)

/-- The bytes of a chunk at its local source, the pattern of a fill, or a chunk in its new layout (R113, R135). -/
def chunkRead (x : Access) (core : Nat) (e : QEntry) (i : Nat) : List Byte × Access :=
  if dkOp e.dk = 5 then
    let p := natLe (dkf e.dk 0x58 0 32) 4
    (((List.range (chunkLen e.dk i)).map (fun j => p.getD (j % 4) 0)), x)
  else if dkOp e.dk = 2 then
    let r := layoutRead x core e
    let f := freeVal r.2.s
    (layoutChunk e.dk r.1 f.1 i, { r.2 with s := f.2 })
  else
    let a := gLoc (chunkFrom e.dk e.idx i)
    if inRegs a (chunkLen e.dk i) then
      let r := regBytes x.s a (chunkLen e.dk i)
      (r.1, { x with s := r.2 })
    else porterRead x (core / 64) a (chunkLen e.dk i)

/-- The Service Bus input of the Porters of a queue's die (R437). -/
def porterInput (q : Nat) : Fin 16 := Fin.ofNat 16 (2 + q / 256)

/-- The outcome of placing a chunk: the accesses, whether it has landed, and whether the slot was of no help (R278). -/
structure Placed where
  x : Access
  landed : Bool
deriving DecidableEq, Repr

/-- A chunk's bytes placed at a local address for a tenant, counted in the receipt window of the origin device where it
asks for it (R115, R273, R278). -/
def placeChunk (x : Access) (input : Fin 16) (dev : Nat) (seq : W32) (retry arrive : Bool) (c : BitVec 16) (cluster ctr : Nat) (a : Nat)
    (data : List Byte) : Placed :=
  if !arrive then { x := x.place input a data, landed := true }
  else
    let d := chunkDecide x.s dev x.tenant seq retry c
    let x := { x with s := d.1 }
    match d.2 with
    | .busy | .drop => { x := x, landed := false }
    | .stale => { x := { x with s := rinc x.s Reg.MSF_STALE_DISCARDS }, landed := false }
    | .dup => { x := { x.place input a data with s := rinc (x.place input a data).s Reg.MSF_DUP_CHUNKS }, landed := true }
    | .unknown => { x := (x.place input a data).fault 9, landed := true }
    | .new =>
      let y := x.place input a data
      { x := if y.faults = x.faults then countChunk y dev seq c cluster ctr else y, landed := true }

/-- A chunk that has landed is added to its docket's record (R68, R394). -/
def noteChunk (s : State) (q : Nat) (e : QEntry) (x : Access) (i : Nat) (out : List Byte) (nonfinite flushed : Nat) : State :=
  let dig := if dkDigestEn e.dk then digestWords (chunkOff e.dk i) out else 0
  updEntry s q e.toRef (fun e => { e with
    status := worst (e.status :: x.faults), badAddr := if e.status = 4 then e.badAddr else x.bad.getD e.badAddr
    nonfinite := e.nonfinite + nonfinite, flushed := e.flushed + flushed, digest := (e.digest + dig) % 2 ^ 64 })

/-- The widening core's count of a chunk (R115, R120). -/
def countWiden (s : State) (core : Nat) (b : Bool) : State := if b then rinc s Reg.PORT_WIDEN_CHUNKS core else s

/-- The compute die that holds a local address. -/
def dieOf (a : Nat) : Option Nat :=
  match regionOf a with | .near g => some (g / 16) | .way c _ => some (c / 8) | .seg k _ => some (k / 64) | _ => none

/-- Chunk i of a copy within the module crosses a fabric die: its source or its destination lies on another compute die than its Porter
(R30; log entry 42). -/
def crossesDies (e : QEntry) (core i : Nat) : Bool :=
  let off (a : Nat) : Bool := match dieOf a with | some n => n != core / 64 | none => false
  (dkOp e.dk != 5 && off (gLoc (chunkFrom e.dk e.idx i))) || off (gLoc (chunkTo e.dk e.idx i))

/-- The fabric die that carries chunk i: FD0 and FD1 in turn, or the one that FD_STEER pins; the other one while it resets (R30, R116). -/
def chunkVia (s : State) (core i : Nat) : Nat :=
  let pin := rget s Reg.PORT_FD_STEER core
  let f := if pin = 0 then i % 2 else pin - 1
  if inReset s 6 f then 1 - f else f

/-- Chunk i has no way to its destination: it crosses a fabric die, and both are in reset. -/
def chunkStuck (s : State) (e : QEntry) (core i : Nat) : Bool := crossesDies e core i && inReset s 6 (chunkVia s core i)

/-- Fabric die f goes into reset: chunks in flight through it go again through the other one, each to arrive once. How many of the chunks on
that way are in flight is a free value (R30, R120; log entry 42). -/
def resendChunks (s : State) (f : Nat) : State :=
  s.queues.foldl (fun s q =>
    if q.1 < 2048 ∧ q.1 % 4 = 2 then
      q.2.foldl (fun s e =>
        let n := if e.running && e.started && !e.done then
            (e.todo.filter (fun i => crossesDies e (q.1 / 4) i && chunkVia s (q.1 / 4) i == f)).length else 0
        if n = 0 then s else let v := freeVal s; rinc v.2 Reg.PORT_RESENT_CHUNKS (q.1 / 4) 0 (v.1 % (n + 1))) s
    else s) s

/-- Chunk i of a local copy lands (R114, R115, R273). -/
def landLocal (s : State) (core : Nat) (e : QEntry) (i : Nat) : State :=
  let q := 4 * core + 2
  let r := chunkRead (e.access s) core e i
  let o := entryConvert e i r.1
  let seq := e.seqs.headD 0
  let p := placeChunk r.2 (porterInput q) (ownDev s) seq e.reexec (poArriveEn e.dk) (BitVec.ofNat 16 i) (poArriveCluster e.dk)
    (poArriveCtr e.dk) (gLoc (chunkTo e.dk e.idx i)) o.1
  if p.x.stalled ∨ chunkStuck s e core i = true then s
  else if !p.landed then p.x.s
  else
    let s := noteChunk p.x.s q e p.x i o.1 o.2.1 o.2.2
    let s := countWiden (rinc s Reg.PORT_CHUNKS core) (poWidenCore e.dk) (poWidens e.dk)
    updEntry s q e.toRef (fun e =>
      let todo := dropAll e.todo i
      { e with todo := todo, done := todo == [] })

-- remote copies (R268, R272) ------------------------------------------------------------------------------------------

/-- The lines of a range of another device leave the die cache of CDn (R281). -/
def cacheForget (s : State) (n ga len : Nat) : State := (linesOf ga len).foldl (fun s l => cacheDrop s n l) s

/-- The packet of chunk i of a remote write (R270). -/
def writePacket (s : State) (e : QEntry) (o : ROp) (i : Nat) (data : List Byte) : Packet :=
  let dst := chunkTo e.dk e.idx i
  let op := writeOp (gLoc dst) o.seq.toNat o.tgen.toNat o.rgen.toNat (poWidenCore e.dk % 8) o.retry (poArriveEn e.dk)
    (poWidens e.dk) (poArriveCtr e.dk) (poArriveCluster e.dk)
  let p := mkPacket s (gDev dst) o.gen.toNat e.tenant.val false 2 i op data
  { p with side := if poWidens e.dk then poSrcFmt e.dk + 32 * poDstFmt e.dk + 1024 * b2n (poSat e.dk) + 2048 else 0 }

/-- Chunk i of a remote write leaves; none while its source is being filled or in reset (R165, R270). -/
def sendWrite (s : State) (q : Nat) (e : QEntry) (o : ROp) (i : Nat) : Option State :=
  let r := chunkRead (e.access s) (q / 4) e i
  if r.2.stalled then none else some <|
  let c := entryConvert e i r.1
  let s := noteChunk r.2.s q e r.2 i c.1 c.2.1 c.2.2
  let s := cacheForget s (q / 256) (chunkTo e.dk e.idx i) c.1.length
  send s (some q) (writePacket s e o i (if poWidens e.dk then r.1 else c.1))

/-- The packet that asks for chunk i of a remote read (R270). -/
def readPacket (s : State) (e : QEntry) (o : ROp) (i : Nat) : Packet :=
  let src := chunkFrom e.dk e.idx i
  let op := 1 + b2n o.retry * 2 ^ 9 + o.tgen.toNat * 2 ^ 16 + o.rgen.toNat * 2 ^ 24 + o.seq.toNat * 2 ^ 32
    + gLoc src % 2 ^ 43 * 2 ^ 64
  { mkPacket s (gDev src) o.gen.toNat e.tenant.val false 0 i op [] with side := chunkLen e.dk i }

/-- Chunk i of a remote read is asked for (R270). -/
def sendRead (s : State) (q : Nat) (e : QEntry) (o : ROp) (i : Nat) : State := send s (some q) (readPacket s e o i)

/-- The chunk of the docket that a 16-bit FLOW names, among the unacknowledged ones (R270). -/
def chunkOfFlow (o : ROp) (flow : Nat) : Option Nat := o.unacked.find? (fun i => i % 2 ^ 16 == flow)

/-- A chunk of a remote copy is acknowledged. -/
def ackChunk (s : State) (o : ROp) (i : Nat) : State :=
  updRop s o (fun o => { o with unacked := dropAll o.unacked i, sentAt := s.time.cyc })

/-- A fault that a remote copy met: the first invalid address is kept (R138, R470). -/
def copyFault (s : State) (q : Nat) (r : DocketRef) (status ga : Nat) : State :=
  if status = 0 then s
  else updEntry s q r (fun e => { e with
    badAddr := if status = 4 ∧ e.status ≠ 4 then ga else e.badAddr, status := worst [e.status, status] })

/-- A remote read's chunk lands at the origin; that of a PLAYOUT is kept until its source is whole (R272, R273). -/
def landRead (s : State) (q : Nat) (e : QEntry) (o : ROp) (i : Nat) (data : List Byte) (status : Nat) : State :=
  let ga := chunkFrom e.dk e.idx i
  if dkOp e.dk = 2 then
    let s := copyFault s q e.toRef status (remoteHole ga (chunkLen e.dk i))
    ackChunk (updEntry s q e.toRef (fun e => { e with parts := e.parts ++ [(((layoutSrc e.dk).getD i (0, 0)).1, data)] })) o i
  else
    let r := entryConvert e i data
    let p := placeChunk (e.access s) (porterInput q) (ownDev s) o.seq o.retry (poArriveEn e.dk) (BitVec.ofNat 16 i) (poArriveCluster e.dk)
      (poArriveCtr e.dk) (gLoc (chunkTo e.dk e.idx i)) r.1
    if p.x.stalled then s
    else if !p.landed then p.x.s
    else
      let s := copyFault p.x.s q e.toRef status (remoteHole ga (chunkLen e.dk i))
      match entryOf s q e.toRef with
      | none => s
      | some e =>
        let s := noteChunk s q e p.x i r.1 r.2.1 r.2.2
        let s := countWiden (rinc s Reg.PORT_CHUNKS (q / 4)) (poWidenCore e.dk) (poWidens e.dk)
        ackChunk s o i

/-- Every chunk of a remote copy has been answered: its work is done; a PLAYOUT lays out what it has read. -/
def copyAnswered (s : State) (q : Nat) (e : QEntry) (o : ROp) : State :=
  if dkOp e.dk = 2 ∧ o.kind = 1 then
    let n := chunkCount e.dk
    updEntry s q e.toRef (fun e => if e.todo != [] || e.done then e else { e with todo := List.range n, done := n == 0 })
  else updEntry s q e.toRef (fun e => { e with done := true })

/-- The global address on the other device of chunk i. -/
def chunkAway (e : QEntry) (o : ROp) (i : Nat) : Nat := if o.kind = 0 then chunkTo e.dk e.idx i else chunkFrom e.dk e.idx i

/-- Chunk i of a remote copy is issued. One whose local address no packet can name ends INVALID_ADDRESS (R157, R270); one that the die cache
holds whole awaits its landing (R281). S sends no write and awaits no answer to one (R380). None where it must wait. -/
def issueChunk (s : State) (q : Nat) (e : QEntry) (o : ROp) (i : Nat) : Option State :=
  let ga := chunkAway e o i
  let take (wait : Bool) : State := updRop s o (fun o => { o with
    nextChunk := i + 1, sentAt := s.time.cyc, unacked := if wait then o.unacked ++ [i] else o.unacked })
  if 2 ^ 43 ≤ gLoc ga then some (copyFault (take false) q e.toRef 4 (remoteHole ga 1))
  else if o.kind = 0 then sendWrite (take (!shadowed s e.tenant.val)) q e o i
  else if (cacheRead s (q / 256) e.tenant.val ga (chunkLen e.dk i)).isSome then
    some (updEntry (take true) q e.toRef (fun e => { e with todo := e.todo ++ [i] }))
  else some (sendRead (take true) q e o i)

/-- The chunks of a remote copy that may leave now do, 64 unacknowledged at most; when none is left the docket's work is
done (R272). -/
def pumpCopy (s : State) (q : Nat) (e : QEntry) (seq : W32) (fuel : Nat) : State :=
  match fuel with
  | 0 => s
  | fuel + 1 =>
    match ropOf s e.tenant.val seq, entryOf s q e.toRef with
    | some o, some e =>
      if o.nextChunk < o.chunks ∧ o.nextChunk < o.unacked.foldl min o.nextChunk + 64 then
        match issueChunk s q e o o.nextChunk with
        | none => updEntry s q e.toRef (fun e => { e with todo := addOnce e.todo o.nextChunk })
        | some s => pumpCopy s q e seq fuel
      else if o.unacked = [] ∧ o.chunks ≤ o.nextChunk then copyAnswered s q e o
      else s
    | _, _ => s

/-- Chunks of a remote copy leave as far as R272 lets them. -/
def issueChunks (s : State) (q : Nat) (e : QEntry) (seq : W32) : State := pumpCopy s q e seq (chunkCount e.dk + chunkAsked e.dk + 1)

/-- Chunk i of a remote read comes from the die cache; where one of its lines has left it, the chunk is asked for (R281). -/
def landCached (s : State) (q : Nat) (e : QEntry) (o : ROp) (i : Nat) : State :=
  match cacheRead s (q / 256) e.tenant.val (chunkFrom e.dk e.idx i) (chunkLen e.dk i) with
  | none => sendRead (updEntry s q e.toRef (fun e => { e with todo := dropAll e.todo i })) q e o i
  | some data =>
    let s := landRead s q e o i data 0
    if (ropOf s e.tenant.val o.seq).any (fun o => o.unacked.contains i) then s
    else issueChunks (updEntry s q e.toRef (fun e => { e with todo := dropAll e.todo i })) q e o.seq

/-- A chunk of a core's running copy goes on: one of a remote read that is not answered yet comes from the die cache, one of a remote write
leaves if its source can be read now (R165), any other one lands at its destination. -/
def landChunkOf (s : State) (core : Nat) (e : QEntry) (i : Nat) : State :=
  let q := 4 * core + 2
  match e.seqs.head?.bind (fun n => ropOf s e.tenant.val n) with
  | none => landLocal s core e i
  | some o =>
    if o.kind = 0 then issueChunks (updEntry s q e.toRef (fun e => { e with todo := dropAll e.todo i })) q e o.seq
    else if o.unacked.contains i then landCached s q e o i
    else landLocal s core e i

/-- The remote side of a copy docket: the SEQ it holds, and its operation (R271, R272). -/
def startRemote (s : State) (q : Nat) (e : QEntry) (kind dev chunks : Nat) (seq : W32) : State :=
  let o : ROp := { seq, tenant := e.tenant, queue := q, ref := e.toRef, kind, dev := BitVec.ofNat 16 dev,
                   gen := BitVec.ofNat 8 (peerGen (peerOut s dev)), rgen := BitVec.ofNat 8 (rgenOf s q),
                   tgen := BitVec.ofNat 8 (tgenOf s e.tenant.val), unacked := [], nextChunk := 0, chunks, retry := e.reexec,
                   again := [], noCache := [], sentAt := s.time.cyc }
  addRop s o

/-- A SEQ for the docket: the one it holds, or a new one, or none yet (R271). -/
def seqFor (s : State) (q : Nat) (e : QEntry) : Option W32 × State :=
  match e.seqs with
  | x :: _ => (some x, s)
  | [] =>
    let r := issueSeq s e.tenant.val
    match r.1 with
    | none => r
    | some n => (some n, updEntry r.2 q e.toRef (fun e => { e with seqs := [n] }))

/-- The list that a gather, a scatter or a conversion to tally words reads first (R113, R468). -/
def readList (x : Access) (e : QEntry) : List Nat × Access :=
  let d := e.dk
  if dkOp d = 3 ∨ dkOp d = 4 then
    let r := x.rd (gLoc (poIndex d)) (4 * poRows d)
    (unpack 32 r.1 (poRows d), r.2)
  else if dkOp d = 1 ∧ (poDstFmt d = 13 ∨ poDstFmt d = 14) ∧ poConverts d then
    let n := ceilDiv (chunkElems (poSrcFmt d) (poBytes d)) 1024
    let r := x.rd (gLoc (poIndex d)) (2 * n)
    (unpack 16 r.1 n, r.2)
  else ([], x)

/-- A copy docket that ends before it moves anything. -/
def endCopy (s : State) (q : Nat) (e : QEntry) (status addr : Nat) : State :=
  updEntry s q e.toRef (fun e => { e with started := true, done := true, status := worst [e.status, status], badAddr := addr })

/-- The Porter starts on a copy, conversion, layout, gather, scatter or fill (R113, R262, R268, R271). -/
def startCopy (s : State) (core op : Nat) : State :=
  let q := 4 * core + 2
  match (queue s q).find? (fun e => e.running && !e.started && !e.done && !e.cut && dkEngine e.dk == 2 && dkOp e.dk == op) with
  | none => s
  | some e =>
    match badDevice e.dk with
    | some a => endCopy s q e 4 a
    | none =>
      let remote := poRemoteSrc s e.dk || poRemoteDst s e.dk
      let dev := gDev (if poRemoteDst s e.dk then poDst e.dk else poSrc e.dk)
      let fault := if remote then peerFault s dev else 0
      let asked := poRemoteSrc s e.dk
      if fault ≠ 0 then endCopy s q e fault (if poRemoteDst s e.dk then poDst e.dk else poSrc e.dk)
      else
        let r := if remote ∨ poArriveEn e.dk then seqFor s q e else (some 0, s)
        match r.1 with
        | none => r.2
        | some seq =>
          let l := readList (e.access r.2) e
          if l.2.stalled then s
          else
            let n := chunkCount e.dk
            let s := updEntry l.2.s q e.toRef (fun e => { e with
              started := true, idx := l.1, todo := if remote then [] else List.range n, done := !remote && n == 0
              status := worst (e.status :: l.2.faults), badAddr := l.2.bad.getD e.badAddr
              digest := digestStart (poOutLength e.dk) })
            match entryOf s q e.toRef with
            | none => s
            | some e =>
              if remote then issueChunks (startRemote s q e (b2n asked) dev (if asked then chunkAsked e.dk else n) seq) q e seq else s

end Sys2Proof.Machine
end

