-- ==== Sys2Proof/Machine/Update.lean ====
section
/-! DEFINITION. Sys2Proof/Machine/Update.lean: the Update Engines: shards, page tables, AdamW, the global norm and clipping:
R313 to R331. -/

namespace Sys2Proof.Machine

-- the body, the descriptor and the optimiser block (R314, R320, R329) -------------------------------------------------

/-- SHARD. -/
def upShard (d : Docket) : Nat := dkf d 0x30 0 64
/-- STEP. -/
def upStep (d : Docket) : Nat := dkf d 0x38 0 24
/-- CLIP. -/
def upClip (d : Docket) : Nat := dkf d 0x40 0 64
/-- NORM_VEC. -/
def upVec (d : Docket) : Nat := dkf d 0x48 0 64
/-- NORM_COUNT. -/
def upCount (d : Docket) : Nat := dkf d 0x50 0 25

/-- A field of a block read as a number. -/
def bf (n off lsb w : Nat) : Nat := bitsAt n (8 * off + lsb) w

/-- ELEMENTS. -/
def sdElements (d : Nat) : Nat := bf d 0 0 40
/-- ELEM_BASE. -/
def sdBase (d : Nat) : Nat := bf d 8 0 40
/-- LOGICAL_ID. -/
def sdLogical (d : Nat) : Nat := bf d 0x10 0 24
/-- TENSOR_ID. -/
def sdTensor (d : Nat) : Nat := bf d 0x14 0 32
/-- Elements per page. -/
def sdPage (d : Nat) : Nat := 2 ^ bf d 0x18 0 5
/-- DELAY. -/
def sdDelay (d : Nat) : Nat := bf d 0x18 8 4
/-- SR. -/
def sdSr (d : Nat) : Bool := bf d 0x18 12 1 == 1
/-- PAGE_TABLE. -/
def sdTable (d : Nat) : Nat := bf d 0x20 0 64
/-- HOLD_TABLE. -/
def sdHold (d : Nat) : Nat := bf d 0x28 0 64
/-- SLOT_BASE. -/
def sdSlots (d : Nat) : Nat := bf d 0x30 0 64
/-- SLOTS. -/
def sdCount (d : Nat) : Nat := bf d 0x38 0 32
/-- ACC_TABLE. -/
def sdAccTable (d : Nat) : Nat := bf d 0x40 0 64
/-- ACC_SLOT_BASE. -/
def sdAccSlots (d : Nat) : Nat := bf d 0x48 0 64
/-- ACC_SLOTS. -/
def sdAccCount (d : Nat) : Nat := bf d 0x50 0 32
/-- GRAD. -/
def sdGrad (d : Nat) : Nat := bf d 0x58 0 64
/-- WORK0 or WORK1. -/
def sdWork (d i : Nat) : Nat := bf d (0x60 + 8 * i) 0 64
/-- HYPER. -/
def sdHyper (d : Nat) : Nat := bf d 0x70 0 64

/-- PAGES (R315). -/
def sdPages (d : Nat) : Nat := ceilDiv (sdElements d) (sdPage d)

/-- Elements of page i (R315). -/
def pageElems (d i : Nat) : Nat := min (sdPage d) (sdElements d - i * sdPage d)

/-- Logical page number of page i (R315). -/
def logicalPage (d i : Nat) : Nat := sdBase d / sdPage d + i

/-- A field of the descriptor lies outside its range (R314). -/
def descBad (d : Nat) : Bool :=
  sdElements d == 0 || bf d 0x18 0 5 < 12 || 16 < bf d 0x18 0 5 || 8 < sdDelay d || sdBase d % sdPage d != 0
    || sdSlots d % 4096 != 0 || (2 ≤ sdDelay d && sdAccSlots d % 4096 != 0) || sdHyper d % 64 != 0

/-- An FP32 field of the optimiser block. -/
def hyF (h off : Nat) : FVal := decodeIeee (floatOf 0) 0 (bf h off 0 32)

/-- CLIP_EN. -/
def hyClip (h : Nat) : Bool := bf h 0x14 0 1 == 1

/-- The optimiser block completes a docket with PARAM_ERROR (R320). -/
def hyperBad (h : Nat) : Bool :=
  hyClip h && (match hyF h 0x10 with | .fin n m _ => n || m == 0 | _ => true)

/-- An Update docket completes PARAM_ERROR at acceptance (R313, R314, R316, R329). -/
def updateError (d : Docket) : Bool :=
  match dkOp d with
  | 0 => upShard d % 64 != 0 || upStep d == 0xFFFFFF
  | 1 => upShard d % 64 != 0
  | 2 => upCount d == 0 || 2 ^ 24 < upCount d
  | _ => true

-- per-step constants (R321) -------------------------------------------------------------------------------------------

/-- One FP64 operation's result. -/
def sub64 (a b : FVal) : FVal := f64 (a.add b.neg)

/-- The constants of a step, FP32. -/
structure Consts where
  beta1 : FVal
  beta2 : FVal
  eps : FVal
  lambda : FVal
  c1 : FVal
  c2 : FVal
  bc1 : FVal
  bc2 : FVal
  lr : FVal
deriving DecidableEq, Repr

/-- 1 / (1 - beta^n) in FP64, rounded once to FP32. -/
def biasFix (beta : FVal) (n : Nat) : FVal :=
  f32 (f64 ((FVal.ofInt 1).div (sub64 (FVal.ofInt 1) (near64Pow beta n))))

/-- The learning rate of a step (R321). SEGMENTS above 16 counts the 16 segments that the block holds (log entry 27). -/
def learningRate (h step : Nat) : FVal :=
  let segs := (List.range (min 16 (bf h 0x14 8 5))).filter (fun s => bf h (0x40 + 16 * s) 0 24 ≤ step)
  match segs.getLast? with
  | none => FVal.zero
  | some s =>
    let o := 0x40 + 16 * s
    let len := bf h (o + 12) 0 24
    let x := if len = 0 then FVal.ofInt 1 else
      f64 ((FVal.ofInt (min (step - bf h o 0 24) len : Nat)).div (FVal.ofInt len))
    let a := hyF h (o + 4)
    let b := hyF h (o + 8)
    match bf h o 24 2 with
    | 1 => f32 (f64 (a.add (f64 ((sub64 b a).mul x))))
    | 2 =>
      let half := f64 ((f64 ((FVal.ofInt 1).add (near64Cos x))).scale (-1))
      f32 (f64 (b.add (f64 ((sub64 a b).mul half))))
    | _ => a

/-- The per-step constants (R321). -/
def constsOf (h d step : Nat) : Consts :=
  let b1 := hyF h 0
  let b2 := hyF h 4
  let n := step / max (sdDelay d) 1 + 1
  { beta1 := b1, beta2 := b2, eps := hyF h 8, lambda := hyF h 12
    c1 := f32 (sub64 (FVal.ofInt 1) b1), c2 := f32 (sub64 (FVal.ofInt 1) b2)
    bc1 := biasFix b1 n, bc2 := biasFix b2 n, lr := learningRate h step }

-- the AdamW step (R325) -----------------------------------------------------------------------------------------------

/-- One element: gradient with what its accumulator holds, w, m, v to the new w, m and v. -/
def adamW (k : Consts) (gsum w m v : FVal) : FVal × FVal × FVal :=
  let m := f32 ((k.beta1.mul m).add (f32 (k.c1.mul gsum)))
  let v := f32 ((k.beta2.mul v).add (f32 (k.c2.mul (f32 (gsum.mul gsum)))))
  let den := f32 ((f32 (f32 (v.mul k.bc2)).sqrt).add k.eps)
  let u := f32 ((f32 (m.mul k.bc1)).div den)
  let step := f32 (k.lr.mul (f32 (u.add (f32 (k.lambda.mul w)))))
  (f32 (w.add step.neg), m, v)

/-- gsum of an element (R325): the clipped gradient, with the accumulator where DELAY is 2 or more. -/
def gradSum (delay : Nat) (clip g acc : FVal) : FVal :=
  let g1 := f32 (clip.mul g)
  if 2 ≤ delay then f32 (acc.add g1) else g1

/-- The BF16 working value of element j of the shard (R69, R87, R321, R325). -/
def workBits (d h step j : Nat) (w : FVal) : Nat :=
  if sdSr d then
    let seed := mix ((bf h 0x18 0 64 + sdTensor d * 0xD6E8FEB86659FD93) % 2 ^ 64)
    stochasticBf16 (encodeFloat 0 false w) seed step (sdBase d + j)
  else encodeFloat 2 false w

-- page tables (R316 to R318) ------------------------------------------------------------------------------------------

/-- SLOT of an entry. -/
def ptSlot (e : Nat) : Nat := bitsAt e 0 32
/-- TAG of an entry. -/
def ptTag (e : Nat) : Nat := bitsAt e 32 24
/-- ZERO of an accumulator entry. -/
def ptZero (e : Nat) : Bool := bitAt e 56

/-- The entries of a table. -/
def readTable (x : Access) (a n : Nat) : List Nat × Access := let r := x.rd a (8 * n); (unpack 64 r.1 n, r.2)

/-- The slots below a count that no list names, ascending (R317). -/
def freeSlots (count : Nat) (named : List Nat) : List Nat := (List.range count).filter (fun s => !named.contains s)

/-- Page i is due at step u (R326). -/
def isDue (d u i : Nat) : Bool := sdDelay d == 0 || logicalPage d i % sdDelay d == u % sdDelay d

/-- The working copy that step u writes (R326). -/
def workNow (d u : Nat) : Nat := if sdDelay d = 0 ∨ u % 2 = 0 then sdWork d 0 else sdWork d 1

/-- The working copy of the other parity. -/
def workOther (d u : Nat) : Nat := if u % 2 = 0 then sdWork d 1 else sdWork d 0

/-- Page i is committed in full at step u, by its two entries (R318, R326). -/
def pageDone (d u i st ac : Nat) : Bool :=
  (!isDue d u i || ptTag st == u) && (sdDelay d < 2 || ptTag ac == u)

/-- FP32 values of n elements. -/
def read32 (x : Access) (a n : Nat) : List FVal × Access :=
  let r := x.rd a (4 * n)
  ((unpack 32 r.1 n).map (decodeIeee (floatOf 0) 0), r.2)

/-- FP32 bytes. -/
def bytes32 (l : List FVal) : List Byte := l.flatMap (fun v => natLe (encodeFloat 0 false v) 4)

/-- State of the Update Engine of a die set. -/
def setUpd (s : State) (n : Nat) (u : Option UpdSt) : State :=
  { s with upd := match u with | none => mapErase s.upd n | some x => mapSet s.upd n x }

/-- An Update docket ends with what an access sequence met. -/
def endUpdate (s : State) (n : Nat) (e : QEntry) (status addr : Nat) : State :=
  setUpd (updEntry s (2048 + n) e.toRef (fun e => { e with
    started := true, done := true, status := if status = 1 then 1 else worst [e.status, status], badAddr := addr })) n none

/-- The digest of the working copy that the docket has written, and its end (R331). -/
def finishApply (s : State) (n : Nat) (e : QEntry) (u : UpdSt) : State :=
  let r := (e.access s).rd (workNow u.desc (upStep e.dk)) (2 * sdElements u.desc)
  let dig := if dkDigestEn e.dk then layerDigest r.1 else 0
  let s := updEntry s (2048 + n) e.toRef (fun e => { e with done := true, digest := dig })
  setUpd (rset s Reg.UPDATE_LAST_NONFINITE n 0 (match entryOf s (2048 + n) e.toRef with | some e => e.nonfinite | none => 0)) n none

/-- An element counts as non-finite where its new w is NaN or infinite, or its BF16 working value is (R68, R87, R331). -/
def badElem (w : FVal) (work : Nat) : Bool := w.nonfinite || (decodeIeee (floatOf 2) 0 work).nonfinite

/-- The non-finite elements of a page that step u has committed: its w and its working copy read back (R87, R331). -/
def readBack (x : Access) (d u i st : Nat) : Nat × Access :=
  let n := pageElems d i
  let r := read32 x (sdSlots d + ptSlot st * 12 * sdPage d) n
  let c := r.2.rd (workNow d u + 2 * (i * sdPage d)) (2 * n)
  ((r.1.zip (unpack 16 c.1 n)).countP (fun p => badElem p.1 p.2), c.2)

/-- Skipped due pages read back: how many, their non-finite elements, and the accesses (R318, R331). -/
def skipPages (x : Access) (d u : Nat) (states accs : List Nat) : Nat × Nat × Access :=
  (List.range (sdPages d)).foldl (fun acc i =>
    if pageDone d u i (states.getD i 0) (accs.getD i 0) then
      let r := if isDue d u i then readBack acc.2.2 d u i (states.getD i 0) else (0, acc.2.2)
      (acc.1 + 1, acc.2.1 + r.1, r.2)
    else acc) (0, 0, x)

/-- APPLY starts: descriptor, optimiser block, CLIP and page tables are read and checked, and the pages to do are listed
(R314, R317, R318, R320, R324). -/
def startApply (s : State) (n : Nat) (e : QEntry) : State :=
  let u := upStep e.dk
  let dr := (e.access s).rdNat (upShard e.dk) 128
  let d := dr.1
  if dr.2.stalled then s
  else if dr.2.faults ≠ [] then endUpdate dr.2.s n e (worst dr.2.faults) (dr.2.bad.getD 0)
  else if descBad d then endUpdate dr.2.s n e 1 0
  else
    let hr := dr.2.rdNat (sdHyper d) 320
    let cr := if hyClip hr.1 then hr.2.rdNat (upClip e.dk) 8 else (0x3F800000 * 2 ^ 32, hr.2)
    let st := readTable cr.2 (sdTable d) (sdPages d)
    let hd := if sdHold d = 0 then ([], st.2) else readTable st.2 (sdHold d) (sdPages d)
    let ac := if sdDelay d < 2 then ([], hd.2) else readTable hd.2 (sdAccTable d) (sdPages d)
    let x := ac.2
    if x.stalled then s
    else if x.faults ≠ [] then endUpdate x.s n e (worst x.faults) (x.bad.getD 0)
    else
      let free := freeSlots (sdCount d) (st.1.map ptSlot ++ hd.1.map ptSlot)
      let freeAcc := if sdDelay d < 2 then [] else freeSlots (sdAccCount d) (ac.1.map ptSlot)
      let todo := (List.range (sdPages d)).filter (fun i => !pageDone d u i (st.1.getD i 0) (ac.1.getD i 0))
      let due := todo.countP (fun i => isDue d u i && ptTag (st.1.getD i 0) != u)
      if hyperBad hr.1 ∨ free = [] ∨ (2 ≤ sdDelay d ∧ freeAcc = []) ∨ (sdHold d ≠ 0 ∧ free.length < due) then
        endUpdate x.s n e 1 0
      else
        let sk := skipPages x d u st.1 ac.1
        let s := rinc sk.2.2.s Reg.UPDATE_PAGES_SKIPPED n 0 sk.1
        let s := rset s Reg.UPDATE_LAST_TENSOR n 0 (sdTensor d)
        let s := rset s Reg.UPDATE_LAST_CLIP n 0 (cr.1 / 2 ^ 32)
        let upd : UpdSt := { ref := e.toRef, desc := d, hyper := hr.1, clip := cr.1, free, freeAcc, since := s.time.cyc, failed := none }
        let s := updEntry (setUpd s n (some upd)) (2048 + n) e.toRef (fun e => { e with
          started := true, todo := todo, nonfinite := sk.2.1, xargs := [sdTensor d, sdLogical d, u]
          status := worst (e.status :: sk.2.2.faults) })
        if todo = [] then finishApply s n e upd else s

/-- The docket that the Update Engine of a die starts on. -/
def updateEntry (s : State) (n op : Nat) : Option QEntry :=
  (queue s (2048 + n)).find? (fun e => e.running && !e.started && !e.done && !e.cut && dkOp e.dk == op)

/-- APPLY. -/
def execApply (n : CDie) (s : State) : Host.Outcome State Fault Refusal :=
  .next (live s (fun s => match updateEntry s n.val 0 with | none => s | some e => startApply s n.val e))

/-- A page of an APPLY in progress: what was read, what it comes to (R318, R325, R326). -/
structure PageOut where
  x : Access
  /-- address and bytes of every write, in order, the commits as 8-byte words -/
  writes : List (Nat × List Byte)
  free : List Nat
  freeAcc : List Nat
  committed : Nat
  applied : Nat
  nonfinite : Nat
  gradBad : Nat

/-- The list of free slots after one is taken and another freed (R317). -/
def turnSlots (l : List Nat) (freed : Nat) (reuse : Bool) : List Nat := l.drop 1 ++ (if reuse then [freed] else [])

/-- Page i computed. -/
def pageOut (x : Access) (u : UpdSt) (step i : Nat) : PageOut :=
  let d := u.desc
  let n := pageElems d i
  let pg := sdPage d
  let delay := sdDelay d
  let sr := x.rdNat (sdTable d + 8 * i) 8
  let ar := if 2 ≤ delay then sr.2.rdNat (sdAccTable d + 8 * i) 8 else (0, sr.2)
  let g := read32 ar.2 (sdGrad d + 4 * (i * pg)) n
  let ac := if 2 ≤ delay ∧ !ptZero ar.1 then read32 g.2 (sdAccSlots d + ptSlot ar.1 * 4 * pg) n
    else (List.replicate n FVal.zero, g.2)
  let clip := decodeIeee (floatOf 0) 0 (u.clip / 2 ^ 32 % 2 ^ 32)
  let sums := (g.1.zip ac.1).map (fun p => gradSum delay clip p.1 p.2)
  let gradBad := g.1.countP FVal.nonfinite
  let due := isDue d step i
  let stDue := due && ptTag sr.1 != step
  let old := sdSlots d + ptSlot sr.1 * 12 * pg
  let w0 := if stDue then read32 ac.2 old n else ([], ac.2)
  let m0 := if stDue then read32 w0.2 (old + 4 * pg) n else ([], w0.2)
  let w := if stDue then read32 m0.2 (old + 8 * pg) n else ([], m0.2)
  let k := constsOf u.hyper d step
  let el (j : Nat) : FVal × FVal × FVal :=
    adamW k (sums.getD j FVal.zero) (w0.1.getD j FVal.zero) (m0.1.getD j FVal.zero) (w.1.getD j FVal.zero)
  let els := if stDue then (List.range n).map el else []
  let q := u.free.headD 0
  let slot := sdSlots d + q * 12 * pg
  let work := workNow d step + 2 * (i * pg)
  let works := (els.zip (List.range n)).map (fun p => workBits d u.hyper step (i * pg + p.2) p.1.1)
  let bits := works.flatMap (fun v => natLe v 2)
  let stateW : List (Nat × List Byte) := if stDue then
      [(slot, bytes32 (els.map (·.1))), (slot + 4 * pg, bytes32 (els.map (·.2.1))), (slot + 8 * pg, bytes32 (els.map (·.2.2))),
        (work, bits), (sdTable d + 8 * i, natLe (q + step * 2 ^ 32) 8)]
    else []
  let copy := if due then ([], w.2) else w.2.rd (workOther d step + 2 * (i * pg)) (2 * n)
  let copyW : List (Nat × List Byte) := if due then [] else [(work, copy.1)]
  let qa := u.freeAcc.headD 0
  let accDue := decide (2 ≤ delay) && ptTag ar.1 != step
  let accW : List (Nat × List Byte) :=
    if !accDue then []
    else if due then [(sdAccTable d + 8 * i, natLe (ptSlot ar.1 + step * 2 ^ 32 + 2 ^ 56) 8)]
    else [(sdAccSlots d + qa * 4 * pg, bytes32 sums), (sdAccTable d + 8 * i, natLe (qa + step * 2 ^ 32) 8)]
  { x := copy.2, writes := stateW ++ copyW ++ accW
    free := if stDue then turnSlots u.free (ptSlot sr.1) (sdHold d == 0) else u.free
    freeAcc := if accDue && !due then turnSlots u.freeAcc (ptSlot ar.1) true else u.freeAcc
    committed := b2n stDue, applied := if stDue then n else 0
    nonfinite := if stDue then (els.zip works).countP (fun p => badElem p.1.1 p.2)
      else if due then (readBack copy.2 d step i sr.1).1 else 0
    gradBad := gradBad }

/-- Of the pages in flight at once, the first of those to do, one has no free slot (R317, R318, R335). -/
def slotShort (s : State) (n : Nat) (e : QEntry) (u : UpdSt) : Bool :=
  let flight := e.todo.take (rget s Reg.UPDATE_PAGES_IN_FLIGHT n)
  let due := flight.countP (fun i => isDue u.desc (upStep e.dk) i)
  u.free.length < due || (2 ≤ sdDelay u.desc && u.freeAcc.length < flight.length - due)

/-- The last page in flight is resolved: the docket ends, with the status of a page that failed (R319). -/
def lastPage (s : State) (n : Nat) (e : QEntry) (u : UpdSt) : State :=
  match u.failed with
  | some f => endUpdate s n e f.1 f.2
  | none => finishApply s n e u

/-- A page that failed is not committed, and no page beyond those in flight with it is started (R319). -/
def failPage (s : State) (n : Nat) (e : QEntry) (u : UpdSt) (i status addr : Nat) : State :=
  let left := (dropAll e.todo i).take (if u.failed.isSome then e.todo.length else rget s Reg.UPDATE_PAGES_IN_FLIGHT n - 1)
  let u := { u with failed := u.failed.or (some (status, addr)), free := u.free.drop 1, since := s.time.cyc }
  let s := updEntry (setUpd s n (some u)) (2048 + n) e.toRef (fun e => { e with todo := left })
  if left = [] then lastPage s n e u else s

/-- One page committed, or refused by what its reads met (R318, R319, R331). The cycles since the last page count in SLOT_WAITS where a
page in flight had no free slot (R335). -/
def commitPage (s : State) (n : Nat) (e : QEntry) (u : UpdSt) (i : Nat) : State :=
  let p := pageOut (e.access s) u (upStep e.dk) i
  let waits := if slotShort s n e u then s.time.cyc - u.since else 0
  if p.x.stalled then s
  else if p.x.faults ≠ [] then failPage p.x.s n e u i (worst p.x.faults) (p.x.bad.getD 0)
  else
    let x := p.writes.foldl (fun x w => x.wr w.1 w.2) p.x
    if x.stalled then s
    else if x.faults ≠ [] then failPage x.s n e u i (worst x.faults) (x.bad.getD 0)
    else
      let s := rinc x.s Reg.UPDATE_PAGES_COMMITTED n 0 p.committed
      let s := rinc s Reg.UPDATE_ELEMENTS n 0 p.applied
      let s := rinc s Reg.UPDATE_NONFINITE_GRAD n 0 p.gradBad
      let s := rinc s Reg.UPDATE_SLOT_WAITS n 0 waits
      let u := { u with free := p.free, freeAcc := p.freeAcc, since := s.time.cyc }
      let s := updEntry (setUpd s n (some u)) (2048 + n) e.toRef (fun e => { e with
        todo := dropAll e.todo i, nonfinite := e.nonfinite + p.nonfinite })
      if dropAll e.todo i = [] then lastPage s n e u else s

/-- PAGE_COMMIT: the next page of the APPLY in progress, in ascending order (R318). -/
def execPageCommit (n : CDie) (s : State) : Host.Outcome State Fault Refusal :=
  .next (live s (fun s =>
    match mapFind s.upd n.val with
    | none => s
    | some u =>
      match entryOf s (2048 + n.val) u.ref with
      | none => s
      | some e =>
        if !e.running || e.done || e.cut then s
        else match e.todo with
          | [] => s
          | i :: _ => commitPage s n.val e u i))

-- the global norm (R322, R324) ----------------------------------------------------------------------------------------

/-- NORM_PARTIAL: the exact sum of squares of a shard's gradient, rounded once. -/
def execNormPartial (n : CDie) (s : State) : Host.Outcome State Fault Refusal :=
  .next (live s (fun s => match updateEntry s n.val 1 with
    | none => s
    | some e =>
      let dr := (e.access s).rdNat (upShard e.dk) 128
      let d := dr.1
      if dr.2.stalled then s
      else if dr.2.faults ≠ [] then endUpdate dr.2.s n.val e (worst dr.2.faults) (dr.2.bad.getD 0)
      else if descBad d then endUpdate dr.2.s n.val e 1 0
      else
        let g := read32 dr.2 (sdGrad d) (sdElements d)
        let sum := g.1.foldl (fun acc v => acc.add (v.mul v)) FVal.zero
        let x := g.2.wr (upVec e.dk + 4 * sdLogical d) (natLe (encodeFloat 0 false sum) 4)
        let bad := g.1.countP FVal.nonfinite
        let s1 := rinc x.s Reg.UPDATE_NONFINITE_GRAD n.val 0 bad
        let s1 := rset (rset s1 Reg.UPDATE_LAST_TENSOR n.val 0 (sdTensor d)) Reg.UPDATE_LAST_NONFINITE n.val 0 bad
        let e' := { e with xargs := [sdTensor d, sdLogical d, upStep e.dk] }
        let s1 := updEntry s1 (2048 + n.val) e.toRef (fun e => { e with started := true, xargs := e'.xargs })
        finish s (2048 + n.val) e { x with s := s1 } bad 0 (digestOf e [(0, natLe (encodeFloat 0 false sum) 4)])))

/-- k of R324. -/
def clipFactor (h : Nat) (sum : FVal) : FVal :=
  let one := FVal.ofInt 1
  let r := f32 sum.sqrt
  if !hyClip h then one
  else match r with
    | .nan => .nan
    | r => if (hyF h 0x10).lt r then f32 ((hyF h 0x10).div r) else one

/-- NORM_FINISH: the norm vector as one tally block, and the clip factor. -/
def execNormFinish (n : CDie) (s : State) : Host.Outcome State Fault Refusal :=
  .next (live s (fun s => match updateEntry s n.val 2 with
    | none => s
    | some e =>
      let dr := (e.access s).rdNat (upShard e.dk) 128
      let hr := dr.2.rdNat (sdHyper dr.1) 320
      let v := read32 hr.2 (upVec e.dk) (upCount e.dk)
      if v.2.stalled then s
      else if v.2.faults = [] ∧ hyperBad hr.1 then endUpdate v.2.s n.val e 1 0
      else
        let a := anchorOf (localCode v.1) (headroom (upCount e.dk))
        let ws := v.1.map (toTally 64 a)
        let bs := ws.map (fun w => boundWord 64 (headroom (upCount e.dk)) w.1)
        let q := tallySum 64 (bs.map (·.1))
        let sum := f32 (tallyVal 64 a q.1)
        let k := clipFactor hr.1 sum
        let out := natLe (encodeFloat 0 false sum) 4 ++ natLe (encodeFloat 0 false k) 4
        let x := v.2.wr (upClip e.dk) out
        let bad := b2n sum.nonfinite + b2n k.nonfinite
        let s1 := rset (rset x.s Reg.UPDATE_LAST_TENSOR n.val 0 (sdTensor dr.1)) Reg.UPDATE_LAST_NONFINITE n.val 0 bad
        let s1 := updEntry s1 (2048 + n.val) e.toRef (fun e => { e with started := true })
        finish s (2048 + n.val) e { x with s := s1 } bad (ws.countP (·.2)) (digestOf e [(0, out)])))

end Sys2Proof.Machine
end

