-- ==== Sys2Proof/Machine/ChestOps.lean ====
section
/-! DEFINITION. Sys2Proof/Machine/ChestOps.lean: what checkpoints and weight images are made of: list entries, stored extents,
manifests, slots, placing: R338 to R343, R350, R352, R354, R355. -/

namespace Sys2Proof.Machine

-- the body (R336) -----------------------------------------------------------------------------------------------------

/-- LIST or IMAGE_BASE. -/
def chList (d : Docket) : Nat := dkf d 0x30 0 64
/-- ENTRIES. -/
def chEntries (d : Docket) : Nat := dkf d 0x38 0 16
/-- COND. -/
def chCond (d : Docket) : Bool := dkf d 0x38 16 1 == 1
/-- TARGET. -/
def chTarget (d : Docket) : Nat := dkf d 0x3C 0 4
/-- MCAST_EN. -/
def chMcastEn (d : Docket) : Bool := dkf d 0x3C 4 1 == 1
/-- CHEST or GROUP. -/
def chChest (d : Docket) : Nat := dkf d 0x40 0 64
/-- SLOT_BYTES. -/
def chSlotBytes (d : Docket) : Nat := dkf d 0x48 0 40
/-- MCAST_EVEN and MCAST_ODD. -/
def chMcast (d : Docket) (odd : Nat) : Nat := dkf d 0x48 (16 * odd) 12
/-- CKPT_ID or IMAGE_ID. -/
def chCkpt (d : Docket) : Nat := dkf d 0x50 0 64
/-- JOB_ID. -/
def chJob (d : Docket) : Nat := dkf d 0x58 0 64
/-- SOURCES. -/
def chSources (d : Docket) : Nat := dkf d 0x60 0 64
/-- NSOURCES or ROOT. -/
def chNsources (d : Docket) : Nat := dkf d 0x68 0 15
/-- REPORT. -/
def chReport (d : Docket) : Nat := dkf d 0x70 0 64

/-- A re-layout docket completes PARAM_ERROR at acceptance (R336, R340). -/
def chestError (d : Docket) : Bool :=
  match dkOp d with
  | 0 => chEntries d == 0 || 32768 < chEntries d || chSlotBytes d % 2 ^ 30 != 0
  | 1 => chEntries d == 0 || 32768 < chEntries d || chNsources d == 0 || 16384 < chNsources d
  | 2 => false
  | 3 => chSlotBytes d % 2 ^ 30 != 0
  | _ => true

-- list entries and extent records (R338, R342, R355) ------------------------------------------------------------------

/-- TENSOR_ID. -/
def leTensor (n : Nat) : Nat := bitsAt n 0 32
/-- KIND: 0 FLAT, 1 STATE, 2 ACC, 3 BLOB. -/
def leKind (n : Nat) : Nat := bitsAt n 32 2
/-- FMT. -/
def leFmt (n : Nat) : Nat := bitsAt n 34 5
/-- Elements per page. -/
def lePage (n : Nat) : Nat := 2 ^ bitsAt n 39 5
/-- ELEM_BASE. -/
def leBase (n : Nat) : Nat := bitsAt n 64 40
/-- ELEMENTS. -/
def leElems (n : Nat) : Nat := bitsAt n 128 40
/-- ADDR of a list entry. -/
def leAddr (n : Nat) : Nat := bitsAt n 192 64
/-- OFFSET of an extent record. -/
def xrOffset (n : Nat) : Nat := bitsAt n 192 40
/-- The digest of an extent record. -/
def xrDigest (n : Nat) : List Byte := natLe (bitsAt n 256 256) 32
/-- LAYOUT of an image's extent. -/
def xrLayout (n : Nat) : Nat := bitsAt n 44 2
/-- ZSTD. -/
def xrZstd (n : Nat) : Bool := bitAt n 46
/-- COLS. -/
def xrCols (n : Nat) : Nat := bitsAt n 104 24

/-- Pages of an entry (R339). -/
def lePages (n : Nat) : Nat := ceilDiv (leElems n) (lePage n)

/-- Length of the stored bytes (R339). -/
def storedLen (n : Nat) : Nat :=
  match leKind n with
  | 0 => bytesOf (leFmt n) (leElems n)
  | 1 => 12 * leElems n + 4 * lePages n
  | 2 => 4 * leElems n + 4 * lePages n
  | _ => leElems n

/-- The shard descriptor that an entry names. -/
def shardOf (x : Access) (n : Nat) : Nat × Access := if leKind n = 1 ∨ leKind n = 2 then x.rdNat (leAddr n) 128 else (0, x)

/-- An entry breaks a rule of its kind (R338); for a RESTORE, its descriptor has fewer slots than pages (R350). -/
def entryBad (n d : Nat) (restore : Bool) : Bool :=
  let fin := leBase n + leElems n
  match leKind n with
  | 0 => 16 < leFmt n || (isMX (leFmt n) && leBase n % 4096 != 0)
  | 3 => false
  | k =>
    descBad d || leTensor n != sdTensor d || lePage n != sdPage d || leBase n < sdBase d
      || sdBase d + sdElements d < fin || (leBase n - sdBase d) % lePage n != 0
      || ((fin - sdBase d) % lePage n != 0 && fin != sdBase d + sdElements d)
      || (restore && (if k = 1 then sdCount d else sdAccCount d) < sdPages d)

/-- The descriptor's page index of an entry's first page. -/
def firstPage (n d : Nat) : Nat := (leBase n - sdBase d) / sdPage d

/-- The 32-byte entries of a list, each as a number. -/
def readEntries (x : Access) (a n : Nat) : List Nat × Access := let r := x.rd a (32 * n); (unpack 256 r.1 n, r.2)

-- stored extents (R339) -----------------------------------------------------------------------------------------------

/-- One array of the pages of a STATE entry, or the accumulators of an ACC entry, in page order. -/
def storedPages (x : Access) (d first count last : Nat) (table : List Nat) (array : Nat) (acc : Bool) : List Byte × Access :=
  (List.range count).foldl (fun r i =>
    let p := first + i
    let t := table.getD i 0
    let n := min (sdPage d) (last - p * sdPage d)
    if acc ∧ ptZero t then (r.1 ++ List.replicate (4 * n) 0, r.2)
    else
      let a := if acc then sdAccSlots d + ptSlot t * 4 * sdPage d else sdSlots d + ptSlot t * 12 * sdPage d + array * 4 * sdPage d
      let y := r.2.rd a (4 * n)
      (r.1 ++ y.1, y.2)) ([], x)

/-- The stored bytes of an entry (R339). -/
def storedBytes (x : Access) (n : Nat) : List Byte × Access :=
  match leKind n with
  | 0 => x.rd (leAddr n) (storedLen n)
  | 3 => x.rd (leAddr n) (storedLen n)
  | k =>
    let d := shardOf x n
    let f := firstPage n d.1
    let c := lePages n
    let t := readTable d.2 ((if k = 1 then sdTable d.1 else sdAccTable d.1) + 8 * f) c
    let last := leBase n + leElems n - sdBase d.1
    let tags := t.1.flatMap (fun e => natLe (ptTag e + (if k = 2 then b2n (ptZero e) * 2 ^ 24 else 0)) 4)
    if k = 2 then
      let a := storedPages t.2 d.1 f c last t.1 0 true
      (a.1 ++ tags, a.2)
    else
      let w := storedPages t.2 d.1 f c last t.1 0 false
      let m := storedPages w.2 d.1 f c last t.1 1 false
      let v := storedPages m.2 d.1 f c last t.1 2 false
      (w.1 ++ m.1 ++ v.1 ++ tags, v.2)

/-- A multiple of 4 KiB not below n. -/
def up4k (n : Nat) : Nat := ceilDiv n 4096 * 4096

/-- Offset of extent data in a slot (R340). -/
def dataOff : Nat := 0x800000

/-- Offset of manifest copy i in a slot (R340). -/
def copyOff (i : Nat) : Nat := 0x400000 * i

/-- Offsets of the extents of a list in a slot, and the end of the last (R339). -/
def extentOffs (l : List Nat) : List Nat × Nat :=
  l.foldl (fun r n => let o := up4k r.2; (r.1 ++ [o], o + storedLen n)) ([], dataOff)

-- manifests (R341 to R343) --------------------------------------------------------------------------------------------

/-- A field of a manifest's header. -/
def mf (man : List Byte) (off lsb w : Nat) : Nat := bitsAt (leNat ((man.drop off).take 8)) lsb w

/-- EXTENTS. -/
def mfExtents (man : List Byte) : Nat := mf man 0x28 0 16
/-- SEQ. -/
def mfSeq (man : List Byte) : Nat := mf man 8 0 32

/-- MAGIC and VERSION are as stated. -/
def headOk (head : List Byte) : Bool := mf head 0 0 32 == 0x54534843 && mf head 4 0 16 == 1

/-- The length of the manifest that a header announces. -/
def manLen (head : List Byte) : Nat := 128 + 64 * mfExtents head

/-- The records of a manifest, each as a number. -/
def manRecs (man : List Byte) : List Nat := unpack 512 (man.drop 128) (mfExtents man)

/-- The digest of a manifest's header and records (R341). -/
def manDigest (man : List Byte) : List Byte := sha256 (man.take 0x60 ++ man.drop 128)

/-- A copy is intact (R343). -/
def intact (man : List Byte) : Bool :=
  headOk man && decide (man.length = manLen man) && manDigest man == (man.drop 0x60).take 32

/-- A manifest (R341). -/
def mkManifest (slot seq dev tenant gen ckpt job : Nat) (ft : W64) (extents bytes : Nat) (recs : List Nat) : List Byte :=
  let head := natLe (0x54534843 + (1 + slot * 2 ^ 17) * 2 ^ 32) 8 ++ natLe seq 4
    ++ natLe (dev % 2 ^ 16 + tenant * 2 ^ 16 + gen * 2 ^ 20) 4 ++ natLe ckpt 8 ++ natLe job 8 ++ natLe ft.toNat 8
    ++ natLe (extents % 2 ^ 16) 8 ++ natLe bytes 8 ++ List.replicate 40 0
  let body := recs.flatMap (fun n => natLe n 64)
  head ++ sha256 (head ++ body) ++ body

/-- A slot as its two manifest copies show it (R343). -/
structure SlotInfo where
  copies : List (List Byte)
  good : List Bool
  valid : Bool
  conflict : Bool
  man : List Byte
deriving DecidableEq, Repr

/-- The slot of two copies. -/
def slotInfo (a b : List Byte) : SlotInfo :=
  let ga := intact a
  let gb := intact b
  { copies := [a, b], good := [ga, gb], conflict := ga && gb && a != b
    valid := (ga || gb) && !(ga && gb && a != b), man := if ga then a else b }

/-- CONFLICTS and COPY_FAULTS of a slot that has been read (R343). -/
def countSlot (s : State) (i : SlotInfo) : State :=
  if i.conflict then rinc s Reg.CHEST_CONFLICTS
  else if i.good = [true, false] ∨ i.good = [false, true] then rinc s Reg.CHEST_COPY_FAULTS
  else s

/-- Slot b is the newer of two valid ones (R343). -/
def newerB (a b : SlotInfo) : Bool := ahead (BitVec.ofNat 32 (mfSeq b.man)) (BitVec.ofNat 32 (mfSeq a.man))

-- placing an extent (R350) --------------------------------------------------------------------------------------------

/-- Conversion of a FLAT extent: the format placed, which is the source's where R86 does not list the pair (R350). -/
def placeFmt (src dst : Nat) : Nat := if dst ≠ 13 ∧ dst ≠ 14 ∧ porterConverts src dst then dst else src

/-- Values of an MX destination whose block is not yet whole, as FP64 bits by destination entry × 2^41 + logical index: blocks are
quantised once all their values are known (R74, R350; log entry 28). -/
abbrev Edge := SMap Nat

/-- The values of a block of 32 at logical index p: those in [lo, hi) from val, zero from the end fin on (R72), others as far as they came
earlier. -/
def blockVals (edge : Edge) (key p lo hi fin : Nat) (val : Nat → FVal) : List (Option FVal) :=
  (List.range 32).map (fun i =>
    let q := p + i
    if fin ≤ q then some FVal.zero
    else if lo ≤ q ∧ q < hi then some (val q)
    else (mapFind edge (key + q)).map decode64)

/-- A block of 32 at p of an MX destination that [lo, hi) touches: its scale and elements and how many count as NONFINITE, once it is whole;
a block of the same format that [lo, hi) covers is taken as it is (R72, R74, R350). -/
def mxBlock (fmt : Nat) (edge : Edge) (key p lo hi fin : Nat) (same : Option (Nat × List Nat)) (val : Nat → FVal) :
    Option (Nat × List Nat × Nat) :=
  if fin ≤ p then some (0, List.replicate 32 0, 0)
  else match same.filter (fun _ => lo ≤ p ∧ min (p + 32) fin ≤ hi) with
  | some b =>
    let here := b.2.take (min 32 (fin - p))
    some (b.1, padTo 32 0 here, here.countP (fun x => (decodeMX fmt b.1 x).nonfinite))
  | none =>
    let vs := blockVals edge key p lo hi fin val
    if vs.all Option.isSome then
      let b := quantBlock fmt (vs.map (fun v => v.getD .nan))
      some (b.1, b.2, if b.1 = 0xFF then 32 else 0)
    else none

/-- A block of 32 of a source in the same format at logical index p, elements from the source's end on zero (R72). -/
def srcBlock (fmt : Nat) (data : List Byte) (sb elems p : Nat) : Nat × List Nat :=
  let n := groupBytes fmt
  let g := (data.drop ((p - sb) / 4096 * n)).take n
  let b := (p - sb) % 4096 / 32
  let w := elemBits fmt
  let els := unpack w ((g.drop (128 + 4 * w * b)).take (4 * w)) 32
  ((g.getD b 0).toNat, (els.zip (List.range 32)).map (fun e => if p + e.2 < sb + elems then e.1 else 0))

/-- FLAT data of logical range [lo, hi) placed in an MX destination at addr with base db and end fin: the blocks that become whole are
written, with the padding behind the end; the values of the others are kept (R72, R74, R350). -/
def placeMX (x : Access) (edge : Edge) (key fmt addr db fin lo hi : Nat) (same : Nat → Option (Nat × List Nat)) (val : Nat → FVal) :
    Access × Edge :=
  let n := groupBytes fmt
  let w := elemBits fmt
  let last := if hi = fin then db + ceilDiv (fin - db) 4096 * 4096 else hi
  let first := db + (lo - db) / 32 * 32
  (List.range (ceilDiv (last - first) 32)).foldl (fun r i =>
    let p := first + 32 * i
    let g := (p - db) / 4096
    let b := (p - db) % 4096 / 32
    match mxBlock fmt r.2 key p lo hi fin (same p) val with
    | some q =>
      let x := (r.1.wr (addr + n * g + b) [BitVec.ofNat 8 q.1]).wr (addr + n * g + 128 + 4 * w * b) (pack w q.2.1)
      (x.count q.2.2, r.2.filter (fun e => e.1 < key + p || key + p + 32 ≤ e.1))
    | none =>
      (r.1, (List.range 32).foldl (fun m i =>
        if lo ≤ p + i ∧ p + i < hi then mapSet m (key + p + i) (encode64 (val (p + i))) else m) r.2)) (x, edge)

/-- SIGN blocks of logical range [lo, hi) placed: each element's bit, and the scale of the source block of a destination block's first
placed element (R64, R85; log entry 28). -/
def placeSign (x : Access) (data : List Byte) (sb addr db lo hi : Nat) : Access :=
  let bit (q : Nat) : Nat := (unpack 1 ((data.drop ((q - sb) / 4096 * 516)).take 512) 4096).getD ((q - sb) % 4096) 0
  (List.range (ceilDiv (hi - db) 4096 - (lo - db) / 4096)).foldl (fun x i =>
    let g := (lo - db) / 4096 + i
    let p := db + 4096 * g
    let old := if lo ≤ p ∧ p + 4096 ≤ hi then (List.replicate 516 (0 : Byte), x) else x.rd (addr + 516 * g) 516
    let was := unpack 1 (old.1.take 512) 4096
    let now := (List.range 4096).map (fun j => if lo ≤ p + j ∧ p + j < hi then bit (p + j) else was.getD j 0)
    let scale := ((data.drop ((max lo p - sb) / 4096 * 516)).drop 512).take 4
    let bytes := pack 1 now ++ padTo 4 0 scale
    (old.2.wr (addr + 516 * g) bytes).count (nonfiniteIn 16 bytes 4096)) x

/-- FLAT data of logical range [lo, hi) placed: source extent and bytes; destination entry, whose values are kept under key (R68, R350).
FP8 saturates (R70: SAT defaults to 1). -/
def placeFlat (x : Access) (edge : Edge) (key src : Nat) (data : List Byte) (dst lo hi : Nat) : Access × Edge :=
  let sf := leFmt src
  let df := placeFmt sf (leFmt dst)
  let sb := leBase src
  let db := leBase dst
  if isMX df then
    let vals := (decodeAll sf data (leElems src)).toArray
    placeMX x edge key df (leAddr dst) db (db + leElems dst) lo hi
      (fun p => if sf = df then some (srcBlock df data sb (leElems src) p) else none) (fun j => vals.getD (j - sb) .nan)
  else if df = 16 then (placeSign x data sb (leAddr dst) db lo hi, edge)
  else
    let w := elemBits df / 8
    let out := if sf = df then
        let b := (data.drop ((lo - sb) * w)).take ((hi - lo) * w)
        (b, nonfiniteIn df b (hi - lo))
      else encodeAll df true (((decodeAll sf data (leElems src)).drop (lo - sb)).take (hi - lo))
    ((x.wr (leAddr dst + (lo - db) * w) out.1).count out.2, edge)

/-- STATE or ACC pages of [lo, hi) placed in slots of their own number, their table entries last (R350). -/
def placePages (x : Access) (src : Nat) (data : List Byte) (dst lo hi : Nat) : Access :=
  let d := shardOf x dst
  let pg := sdPage d.1
  let e := leElems src
  let acc := leKind dst = 2
  let tags := data.drop ((if acc then 4 else 12) * e)
  (List.range (ceilDiv hi pg - lo / pg)).foldl (fun x i =>
    let l := lo / pg + i
    let p := l - sdBase d.1 / pg
    let k := l * pg - leBase src
    let n := min pg (hi - l * pg)
    let part (array : Nat) : List Byte := (data.drop (4 * (array * e + k))).take (4 * n)
    let tag := leNat ((tags.drop (4 * (k / pg))).take 4)
    let x := x.count (((List.range (if acc then 1 else 3)).map (fun a => nonfiniteIn 0 (part a) n)).sum)
    if acc then
      let x := x.wr (sdAccSlots d.1 + p * 4 * pg) (part 0)
      x.wrNat (sdAccTable d.1 + 8 * p) 8 (p + tag % 2 ^ 24 * 2 ^ 32 + bitsAt tag 24 1 * 2 ^ 56)
    else
      let a := sdSlots d.1 + p * 12 * pg
      let x := ((x.wr a (part 0)).wr (a + 4 * pg) (part 1)).wr (a + 8 * pg) (part 2)
      x.wrNat (sdTable d.1 + 8 * p) 8 (p + tag % 2 ^ 24 * 2 ^ 32)) d.2

/-- An extent matches a restore entry by its logical coordinates (R349). -/
def coordsMatch (src dst : Nat) : Bool :=
  leTensor src == leTensor dst && leKind src == leKind dst
    && (leKind src == 0 || leKind src == 3 || lePage src == lePage dst)

/-- The logical range that an extent and an entry share. -/
def overlap (src dst : Nat) : Nat × Nat :=
  (max (leBase src) (leBase dst), min (leBase src + leElems src) (leBase dst + leElems dst))

/-- An extent's data placed into every entry that it overlaps within [lo, hi) (R349, R350). -/
def placeExtent (x : Access) (edge : Edge) (list : List Nat) (src : Nat) (data : List Byte) (lo hi : Nat) : Access × Edge :=
  (list.zip (List.range list.length)).foldl (fun r p =>
    let dst := p.1
    let o := overlap src dst
    let a := max o.1 lo
    let b := min o.2 hi
    if coordsMatch src dst ∧ a < b then
      match leKind dst with
      | 0 => placeFlat r.1 r.2 (p.2 * 2 ^ 41) src data dst a b
      | 3 => (r.1.wr (leAddr dst + (a - leBase dst)) ((data.drop (a - leBase src)).take (b - a)), r.2)
      | _ => (placePages r.1 src data dst a b, r.2)
    else r) (x, edge)

/-- Free bytes of the length of an extent (R351: unspecified contents). -/
def freeStored (s : State) (n : Nat) : List Byte × State := let f := freeVal s; (natLe f.1 (storedLen n), f.2)

-- coverage (R349) -----------------------------------------------------------------------------------------------------

/-- Intervals in rising order of their start. -/
def sortSpans (l : List (Nat × Nat)) : List (Nat × Nat) := l.mergeSort (fun a b => a.1 ≤ b.1)

/-- Two of the sorted intervals share an element. -/
def spansClash (l : List (Nat × Nat)) : Bool :=
  match l with
  | a :: b :: r => b.1 < a.2 || spansClash (b :: r)
  | _ => false

/-- The sorted intervals cover [lo, hi). -/
def spansCover (l : List (Nat × Nat)) (lo hi : Nat) : Bool :=
  match l with
  | [] => hi ≤ lo
  | a :: r => a.1 ≤ lo && spansCover r (max lo a.2) hi

/-- The parts of an entry that extents cover. -/
def coverOf (exts : List Nat) (dst : Nat) : List (Nat × Nat) :=
  sortSpans (exts.filterMap (fun e =>
    let o := overlap e dst
    if coordsMatch e dst ∧ o.1 < o.2 then some o else none))

-- weight images (R354, R355) ------------------------------------------------------------------------------------------

/-- RANK of a place record. -/
def prRank (n : Nat) : Nat := bitsAt n 0 14
/-- DST_FMT. -/
def prFmt (n : Nat) : Nat := bitsAt n 14 5
/-- TRANSPOSE. -/
def prTranspose (n : Nat) : Bool := bitAt n 19
/-- EXTENT. -/
def prExtent (n : Nat) : Nat := bitsAt n 32 32
/-- DST. -/
def prDst (n : Nat) : Nat := bitsAt n 64 64
/-- FIRST, or ROW0 and COL0. -/
def prFirst (n : Nat) : Nat := bitsAt n 128 48
/-- COUNT, or NROWS and NCOLS. -/
def prCount (n : Nat) : Nat := bitsAt n 192 48

/-- A manifest breaks a rule of R354 or R355. -/
def imageBad (man : List Byte) : Bool :=
  let rs := manRecs man
  mf man 4 16 1 == 0 || (match rs with
    | [] => true
    | t :: r => leTensor t != 0xFFFFFFFF || leKind t != 3 || leElems t % 32 != 0 || r.any (fun n =>
        leKind n != 0 || 16 < leFmt n || 1 < xrLayout n
          || (xrLayout n == 1 && (2 < leFmt n || xrCols n == 0 || leElems n % xrCols n != 0))))

/-- The output row length of a ROWMAJOR_2D record. -/
def prRow (n : Nat) : Nat := if prTranspose n then prCount n % 2 ^ 24 else prCount n / 2 ^ 24

/-- The place table breaks a rule of R354 or R355: order, extent numbers, alignment of FIRST, rows of an MX output. -/
def placesBad (recs table : List Nat) : Bool :=
  let key (n : Nat) : Nat := prExtent n * 2 ^ 14 + prRank n
  ((table.zip (table.drop 1)).any (fun p => key p.2 < key p.1)) || table.any (fun n =>
    let e := recs.getD (prExtent n) 0
    prExtent n == 0 || recs.length ≤ prExtent n
      || (xrLayout e == 0 && isMX (leFmt e) && prFirst n % 2 ^ 40 % 4096 != 0)
      || (xrLayout e == 1 && isMX (placeFmt (leFmt e) (prFmt n)) && prRow n % 32 != 0))

/-- Bytes of a compressed frame's output but the last (R355). -/
def frameOut : Nat := 4 * 2 ^ 20

/-- The first and end element byte that a record uses of its extent. -/
def recordSpan (ext n : Nat) : Nat × Nat :=
  let f := leFmt ext
  if xrLayout ext = 1 then
    let c := xrCols ext * (elemBits f / 8)
    (prFirst n % 2 ^ 24 * c, (prFirst n % 2 ^ 24 + prCount n % 2 ^ 24) * c)
  else (bytesOf f (prFirst n % 2 ^ 40), bytesOf f (prFirst n % 2 ^ 40 + prCount n % 2 ^ 40))

/-- The window that a Zstandard frame asks for, or none where its header is no frame's, sets a reserved bit or names a dictionary (R355; the
header's layout is RFC 8878's, log entry 8). -/
def zstdWindow (frame : List Byte) : Option Nat :=
  let n := leNat (frame.take 24)
  let desc := bitsAt n 32 8
  let single := bitAt desc 5
  let dictAt := if single then 40 else 48
  let dictLen := [0, 8, 16, 32].getD (desc % 4) 0
  let sizeAt := dictAt + dictLen
  if bitsAt n 0 32 ≠ 0xFD2FB528 ∨ bitAt desc 3 = true ∨ bitsAt n dictAt dictLen ≠ 0 then none
  else if single then
    some (match desc / 64 with
      | 0 => bitsAt n sizeAt 8 | 1 => bitsAt n sizeAt 16 + 256 | 2 => bitsAt n sizeAt 32 | _ => bitsAt n sizeAt 64)
  else
    let base := 2 ^ (10 + bitsAt n 43 5)
    some (base + base / 8 * bitsAt n 40 3)

/-- One frame decompressed: none where its window is above 8 MiB, where it names a dictionary, where it is no frame, or where its blocks or
its checksum fail (R355). -/
def zstdFrame (frame : List Byte) : Option (List Byte) :=
  match zstdWindow frame with
  | none => none
  | some w => if 8 * 2 ^ 20 < w then none else Config.zstdFrame frame

/-- The frames of a compressed extent that records use, decompressed; none where one of them fails, a frame but the last that does not give
4 MiB among them (R355; log entry 8). -/
def unzip (stored : List Byte) (uses : Nat → Bool) : Option (List Byte) :=
  let n := leNat (stored.take 4)
  let sizes := unpack 32 (stored.drop 4) n
  let r := sizes.foldl (fun (acc : Option (List Byte) × Nat × Nat) z =>
    let i := acc.2.1
    let out := if uses i then
        (zstdFrame ((stored.drop acc.2.2).take z)).filter (fun b => if i + 1 < n then b.length == frameOut else b.length ≤ frameOut)
      else some (List.replicate frameOut 0)
    (match acc.1, out with | some a, some b => some (a ++ b) | _, _ => none, i + 1, acc.2.2 + z)) (some [], 0, 4 + 4 * n)
  r.1

/-- The element bytes of an extent for the given records. -/
def elementBytes (ext : Nat) (stored : List Byte) (records : List Nat) : Option (List Byte) :=
  if !xrZstd ext then some stored
  else unzip stored (fun i => records.any (fun n =>
    let r := recordSpan ext n
    r.1 < (i + 1) * frameOut && i * frameOut < r.2))

/-- A list continued with free bytes to a length: what lies past an extent's end (R358). -/
def orFree (free : Nat) (l : List Byte) (n : Nat) : List Byte :=
  l.take n ++ (List.range (n - l.length)).map (fun i => BitVec.ofNat 8 (free / 256 ^ i))

/-- One record's data placed at its DST (R68, R354, R355). FP8 saturates (R70: SAT defaults to 1). -/
def placeRecordData (x : Access) (ext : Nat) (data : List Byte) (n : Nat) : Access :=
  let free := freeVal x.s
  let x := { x with s := free.2 }
  let f := leFmt ext
  if xrLayout ext = 0 then
    let a := recordSpan ext n
    let b := orFree free.1 (data.drop a.1) (bytesOf f (prCount n % 2 ^ 40))
    (x.wr (prDst n) b).count (nonfiniteIn f b (prCount n % 2 ^ 40))
  else
    let w := elemBits f / 8
    let rows := prCount n % 2 ^ 24
    let cols := prCount n / 2 ^ 24
    let row (r c : Nat) : List Byte :=
      orFree free.1 (data.drop (((prFirst n % 2 ^ 24 + r) * xrCols ext + prFirst n / 2 ^ 24 + c) * w)) w
    let bytes := if prTranspose n then (List.range cols).flatMap (fun c => (List.range rows).flatMap (fun r => row r c))
      else (List.range rows).flatMap (fun r => (List.range cols).flatMap (row r))
    let df := placeFmt f (prFmt n)
    let out := if df = f then (bytes, nonfiniteIn f bytes (rows * cols)) else encodeAll df true (decodeAll f bytes (rows * cols))
    (x.wr (prDst n) out.1).count out.2

end Sys2Proof.Machine
end

