-- ==== Sys2Proof/Machine/Chest.lean ====
section
/-! DEFINITION. Sys2Proof/Machine/Chest.lean: SAVE, RESTORE and SCAN: chunk transfers to chests, checkpoints, restores:
R336, R337, R344 to R353, R360. Log entry 28. -/

namespace Sys2Proof.Machine

/-- The CHEST page. -/
def chestPage : Page := ⟨.chest, 0⟩

-- jobs ----------------------------------------------------------------------------------------------------------------

/-- A re-layout docket that has read nothing yet. -/
def newJob (s : State) (r : DocketRef) : ChestJob :=
  { ref := r, ft := s.time.ft, acts := rget s Reg.CHEST_ACT_REQS, phase := 0, todo := [], wait := [], got := [], next := 0,
    devs := [], list := [], cur := 0, srcs := [], reads := [], slot := 0, seq := 0, recs := [], man := [], members := [], rank := 0,
    stream := [], sent := [], placed := [], pieces := [], fin := none, edge := [] }

/-- The job of a docket. -/
def jobOf (s : State) (r : DocketRef) : Option ChestJob := s.chest.find? (fun j => j.ref == r)

/-- A job changed. -/
def updChest (s : State) (r : DocketRef) (f : ChestJob → ChestJob) : State :=
  { s with chest := updFirst s.chest (fun j => j.ref == r) f }

/-- A job forgotten: its docket has ended or returned to its queue. -/
def dropChest (s : State) (r : DocketRef) : State := { s with chest := s.chest.filter (fun j => j.ref != r) }

/-- A re-layout docket ends: with a status of its own, or with what its accesses met; a conditional SAVE that ends OK
writes ACT_DONE (R347). -/
def endChest (s : State) (r : DocketRef) (status : Nat) : State :=
  match entryOf s 2058 r with
  | none => dropChest s r
  | some e =>
    let st := if status = 1 then 1 else worst [e.status, status]
    let s := updEntry s 2058 r (fun e => { e with started := true, done := true, status := st })
    let s := match jobOf s r with
      | some j => if st = 0 ∧ dkOp e.dk = 0 ∧ chCond e.dk then rset s Reg.CHEST_ACT_DONE 0 0 j.acts else s
      | none => s
    dropChest s r

/-- What an access sequence has met goes into the docket. -/
def noteChest (r : DocketRef) (x : Access) : State :=
  updEntry x.s 2058 r (fun e => { e with
    status := worst (e.status :: x.faults), badAddr := if e.status = 4 then e.badAddr else x.bad.getD e.badAddr
    nonfinite := e.nonfinite + x.nonfinite })

-- transfers (R337) ----------------------------------------------------------------------------------------------------

/-- Pieces of at most 4,096 bytes of a range: offset and length. -/
def cut4k (n : Nat) : List (Nat × Nat) := (List.range (ceilDiv n 4096)).map (fun i => (4096 * i, min 4096 (n - 4096 * i)))

/-- Transfers queued behind a job's others, with the next chunk numbers. -/
def queueXfers (s : State) (r : DocketRef) (l : List CXfer) : State :=
  updChest s r (fun j => { j with
    todo := j.todo ++ (l.zip (List.range l.length)).map (fun p => { p.1 with chunk := j.next + p.2 })
    next := j.next + l.length })

/-- Reads of a range of a chest. -/
def readXfers (a n : Nat) : List CXfer :=
  (cut4k n).map (fun p => { chunk := 0, write := false, addr := a + p.1, len := p.2, data := [], sentAt := 0 })

/-- Writes of bytes to a chest. -/
def writeXfers (a : Nat) (bytes : List Byte) : List CXfer :=
  (cut4k bytes.length).map (fun p =>
    { chunk := 0, write := true, addr := a + p.1, len := p.2, data := (bytes.drop p.1).take p.2, sentAt := 0 })

/-- A chunk leaves toward another device, with the docket's SEQ (R270, R271, R337). -/
def sendXfer (s : State) (e : QEntry) (x : CXfer) : State :=
  let dev := gDev x.addr
  let seq := (e.seqs.headD 0).toNat
  let t := e.tenant.val
  let gen := peerGen (peerOut s dev)
  if x.write then
    let op := writeOp (gLoc x.addr) seq (tgenOf s t) (rgenOf s 2058) 0 e.reexec false false 0 0
    send s (some 2058) (mkPacket s dev gen t false 2 x.chunk op x.data) (some (if x.chunk % 2 = 0 then 0 else 1))
  else
    let op := 1 + b2n e.reexec * 2 ^ 9 + tgenOf s t * 2 ^ 16 + rgenOf s 2058 * 2 ^ 24 + seq * 2 ^ 32 + gLoc x.addr % 2 ^ 43 * 2 ^ 64
    send s (some 2058) { mkPacket s dev gen t false 0 x.chunk op [] with side := x.len } (some (if x.chunk % 2 = 0 then 0 else 1))

/-- The first chunk of a job is issued: at once where the chest is this module's, otherwise as a packet. None where it
stalls on a zero-fill. -/
def issueXfer (s : State) (e : QEntry) (j : ChestJob) (x : CXfer) : Option State :=
  let rest := updChest s j.ref (fun j => { j with todo := j.todo.drop 1 })
  if gDev x.addr = ownDev s then
    if x.write then
      let y := (e.access rest).wr (gLoc x.addr) x.data
      if y.stalled then none else some (noteChest j.ref y)
    else
      let y := (e.access rest).rd (gLoc x.addr) x.len
      if y.2.stalled then none
      else some (updChest (noteChest j.ref y.2) j.ref (fun j => { j with got := j.got ++ [(x.chunk, y.1)] }))
  else
    let s := sendXfer rest e x
    some (updChest s j.ref (fun j => { j with wait := j.wait ++ [{ x with sentAt := s.time.cyc }] }))

/-- A job enters a phase, with its reads forgotten and new transfers. -/
def toPhase (s : State) (r : DocketRef) (ph : Nat) (l : List CXfer) : State :=
  queueXfers (updChest s r (fun j => { j with phase := ph, got := [] })) r l

-- manifests of a chest (R343, R344) -----------------------------------------------------------------------------------

/-- Reads of the four manifest headers of a chest. -/
def headReads (chest slotBytes : Nat) : List CXfer :=
  (List.range 4).flatMap (fun i => readXfers (chest + i / 2 * slotBytes + copyOff (i % 2)) 128)

/-- The four headers read. -/
def headsOf (j : ChestJob) : List (List Byte) := (j.got.mergeSort (fun a b => a.1 ≤ b.1)).map (·.2)

/-- Reads of the records behind the headers that are as stated. -/
def recReads (chest slotBytes : Nat) (heads : List (List Byte)) : List CXfer :=
  (List.range 4).flatMap (fun i =>
    let h := heads.getD i []
    if headOk h then readXfers (chest + i / 2 * slotBytes + copyOff (i % 2) + 128) (64 * mfExtents h) else [])

/-- The four copies, once their records are read too. The headers are in man. -/
def copiesOf (j : ChestJob) : List (List Byte) :=
  let heads := chunksOf 128 j.man
  let all := (j.got.mergeSort (fun a b => a.1 ≤ b.1)).flatMap (·.2)
  (heads.foldl (fun (acc : List (List Byte) × List Byte) h =>
    let n := if headOk h then 64 * mfExtents h else 0
    (acc.1 ++ [h ++ acc.2.take n], acc.2.drop n)) ([], all)).1

/-- The two slots of a chest. -/
def slotsOf (j : ChestJob) : SlotInfo × SlotInfo :=
  let c := copiesOf j
  (slotInfo (c.getD 0 []) (c.getD 1 []), slotInfo (c.getD 2 []) (c.getD 3 []))

/-- The headers are kept and the records are read next. -/
def readRecords (s : State) (j : ChestJob) (chest slotBytes ph : Nat) : State :=
  let heads := headsOf j
  let s := updChest s j.ref (fun j => { j with man := heads.flatMap (fun h => padTo 128 0 h) })
  toPhase s j.ref ph (recReads chest slotBytes heads)

-- SAVE (R344) ---------------------------------------------------------------------------------------------------------

/-- A slot holds this docket's own save (R344). -/
def ownSave (s : State) (e : QEntry) (i : SlotInfo) : Bool :=
  i.valid && mf i.man 0x10 0 64 == chCkpt e.dk && mf i.man 0x18 0 64 == chJob e.dk && mf i.man 0xC 0 16 == ownDev s
    && mf i.man 0xC 16 4 == e.tenant.val

/-- DIGEST of a SAVE: bytes 0x60 to 0x67 of its manifest. -/
def setSaveDigest (s : State) (r : DocketRef) (man : List Byte) : State :=
  updEntry s 2058 r (fun e => { e with digest := mf man 0x60 0 64 })

/-- Step 1 with the manifests read: an earlier attempt's slot is mended, or a target slot is chosen and invalidated
(R344). -/
def chooseSlot (s : State) (e : QEntry) (j : ChestJob) : State :=
  let p := slotsOf j
  let s := countSlot (countSlot s p.1) p.2
  let newB := p.2.valid && (!p.1.valid || newerB p.1 p.2)
  let newest := if newB then p.2 else p.1
  let base (b : Nat) : Nat := chChest e.dk + b * chSlotBytes e.dk
  if ownSave s e newest then
    let mend := (List.range 2).flatMap (fun c =>
      if newest.good.getD c true then [] else writeXfers (base (b2n newB) + copyOff c) newest.man)
    toPhase (setSaveDigest s j.ref newest.man) j.ref 7 mend
  else
    let slot := if !p.1.valid then 0 else if !p.2.valid then 1 else b2n (!newB)
    let seq := if newest.valid then (mfSeq newest.man + 1) % 2 ^ 32 else 0
    let s := updChest s j.ref (fun j => { j with slot := slot, seq := seq, cur := 0, recs := [] })
    toPhase s j.ref 3 ((List.range 2).flatMap (fun c => writeXfers (base slot + copyOff c) (List.replicate 8 0)))

/-- Step 3: the next extent is read, hashed and copied (R344, R399). -/
def saveExtent (s : State) (e : QEntry) (j : ChestJob) (n : Nat) : State :=
  let b := storedBytes (e.access s) n
  if b.2.stalled then s
  else
    let off := (extentOffs j.list).1.getD j.cur 0
    let v := pertValue (noteChest j.ref b.2) (8 + j.cur % 2) 3 0 256 (leNat (sha256 b.1))
    let ext := n % 2 ^ 192 + off * 2 ^ 192 + v.1 * 2 ^ 256
    let data := if j.cur + 1 < j.list.length then padTo (up4k b.1.length) 0 b.1 else b.1
    let s := updChest v.2 j.ref (fun j => { j with cur := j.cur + 1, recs := j.recs ++ [ext] })
    queueXfers s j.ref (writeXfers (chChest e.dk + j.slot * chSlotBytes e.dk + off) data)

/-- Step 4: a manifest copy, its digest as the perturbation leaves it (R344, R399). -/
def saveCopy (s : State) (e : QEntry) (j : ChestJob) (man : List Byte) (c : Nat) : State :=
  let v := pertValue s (8 + c) (4 + c) 0 256 (leNat ((man.drop 0x60).take 32))
  let bytes := man.take 0x60 ++ natLe v.1 32 ++ man.drop 128
  let s := updChest v.2 j.ref (fun j => { j with man := man })
  toPhase s j.ref (5 + c) (writeXfers (chChest e.dk + j.slot * chSlotBytes e.dk + copyOff c) bytes)

/-- A SAVE's next phase. -/
def saveNext (s : State) (e : QEntry) (j : ChestJob) : State :=
  if e.status ≠ 0 then endChest s j.ref 0
  else match j.phase with
    | 0 => toPhase s j.ref 1 (headReads (chChest e.dk) (chSlotBytes e.dk))
    | 1 => readRecords s j (chChest e.dk) (chSlotBytes e.dk) 2
    | 2 => chooseSlot s e j
    | 3 =>
      match j.list[j.cur]? with
      | some n => saveExtent s e j n
      | none =>
        let o := extentOffs j.list
        let man := mkManifest j.slot j.seq (ownDev s) e.tenant.val (rget s Reg.ROUTE_OWN_GEN) (chCkpt e.dk) (chJob e.dk) j.ft
          j.list.length (o.2 - dataOff) j.recs
        saveCopy (setSaveDigest s j.ref man) e j man 0
    | 5 => saveCopy s e j j.man 1
    | _ => endChest s j.ref 0

-- RESTORE (R349 to R351) ----------------------------------------------------------------------------------------------

/-- The chests that a source descriptor names, but those that are not there. -/
def srcChests (desc : Nat) : List Nat := [bitsAt desc 0 64, bitsAt desc 64 64].filter (· != 0)

/-- Primary or alternate chest of a source, and its SLOT_BYTES. -/
def srcChest (c : CSource) (alt : Bool) : Nat × Nat :=
  if alt then (bitsAt c.desc 64 64, bitsAt c.desc 192 40) else (bitsAt c.desc 0 64, bitsAt c.desc 128 40)

/-- A chest can be read: there is one, on this module or on a device whose peer entry lets it (log entry 28). -/
def chestReadable (s : State) (a : Nat) : Bool :=
  a != 0 && (gDev a == ownDev s || peerFault s (gDev a) == 0)

/-- A source changed. -/
def updSrc (s : State) (r : DocketRef) (i : Nat) (f : CSource → CSource) : State :=
  updChest s r (fun j => { j with srcs := j.srcs.zipIdx.map (fun p => if p.2 = i then f p.1 else p.1) })

/-- Manifests of source cur are read, or the alternate's, or there is none: then ph follows with nothing read. -/
def sourceReads (s : State) (j : ChestJob) (i : Nat) (alt : Bool) (ph : Nat) : State :=
  match j.srcs[i]? with
  | none => s
  | some c =>
    let a := srcChest c alt
    let s := updChest s j.ref (fun j => { j with cur := i, slot := b2n alt, devs := (gDev a.1, peerGen (peerOut s (gDev a.1))) :: j.devs })
    toPhase s j.ref ph (if chestReadable s a.1 then headReads a.1 a.2 else [])

/-- The valid slot of a chest with the docket's CKPT_ID and JOB_ID: slot number and manifest (R349). -/
def matchingSlot (e : QEntry) (p : SlotInfo × SlotInfo) : Option (Nat × List Byte) :=
  let ok (i : SlotInfo) : Bool := i.valid && mf i.man 0x10 0 64 == chCkpt e.dk && mf i.man 0x18 0 64 == chJob e.dk
  if ok p.1 ∧ (!ok p.2 ∨ !newerB p.1 p.2) then some (0, p.1.man)
  else if ok p.2 then some (1, p.2.man) else none

/-- The manifests of a source's chest are read: the slot is taken, the alternate is tried, or there is neither. -/
def takeSource (s : State) (e : QEntry) (j : ChestJob) : State :=
  let p := slotsOf j
  let s := countSlot (countSlot s p.1) p.2
  let alt := j.slot = 1
  match matchingSlot e p, j.srcs[j.cur]? with
  | some m, some c =>
    let a := srcChest c alt
    let s := updSrc s j.ref j.cur (fun c => { c with used := if alt then 2 else 1, base := a.1 + m.1 * a.2, recs := manRecs m.2 })
    toPhase (updChest s j.ref (fun j => { j with cur := j.cur + 1 })) j.ref 10 []
  | none, some c =>
    if !alt ∧ (srcChest c true).1 ≠ 0 then sourceReads s j j.cur true 11
    else
      let s := updSrc s j.ref j.cur (fun c => { c with used := 3 })
      toPhase (updChest s j.ref (fun j => { j with cur := j.cur + 1 })) j.ref 10 []
  | _, none => s

/-- Phase 1 ends: what is uncovered or covered twice ends the docket without writing; otherwise the extents to read are
listed (R349). -/
def planRestore (s : State) (j : ChestJob) : State :=
  let exts := j.srcs.flatMap (·.recs)
  let covers := j.list.map (fun n => (n, coverOf exts n))
  if covers.any (fun c => spansClash c.2) then endChest s j.ref 1
  else if covers.any (fun c => !spansCover c.2 (leBase c.1) (leBase c.1 + leElems c.1)) then
    endChest s j.ref (if j.srcs.any (fun c => c.used == 3) then 3 else 1)
  else
    let reads := j.srcs.zipIdx.flatMap (fun p => p.1.recs.filterMap (fun n =>
      if j.list.any (fun d => coordsMatch n d && (overlap n d).1 < (overlap n d).2) then
        some { src := p.2, alt := p.1.used == 2, base := p.1.base, ext := n, lo := leBase n, hi := leBase n + leElems n : CRead }
      else none))
    let s := updChest s j.ref (fun j => { j with
      reads := reads, srcs := j.srcs.zipIdx.map (fun p => if reads.any (fun r => r.src == p.2) ∨ p.1.used = 3 then p.1
        else { p.1 with used := 0 }) })
    toPhase s j.ref 20 []

/-- A range that no chest could supply: its contents are free, and the docket ends DATA_ERROR in the end (R351). -/
def loseRange (s : State) (e : QEntry) (j : ChestJob) (r : CRead) : State :=
  let f := freeStored s r.ext
  let p := placeExtent (e.access f.2) j.edge j.list r.ext f.1 r.lo r.hi
  let s := noteChest j.ref (p.1.fault 3)
  updChest s j.ref (fun j => { j with reads := j.reads.drop 1, edge := p.2 })

/-- Reads of a bad extent's range from the alternate, or none where it does not cover the range (R351). -/
def altReads (c : CSource) (r : CRead) (i : Nat) : Option (List CRead) :=
  let l := c.altRecs.filterMap (fun n =>
    let lo := max (leBase n) r.lo
    let hi := min (leBase n + leElems n) r.hi
    if coordsMatch n r.ext ∧ lo < hi then some { src := i, alt := true, base := c.altBase, ext := n, lo, hi : CRead } else none)
  if spansCover (sortSpans (l.map (fun x => (x.lo, x.hi)))) r.lo r.hi then some l else none

/-- A bad extent: counted, and read again from the alternate chest where there is one (R343, R351). -/
def badExtent (s : State) (e : QEntry) (j : ChestJob) (r : CRead) : State :=
  let s := rinc s Reg.CHEST_BAD_EXTENTS
  match j.srcs[r.src]? with
  | none => s
  | some c =>
    let s := updSrc s j.ref r.src (fun c => { c with bits := c.bits ||| (if r.alt then 16 else 4) })
    if r.alt ∨ (srcChest c true).1 = 0 then loseRange s e j r
    else if !c.altKnown then sourceReads s j r.src true 22
    else match altReads c r r.src with
      | none => loseRange s e j r
      | some l =>
        let s := updSrc s j.ref r.src (fun c => { c with bits := c.bits ||| 8 })
        toPhase (updChest s j.ref (fun j => { j with reads := l ++ j.reads.drop 1 })) j.ref 20 []

/-- The first extent of the list has been read whole: its digest is checked and it is placed (R343, R349). -/
def extentRead (s : State) (e : QEntry) (j : ChestJob) (r : CRead) : State :=
  let data := (j.got.mergeSort (fun a b => a.1 ≤ b.1)).flatMap (·.2)
  if sha256 data ≠ xrDigest r.ext then badExtent s e j r
  else
    let p := placeExtent (e.access s) j.edge j.list r.ext data r.lo r.hi
    if p.1.stalled then s
    else toPhase (updChest (noteChest j.ref p.1) j.ref (fun j => { j with reads := j.reads.drop 1, edge := p.2 })) j.ref 20 []

/-- The alternate's manifests are read behind a bad extent. -/
def takeAlternate (s : State) (e : QEntry) (j : ChestJob) : State :=
  let p := slotsOf j
  let s := countSlot (countSlot s p.1) p.2
  match j.srcs[j.cur]?, j.reads.head? with
  | some c, some r =>
    let a := srcChest c true
    let m := matchingSlot e p
    let c' := { c with altKnown := true, altBase := a.1 + (m.map (·.1)).getD 0 * a.2, altRecs := (m.map (fun x => manRecs x.2)).getD [] }
    let s := updSrc s j.ref j.cur (fun _ => c')
    match altReads c' r r.src with
    | none => toPhase (loseRange s e j r) j.ref 20 []
    | some l =>
      let s := updSrc s j.ref r.src (fun c => { c with bits := c.bits ||| 8 })
      toPhase (updChest s j.ref (fun j => { j with reads := l ++ j.reads.drop 1 })) j.ref 20 []
  | _, _ => s

/-- The REPORT bytes of a RESTORE (R351). -/
def writeReport (s : State) (e : QEntry) (j : ChestJob) : State :=
  let x := (e.access s).wr (chReport e.dk) (j.srcs.map (fun c => BitVec.ofNat 8 (c.used + c.bits)))
  if x.stalled then s else endChest (noteChest j.ref x) j.ref 0

/-- A RESTORE's next phase. -/
def restoreNext (s : State) (e : QEntry) (j : ChestJob) : State :=
  match j.phase with
  | 0 => toPhase s j.ref 10 []
  | 10 => if j.cur < j.srcs.length then sourceReads s j j.cur false 11 else planRestore s j
  | 11 | 22 =>
    match j.srcs[j.cur]? with
    | none => s
    | some c => let a := srcChest c (j.slot = 1); readRecords s j a.1 a.2 (j.phase + 1)
  | 12 => takeSource s e j
  | 20 =>
    match j.reads with
    | [] => writeReport s e j
    | r :: _ => toPhase s j.ref 21 (readXfers (r.base + xrOffset r.ext) (storedLen r.ext))
  | 21 => match j.reads with | [] => s | r :: _ => extentRead s e j r
  | 23 => takeAlternate s e j
  | _ => s

-- SCAN (R352) ---------------------------------------------------------------------------------------------------------

/-- The 32 report bytes of a slot; the fields of an invalid slot are free. -/
def scanHalf (free : Nat) (i : SlotInfo) : List Byte :=
  natLe (b2n i.valid + i.good.countP id * 2 + b2n i.conflict * 8) 4 ++
    (if i.valid then natLe (mfSeq i.man) 4 ++ natLe (mf i.man 0x10 0 64) 8 ++ natLe (mf i.man 0x18 0 64) 8 ++ natLe (mf i.man 0x20 0 64) 8
     else natLe free 28)

/-- A SCAN's next phase. -/
def scanNext (s : State) (e : QEntry) (j : ChestJob) : State :=
  if e.status ≠ 0 then endChest s j.ref 0
  else match j.phase with
    | 0 => toPhase s j.ref 1 (headReads (chChest e.dk) (chSlotBytes e.dk))
    | 1 => readRecords s j (chChest e.dk) (chSlotBytes e.dk) 2
    | _ =>
      let p := slotsOf j
      let f := freeVal (countSlot (countSlot s p.1) p.2)
      let x := (e.access f.2).wr (chReport e.dk) (scanHalf f.1 p.1 ++ scanHalf (f.1 / 2 ^ 224) p.2)
      if x.stalled then s else endChest (noteChest j.ref x) j.ref 0

-- running a job -------------------------------------------------------------------------------------------------------

/-- The next phase of a job whose transfers have all been acknowledged. -/
def chestNext (s : State) (e : QEntry) (j : ChestJob) : State :=
  match dkOp e.dk with
  | 0 => saveNext s e j
  | 1 => restoreNext s e j
  | _ => scanNext s e j

/-- Bound on the steps of one command: more than any docket has chunks and phases. -/
def chestFuel : Nat := 2 ^ 64

/-- A job goes on: chunks are issued up to OUTSTANDING; with none left the next phase begins (R337). A fault ends a SAVE's
or SCAN's issuing. -/
def chestGo (s : State) (r : DocketRef) (fuel : Nat) : State :=
  match fuel with
  | 0 => s
  | fuel + 1 =>
    match jobOf s r, entryOf s 2058 r with
    | some j, some e =>
      if e.cut then s
      else if e.status ≠ 0 ∧ dkOp e.dk ≠ 1 ∧ j.todo ≠ [] then chestGo (updChest s r (fun j => { j with todo := [] })) r fuel
      else match j.todo with
        | x :: _ =>
          if rget s Reg.CHEST_OUTSTANDING ≤ j.wait.length then s
          else match issueXfer s e j x with
            | none => s
            | some s => chestGo s r fuel
        | [] =>
          if j.wait ≠ [] then s
          else
            let t := chestNext s e j
            if t = s then s else chestGo t r fuel
    | _, _ => s

/-- A chest that is no place for a SAVE (R340). -/
def chestPlaceBad (d : Docket) : Bool :=
  let a := gLoc (chChest d)
  a % 2 ^ 30 != 0 || a < roomBase || 0x060000000000 < a + 2 * chSlotBytes d

/-- The list of a SAVE or RESTORE breaks a rule, or a SAVE's data passes the end of its slot (R338, R340, R350). -/
def listBad (x : Access) (d : Docket) (l : List Nat) : Bool :=
  (l.any (fun n => entryBad n (shardOf x n).1 (dkOp d == 1))) || (dkOp d == 0 && chSlotBytes d < (extentOffs l).2)

/-- A docket's job enters the list of jobs in progress. -/
def startJob (s : State) (j : ChestJob) : State :=
  let s := updEntry s 2058 j.ref (fun e => { e with started := true })
  chestGo { s with chest := s.chest ++ [j] } j.ref chestFuel

/-- The docket needs a SEQ: one of its chests lies on another device. -/
def chestRemote (s : State) (d : Docket) (srcs : List Nat) : Bool :=
  if dkOp d = 1 then srcs.any (fun n => gDev (bitsAt n 0 64) != ownDev s || gDev (bitsAt n 64 64) != ownDev s)
  else gDev (chChest d) != ownDev s

/-- SAVE, RESTORE or SCAN starts (R262, R336, R338, R340, R347). -/
def startChest (s : State) (e : QEntry) : State :=
  let r := e.toRef
  let d := e.dk
  let skip := dkOp d = 0 ∧ chCond d ∧ (e.tenant.val ≠ rget s Reg.CHEST_ACT_TENANT
    ∨ rget s Reg.CHEST_ACT_REQS = rget s Reg.CHEST_ACT_DONE)
  let dev := gDev (chChest d)
  let fault := if dkOp d = 1 ∨ dev = ownDev s then 0 else if dev % 4 ≠ 0 then 4 else peerFault s dev
  if skip then endChest (rinc s Reg.CHEST_SAVES_SKIPPED) r 0
  else if dkOp d = 0 ∧ chestPlaceBad d then endChest s r 1
  else if fault ≠ 0 then endChest (updEntry s 2058 r (fun e => { e with badAddr := chChest d })) r fault
  else
    let l := if dkOp d = 3 then ([], e.access s) else readEntries (e.access s) (chList d) (chEntries d)
    let q := if dkOp d = 1 then readEntries l.2 (chSources d) (chNsources d) else ([], l.2)
    if q.2.stalled then s
    else if q.2.faults ≠ [] then endChest (noteChest r q.2) r 0
    else if listBad q.2 d l.1 then endChest s r 1
    else match (q.1.flatMap srcChests).find? (fun a => gDev a % 4 != 0) with
    | some a => endChest (updEntry q.2.s 2058 r (fun e => { e with badAddr := a })) r 4
    | none =>
      let n := if chestRemote s d q.1 then seqFor q.2.s 2058 e else (some 0, q.2.s)
      match n.1 with
      | none => n.2
      | some seq =>
        let s := n.2
        let dev' : List (Nat × Nat) := if dkOp d = 1 ∨ dev = ownDev s then [] else [(dev, peerGen (peerOut s dev))]
        let srcs : List CSource := q.1.map (fun x =>
          { desc := x, used := 0, bits := 0, base := 0, recs := [], altKnown := false, altBase := 0, altRecs := [] })
        let s := if chestRemote s d q.1 then startRemote s 2058 e 3 dev 0 seq else s
        startJob s { newJob s r with devs := dev', list := l.1, srcs := srcs }

/-- The docket of a re-layout operation that runs, not finished. -/
def chestEntry (s : State) (op : Nat) (r : DocketRef) : Option QEntry :=
  (entryOf s 2058 r).filter (fun e => e.running && !e.done && !e.cut && dkOp e.dk == op)

/-- A re-layout docket starts, or goes on where a zero-fill or a missing SEQ held it back. -/
def runChest (s : State) (op : Nat) (r : DocketRef) : State :=
  match chestEntry s op r with
  | none => s
  | some e => if (jobOf s r).isSome then chestGo s r chestFuel else startChest s e

/-- SAVE. -/
def execSave (ref : DocketRef) (s : State) : Host.Outcome State Fault Refusal := .next (live s (fun s => runChest s 0 ref))

/-- RESTORE. -/
def execRestore (ref : DocketRef) (s : State) : Host.Outcome State Fault Refusal := .next (live s (fun s => runChest s 1 ref))

/-- SCAN. -/
def execScan (ref : DocketRef) (s : State) : Host.Outcome State Fault Refusal := .next (live s (fun s => runChest s 3 ref))

-- answers and resends (R337) ------------------------------------------------------------------------------------------

/-- An answer to a chunk of a chest transfer: its status, and what it brings where it is a read. -/
def chestAnswer (s : State) (o : ROp) (flow status : Nat) (data : List Byte) : State :=
  match jobOf s o.ref, entryOf s 2058 o.ref with
  | some j, some e =>
    match j.wait.find? (fun x => x.chunk % 2 ^ 16 == flow) with
    | none => s
    | some x =>
      let s := updChest s o.ref (fun j => { j with
        wait := j.wait.filter (fun y => y.chunk != x.chunk)
        got := if x.write then j.got else j.got ++ [(x.chunk, padTo x.len 0 data)] })
      let s := if status = 0 then s else noteChest o.ref { (e.access s).fault status with bad := some x.addr }
      chestGo s o.ref chestFuel
  | _, _ => s

/-- Chests and group members behind a changed peer entry: the docket ends FENCED (R345, R358). For a LOAD's root it goes on with
the other members. -/
def fenceChests (s : State) (changed : Nat → Nat → Bool) : State :=
  s.chest.foldl (fun s j =>
    match entryOf s 2058 j.ref with
    | none => s
    | some e =>
      let gone := j.devs.filter (fun x => x.1 != ownDev s && changed x.1 x.2)
      if gone = [] then s
      else if dkOp e.dk = 2 then
        let s := updEntry s 2058 j.ref (fun e => { e with status := worst [e.status, 8] })
        updChest s j.ref (fun j => { j with
          sent := j.sent.filter (fun x => !gone.any (fun g => g.1 == j.members.getD x.1 0)) })
      else if dkOp e.dk = 1 ∧ !(j.wait.any (fun x => gone.any (fun g => g.1 == gDev x.addr))) then s
      else endChest s j.ref 8) s

/-- REQUEST applied: 1 adds 1 to ACT_REQS (R347, R360). -/
def chestRequestApply (v : Nat) (s : State) : State := if v % 2 = 1 then rinc s Reg.CHEST_ACT_REQS else s

/-- CHEST_REQUEST. -/
def execChestRequest (by' : Writer) (s : State) : Host.Outcome State Fault Refusal :=
  .next (gated s by' chestPage Reg.CHEST_REQUEST 0 1 (chestRequestApply 1))

end Sys2Proof.Machine
end

