-- ==== Sys2Proof/Machine/Collect.lean ====
section
/-! DEFINITION. Sys2Proof/Machine/Collect.lean: the Tally units: collectives over pod, hall and global levels, tally words,
compression, grants, chunks and acknowledgements: R287 to R312. -/

namespace Sys2Proof.Machine

-- the body (R288) -----------------------------------------------------------------------------------------------------

/-- SRC. -/
def coSrc (d : Docket) : Nat := dkf d 0x30 0 64
/-- DST. -/
def coDst (d : Docket) : Nat := dkf d 0x38 0 64
/-- COUNT. -/
def coCount (d : Docket) : Nat := dkf d 0x40 0 40
/-- WIDEN_CORE. -/
def coWidenCore (d : Docket) : Nat := dkf d 0x40 40 9
/-- WIDEN. -/
def coWiden (d : Docket) : Bool := dkf d 0x40 49 1 == 1
/-- IN_FMT. -/
def coIn (d : Docket) : Nat := dkf d 0x48 0 5
/-- OUT_FMT. -/
def coOut (d : Docket) : Nat := dkf d 0x48 5 5
/-- POD_FMT, HALL_FMT and GLOBAL_FMT by level. -/
def coFmt (d : Docket) (l : Nat) : Nat := dkf d 0x48 (10 + 5 * l) 5
/-- Local contributions: LOCAL_N plus 1. -/
def coLocal (d : Docket) : Nat := dkf d 0x48 25 3 + 1
/-- SAT. -/
def coSat (d : Docket) : Bool := dkf d 0x48 28 1 == 1
/-- TOPK_K. -/
def coK (d : Docket) : Nat := dkf d 0x4C 0 10
/-- The k of R84 in force (R288). -/
def coKeep (d : Docket) : Nat := clampNat 1 844 (coK d)
/-- ROOT. -/
def coRoot (d : Docket) : Nat := dkf d 0x4C 16 14
/-- GROUP. -/
def coGroup (d : Docket) : Nat := dkf d 0x50 0 64
/-- P. -/
def coP (d : Docket) : Nat := dkf d 0x58 0 25
/-- INSTANCE. -/
def coInst (d : Docket) : Nat := dkf d 0x5C 0 32
/-- SRC_STRIDE. -/
def coStride (d : Docket) : Nat := dkf d 0x60 0 40
/-- RESIDUE_IN. -/
def coResIn (d : Docket) : Nat := dkf d 0x68 0 64
/-- RESIDUE_OUT. -/
def coResOut (d : Docket) : Nat := dkf d 0x70 0 64
/-- SCRATCH. -/
def coScratch (d : Docket) : Nat := dkf d 0x78 0 64

/-- A reduction. -/
def coReduces (d : Docket) : Bool := dkOp d == 0 || dkOp d == 2

/-- The format of a tally word. -/
def isTally (f : Nat) : Bool := f == 13 || f == 14

/-- The level formats in force (R292). -/
def levelFmts (d : Docket) : List Nat :=
  let pod := if isTally (coFmt d 0) then coFmt d 0 else 13
  let hall := if isTally (coFmt d 1) then coFmt d 1 else 13
  let hall := if pod = 14 then 14 else hall
  let g := if [13, 14, 5, 10, 15, 16].contains (coFmt d 2) then coFmt d 2 else 13
  let g := if g = 13 ∧ hall = 14 then 14 else g
  [pod, hall, g]

/-- TOPK blocks are formed, or gathered as they are (R84; log entry 26). -/
def coTopk (d : Docket) : Bool :=
  if coReduces d then (levelFmts d).getD 2 13 == 15 else (dkOp d == 1 || dkOp d == 3) && coIn d == 15

/-- The clamped fields of a collective docket that its own words decide: level formats and TOPK_K (R288, R292). -/
def collClamps (d : Docket) : List DkClamp :=
  let fs := if !coReduces d then []
    else ((List.range 3).filter (fun l => coFmt d l != (levelFmts d).getD l 13)).map (fun l =>
      ({ off := 0x48, lsb := 10 + 5 * l, width := 5, written := coFmt d l, applied := (levelFmts d).getD l 13 } : DkClamp))
  if coTopk d ∧ coKeep d ≠ coK d then
    fs ++ [{ off := 0x4C, lsb := 0, width := 10, written := coK d, applied := coKeep d }] else fs

/-- Bytes of n elements of IN_FMT (R64, R72, R84, R85). -/
def coBytes (d : Docket) (n : Nat) : Nat := tensorBytes (coIn d) (coKeep d) n

/-- A collective docket completes PARAM_ERROR by its own words (R287, R288, R304). -/
def collError (d : Docket) : Bool :=
  4 < dkOp d
    || (coReduces d && (12 < coIn d || !([0, 2, 13, 14].contains (coOut d))))
    || (dkOp d == 1 && 16 < coIn d) || (dkOp d == 3 && 16 < coIn d)
    || ((dkOp d == 1 || dkOp d == 3) && coWiden d &&
        (match regionOf (coDst d) with | .seg _ _ => false | .way _ _ => false | _ => true))

-- groups (R289, R290) -------------------------------------------------------------------------------------------------

/-- A group descriptor. -/
structure Group where
  slots : List Nat
  pods : List Nat
  halls : List Nat
  tag : Nat
  mcast : Nat
deriving DecidableEq, Repr

/-- The descriptor in 128 bytes. -/
def readGroup (n : Nat) : Group :=
  { slots := (List.range (bitsAt n 0 5)).map (fun i => bitsAt n (64 + 4 * i) 4)
    pods := (List.range (bitsAt n 8 5)).map (fun i => bitsAt n (128 + 4 * i) 4)
    halls := (List.range (bitsAt n 16 7)).map (fun i => bitsAt n (192 + 8 * i) 6)
    tag := bitsAt n (8 * 0x58) 32, mcast := bitsAt n (8 * 0x5C) 12 }

/-- A list holds a value twice. -/
def repeats (l : List Nat) : Bool := l.any (fun x => decide (1 < l.countP (· == x)))

/-- A count is out of range or a list holds a value twice. -/
def groupBad (g : Group) : Bool :=
  g.slots == [] || 16 < g.slots.length || g.pods == [] || 16 < g.pods.length || g.halls == [] || 64 < g.halls.length
    || repeats g.slots || repeats g.pods || repeats g.halls

/-- The members by rank. -/
def groupDevs (g : Group) : List Nat :=
  g.halls.flatMap (fun h => g.pods.flatMap (fun p => g.slots.map (fun s => h * 1024 + p * 64 + s * 4)))

/-- Ranks of the members that share all but one level with a rank. -/
def levelMembers (g : Group) (rank level : Nat) : List Nat :=
  let a := g.slots.length
  let b := g.pods.length
  let c := g.halls.length
  let (i, j, k) := (rank / (a * b), rank / a % b, rank % a)
  match level with
  | 0 => (List.range a).map (fun x => (i * b + j) * a + x)
  | 1 => (List.range b).map (fun x => (i * b + x) * a + k)
  | _ => (List.range c).map (fun x => (x * b + j) * a + k)

/-- The place of a rank in a level. -/
def levelPlace (g : Group) (rank level : Nat) : Nat :=
  let a := g.slots.length
  let b := g.pods.length
  match level with | 0 => rank % a | 1 => rank / a % b | _ => rank / (a * b)

/-- A stage with exchange at a level. -/
def stageAt (g : Group) (rank kind level fmt : Nat) : CStage :=
  { kind, level, members := levelMembers g rank level, me := levelPlace g rank level, fmt }

/-- A stage without exchange. -/
def mark (kind : Nat) : CStage := { kind, level := 0, members := [], me := 0, fmt := 0 }

/-- Levels with more than one member, from the pod upward. -/
def levelsOf (g : Group) : List Nat :=
  (List.range 3).filter (fun l => 1 < ([g.slots.length, g.pods.length, g.halls.length].getD l 1))

/-- The global level is compressed and has more than one member (R292, R302). -/
def compressed (d : Docket) (g : Group) : Bool := !isTally ((levelFmts d).getD 2 13) && decide (1 < g.halls.length)

/-- The stages of a collective (R287, R290, R294, R295, R302, R304, R305). -/
def stagesOf (d : Docket) (g : Group) (rank : Nat) : List CStage :=
  let ls := levelsOf g
  let cmp := compressed d g
  let span := if cmp then ls.filter (· < 2) else ls
  let fm (l : Nat) : Nat := (levelFmts d).getD l 13
  let st (k : Nat) (l : Nat) : CStage := stageAt g rank k l (fm l)
  let gather := ls.reverse.map (fun l => stageAt g rank 6 l 0)
  match dkOp d with
  | 0 | 2 =>
    span.map (st 0) ++ span.reverse.map (st 1) ++ [mark 10] ++ span.map (st 2) ++ [mark 11]
      ++ (if cmp then [mark 12, st 0 2, st 1 2, mark 13, st 5 2, mark 14] else [])
      ++ (if dkOp d = 2 then gather else []) ++ [mark 15]
  | 1 => gather ++ [mark 15]
  | 3 => (if ls = [] then [] else [{ kind := 7, level := 3, members := (List.range (groupDevs g).length), me := rank, fmt := 0 }]) ++ [mark 15]
  | _ => ls.map (st 0) ++ ls.reverse.map (st 1) ++ [mark 15]


/-- COUNT breaks R291. -/
def countBad (d : Docket) (g : Group) : Bool :=
  let n := (groupDevs g).length
  let f := (levelFmts d).getD 2 13
  let gr := if coReduces d then (if f = 16 then 32768 else if isTally f then 1024 else 4096) else 1024
  coCount d % (n * gr) != 0 || 2 ^ 40 * 4096 < coCount d * coBytes d 4096

/-- Contributions number L of the tally span (R291). -/
def spanL (d : Docket) (g : Group) : Nat :=
  coLocal d * g.slots.length * g.pods.length * (if compressed d g then 1 else g.halls.length)

-- a collective --------------------------------------------------------------------------------------------------------

/-- The entry of a collective in the Tally queue. -/
def collEntry (s : State) (k : Coll) : Option QEntry := entryOf s 2056 k.ref

/-- The collectives that have started replaced. -/
def setColls (s : State) (l : List Coll) : State := { s with colls := l }

/-- A collective changed. -/
def updColl (s : State) (r : DocketRef) (f : Coll → Coll) : State :=
  setColls s (updFirst s.colls (fun k => k.ref == r) f)

/-- The collective of a docket. -/
def collOf (s : State) (r : DocketRef) : Option Coll := s.colls.find? (fun k => k.ref == r)

/-- A collective ends; its slots are free. -/
def dropColl (s : State) (r : DocketRef) : State := setColls s (s.colls.filter (fun k => k.ref != r))

/-- A collective ends with a fault. -/
def endColl (s : State) (r : DocketRef) (status : Nat) : State :=
  let made := match collOf s r with | some k => k.nans.eraseDups.length | none => 0
  dropColl (updEntry s 2056 r (fun e => { e with
    started := true, done := true, status := if status = 1 then 1 else worst [e.status, status], nonfinite := e.nonfinite + made })) r

/-- The present stage. -/
def stageOf (k : Coll) : CStage := k.stages.headD (mark 15)

/-- A stage carries anchor codes. -/
def CStage.anchor (g : CStage) : Bool := g.kind ≤ 1
/-- A stage gathers. -/
def CStage.gather (g : CStage) : Bool := g.kind == 1 || g.kind == 6
/-- A stage exchanges chunks. -/
def CStage.comm (g : CStage) : Bool := g.kind ≤ 7

/-- Elements per chunk of a stage (R292, R295, R304). -/
def chunkCap (d : Docket) (g : CStage) : Nat :=
  if g.anchor then 2048
  else match g.kind with
    | 2 => if g.fmt = 14 then 1024 else 512
    | 5 => if g.fmt = 16 then 32768 else 4096
    | _ => if coReduces d ∨ !isMX (coIn d) then 4096 else groupBytes (coIn d)

/-- Slot bytes of a stage's chunks (R292, R298). -/
def slotBytes (g : CStage) : Nat :=
  if g.anchor then 4096
  else match g.kind with
    | 2 => if g.fmt = 14 then 8192 else 4096
    | 5 => if g.fmt = 16 then 262144 else 32768
    | _ => 8192

/-- Length of this module's part of a stage's vector. -/
def partLen (k : Coll) (g : CStage) : Nat := if g.gather || g.kind == 7 then k.vec.length else k.vec.length / max 1 g.members.length

/-- Chunks of a part. -/
def partChunks (d : Docket) (k : Coll) (g : CStage) : Nat := ceilDiv (partLen k g) (chunkCap d g)

/-- Senders of a chunk at this receiver. -/
def senders (d : Docket) (g : CStage) : List Nat := if g.kind = 7 then [coRoot d] else List.range g.members.length

/-- Answers that this module waits for as a sender. -/
def answersDue (d : Docket) (k : Coll) (g : CStage) : Nat :=
  if g.kind = 7 then (if g.me = coRoot d then (g.members.length - 1) * partChunks d k g else 0)
  else (g.members.length - 1) * partChunks d k g

/-- The elements of chunk c for the member at a place (R293). -/
def chunkVec (d : Docket) (k : Coll) (g : CStage) (place c : Nat) : List Int :=
  let cap := chunkCap d g
  let at' := if g.gather || g.kind == 7 then 0 else place * partLen k g
  (k.vec.drop (at' + c * cap)).take (min cap (partLen k g - c * cap))

/-- Bytes of elements on the wire. -/
def wire (g : CStage) (l : List Int) : List Byte :=
  if g.anchor then l.flatMap (fun x => natLe (twos 16 x) 2)
  else match g.kind with
    | 2 => if g.fmt = 14 then l.flatMap (fun x => natLe (twos 32 x) 4) else l.flatMap (fun x => natLe (twos 64 x) 8)
    | _ => l.map (fun x => BitVec.ofInt 8 x)

/-- The payload of chunk c for the member at a place. -/
def payload (d : Docket) (k : Coll) (g : CStage) (place c : Nat) : List Byte :=
  if g.kind = 5 then k.enc.getD (place * partChunks d k g + c) [] else wire g (chunkVec d k g place c)

/-- The values of a compressed chunk (R302). -/
def decodeComp (d : Docket) (fmt block : Nat) (bytes : List Byte) : List FVal :=
  match fmt with
  | 15 => topkDecode (coKeep d) block bytes
  | 16 => (chunksOf 516 bytes).flatMap signDecode
  | f => decodeGroup f bytes 4096

/-- The elements that a chunk's payload brings, before they are added, and how many contributions were flushed (R68, R80, R302). -/
def received (d : Docket) (k : Coll) (g : CStage) (c : Nat) (bytes : List Byte) : List Int × Nat :=
  if g.anchor then ((chunksOf 2 bytes).map (fun b => sext 16 (leNat b)), 0)
  else match g.kind with
    | 2 => (if g.fmt = 14 then (chunksOf 4 bytes).map (fun b => sext 32 (leNat b)) else (chunksOf 8 bytes).map (fun b => sext 64 (leNat b)), 0)
    | 5 =>
      let first := g.me * partLen k g + c * chunkCap d g
      let vs := decodeComp d g.fmt c bytes
      let ws := (vs.zip (List.range vs.length)).map (fun p =>
        toTally 64 (anchorOf (k.gcodes.getD ((first + p.2) / 1024) emptyAnchor) (headroom k.c)) p.1)
      (ws.map (·.1), ws.countP (·.2))
    | _ => (bytes.map (fun b => (b.toNat : Int)), 0)

/-- The bound of R81 and R296 on the words of a member at a level: n leaves under headroom h, where n is 1 for a compressed
contribution. -/
def wordBound (k : Coll) (localN : Nat) (g : CStage) : Nat :=
  if g.kind = 5 then 2 ^ (fracBits 64 + 1 - headroom k.c)
  else localN * (if g.level = 0 then 1 else if g.level = 1 then k.a else k.a * k.b) * 2 ^ (fracBits k.w + 1 - headroom k.p)

/-- Words checked before they are added, this module's own among them: the words with NaN in place of those beyond the bound, and the
offsets of those (R81, R296). -/
def boundChunk (k : Coll) (localN : Nat) (g : CStage) (l : List Int) : List Int × List Nat :=
  if g.kind ≠ 2 ∧ g.kind ≠ 5 then (l, [])
  else
    let w := if g.kind = 5 then 64 else k.w
    let bad (q : Int) : Bool := finiteCode w q && decide (wordBound k localN g < q.natAbs)
    (l.map (fun q => if bad q then nanCode w else q), (List.range l.length).filter (fun i => bad (l.getD i 0)))

/-- Contributions combined, and the offsets of the sums that only their range made NaN (R79, R81, R299, R469). -/
def combine (g : CStage) (w : Nat) (l : List (List Int)) : List Int × List Nat :=
  let n := (l.headD []).length
  let at' (i : Nat) : List Int := l.map (fun x => x.getD i 0)
  if g.anchor then ((List.range n).map (fun i => match at' i with | [] => 0 | x :: r => r.foldl max x), [])
  else
    let sums := (List.range n).map (fun i => tallySum (if g.kind = 5 then 64 else w) (at' i))
    (sums.map (·.1), (List.range n).filter (fun i => (sums.getD i (0, false)).2))

/-- Number in the whole collective of the first element of chunk c of this module's part (R290). -/
def chunkFirst (d : Docket) (k : Coll) (g : CStage) (c : Nat) : Nat := k.base + g.me * partLen k g + c * chunkCap d g

/-- A Tally packet (R297). -/
def tallyPacket (s : State) (k : Coll) (g : CStage) (opc place chunk field3 : Nat) (resent : Bool) (data : List Byte) : Packet :=
  let rank := g.members.getD place 0
  let dst := k.devs.getD rank 0
  let inst := match collEntry s k with | some e => coInst e.dk % 1024 | none => 0
  let op := opc + g.level * 16 + b2n resent * 64 + b2n g.gather * 128 + k.rank * 256 + inst * 2 ^ 22 + k.tag * 2 ^ 32 + chunk % 2 ^ 32 * 2 ^ 64
  let crc := if opc ≤ 9 then crc32c (natLe op 12 ++ data) else field3
  let p := mkPacket s dst (k.gens.getD rank 0) k.ref.tenant.val false (if opc ≤ 9 then 2 else 1) chunk (op + crc * 2 ^ 96) data
  { p with side := if g.anchor then 1 else 0 }

/-- A link on the fabric die that handles a chunk (R293). -/
def chunkDie (c : Nat) : Option LinkId := some (if c % 2 = 0 then 0 else 1)

/-- A chunk is sent to the member at a place, to be answered (R297 to R299). -/
def sendTallyChunk (s : State) (d : Docket) (k : Coll) (g : CStage) (place c : Nat) (resent : Bool) : State :=
  let data := payload d k g place c
  let p := tallyPacket s k g (if g.anchor then 9 else 8) place c 0 resent data
  let v := pertValue s (8 + c % 2) 1 0 32 (pf p 224 32)
  let s := send v.2 (some 2056) (pSet p 224 32 v.1) (chunkDie c)
  updColl s k.ref (fun k => { k with
    sent := k.sent.filter (fun x => !(x.1 == place && x.2.1 == c)) ++ [(place, c, s.time.cyc)] })

/-- A chunk of a broadcast is sent once, into the group (R305). -/
def sendBroadcast (s : State) (d : Docket) (k : Coll) (g : CStage) (c : Nat) : State :=
  let p := tallyPacket s k g 8 g.me c 0 false (payload d k g g.me c)
  let p := pSet (pSet p 0 16 k.mcast) 52 1 1
  let s := send s (some 2056) p (chunkDie c)
  let others := (List.range g.members.length).filter (· != g.me)
  updColl s k.ref (fun k => { k with sent := k.sent ++ others.map (fun m => (m, c, s.time.cyc)) })

/-- Chunks granted to this module by the member at a place (R298). -/
def serveGrant (s : State) (d : Docket) (k : Coll) (g : CStage) (place first count : Nat) : State :=
  let cs := (List.range count).map (first + ·)
  if g.kind = 7 then
    cs.foldl (fun s c =>
      match collOf s k.ref with
      | none => s
      | some k =>
        let r := addOnce (mapGet k.ready c []) place
        let s := updColl s k.ref (fun k => { k with ready := mapSet k.ready c r })
        if r.length = g.members.length - 1 ∧ !k.sent.any (fun x => x.2.1 == c) then sendBroadcast s d k g c else s) s
  else cs.foldl (fun s c => match collOf s k.ref with
    | none => s
    | some k => if c < partChunks d k g then sendTallyChunk s d k g place c false else s) s

/-- Partition bytes of a tenant on a fabric die. -/
def partBytes (s : State) (f t : Nat) : Nat := rget s Reg.TALLY_PART_MIB f t * 0x100000

/-- A slot's contribution of one sender recorded; a complete chunk becomes a result (R298, R299). -/
def addChunk (s : State) (d : Docket) (k : Coll) (g : CStage) (c place : Nat) (l : List Int) : State :=
  let sl := mapGet k.slots c { got := [], fails := [] }
  let sl := { sl with got := sl.got ++ [(place, l)] }
  let s := rinc s Reg.TALLY_CHUNKS_SUMMED (c % 2)
  if sl.got.length < (senders d g).length then updColl s k.ref (fun k => { k with slots := mapSet k.slots c sl })
  else
    let parts := sl.got.mergeSort (fun a b => a.1 ≤ b.1)
    let sum := combine g k.w (parts.map (·.2))
    updColl s k.ref (fun k => { k with
      slots := mapErase k.slots c
      nans := k.nans ++ (if g.gather then [] else sum.2.map (chunkFirst d k g c + ·))
      results := if g.gather then parts.foldl (fun r p => mapSet r (p.1 * 2 ^ 40 + c) p.2) k.results
        else mapSet k.results c sum.1 })

/-- A contribution to a chunk taken: its words bounded and counted, then added (R68, R296, R299). -/
def takeWords (s : State) (d : Docket) (k : Coll) (g : CStage) (c place : Nat) (bytes : List Byte) : State :=
  let v := received d k g c bytes
  let b := boundChunk k (coLocal d) g v.1
  let s := rinc s Reg.TALLY_BOUND_NANS (c % 2) 0 b.2.length
  let s := updEntry s 2056 k.ref (fun e => { e with flushed := e.flushed + v.2 })
  let s := updColl s k.ref (fun k => { k with nans := k.nans ++ b.2.map (chunkFirst d k g c + ·) })
  match collOf s k.ref with
  | none => s
  | some k => addChunk s d k g c place b.1

/-- The adder lanes make a chunk's additions up to n times, as long as a residue check fails: whether the last attempt failed too (R301,
R399). -/
def residueTries (s : State) (c : Nat) (n : Nat) : Bool × State :=
  match n with
  | 0 => (true, s)
  | n + 1 =>
    let f := Config.adderFault s.free
    let t := pertCheck { s with free := s.free + 1 } (8 + c % 2) 6 0
    if f || t.1 then residueTries t.2 c n else (false, t.2)

/-- The adder lanes fail three times on a chunk (R301). -/
def residueFault (s : State) (c : Nat) : Bool × State := residueTries s c 3

/-- The lanes fail on a chunk of a stage that adds words (R301). -/
def addFault (s : State) (g : CStage) (c : Nat) : Bool × State :=
  if g.kind = 2 ∨ g.kind = 5 then residueFault s c else (false, s)

/-- The slot is poisoned: the collective ends DATA_ERROR (R301, R377). -/
def residueEnd (s : State) (k : Coll) (c : Nat) : State :=
  let f := c % 2
  let lane := freeVal s
  let s := rinc lane.2 Reg.TALLY_RESIDUE_ERRORS f
  let s := raise s (evOf Reg.TALLY_RESIDUE_ERRORS 0 (8 + f) 0 k.ref.tenant.val ((collEntry s k).map (fun e => { e.words with status := 3 }))
    [8 + f, lane.1 % 256])
  endColl (charge s 5 (diePart (8 + f))) k.ref 3

/-- Slots of a tenant's partition on a fabric die that hold chunks, and their bytes (R298). -/
def slotsHeld (s : State) (f t : Nat) : Nat × Nat :=
  (s.colls.filter (fun k => k.ref.tenant.val == t)).foldl (fun acc k =>
    let n := k.slots.countP (fun x => x.1 % 2 == f)
    (acc.1 + n, acc.2 + n * slotBytes (stageOf k))) (0, 0)

/-- A tenant's partition on a fabric die has room for one more slot: at most GRANT_MAX chunks outstanding, and no more bytes than it has
(R298). -/
def slotRoom (s : State) (f t bytes : Nat) : Bool :=
  let h := slotsHeld s f t
  h.1 < rget s Reg.TALLY_GRANT_MAX f && h.2 + bytes ≤ partBytes s f t

/-- Grants for as many chunks as the partition holds, ascending (R298): a GRANT to every sender, and this module's own
contribution added at once, its additions checked as any other's (R301). -/
def grantMore (s : State) (d : Docket) (r : DocketRef) (fuel : Nat) : State :=
  match fuel with
  | 0 => s
  | fuel + 1 =>
    match collOf s r with
    | none => s
    | some k =>
      let g := stageOf k
      let c := k.granted
      let f := c % 2
      if !g.comm || partChunks d k g ≤ c || !slotRoom s f r.tenant.val (slotBytes g) then s
      else
        let s := updColl s r (fun k => { k with granted := c + 1, slots := mapSet k.slots c { got := [], fails := [] } })
        let others := (senders d g).filter (· != g.me)
        let s := others.foldl (fun s m => send s (some 2056) (tallyPacket s k g 10 m c 1 false []) (chunkDie c)) s
        let s := match collOf s r with
          | none => s
          | some k =>
            if !(senders d g).contains g.me then s
            else
              let rf := addFault s g c
              if rf.1 then residueEnd rf.2 k c else takeWords rf.2 d k g c g.me (payload d k g g.me c)
        grantMore s d r fuel

/-- The results of a stage put together. -/
def gathered (d : Docket) (k : Coll) (g : CStage) : List Int :=
  let n := partChunks d k g
  if g.gather then (List.range g.members.length).flatMap (fun m => (List.range n).flatMap (fun c => mapGet k.results (m * 2 ^ 40 + c) []))
  else (List.range n).flatMap (fun c => mapGet k.results c [])

/-- Values of the local contributions (R287, R288). -/
def contributions (x : Access) (d : Docket) : List (List FVal) × Access :=
  (List.range (coLocal d)).foldl (fun acc i =>
    let r := acc.2.rd (coSrc d + i * coStride d) (coBytes d (coCount d))
    (acc.1 ++ [decodeAll (coIn d) r.1 (coCount d)], r.2)) ([], x)

/-- The values of block b of each contribution. -/
def blockOf (cs : List (List FVal)) (b : Nat) : List FVal := cs.flatMap (fun l => (l.drop (1024 * b)).take 1024)

/-- The output bytes of rounded words or of words themselves (R82, R292, R294). -/
def roundOut (out w : Nat) (anchors : List Int) (l : List Int) : List Byte :=
  let e (i : Nat) : Int := anchors.getD (i / 1024) emptyAnchor
  if out = 13 then
    l.flatMap (fun q => natLe (twos 64 (if w = 64 then q else if q = nanCode 32 then nanCode 64 else if q = posInf 32 then posInf 64
      else if q = negInf 32 then negInf 64 else q * 2 ^ 32)) 8)
  else if out = 14 then l.flatMap (fun q => natLe (twos 32 (if w = 32 then q else narrow q)) 4)
  else (encodeAll out false ((l.zip (List.range l.length)).map (fun p => tallyVal w (e p.2) p.1))).1

/-- The places of the non-finite elements in the bytes of a reduction's result (R68). -/
def outNans (out : Nat) (bytes : List Byte) : List Nat :=
  let w := elemBits out / 8
  let es := chunksOf w bytes
  (List.range es.length).filter (fun i => nonfiniteIn out (es.getD i []) 1 == 1)

/-- The agreed codes of a collective's present elements as anchors. -/
def spanAnchors (k : Coll) : List Int := (k.codes.drop (k.base / 1024)).map (fun c => anchorOf c (headroom k.p))

/-- The contribution of one chunk of a hall-level result (R302): its bytes, the magnitudes flushed, and whether elements of the
chunk count as NONFINITE by the encoding (R74, R85). -/
def encodeComp (d : Docket) (fmt block : Nat) (l : List FVal) : List Byte × Nat :=
  match fmt with
  | 15 => (topkBlock (coKeep d) block l, 0)
  | 16 => let bs := (chunksOf 4096 l).map signBlock; (bs.flatMap (·.1), (bs.map (·.2)).sum)
  | f => ((quantGroup f l).1, 0)

/-- What a compression gives: contributions, decoded values, non-finite residues, magnitudes flushed, places of the elements that the
encoding made non-finite, and the accesses. -/
structure Compressed where
  enc : List (List Byte)
  dec : List FVal
  residues : Nat
  flushed : Nat
  lost : List Nat
  x : Access

/-- Compression of the hall-level result with error feedback (R302, R303). Every element of a NaN block of MX, and of a SIGN block with
a non-finite scale, counts as NONFINITE (R74, R85). -/
def compress (x : Access) (d : Docket) (k : Coll) (fmt : Nat) (vals : List FVal) : Compressed :=
  let n := vals.length
  let r := if coResIn d = 0 then (List.replicate (4 * n) (0 : Byte), x) else x.rd (coResIn d) (4 * n)
  let es := (unpack 32 r.1 n).map (decodeIeee (floatOf 0) 0)
  let y := (vals.zip es).map (fun p => f32 (p.1.add p.2))
  let cap := if fmt = 16 then 32768 else 4096
  let per := n / max 1 k.c / cap
  let cs := chunksOf cap y
  let enc := (cs.zip (List.range cs.length)).map (fun p => encodeComp d fmt (p.2 % max 1 per) p.1)
  let dec := (enc.zip (List.range enc.length)).flatMap (fun p => decodeComp d fmt (p.2 % max 1 per) p.1.1)
  let out := (y.zip dec).map (fun p => f32 (p.1.add p.2.neg))
  { enc := enc.map (·.1), dec := dec, residues := out.countP FVal.nonfinite, flushed := (enc.map (·.2)).sum
    lost := if fmt = 15 then [] else (List.range n).filter (fun i => (dec.getD i FVal.zero).nonfinite)
    x := r.2.wr (coResOut d) (out.flatMap (fun v => natLe (encodeFloat 0 false v) 4)) }

/-- Faults and counts of a stage's accesses go into the docket's entry. -/
def noteColl (s : State) (r : DocketRef) (x : Access) (nonfinite flushed : Nat) : State :=
  updEntry s 2056 r (fun e => { e with
    status := worst (e.status :: x.faults), badAddr := if e.status = 4 then e.badAddr else x.bad.getD e.badAddr
    nonfinite := e.nonfinite + nonfinite, flushed := e.flushed + flushed })

/-- Non-finite elements of a collective: those of the result that it writes, and those that it made non-finite on their way to another
member's result, each once (R68). -/
def collNans (k : Coll) (d : Docket) (out : List Byte) (fmt n : Nat) : Nat :=
  if coReduces d then
    let first := if dkOp d = 0 then k.base else 0
    let own := (outNans (coOut d) out).map (first + ·)
    own.length + k.nans.eraseDups.countP (fun i => !own.contains i)
  else if dkOp d = 4 then 0
  else nonfiniteIn fmt out n

/-- The result written to DST, mirrored where asked, with the digest (R68, R287, R304, R379, R394). -/
def writeResult (s : State) (k : Coll) (e : QEntry) : State :=
  let d := e.dk
  let bytes := if dkOp d = 4 then k.vec.flatMap (fun x => natLe (twos 16 x) 2) else k.vec.map (fun x => BitVec.ofInt 8 x)
  let widen := coWiden d && isMX (coIn d) && (dkOp d == 1 || dkOp d == 3)
  let out := if widen then (encodeAll 2 false (decodeAll (coIn d) bytes (coCount d))).1 else bytes
  let fmt := if widen then 2 else coIn d
  let n := if fmt = 15 then out.length / 5 else coCount d
  let x := (e.access s).wr (coDst d) out
  if x.stalled then s
  else
    let cs := chunksOf 4096 out
    let m := (cs.zip (List.range cs.length)).foldl (fun s p =>
      mirrorChunk s e.tenant.val p.2 (writeOp (coDst d + 4096 * p.2) 0 (tgenOf s e.tenant.val) 0 0 false false false 0 0) p.1) x.s
    let m := if widen then rinc m Reg.PORT_WIDEN_CHUNKS (coWidenCore d) 0 (bytes.length / groupBytes (coIn d)) else m
    dropColl (finish m 2056 e { x with s := m } (collNans k d out fmt n) 0 (digestOf e [(0, out)])) k.ref

/-- What conversion and local sums give: the words, how many leaves were flushed, the places that only the range made NaN, and the words
of local leaves beyond the bound. -/
structure Leaves where
  words : List Int
  flushed : Nat
  lost : List Nat
  beyond : Nat

/-- The first tally words of a collective: each leaf converted once, and the local contributions bounded under headroom h and added
(R81, R292, R294, R296). A single contribution is not added here and is bounded where it is received. -/
def leafWords (d : Docket) (w h : Nat) (anchors : List Int) (cs : List (List FVal)) : Leaves :=
  let ws := cs.map (tallyAll w anchors)
  let bound (q : Int) : Int × Bool := if coLocal d = 1 then (q, false) else boundWord w h q
  let at' (i : Nat) : List (Int × Bool) := ws.map (fun x => bound (x.1.getD i 0))
  let is := List.range (coCount d)
  { words := is.map (fun i => (tallySum w ((at' i).map (·.1))).1)
    flushed := (ws.map (·.2)).sum
    lost := is.filter (fun i =>
      let e := anchors.getD (i / 1024) emptyAnchor
      cs.any (fun l => tallyLost w e (l.getD i FVal.zero)) || (at' i).any (·.2) || (tallySum w ((at' i).map (·.1))).2)
    beyond := (is.map (fun i => (at' i).countP (·.2))).sum }

/-- A stage without exchange carried out: the collective goes on to the next. -/
def runMark (s : State) (k : Coll) (e : QEntry) : State :=
  let d := e.dk
  let g := stageOf k
  let next (s : State) (f : Coll → Coll) : State := updColl s k.ref (fun k => f { k with stages := k.stages.drop 1, past := g :: k.past })
  match g.kind with
  | 10 =>
    let x := (e.access s).wr (coScratch d) (k.vec.flatMap (fun c => natLe (twos 16 c) 2))
    let cs := contributions x d
    let anchors := k.vec.map (fun c => anchorOf c (headroom k.p))
    let first : Nat := ((k.stages.find? (fun g => g.kind == 2)).map (fun g => g.fmt)).getD 13
    let w := if coLocal d = 1 ∧ first = 14 then 32 else 64
    let ws := leafWords d w (headroom k.p) anchors cs.1
    if cs.2.stalled then s
    else
      let rf := if coLocal d = 1 then (false, cs.2.s) else residueFault cs.2.s 0
      if rf.1 then residueEnd rf.2 k 0
      else next (noteColl (rinc rf.2 Reg.TALLY_BOUND_NANS 0 0 ws.beyond) k.ref cs.2 0 ws.flushed) (fun k' =>
        { k' with codes := k.vec, vec := ws.words, w := w, base := 0, nans := k'.nans ++ ws.lost })
  | 11 =>
    if compressed' then
      let vals := (k.vec.zip (List.range k.vec.length)).map (fun p => f32 (tallyVal k.w ((spanAnchors k).getD (p.2 / 1024) emptyAnchor) p.1))
      next s (fun k' => { k' with leaves := vals.map (fun v => (encodeFloat 0 false v : Int)) })
    else
      let o := roundOut (coOut d) k.w (spanAnchors k) k.vec
      next s (fun k' => { k' with vec := o.map (fun b => (b.toNat : Int)) })
  | 12 =>
    let vals := k.leaves.map (fun b => decodeIeee (floatOf 0) 0 b.toNat)
    let c := compress (e.access s) d k ((levelFmts d).getD 2 13) vals
    let codes := (chunksOf 1024 c.dec).map localCode
    if c.x.stalled then s
    else next (noteColl c.x.s k.ref c.x c.residues c.flushed) (fun k' =>
      { k' with enc := c.enc, vec := codes, nans := k'.nans ++ c.lost.map (k.base + ·) })
  | 13 => next s (fun k' => { k' with gcodes := k.vec, vec := List.replicate k.leaves.length 0, w := 64 })
  | 14 =>
    let anchors := (k.gcodes.drop (k.base / 1024)).map (fun c => anchorOf c (headroom k.c))
    let o := roundOut (coOut d) 64 anchors k.vec
    next s (fun k' => { k' with vec := o.map (fun b => (b.toNat : Int)) })
  | _ => writeResult s k e
where
  compressed' : Bool := k.stages.any (fun g => g.kind == 12)

/-- A stage with exchange is entered: words are narrowed where the level carries T32 (R294), chunks are granted, and grants
that came early are served. -/
def enterStage (s : State) (k : Coll) (e : QEntry) : State :=
  let g := stageOf k
  let s := updColl s k.ref (fun k => { k with
    granted := 0, slots := [], results := [], sent := [], acked := 0, ready := []
    vec := if g.kind = 2 ∧ g.fmt = 14 ∧ k.w = 64 then k.vec.map narrow else k.vec
    nans := k.nans ++ (if g.kind = 2 ∧ g.fmt = 14 ∧ k.w = 64 then
      ((List.range k.vec.length).filter (fun i => finiteCode 64 (k.vec.getD i 0) && narrow (k.vec.getD i 0) == nanCode 32)).map (k.base + ·)
      else [])
    w := if g.kind = 2 ∧ g.fmt = 14 then 32 else k.w })
  let s := grantMore s e.dk k.ref (partChunks e.dk k g + 1)
  let mine := k.grants.filter (fun x => x.level == g.level && x.gather == g.gather && x.anchor == g.anchor)
  mine.foldl (fun s x => match collOf s k.ref with
    | none => s
    | some k => serveGrant s e.dk k g (firstIdx g.members (· == x.rank)) x.first x.count)
    (updColl s k.ref (fun k => { k with grants := k.grants.filter (fun x => !mine.contains x) }))

/-- A stage with exchange is over: every chunk is complete and every chunk sent is acknowledged. -/
def stageOver (d : Docket) (k : Coll) : Bool :=
  let g := stageOf k
  let n := partChunks d k g
  k.acked == answersDue d k g &&
    (if g.gather then (List.range g.members.length).all (fun m => (List.range n).all (fun c => (mapFind k.results (m * 2 ^ 40 + c)).isSome))
     else (List.range n).all (fun c => (mapFind k.results c).isSome))

/-- A collective goes on as far as it can without another arrival. -/
def goOn (s : State) (r : DocketRef) (fresh : Bool) (fuel : Nat) : State :=
  match fuel with
  | 0 => s
  | fuel + 1 =>
    match collOf s r, entryOf s 2056 r with
    | some k, some e =>
      let g := stageOf k
      if e.done then dropColl s r
      else if !g.comm then goOn (runMark s k e) r true fuel
      else
        let s := if fresh then enterStage s k e else grantMore s e.dk r (partChunks e.dk k g + 1)
        match collOf s r with
        | none => s
        | some k =>
          if !stageOver e.dk k then s
          else
            let vec := gathered e.dk k g
            let base := if g.kind = 2 ∨ g.kind = 5 then k.base + g.me * partLen k g else k.base
            goOn (updColl s r (fun k => { k with
              stages := k.stages.drop 1, past := g :: k.past, vec := vec, base := base })) r true fuel
    | _, _ => s

/-- Fuel for goOn: more than the stages of any collective. -/
def collFuel : Nat := 64

/-- A collective goes on, and then every other collective of its tenant, which may have waited for slots of the partition (R298). -/
def collsGo (s : State) (r : DocketRef) : State :=
  let s := goOn s r false collFuel
  (s.colls.filter (fun k => k.ref.tenant == r.tenant && k.ref != r)).foldl (fun s k => goOn s k.ref false collFuel) s

/-- The vector that a collective starts with, and the accesses. -/
def firstVec (x : Access) (d : Docket) (n rank : Nat) : List Int × Access :=
  match dkOp d with
  | 0 | 2 =>
    let cs := contributions x d
    ((List.range (coCount d / 1024)).map (fun b => localCode (blockOf cs.1 b)), cs.2)
  | 1 => let r := x.rd (coSrc d) (coBytes d (coCount d / max 1 n)); (r.1.map (fun b => (b.toNat : Int)), r.2)
  | 3 =>
    if rank = coRoot d then let r := x.rd (coSrc d) (coBytes d (coCount d)); (r.1.map (fun b => (b.toNat : Int)), r.2)
    else (List.replicate (coBytes d (coCount d)) 0, x)
  | _ => let r := x.rd (coSrc d) (2 * coCount d); ((unpack 16 r.1 (coCount d)).map (fun v => sext 16 v), r.2)

/-- P clamped at its start, with its CLAMP record (R129, R291). -/
def clampP (s : State) (e : QEntry) (l : Nat) : State × Nat :=
  let p := coP e.dk
  let a := if p = 0 then l else min (2 ^ 24) (max p l)
  if p = 0 ∨ p = a ∨ !coReduces e.dk then (s, a)
  else
    let s := raise s { code := 0x3C04, off := 0x58, lsb := 0, die := 8, unit := 0, tenant := e.tenant.val
                       dk := some e.words, args := [p, a] }
    (updEntry s 2056 e.toRef (fun e => { e with clamped := true }), a)

/-- A collective starts; one that has started goes on, where a zero fill held an access of it (R165, R287 to R298, R306). -/
def startColl (s : State) (op : Nat) (r : DocketRef) : State :=
  match (entryOf s 2056 r).filter (fun e => e.running && !e.started && !e.done && !e.cut && dkOp e.dk == op) with
  | none => if (entryOf s 2056 r).any (fun e => e.running && dkOp e.dk == op) then collsGo s r else s
  | some e =>
    let d := e.dk
    let t := e.tenant.val
    if rget s Reg.TALLY_PART_MIB 0 t < 4 ∨ rget s Reg.TALLY_PART_MIB 1 t < 4 then endColl s r 2
    else
      let gr := (e.access s).rdNat (coGroup d) 128
      if gr.2.stalled then s
      else if gr.2.faults ≠ [] then endColl (noteColl gr.2.s r gr.2 0 0) r (worst gr.2.faults)
      else
        let g := readGroup gr.1
        let devs := groupDevs g
        let rank := firstIdx devs (· == rget s Reg.ROUTE_OWN_DEV)
        if groupBad g ∨ devs.length ≤ rank ∨ countBad d g ∨ (dkOp d = 3 ∧ devs.length ≤ coRoot d) then endColl gr.2.s r 1
        else
          let faults := devs.filterMap (fun x => if x = rget s Reg.ROUTE_OWN_DEV then none else
            if peerFault s x = 0 then none else some 8)
          if faults ≠ [] then endColl gr.2.s r 8
          else
            let v := firstVec { gr.2 with stalled := false } d devs.length rank
            if v.2.stalled then s
            else
              let pc := clampP (noteColl v.2.s r v.2 0 0) e (spanL d g)
              let s := updEntry pc.1 2056 r (fun e => { e with started := true })
              let k : Coll := {
                ref := r, devs, rank, gens := devs.map (fun x => peerGen (peerOut s x)), tag := g.tag, mcast := g.mcast, p := pc.2
                a := g.slots.length, b := g.pods.length, c := g.halls.length, stages := stagesOf d g rank, past := []
                vec := v.1, w := 64, base := 0, codes := [], gcodes := [], leaves := [], enc := [], granted := 0, slots := []
                results := [], sent := [], acked := 0, grants := [], ready := [], nans := [] }
              goOn (setColls s (s.colls ++ [k])) r true collFuel

/-- REDUCE_SCATTER. -/
def execReduceScatter (ref : DocketRef) (s : State) : Host.Outcome State Fault Refusal :=
  .next (live s (fun s => startColl s 0 ref))

/-- ALL_GATHER. -/
def execAllGather (ref : DocketRef) (s : State) : Host.Outcome State Fault Refusal :=
  .next (live s (fun s => startColl s 1 ref))

/-- ALL_REDUCE. -/
def execAllReduce (ref : DocketRef) (s : State) : Host.Outcome State Fault Refusal :=
  .next (live s (fun s => startColl s 2 ref))

/-- BROADCAST. -/
def execBroadcast (ref : DocketRef) (s : State) : Host.Outcome State Fault Refusal :=
  .next (live s (fun s => startColl s 3 ref))

/-- ANCHOR_MAX. -/
def execAnchorMax (ref : DocketRef) (s : State) : Host.Outcome State Fault Refusal :=
  .next (live s (fun s => startColl s 4 ref))

-- arrivals (R297 to R301, R308) ---------------------------------------------------------------------------------------

/-- SRC_RANK of a Tally packet. -/
def tpRank (p : Packet) : Nat := pf p 136 14
/-- LEVEL. -/
def tpLevel (p : Packet) : Nat := pf p 132 2
/-- GATHER. -/
def tpGather (p : Packet) : Bool := pf p 135 1 == 1
/-- INSTANCE [9:0]. -/
def tpInst (p : Packet) : Nat := pf p 150 10
/-- GROUP_TAG. -/
def tpTag (p : Packet) : Nat := pf p 160 32
/-- CHUNK. -/
def tpChunk (p : Packet) : Nat := pf p 192 32
/-- CRC, or the number of chunks granted. -/
def tpCrc (p : Packet) : Nat := pf p 224 32

/-- The collective in progress that a Tally packet belongs to (R308). -/
def collFor (s : State) (p : Packet) : Option (Coll × QEntry) :=
  (s.colls.filterMap (fun k => (collEntry s k).map (fun e => (k, e)))).find? (fun x =>
    x.1.ref.tenant.val == pTenant p && x.1.tag == tpTag p && coInst x.2.dk % 1024 == tpInst p
      && x.1.devs[tpRank p]? == some (pSrc p))

/-- The packet belongs to a stage. -/
def inStage (p : Packet) (g : CStage) (anchor : Bool) : Bool :=
  g.comm && g.level == tpLevel p && g.gather == tpGather p && g.anchor == anchor

/-- An acknowledgement or refusal of a chunk goes back (R297, R299, R300). -/
def answer (s : State) (k : Coll) (g : CStage) (opc place c : Nat) : State :=
  send s (some 2056) (tallyPacket s k g opc place c 0 false []) (chunkDie c)

/-- A chunk dropped because it matches no collective in progress (R308). -/
def staleChunk (s : State) (c : Nat) : State := rinc s Reg.TALLY_STALE_CHUNKS (c % 2)

/-- A chunk fails its check (R300). -/
def crcFail (s : State) (l : LinkId) (k : Coll) (e : QEntry) (g : CStage) (place c : Nat) : State :=
  let f := c % 2
  let s := rinc s Reg.TALLY_CRC_ERRORS f
  let sl := mapGet k.slots c { got := [], fails := [] }
  let n := mapGet sl.fails place 0 + 1
  let s := updColl s k.ref (fun k => { k with slots := mapSet k.slots c { sl with fails := mapSet sl.fails place n } })
  if n = 6 then
    let s := raise s (evOf Reg.TALLY_CRC_ERRORS 0 (8 + f) 0 e.tenant.val (some { e.words with status := 3 }) [tpRankOf k place, c])
    collsGo (endColl s k.ref 3) k.ref
  else
    let s := if n = 3 then rinc (retrainApply l.val true s) Reg.TALLY_CRC_RETRAINS f else s
    answer s k g 12 place c
where
  tpRankOf (k : Coll) (place : Nat) : Nat := (stageOf k).members.getD place k.rank

/-- A chunk of the present stage passes its check (R296, R299, R301). -/
def takeChunk (s : State) (k : Coll) (e : QEntry) (g : CStage) (place c : Nat) (data : List Byte) : State :=
  match mapFind k.slots c with
  | none => s
  | some sl =>
    if sl.got.any (fun x => x.1 == place) then answer (rinc s Reg.TALLY_DUP_CHUNKS (c % 2)) k g 11 place c
    else
      let rf := addFault s g c
      if rf.1 then collsGo (residueEnd rf.2 k c) k.ref
      else collsGo (answer (takeWords rf.2 e.dk k g c place data) k g 11 place c) k.ref

/-- A data or anchor chunk arrives (R299, R300, R308). -/
def tallyArrival (s : State) (l : LinkId) (p : Packet) (anchor : Bool) : State :=
  let a := admitPacket s (some l) p
  let c := tpChunk p
  if !a.2 then a.1
  else match collFor a.1 p with
    | none => staleChunk a.1 c
    | some (k, e) =>
      let g := stageOf k
      let place := firstIdx g.members (· == tpRank p)
      if inStage p g anchor && decide (place < g.members.length) && (mapFind k.slots c).isSome then
        if crc32c (natLe (pf p 128 96) 12 ++ p.data) ≠ tpCrc p then crcFail a.1 l k e g place c
        else takeChunk a.1 k e g place c p.data
      else match (g :: k.past).find? (fun g => inStage p g anchor) with
        | some g =>
          if k.past.contains g ∨ c < k.granted then
            answer (rinc a.1 Reg.TALLY_DUP_CHUNKS (c % 2)) k g 11 (firstIdx g.members (· == tpRank p)) c
          else staleChunk a.1 c
        | none => staleChunk a.1 c

/-- TALLY_DATA. -/
def execTallyData (l : LinkId) (p : Packet) (s : State) : Host.Outcome State Fault Refusal :=
  .next (live s (fun s => if pOpc p = 8 then tallyArrival s l p false else s))

/-- TALLY_ANCHOR. -/
def execTallyAnchor (l : LinkId) (p : Packet) (s : State) : Host.Outcome State Fault Refusal :=
  .next (live s (fun s => if pOpc p = 9 then tallyArrival s l p true else s))

/-- A response of the Tally exchange reaches this module, and is not dropped by PERT RPL (R399). -/
def tallyResponse (s : State) (p : Packet) (opc : Nat) (f : State → Coll → QEntry → State) : State :=
  let a := admitPacket s none p
  let h := pertResponse a.1 8 opc (pTenant p)
  if pOpc p ≠ opc ∨ !a.2 ∨ h.1 then h.2
  else match collFor h.2 p with
    | none => if opc = 10 then staleChunk h.2 (tpChunk p) else h.2
    | some x => f h.2 x.1 x.2

/-- TALLY_GRANT (R298). -/
def execTallyGrant (p : Packet) (s : State) : Host.Outcome State Fault Refusal :=
  .next (live s (fun s => tallyResponse s p 10 (fun s k e =>
    let g := stageOf k
    let anchor := p.side == 1
    if inStage p g anchor then serveGrant s e.dk k g (firstIdx g.members (· == tpRank p)) (tpChunk p) (tpCrc p)
    else if k.stages.any (fun g => inStage p g anchor) then
      updColl s k.ref (fun k => { k with grants := k.grants ++ [
        { rank := tpRank p, level := tpLevel p, gather := tpGather p, anchor, first := tpChunk p, count := tpCrc p }] })
    else s)))

/-- The chunk that an answer names, among those awaiting one. -/
def sentTo (k : Coll) (g : CStage) (p : Packet) : Option (Nat × Nat × Nat) :=
  k.sent.find? (fun x => x.1 == firstIdx g.members (· == tpRank p) && x.2.1 == tpChunk p)

/-- TALLY_ACK (R298, R299, R305). -/
def execTallyAck (p : Packet) (s : State) : Host.Outcome State Fault Refusal :=
  .next (live s (fun s => tallyResponse s p 11 (fun s k _ =>
    match sentTo k (stageOf k) p with
    | none => s
    | some x =>
      collsGo (updColl s k.ref (fun k => { k with sent := k.sent.filter (· != x), acked := k.acked + 1 })) k.ref)))

/-- TALLY_NAK: the chunk is sent again at once (R300). -/
def execTallyNak (p : Packet) (s : State) : Host.Outcome State Fault Refusal :=
  .next (live s (fun s => tallyResponse s p 12 (fun s k e =>
    match sentTo k (stageOf k) p with
    | none => s
    | some x => sendTallyChunk s e.dk k (stageOf k) x.1 x.2.1 true)))

/-- TALLY_CHUNK_RESEND: CHUNK_RESEND_US without an answer (R299, R305). -/
def execTallyChunkResend (ref : DocketRef) (peer : Nat) (chunk : Nat) (s : State) : Host.Outcome State Fault Refusal :=
  .next (live s (fun s =>
    match collOf s ref, entryOf s 2056 ref with
    | some k, some e =>
      let g := stageOf k
      let place := firstIdx g.members (· == peer)
      match k.sent.find? (fun x => x.1 == place && x.2.1 == chunk) with
      | none => s
      | some x =>
        let f := chunk % 2
        let s := advanceTo s (x.2.2 + 1000 * rget s Reg.TALLY_CHUNK_RESEND_US f / resendShift s (8 + f))
        sendTallyChunk (rinc s Reg.TALLY_CHUNK_RESENDS f) e.dk k g place chunk true
    | _, _ => s))

/-- Collectives with a changed peer end FENCED (R306). -/
def fenceColls (s : State) (changed : Nat → Nat → Bool) : State :=
  s.colls.foldl (fun s k =>
    if (k.devs.zip k.gens).any (fun x => x.1 != rget s Reg.ROUTE_OWN_DEV && changed x.1 x.2) then collsGo (endColl s k.ref 8) k.ref else s) s

-- partitions (R312) ---------------------------------------------------------------------------------------------------

/-- The TALLY page of a fabric die. -/
def tallyPage (f : Nat) : Page := ⟨.tally, f⟩

/-- A tenant's partition fits: inside 96 MiB and clear of every other tenant's. -/
def partitionFits (s : State) (f t base mib : Nat) : Bool :=
  let lo := base * 65536
  let hi := lo + mib * 0x100000
  hi ≤ 96 * 0x100000 && (List.range 16).all (fun u =>
    let b := rget s Reg.TALLY_PART_BASE f u * 65536
    let n := partBytes s f u
    u == t || n == 0 || mib == 0 || hi ≤ b || b + n ≤ lo)

/-- Base and size of a partition applied together (R312): size 0 where it does not fit. -/
def partitionSet (w : Writer) (f t base mib : Nat) (s : State) : State :=
  let p := tallyPage f
  let s := setClamped s w p Reg.TALLY_PART_BASE t base
  let s := setClamped s w p Reg.TALLY_PART_MIB t mib
  let b := rget s Reg.TALLY_PART_BASE f t
  let m := rget s Reg.TALLY_PART_MIB f t
  if partitionFits s f t b m then s
  else reportFld (rset s Reg.TALLY_PART_MIB f t 0) p w Reg.TALLY_PART_MIB t 0 (mib % 128) 0

/-- A partition write applied, or refused and reported while the tenant has a collective in progress (R312): base and size, each where it
is written. -/
def partitionApply (w : Writer) (f t : Nat) (base mib : Option Nat) (s : State) : State :=
  let b := rget s Reg.TALLY_PART_BASE f t
  let m := rget s Reg.TALLY_PART_MIB f t
  if (queue s 2056).any (fun e => e.running && e.tenant.val == t) then
    let refuse (s : State) (r : Fld) (v : Option Nat) (old : Nat) : State :=
      match v with | none => s | some v => reportFld s (tallyPage f) w r t 2 v old
    refuse (refuse s Reg.TALLY_PART_BASE base b) Reg.TALLY_PART_MIB mib m
  else partitionSet w f t (base.getD b) (mib.getD m) s

/-- TALLY_PARTITION_WRITE. -/
def execTallyPartitionWrite (by' : Writer) (f : FDie) (t : TenantId) (base : BitVec 11) (mib : BitVec 7) (s : State) :
    Host.Outcome State Fault Refusal :=
  .next (gated s by' (tallyPage f.val) Reg.TALLY_PART_BASE t.val base.toNat (partitionApply by' f.val t.val (some base.toNat) (some mib.toNat)))

end Sys2Proof.Machine
end

