-- ==== Sys2Proof/Machine/Vector.lean ====
section
/-! DEFINITION. Sys2Proof/Machine/Vector.lean: the vector engine's chains, row reductions and tally streams: R108 to R112,
R134. -/

namespace Sys2Proof.Machine

/-- Chain step i: FUNC and SRC (R134). -/
def veStep (d : Docket) (i : Nat) : Nat × Nat := (dkf d 0x30 (8 * i) 5, dkf d 0x30 (8 * i + 5) 3)

/-- The steps of the chain up to the first FUNC 0. -/
def veChain (d : Docket) : List (Nat × Nat) := ((List.range 4).map (veStep d)).takeWhile (fun p => p.1 != 0)

/-- Format code of input k. -/
def veInFmt (d : Docket) (k : Nat) : Nat := dkf d 0x34 (5 * k) 5
/-- OUT_FMT. -/
def veOutFmt (d : Docket) : Nat := dkf d 0x34 15 5
/-- SAT. -/
def veSat (d : Docket) : Bool := dkf d 0x34 20 1 == 1
/-- RED. -/
def veRed (d : Docket) : Nat := dkf d 0x34 21 2
/-- ELEM_OUT. -/
def veElemOut (d : Docket) : Bool := dkf d 0x34 23 1 == 1
/-- Mode of input 1 or 2. -/
def veMode (d : Docket) (k : Nat) : Nat := dkf d 0x34 (22 + 2 * k) 2
/-- COUNT. -/
def veCount (d : Docket) : Nat := dkf d 0x38 0 25
/-- ROW_LEN. -/
def veRow (d : Docket) : Nat := dkf d 0x3C 0 17
/-- Offset of input k. -/
def veIn (d : Docket) (k : Nat) : Nat := dkf d (0x40 + 4 * k) 0 21
/-- OUT. -/
def veOut (d : Docket) : Nat := dkf d 0x4C 0 21
/-- ROW_OUT. -/
def veRowOut (d : Docket) : Nat := dkf d 0x50 0 21
/-- ANCHORS_IN. -/
def veAnchorsIn (d : Docket) : Nat := dkf d 0x54 0 21
/-- ANCHORS_OUT. -/
def veAnchorsOut (d : Docket) : Nat := dkf d 0x58 0 21

/-- Formats of a chain's streams (R109). -/
def chainFmt (f : Nat) : Bool := f ≤ 4 || f == 11 || f == 12

/-- Functions that read their operand (R134). -/
def readsOperand (f : Nat) : Bool := (1 ≤ f && f ≤ 6) || f == 18

/-- The chain reads input k. -/
def chainReads (d : Docket) (k : Nat) : Bool := (veChain d).any (fun p => readsOperand p.1 && p.2 + 1 == k)

/-- Rows of a VROW docket; a last row may be shorter (log entry 19). -/
def veRows (d : Docket) : Nat := ceilDiv (veCount d) (veRow d)

/-- Bytes of input k of a chain. -/
def veInBytes (d : Docket) (k : Nat) : Nat :=
  bytesOf (veInFmt d k) (if k ≠ 0 ∧ veMode d k = 1 then veRow d else veCount d)

/-- A VE docket completes PARAM_ERROR (R108, R109, R134). -/
def veError (d : Docket) : Bool :=
  let n := veCount d
  let nb := 2 * ceilDiv n 1024
  let i0 := veInFmt d 0
  let o := veOutFmt d
  n == 0 || 2 ^ 24 < n || veRow d == 0 || 65536 < veRow d ||
  match dkOp d with
  | 0 | 1 =>
    veChain d == [] || (veChain d).any (fun p => 18 < p.1 || (readsOperand p.1 && 3 < p.2)) || !chainFmt i0 || !chainFmt o
      || !inStore (veIn d 0) (veInBytes d 0)
      || [1, 2].any (fun k => chainReads d k &&
          (!chainFmt (veInFmt d k) || 1 < veMode d k || !inStore (veIn d k) (veInBytes d k)))
      || ((dkOp d == 0 || veElemOut d) && !inStore (veOut d) (bytesOf o n))
      || (dkOp d == 1 && !inStore (veRowOut d) (bytesOf o (veRows d)))
  | 2 =>
    !(i0 == 0 || i0 == 2) || !(o == 13 || o == 14) || !inStore (veIn d 0) (bytesOf i0 n) || !inStore (veAnchorsIn d) nb
      || !inStore (veOut d) (bytesOf o n) || !inStore (veAnchorsOut d) nb
  | 3 =>
    !(i0 == 13 || i0 == 14) || veInFmt d 1 != i0 || o != i0 || !inStore (veIn d 0) (bytesOf i0 n)
      || !inStore (veIn d 1) (bytesOf i0 n) || !inStore (veAnchorsIn d) nb || !inStore (veAnchorsOut d) nb
      || !inStore (veOut d) (bytesOf o n)
  | 4 =>
    !(i0 == 13 || i0 == 14) || !(o == 0 || o == 2) || !inStore (veIn d 0) (bytesOf i0 n) || !inStore (veAnchorsIn d) nb
      || !inStore (veOut d) (bytesOf o n)
  | 5 => !inStore (veIn d 0) (2 * n) || !inStore (veIn d 1) (2 * n) || !inStore (veOut d) (2 * n)
  | _ => true

/-- The clamped field of a VE docket: VTTO's P above 2^24 (R108, R129). -/
def veClamps (d : Docket) : List DkClamp :=
  let p := dkf d 0x68 0 25
  if dkOp d = 2 ∧ 2 ^ 24 < p then [{ off := 0x68, lsb := 0, width := 25, written := p, applied := 2 ^ 24 }] else []

-- functions (R109, R111) ----------------------------------------------------------------------------------------------

/-- The larger or smaller value as IEEE 754-2019 maximum and minimum: NaN wins, -0 lies below +0. -/
def fmax (a b : FVal) : FVal :=
  match a, b with
  | .nan, _ | _, .nan => .nan
  | .fin n 0 _, .fin k 0 _ => .fin (n && k) 0 0
  | a, b => if a.lt b then b else a

/-- The smaller value. -/
def fmin (a b : FVal) : FVal :=
  match a, b with
  | .nan, _ | _, .nan => .nan
  | .fin n 0 _, .fin k 0 _ => .fin (n || k) 0 0
  | a, b => if b.lt a then b else a

/-- A transcendental function: special values of IEEE 754-2019, and the limits of SIGMOID, GELU and SILU at the infinities, otherwise the
part's own algorithm within its bound (R111; log entries 7 and 19). -/
def transcend (f : Nat) (x : FVal) : FVal :=
  let own := near111 f x
  match f, x with
  | _, .nan => .nan
  | 10, .inf n => if n then FVal.zero else .inf false
  | 10, .fin _ 0 _ => FVal.one false
  | 11, .inf n => if n then .nan else .inf false
  | 11, .fin n m e => if m = 0 then .inf true else if n then .nan else if m * 2 ^ e.toNat = 2 ^ (-e).toNat then FVal.zero else own
  | 12, .inf n => .fin n 0 0
  | 12, .fin n 0 _ => .inf n
  | 13, .inf n => if n then .nan else FVal.zero
  | 13, .fin n m _ => if m = 0 then .inf n else if n then .nan else own
  | 14, .inf n => FVal.one n
  | 14, .fin n 0 _ => .fin n 0 0
  | 15, .inf n => if n then FVal.zero else FVal.one false
  | _, .inf n => if n then .fin n 0 0 else .inf false
  | _, _ => own

/-- One chain step on the running value r and operand a, rounded once to FP32 (R20, R109, R134). -/
def chainFn (f : Nat) (r a s1 : FVal) (n : Int) : FVal :=
  f32 (match f with
    | 1 => r.add a
    | 2 => r.add a.neg
    | 3 => r.mul a
    | 4 => (r.mul a).add s1
    | 5 => fmin r a
    | 6 => fmax r a
    | 7 => r.abs
    | 8 => r.neg
    | 9 => r.scale n
    | 18 => if a.lt r then r else s1
    | f => transcend f r)

/-- The chain at one element (R134). -/
def chainAt (d : Docket) (x0 x1 x2 : FVal) : FVal :=
  let s0 := decodeElem 0 (dkf d 0x5C 0 32)
  let s1 := decodeElem 0 (dkf d 0x60 0 32)
  (veChain d).foldl (fun r p =>
    chainFn p.1 r (if p.2 = 0 then x1 else if p.2 = 1 then x2 else if p.2 = 2 then s0 else s1) s1 (sext 8 (dkf d 0x64 0 8)))
    x0

/-- Values widened to FP32, INT32 with rounding (R109). -/
def widen32 (fmt : Nat) (bytes : List Byte) (n : Nat) : List FVal := (decodeAll fmt bytes n).map f32

/-- One reduction step of RED (R112, R134; log entry 19). -/
def reduce2 (red : Nat) (a b : FVal) : FVal :=
  match red with | 1 => fmax a b | 2 => fmin a b | _ => f32 (a.add b)

/-- One level of the pairwise combination: absent lanes do not take part. -/
def pairUp (red : Nat) (l : List (Option FVal)) : List (Option FVal) :=
  match l with
  | a :: b :: r => (match a, b with
      | some a, some b => some (reduce2 red a b)
      | some a, none => some a
      | none, b => b) :: pairUp red r
  | l => l

/-- A row reduced in 256 lanes and pairwise (R112). SUMSQ rounds each square to FP32 before it is added: DESIGN CHOICE, the rule speaks of one
rounding per addition only (log entry 19). -/
def reduceRow (red : Nat) (l : List FVal) : FVal :=
  let l := if red = 3 then l.map (fun x => f32 (x.mul x)) else l
  let lanes := (chunksOf 256 l).foldl (fun acc row =>
    (List.range 256).map (fun i => match acc.getD i none, row[i]? with
      | some a, some b => some (reduce2 red a b)
      | some a, none => some a
      | none, b => b)) ([] : List (Option FVal))
  ((List.range 8).foldl (fun l _ => pairUp red l) lanes).head?.join.getD FVal.zero

-- operations ----------------------------------------------------------------------------------------------------------

/-- An input stream or broadcast vector of a chain. -/
def readIn (x : Access) (base : Nat) (d : Docket) (k : Nat) : Array FVal × Access :=
  let n := if k ≠ 0 ∧ veMode d k = 1 then veRow d else veCount d
  let r := x.rd (base + veIn d k) (bytesOf (veInFmt d k) n)
  ((widen32 (veInFmt d k) r.1 n).toArray, r.2)

/-- An input that the chain does not read is not accessed. -/
def readIf (x : Access) (base : Nat) (d : Docket) (k : Nat) : Array FVal × Access :=
  if chainReads d k then readIn x base d k else (#[], x)

/-- The chain's results over the stream. -/
def chainAll (x : Access) (base : Nat) (d : Docket) : List FVal × Access :=
  let a := readIn x base d 0
  let b := readIf a.2 base d 1
  let c := readIf b.2 base d 2
  let idx (k i : Nat) : Nat := if veMode d k = 1 then i % veRow d else i
  ((List.range (veCount d)).map (fun i =>
    chainAt d (a.1.getD i FVal.zero) (b.1.getD (idx 1 i) FVal.zero) (c.1.getD (idx 2 i) FVal.zero)), c.2)

/-- VMAP's result (R108, R109). -/
def veMap (x : Access) (base : Nat) (d : Docket) : OpOut :=
  let r := chainAll x base d
  let o := encodeAll (veOutFmt d) (veSat d) r.1
  { x := r.2, outs := [(base + veOut d, o.1)], nonfinite := o.2, flushed := 0 }

/-- VROW's result (R112). -/
def veRowOp (x : Access) (base : Nat) (d : Docket) : OpOut :=
  let r := chainAll x base d
  let rows := encodeAll (veOutFmt d) (veSat d) ((chunksOf (veRow d) r.1).map (reduceRow (veRed d)))
  let elems := if veElemOut d then [(encodeAll (veOutFmt d) (veSat d) r.1)] else []
  { x := r.2, outs := elems.map (fun e => (base + veOut d, e.1)) ++ [(base + veRowOut d, rows.1)],
    nonfinite := rows.2 + (elems.map (·.2)).sum, flushed := 0 }

/-- Word width of a tally format. -/
def wordBits (fmt : Nat) : Nat := if fmt = 13 then 64 else 32

/-- An anchor array of one int16 a block. -/
def readAnchors (x : Access) (a n : Nat) : List Int × Access :=
  let k := ceilDiv n 1024
  let r := x.rd a (2 * k)
  ((unpack 16 r.1 k).map anchorBits, r.2)

/-- VTTO's result (R80, R108). -/
def veTto (x : Access) (base : Nat) (d : Docket) : OpOut :=
  let n := veCount d
  let w := wordBits (veOutFmt d)
  let a := readAnchors x (base + veAnchorsIn d) n
  let h := headroom (max 1 (dkf d 0x68 0 25))
  let es := a.1.map (fun c => anchorOf c h)
  let r := a.2.rd (base + veIn d 0) (bytesOf (veInFmt d 0) n)
  let t := tallyAll w es (decodeAll (veInFmt d 0) r.1 n)
  let bad := (t.1.zip (List.range n)).countP (fun p => wordNonfinite w (es.getD (p.2 / 1024) 0) p.1)
  { x := r.2, outs := [(base + veOut d, pack w (t.1.map (twos w))), (base + veAnchorsOut d, pack 16 (es.map (twos 16)))],
    nonfinite := bad, flushed := t.2 }

/-- The words of a tally stream. -/
def readWords (x : Access) (a w n : Nat) : List Int × Access :=
  let r := x.rd a (w / 8 * n)
  ((unpack w r.1 n).map (sext w), r.2)

/-- VTADD's result (R81, R109). -/
def veTadd (x : Access) (base : Nat) (d : Docket) : OpOut :=
  let n := veCount d
  let w := wordBits (veInFmt d 0)
  let a := readWords x (base + veIn d 0) w n
  let b := readWords a.2 (base + veIn d 1) w n
  let ea := readAnchors b.2 (base + veAnchorsIn d) n
  let eb := readAnchors ea.2 (base + veAnchorsOut d) n
  let ws := ((a.1.zip b.1).zip (List.range n)).map (fun p =>
    if ea.1.getD (p.2 / 1024) 0 = eb.1.getD (p.2 / 1024) 0 then tallyAdd w p.1.1 p.1.2 else nanCode w)
  let bad := (ws.zip (List.range n)).countP (fun p =>
    ea.1.getD (p.2 / 1024) 0 != eb.1.getD (p.2 / 1024) 0 || wordNonfinite w (ea.1.getD (p.2 / 1024) 0) p.1)
  { x := eb.2, outs := [(base + veOut d, pack w (ws.map (twos w)))], nonfinite := bad, flushed := 0 }

/-- VTROUND's result (R82). -/
def veTround (x : Access) (base : Nat) (d : Docket) : OpOut :=
  let n := veCount d
  let w := wordBits (veInFmt d 0)
  let a := readWords x (base + veIn d 0) w n
  let e := readAnchors a.2 (base + veAnchorsIn d) n
  let o := encodeAll (veOutFmt d) false ((a.1.zip (List.range n)).map (fun p => tallyVal w (e.1.getD (p.2 / 1024) 0) p.1))
  { x := e.2, outs := [(base + veOut d, o.1)], nonfinite := o.2, flushed := 0 }

/-- VAMAX's result (R79, R108). -/
def veAmax (x : Access) (base : Nat) (d : Docket) : OpOut :=
  let n := veCount d
  let a := readWords x (base + veIn d 0) 16 n
  let b := readWords a.2 (base + veIn d 1) 16 n
  { x := b.2, outs := [(base + veOut d, pack 16 ((a.1.zip b.1).map (fun p => twos 16 (max p.1 p.2))))], nonfinite := 0,
    flushed := 0 }

/-- A VE operation's outputs are written and the docket's work is done; ELEMENTS counts what it wrote. -/
def veRun (s : State) (core op : Nat) (f : Access → Nat → Docket → OpOut) (elements : Docket → Nat) : State :=
  match runningOp s (4 * core + 1) 1 op with
  | none => s
  | some e =>
    let r := f (e.access s) (coreBase core) e.dk
    let x := writeAll r.x r.outs
    if x.stalled then s
    else rinc (finish s (4 * core + 1) e x r.nonfinite r.flushed (digestOf e r.outs)) Reg.VEC_ELEMENTS core 0 (elements e.dk)

/-- VMAP. -/
def execVmap (core : CoreId) (s : State) : Host.Outcome State Fault Refusal :=
  .next (live s (fun s => veRun s core.val 0 veMap veCount))

/-- VROW. -/
def execVrow (core : CoreId) (s : State) : Host.Outcome State Fault Refusal :=
  .next (live s (fun s => veRun s core.val 1 veRowOp (fun d => veRows d + (if veElemOut d then veCount d else 0))))

/-- VTTO. -/
def execVtto (core : CoreId) (s : State) : Host.Outcome State Fault Refusal :=
  .next (live s (fun s => veRun s core.val 2 veTto veCount))

/-- VTADD. -/
def execVtadd (core : CoreId) (s : State) : Host.Outcome State Fault Refusal :=
  .next (live s (fun s => veRun s core.val 3 veTadd veCount))

/-- VTROUND. -/
def execVtround (core : CoreId) (s : State) : Host.Outcome State Fault Refusal :=
  .next (live s (fun s => veRun s core.val 4 veTround veCount))

/-- VAMAX. -/
def execVamax (core : CoreId) (s : State) : Host.Outcome State Fault Refusal :=
  .next (live s (fun s => veRun s core.val 5 veAmax veCount))

end Sys2Proof.Machine
end

