-- ==== Sys2Proof/Machine/Post.lean ====
section
/-! DEFINITION. Sys2Proof/Machine/Post.lean: what the Mill computes on stored bytes and decoded pictures: transport-stream
lock and demultiplexing, caption bytes, and a picture's way to tokens: R192, R193, R198 to R205. -/

namespace Sys2Proof.Machine

-- transport streams (R192, R193) --------------------------------------------------------------------------------------

/-- What a demultiplexer has found: packet offsets in order, bytes skipped, losses of lock. -/
structure TsScan where
  packets : List Nat
  skipped : Nat
  losses : Nat
deriving DecidableEq, Repr

/-- The byte at i is a sync byte. -/
def isSync (b : Array Byte) (i : Nat) : Bool := b.getD i 0 == 0x47

/-- Lock is searched from byte i, or held with the next packet at i: the offset of the last packet that held 0x47 and the
misses since (R192). -/
def tsScan (b : Array Byte) (i : Nat) (locked : Option (Nat × Nat)) (t : TsScan) (fuel : Nat) : TsScan :=
  match fuel with
  | 0 => t
  | fuel + 1 =>
    match locked with
    | none =>
      if b.size ≤ i then t
      else if i + 376 < b.size ∧ isSync b i ∧ isSync b (i + 188) ∧ isSync b (i + 376) then tsScan b i (some (i, 0)) t fuel
      else tsScan b (i + 1) none { t with skipped := t.skipped + 1 } fuel
    | some (good, miss) =>
      if b.size < i + 188 then t
      else if isSync b i then tsScan b (i + 188) (some (i, 0)) { t with packets := t.packets ++ [i] } fuel
      else if miss = 2 then tsScan b (good + 188) none { t with losses := t.losses + 1 } fuel
      else tsScan b (i + 188) (some (good, miss + 1)) t fuel

/-- The PES packet under assembly: its bytes so far, header included, and whether it is damaged (R193). -/
structure Pes where
  bytes : List Byte
  damaged : Bool
deriving DecidableEq, Repr

/-- The demultiplexer of one PID (R193): the elementary stream, each byte with whether its PES packet is damaged; where in it a PES packet with
a PTS begins, and that PTS; the packet under assembly, the last continuity counter, and the counts. -/
structure Demux where
  es : List (Byte × Bool)
  marks : List (Nat × Nat)
  pes : Option Pes
  cc : Option Nat
  tei : Nat
  scrambled : Nat
  ccErrors : Nat
deriving DecidableEq, Repr

/-- A demultiplexer at the start of a span. -/
def Demux.start : Demux := { es := [], marks := [], pes := none, cc := none, tei := 0, scrambled := 0, ccErrors := 0 }

/-- The PTS of a PES header. -/
def pesPts (p : List Byte) : Option Nat :=
  let b (i : Nat) : Nat := (p.getD i 0).toNat
  if b 7 / 128 = 1 then
    some (b 9 / 2 % 8 * 2 ^ 30 + b 10 * 2 ^ 22 + b 11 / 2 * 2 ^ 15 + b 12 * 2 ^ 7 + b 13 / 2)
  else none

/-- The packet under assembly is complete: its data joins the elementary stream. One of PES_packet_length 0 has all that came (R193). -/
def Demux.flush (d : Demux) : Demux :=
  match d.pes with
  | none => d
  | some p =>
    let b (i : Nat) : Nat := (p.bytes.getD i 0).toNat
    let n := b 4 * 256 + b 5
    let all := if n = 0 then p.bytes else p.bytes.take (6 + n)
    let marks := match pesPts all with | some t => [(d.es.length, t)] | none => []
    { d with es := d.es ++ (all.drop (9 + b 8)).map (fun x => (x, p.damaged)), marks := d.marks ++ marks, pes := none }

/-- One packet of 188 bytes: a continuity gap damages the PES packet under assembly, which a packet that starts the next one only ends (R193).
Bytes before the first start of a PES packet belong to none (log entry 24). -/
def Demux.packet (d : Demux) (pid : Nat) (p : List Byte) : Demux :=
  let b (i : Nat) : Nat := (p.getD i 0).toNat
  if b 1 % 32 * 256 + b 2 ≠ pid then d
  else if b 1 / 128 = 1 then { d with tei := d.tei + 1 }
  else if b 3 / 64 ≠ 0 then { d with scrambled := d.scrambled + 1 }
  else
    let afc := b 3 / 16 % 4
    let cc := b 3 % 16
    let disc := afc ≥ 2 && b 4 != 0 && b 5 / 128 == 1
    let payload := p.drop (if afc ≥ 2 then 5 + b 4 else 4)
    if afc % 2 = 0 then d
    else if d.cc = some cc ∧ !disc then d
    else
      let gap := match d.cc with | none => false | some c => !disc && (c + 1) % 16 != cc
      let d := { d with cc := some cc, ccErrors := d.ccErrors + b2n gap, pes := d.pes.map (fun (q : Pes) => { q with damaged := q.damaged || gap }) }
      if b 1 / 64 % 2 = 1 then { d.flush with pes := some { bytes := payload, damaged := false } }
      else { d with pes := d.pes.map (fun (q : Pes) => { q with bytes := q.bytes ++ payload }) }

/-- The elementary stream of one PID of the packets found. -/
def demux (b : Array Byte) (packets : List Nat) (pid : Nat) : Demux :=
  (packets.foldl (fun d i => d.packet pid ((b.extract i (i + 188)).toList)) Demux.start).flush

-- captions (R203 to R205) ---------------------------------------------------------------------------------------------

/-- Odd parity of a byte. -/
def oddParity (b : Byte) : Bool := ((List.range 8).countP (fun i => b.getLsbD i)) % 2 == 1

/-- A CEA-608 byte checked and stripped: the byte and the error count (R203). -/
def cc608 (b : Byte) : Byte × Nat := if oddParity b then (b &&& 0x7F, 0) else (0x7F, 1)

/-- The bytes of one CEA-608 field in a picture, and the errors. -/
def field608 (t : List (Nat × Byte × Byte)) (field : Nat) : List Byte × Nat :=
  (t.filter (fun x => x.1 == field)).foldl (fun acc x =>
    let a := cc608 x.2.1
    let b := cc608 x.2.2
    (acc.1 ++ (if a.1 = 0 ∧ b.1 = 0 then [] else [a.1, b.1]), acc.2 + a.2 + b.2)) ([], 0)

/-- The DTVCC packet under assembly: last sequence number, its bytes and its size; and what a span has given (R204). -/
structure Dtvcc where
  last : Option Nat
  bytes : List Byte
  size : Nat
  out : List Byte
  errors : Nat
deriving DecidableEq, Repr

/-- The data of the service blocks of one service in a packet's bytes (R204). -/
def serviceData (service : Nat) (l : List Byte) (fuel : Nat) : List Byte :=
  match fuel with
  | 0 => []
  | fuel + 1 =>
    match l with
    | [] => []
    | h :: r =>
      let n := h.toNat % 32
      let num := h.toNat / 32
      let ext := num = 7 ∧ n ≠ 0
      let num := if ext then (r.headD 0).toNat % 64 else num
      let r := if ext then r.drop 1 else r
      (if num = service then r.take n else []) ++ serviceData service (r.drop n) fuel

/-- Bytes added to the packet under assembly; a whole packet gives its service's data. -/
def Dtvcc.add (d : Dtvcc) (service : Nat) (l : List Byte) : Dtvcc :=
  let b := d.bytes ++ l
  if d.size = 0 ∨ b.length < d.size then { d with bytes := b }
  else { d with bytes := [], size := 0, out := d.out ++ serviceData service (b.take d.size) d.size }

/-- One triplet of cc_type 2 or 3. -/
def Dtvcc.triplet (d : Dtvcc) (service : Nat) (t : Nat × Byte × Byte) : Dtvcc :=
  if t.1 = 3 then
    let h := t.2.1.toNat
    let broken := match d.last with | none => false | some n => (n + 1) % 4 != h / 64
    let size := if h % 64 = 0 then 127 else 2 * (h % 64) - 1
    { d with last := some (h / 64), bytes := [], size := size, errors := d.errors + b2n broken }.add service [t.2.2]
  else if t.1 = 2 ∧ d.size ≠ 0 then d.add service [t.2.1, t.2.2]
  else d

/-- The captions of one picture: entries by kind, errors, and the DTVCC packet under assembly. -/
def pictureCaptions (d : Dtvcc) (service : Nat) (t : List (Nat × Byte × Byte)) : List (Nat × List Byte) × Nat × Dtvcc :=
  let a := field608 t 0
  let b := field608 t 1
  let d := t.foldl (fun d x => if service = 0 then d else d.triplet service x) { d with out := [], errors := 0 }
  ([(0, a.1), (1, b.1), (2, d.out)].filter (fun e => !e.2.isEmpty), a.2 + b.2 + d.errors, d)

/-- The caption entries of a picture's bytes of one kind (R205). -/
def captionEntries (display kind : Nat) (l : List Byte) : List (List Byte) :=
  (chunksOf 255 l).map (fun p => natLe display 4 ++ natLe kind 1 ++ natLe p.length 1 ++ natLe 0 2 ++ p ++
    List.replicate ((4 - p.length % 4) % 4) 0)

-- from picture to tokens (R197 to R202) -------------------------------------------------------------------------------

/-- A plane of samples. -/
structure Plane where
  w : Nat
  h : Nat
  v : Array (Option Nat)
deriving DecidableEq, Repr

/-- The sample at (x, y), edges repeated. -/
def Plane.at' (p : Plane) (x y : Nat) : Option Nat := p.v.getD (min y (p.h - 1) * p.w + min x (p.w - 1)) none

/-- A plane built sample by sample. -/
def Plane.build (w h : Nat) (f : Nat → Nat → Option Nat) : Plane :=
  { w, h, v := ((List.range h).flatMap (fun y => (List.range w).map (fun x => f x y))).toArray }

/-- The settings of a profile (R216). -/
structure Profile where
  deint : Nat
  filter : Nat
  aspect : Nat
  colour : Nat
  prim709 : Bool
  fmt : Nat
  sat : Bool
  patch : Nat
  gridW : Nat
  gridH : Nat
  thresh : Nat
deriving DecidableEq, Repr

/-- A plane deinterlaced (R198): mode 1 NONE, 2 BOB, 3 MOTION; first is the parity of the first field's lines. Beside a sample that is filled
with grey (R209) a decoded one stands as it is (log entry 24). -/
def deinterlace (mode first depth thresh : Nat) (p : Plane) : Plane :=
  match mode with
  | 2 => Plane.build p.w (p.h / 2) (fun x y => p.at' x (2 * y + first))
  | 3 => Plane.build p.w p.h (fun x y =>
      if y % 2 = first then p.at' x y
      else
        let up := if y = 0 then p.at' x first else p.at' x (y - 1)
        let down := if y + 1 < p.h then p.at' x (y + 1) else up
        match p.at' x y, up, down with
        | some w, some a, some b =>
          let i := (a + b + 1) / 2
          let d := if w < i then i - w else w - i
          some (if d * (if depth = 8 then 4 else 1) ≤ thresh then w else i)
        | w, _, _ => w)
  | _ => p

/-- The deinterlace mode in force for a source (R198). -/
def deintMode (p : Profile) (interlaced : Bool) : Nat := if !interlaced then 1 else if p.deint = 0 then 3 else p.deint

/-- Four times the position among chroma samples of luma position x, for a subsampled direction with the chroma sample
off quarters of a luma sample away (R198). -/
def chromaPos (x off : Nat) : Int := 2 * (x : Int) - off

/-- Sixteen times the chroma value at luma (x, y), by linear interpolation at the siting (R198). -/
def chromaAt (p : Plane) (siting : Nat) (c422 : Bool) (x y : Nat) : Option Nat :=
  let offX := if siting % 2 = 1 then 1 else 0
  let offY := if siting < 2 then 1 else if siting < 4 then 0 else 2
  let qx := chromaPos x offX
  let qy := if c422 then 4 * (y : Int) else chromaPos y offY
  let x0 := (qx / 4).toNat
  let y0 := (qy / 4).toNat
  let tx := if qx < 0 then 0 else (qx % 4).toNat
  let ty := if qy < 0 then 0 else (qy % 4).toNat
  match p.at' x0 y0, p.at' (x0 + 1) y0, p.at' x0 (y0 + 1), p.at' (x0 + 1) (y0 + 1) with
  | some a, some b, some c, some d => some ((a * (4 - tx) + b * tx) * (4 - ty) + (c * (4 - tx) + d * tx) * ty)
  | _, _, _, _ => none

/-- A chroma plane with its lost samples filled with grey: the code of cb = cr = 0 (R200, R209). -/
def greyFill (depth : Nat) (p : Plane) : Plane := { p with v := p.v.map (fun x => some (x.getD (2 ^ (depth - 1)))) }

/-- An image of three channels of FP32 values. -/
structure Image where
  w : Nat
  h : Nat
  c0 : Array FVal
  c1 : Array FVal
  c2 : Array FVal
deriving DecidableEq, Repr

/-- One FP32 quotient. -/
def div32 (a b : FVal) : FVal := f32 (a.div b)
/-- One FP32 product. -/
def mul32 (a b : FVal) : FVal := f32 (a.mul b)
/-- One FP32 sum. -/
def add32 (a b : FVal) : FVal := f32 (a.add b)
/-- One FP32 difference. -/
def sub32 (a b : FVal) : FVal := f32 (a.add b.neg)
/-- The FP32 value nearest to n / d. -/
def rat32 (n d : Nat) : FVal := f32 ((FVal.ofInt n).div (FVal.ofInt d))

/-- A sample of 1/16 units normalised (R200). -/
def normalise (full luma : Bool) (depth : Nat) (v : Option Nat) : FVal :=
  let n : Int := 2 ^ depth
  let sc : Int := 2 ^ (depth - 8)
  match v with
  | none => if luma then .fin false 1 (-1) else FVal.zero
  | some k =>
    let x : FVal := .fin false k (-4)
    if full then
      if luma then div32 x (FVal.ofInt (n - 1)) else div32 (sub32 x (FVal.ofInt (n / 2))) (FVal.ofInt (n - 1))
    else if luma then div32 (sub32 x (FVal.ofInt (16 * sc))) (FVal.ofInt (219 * sc))
    else div32 (sub32 x (FVal.ofInt (128 * sc))) (FVal.ofInt (224 * sc))

/-- A picture deinterlaced, upsampled and normalised (R198, R200). -/
def toImage (pr : Profile) (interlaced tff full : Bool) (pic : Config.Picture) : Image :=
  let mode := deintMode pr interlaced
  let first := if tff then 0 else 1
  let sub (n : Nat) : Nat := (n + 1) / 2
  let ch := if pic.c422 then pic.h else sub pic.h
  let de (p : Plane) : Plane := deinterlace mode first pic.depth pr.thresh p
  let y := de ⟨pic.w, pic.h, pic.y.toArray⟩
  let cb := de ⟨sub pic.w, ch, pic.cb.toArray⟩
  let cr := de ⟨sub pic.w, ch, pic.cr.toArray⟩
  let ys := (List.range y.h).flatMap (fun j => (List.range y.w).map (fun i => (i, j)))
  { w := y.w, h := y.h
    c0 := (ys.map (fun p => normalise full true pic.depth ((y.at' p.1 p.2).map (16 * ·)))).toArray
    c1 := (ys.map (fun p => normalise full false pic.depth (chromaAt (greyFill pic.depth cb) pic.siting pic.c422 p.1 p.2))).toArray
    c2 := (ys.map (fun p => normalise full false pic.depth (chromaAt (greyFill pic.depth cr) pic.siting pic.c422 p.1 p.2))).toArray }

/-- The nearest even number to n / d. -/
def nearestEven (n d : Nat) : Nat := 2 * ((n + d) / (2 * d))

/-- The part of a picture that is kept: x, y, width and height in the frame (R199). -/
def cropOf (aspect w h sarW sarH gridW gridH : Nat) : Nat × Nat × Nat × Nat :=
  let dn := w * sarW * gridH
  let dd := h * sarH * gridW
  if aspect ≠ 1 then (0, 0, w, h)
  else if dd < dn then
    let k := nearestEven (w * dd) dn
    ((w - k) / 2 / 2 * 2, 0, k, h)
  else
    let k := nearestEven (h * dn) dd
    (0, (h - k) / 2 / 2 * 2, w, k)

/-- The size that the kept part is scaled to: the grid, or the largest size that fits it at the DAR (R199; log entry 24). -/
def outSize (aspect w h sarW sarH gridW gridH patch : Nat) : Nat × Nat :=
  let gw := gridW * patch
  let gh := gridH * patch
  let dn := w * sarW
  let dd := h * sarH
  if aspect ≠ 2 then (gw, gh)
  else if dn * gh ≤ gw * dd then (max 1 (gh * dn / dd), gh) else (gw, max 1 (gw * dd / dn))

/-- The filter kernel at x (R201). -/
def kernel (filter : Nat) (x : FVal) : FVal :=
  let x := x.abs
  let k (n : Int) (e : Int) : FVal := .fin (n < 0) n.natAbs e
  match filter with
  | 0 => if (FVal.one false).lt x then FVal.zero else sub32 (FVal.one false) x
  | 1 =>
    let x2 := mul32 x x
    let x3 := mul32 x2 x
    if (k 2 0).lt x then FVal.zero
    else if (FVal.one false).lt x then
      add32 (sub32 (add32 (mul32 (k (-1) (-1)) x3) (mul32 (k 5 (-1)) x2)) (mul32 (k 4 0) x)) (k 2 0)
    else add32 (sub32 (mul32 (k 3 (-1)) x3) (mul32 (k 5 (-1)) x2)) (FVal.one false)
  | _ =>
    let s (v : FVal) : FVal := decodeIeee (floatOf 0) 0 (Config.sinc (BitVec.ofNat 32 (encodeFloat 0 false v))).toNat
    if (k 3 0).lt x then FVal.zero else mul32 (s x) (s (div32 x (k 3 0)))

/-- Support of a kernel. -/
def support (filter : Nat) : Nat := filter + 1

/-- The taps of output o: positions and normalised weights (R201). -/
def taps (filter lin lout o : Nat) : List (Int × FVal) :=
  let half : FVal := .fin false 1 (-1)
  let r := rat32 lin lout
  let c := sub32 (mul32 (add32 (FVal.ofInt o) half) r) half
  let m := if r.lt (FVal.one false) then FVal.one false else r
  let span := mul32 (FVal.ofInt (support filter)) m
  let reach : Int := ((support filter + 1) * (lin / max 1 lout + 1) + 1 : Nat)
  let mid : Int := (o : Int) * lin / (max 1 lout : Nat)
  let is := (List.range (2 * reach + 3).toNat).map (fun j => mid - reach - 1 + (j : Int))
  let is := is.filter (fun i => !span.lt ((FVal.ofInt i).add c.neg).abs)
  let ws := is.map (fun i => (i, kernel filter (div32 (sub32 (FVal.ofInt i) c) m)))
  let sum := ws.foldl (fun acc p => add32 acc p.2) FVal.zero
  ws.map (fun p => (p.1, div32 p.2 sum))

/-- One output sample: one fused multiply-add per tap, ascending (R201). -/
def filtered (t : List (Int × FVal)) (n : Nat) (f : Nat → FVal) : FVal :=
  t.foldl (fun acc p => f32 (acc.add (p.2.mul (f (min (n - 1) p.1.toNat))))) FVal.zero

/-- A channel cropped and scaled, horizontally first (R201). -/
def scaleChannel (filter : Nat) (w : Nat) (v : Array FVal) (crop : Nat × Nat × Nat × Nat) (ow oh : Nat) : Array FVal :=
  let (cx, cy, cw, ch) := crop
  let tx := (List.range ow).map (taps filter cw ow)
  let ty := (List.range oh).map (taps filter ch oh)
  let mid := ((List.range ch).flatMap (fun y =>
    tx.map (fun t => filtered t cw (fun x => v.getD ((cy + y) * w + cx + x) FVal.zero)))).toArray
  (ty.flatMap (fun t => (List.range ow).map (fun x => filtered t ch (fun y => mid.getD (y * ow + x) FVal.zero)))).toArray

/-- kr and kb of a matrix code, as ten-thousandths (R200). -/
def matrixK (m : Nat) : Nat × Nat := if m = 1 then (2126, 722) else if m = 9 then (2627, 593) else (2990, 1140)

/-- A value clipped to [0, 1]. -/
def clip01 (x : FVal) : FVal := fmin (fmax x FVal.zero) (FVal.one false)

/-- The linear value of a component (R200). -/
def linear (v : FVal) : FVal :=
  if v.lt (rat32 81 1000) then div32 v (rat32 45 10)
  else
    let x := div32 (add32 v (rat32 99 1000)) (rat32 1099 1000)
    transcend 10 (mul32 (rat32 100 45) (transcend 11 x))

/-- Chromaticities in ten-thousandths of the red, green and blue of a primaries code of H.273: x and y of each (PRESUMED, log entry 24). -/
def primaries (code : Nat) : Option (List Nat) :=
  match code with
  | 1 => some [6400, 3300, 3000, 6000, 1500, 600]
  | 4 => some [6700, 3300, 2100, 7100, 1400, 800]
  | 5 => some [6400, 3300, 2900, 6000, 1500, 600]
  | 6 | 7 => some [6300, 3400, 3100, 5950, 1550, 700]
  | 8 => some [6810, 3190, 2430, 6920, 1450, 490]
  | 9 => some [7080, 2920, 1700, 7970, 1310, 460]
  | 10 => some [10000, 0, 0, 10000, 0, 0]
  | 11 | 12 => some [6800, 3200, 2650, 6900, 1500, 600]
  | 22 => some [6300, 3400, 2950, 6050, 1550, 770]
  | _ => none

/-- A 3 by 3 matrix of rationals, row by row. -/
abbrev Mat3 := List Rat

/-- The product of two matrices. -/
def Mat3.mul (a b : Mat3) : Mat3 :=
  (List.range 9).map (fun i => ((List.range 3).map (fun k => a.getD (3 * (i / 3) + k) 0 * b.getD (3 * k + i % 3) 0)).sum)

/-- The inverse of a matrix, by its cofactors. -/
def Mat3.inv (a : Mat3) : Mat3 :=
  let e (i j : Nat) : Rat := a.getD (3 * (i % 3) + j % 3) 0
  let cof (i j : Nat) : Rat := e (i + 1) (j + 1) * e (i + 2) (j + 2) - e (i + 1) (j + 2) * e (i + 2) (j + 1)
  let det := e 0 0 * cof 0 0 + e 0 1 * cof 0 1 + e 0 2 * cof 0 2
  (List.range 9).map (fun n => cof (n % 3) (n / 3) / det)

/-- The normalised primary matrix of SMPTE RP 177 for the white of D65: RGB to XYZ (R200). -/
def primToXyz (l : List Nat) : Mat3 :=
  let x (i : Nat) : Rat := (l.getD (2 * i) 0 : Rat) / 10000
  let y (i : Nat) : Rat := (l.getD (2 * i + 1) 0 : Rat) / 10000
  let p : Mat3 := [x 0, x 1, x 2, y 0, y 1, y 2, 1 - x 0 - y 0, 1 - x 1 - y 1, 1 - x 2 - y 2]
  let w : List Rat := [3127 / 3290, 1, (10000 - 3127 - 3290) / 3290]
  let q := p.inv
  let c (i : Nat) : Rat := ((List.range 3).map (fun k => q.getD (3 * i + k) 0 * w.getD k 0)).sum
  Mat3.mul p [c 0, 0, 0, 0, c 1, 0, 0, 0, c 2]

/-- A rational rounded to FP64, then once to FP32. -/
def ratOnce (q : Rat) : FVal := f32 (f64 ((FVal.ofInt q.num).div (FVal.ofInt q.den)))

/-- Entry i of the matrix from source primaries to those of BT.709 (R200; log entry 24). -/
def primEntry (prim i : Nat) : FVal :=
  match primaries prim, primaries 1 with
  | some s, some d => ratOnce ((Mat3.mul (primToXyz d).inv (primToXyz s)).getD i 0)
  | _, _ => decodeIeee (floatOf 0) 0 (Config.primMatrix prim i).toNat

/-- A pixel converted (R200). -/
def colour (pr : Profile) (prim matrix : Nat) (p : FVal × FVal × FVal) : FVal × FVal × FVal :=
  let (y, cb, cr) := p
  if pr.colour = 0 then p
  else
    let k := matrixK matrix
    let kr := rat32 k.1 10000
    let kb := rat32 k.2 10000
    let two : FVal := FVal.ofInt 2
    let r := add32 y (mul32 (sub32 two (mul32 two kr)) cr)
    let b := add32 y (mul32 (sub32 two (mul32 two kb)) cb)
    let g := div32 (sub32 (sub32 y (mul32 kr r)) (mul32 kb b)) (sub32 (sub32 (FVal.one false) kr) kb)
    let (r, g, b) := (clip01 r, clip01 g, clip01 b)
    if pr.colour = 1 then (r, g, b)
    else
      let (r, g, b) := (linear r, linear g, linear b)
      if !pr.prim709 || prim == 1 then (r, g, b)
      else
        let m (i : Nat) : FVal := primEntry prim i
        let row (i : Nat) : FVal := add32 (add32 (mul32 (m i) r) (mul32 (m (i + 1)) g)) (mul32 (m (i + 2)) b)
        (row 0, row 3, row 6)

/-- The pixel of the padded image at (x, y): inside the scaled picture or y = 0, cb = cr = 0 (R199). -/
def padded (cs : Array FVal × Array FVal × Array FVal) (ow oh gw gh x y : Nat) : FVal × FVal × FVal :=
  let ox := (gw - ow) / 2
  let oy := (gh - oh) / 2
  if ox ≤ x ∧ x < ox + ow ∧ oy ≤ y ∧ y < oy + oh then
    let i := (y - oy) * ow + (x - ox)
    (cs.1.getD i FVal.zero, cs.2.1.getD i FVal.zero, cs.2.2.getD i FVal.zero)
  else (FVal.zero, FVal.zero, FVal.zero)

/-- The token elements of an image given pixel by pixel, patches in row-major order (R202). -/
def tokens (pr : Profile) (f : Nat → Nat → FVal × FVal × FVal) : List Byte :=
  let els := (List.range pr.gridH).flatMap (fun gy => (List.range pr.gridW).flatMap (fun gx =>
    (List.range pr.patch).flatMap (fun py => (List.range pr.patch).flatMap (fun px =>
      let c := f (gx * pr.patch + px) (gy * pr.patch + py)
      [c.1, c.2.1, c.2.2]))))
  (encodeAll pr.fmt pr.sat els).1

/-- Colour codes in force: the source record's, the stream's where it names 2, the defaults by HEIGHT; a matrix or a transfer code that R200 does
not list is replaced by its default, and whether one was (R182, R200). -/
def colourCodes (height rp rt rm sp st sm : Nat) : (Nat × Nat × Nat) × Bool :=
  let dm := if height ≤ 576 then 6 else 1
  let dp := if height ≤ 480 then 6 else if height ≤ 576 then 5 else 1
  let pick (r s d : Nat) : Nat := if r ≠ 2 then r else if s ≠ 2 then s else d
  let p := pick rp sp dp
  let t := pick rt st 1
  let m := pick rm sm dm
  let okM := [1, 5, 6, 9].contains m
  let okT := [1, 6, 14, 15].contains t
  ((p, if okT then t else 1, if okM then m else dm), !okM || !okT)

/-- A decoded picture as tokens, and whether its colour codes fell back (R197 to R202). -/
def pictureTokens (pr : Profile) (source : Nat) (pic : Config.Picture) : List Byte × Bool :=
  let f (off lsb w : Nat) : Nat := bitsAt source (8 * off + lsb) w
  let inter := f 0 12 1 == 1
  let cc := colourCodes (f 0x20 16 16) (f 0x28 0 8) (f 0x28 8 8) (f 0x28 16 8) pic.prim pic.transfer pic.matrix
  let sw := if f 0x24 0 16 = 0 ∨ f 0x24 16 16 = 0 then max 1 pic.sarW else f 0x24 0 16
  let sh := if f 0x24 0 16 = 0 ∨ f 0x24 16 16 = 0 then max 1 pic.sarH else f 0x24 16 16
  let img := toImage pr inter (f 0 13 1 == 1) (f 0x28 24 1 == 1) pic
  let gw := pr.gridW * pr.patch
  let gh := pr.gridH * pr.patch
  let crop := cropOf pr.aspect pic.w pic.h sw sh pr.gridW pr.gridH
  let half := pic.h / max 1 img.h
  let crop := (crop.1, crop.2.1 / half, crop.2.2.1, crop.2.2.2 / half)
  let o := outSize pr.aspect pic.w pic.h sw sh pr.gridW pr.gridH pr.patch
  let ch (v : Array FVal) : Array FVal := scaleChannel pr.filter img.w v crop o.1 o.2
  let cs := (ch img.c0, ch img.c1, ch img.c2)
  (tokens pr (fun x y => colour pr cc.1.1 cc.1.2.2 (padded cs o.1 o.2 gw gh x y)), cc.2)

/-- The tokens of a mid-grey frame (R209). -/
def greyTokens (pr : Profile) (source : Nat) : List Byte :=
  let f (off lsb w : Nat) : Nat := bitsAt source (8 * off + lsb) w
  let cc := colourCodes (f 0x20 16 16) (f 0x28 0 8) (f 0x28 8 8) (f 0x28 16 8) 2 2 2
  tokens pr (fun _ _ => colour pr cc.1.1 cc.1.2.2 (.fin false 1 (-1), FVal.zero, FVal.zero))

end Sys2Proof.Machine
end

