-- ==== Sys2Proof/Machine/Audio.lean ====
section
/-! DEFINITION. Sys2Proof/Machine/Audio.lean: the audio unit: access units on the sample's time, mono at 16 kHz, and log-mel features: R206 to
R208. The order and the rounding of the FP32 steps that the rules do not give are the model's (log entry 24). -/

namespace Sys2Proof.Machine

-- access units (R206, R207) -------------------------------------------------------------------------------------------

/-- An access unit that the audio unit does not decode (R206). -/
def unitBad (codec : Nat) (u : Config.AudioUnit) : Bool :=
  u.rate < 16000 || 48000 < u.rate || u.latm || (codec == 2 && u.channels != 1 && u.channels != 2)

/-- FP32 bits as a value. -/
def ofBits32 (b : BitVec 32) : FVal := decodeIeee (floatOf 0) 0 b.toNat

/-- The mono samples of an access unit: silence where it failed, channel 0 of a dual-channel one, (L + R) / 2 of stereo (R206). -/
def unitMono (u : Config.AudioUnit) : List FVal :=
  if !u.ok then List.replicate u.count FVal.zero
  else
    let ch (i : Nat) : List FVal := (u.samples.getD i []).map ofBits32
    if u.dual ∨ u.channels = 1 then ch 0 else ((ch 0).zip (ch 1)).map (fun p => (add32 p.1 p.2).scale (-1))

/-- Seconds from a window's start to a 33-bit PTS. -/
def ptsAfter (w0 pts : Nat) : Rat := (((pts + 2 ^ 32 + (2 ^ 33 - w0 % 2 ^ 33)) % 2 ^ 33 : Nat) - (2 ^ 32 : Int) : Int) / 90000

/-- Access units of a piece with the second at which each begins: at the PTS of its PES packet, or after the one before it (R207). One before
any PTS has no place. -/
def unitTimes (w0 : Nat) (marks : List (Nat × Nat)) (us : List Config.AudioUnit) : List (Rat × Config.AudioUnit) :=
  (us.foldl (fun (acc : List (Rat × Config.AudioUnit) × Option (Nat × Rat)) u =>
    match (marks.filter (fun m => decide (m.1 ≤ u.off))).getLast? with
    | none => acc
    | some m =>
      let t : Rat := match acc.2 with
        | some (o, next) => if o = m.1 then next else ptsAfter w0 m.2
        | none => ptsAfter w0 m.2
      (acc.1 ++ [(t, u)], some (m.1, t + (u.count : Rat) / (max 1 u.rate : Nat)))) ([], none)).1

/-- The units of a track on the sample's time: where two pieces give the same moment, the one of the earlier plan entry (log entry 24). -/
def trackUnits (l : List (List (Rat × Config.AudioUnit))) : List (Rat × Config.AudioUnit) :=
  let stop (p : Rat × Config.AudioUnit) : Rat := p.1 + (p.2.count : Rat) / (max 1 p.2.rate : Nat)
  l.foldl (fun acc us => acc ++ us.filter (fun p => !acc.any (fun q => decide (p.1 < stop q ∧ q.1 < stop p)))) []

-- 16 kHz (R207) -------------------------------------------------------------------------------------------------------

/-- The modified Bessel function I0 at 2 × sqrt z, for a z of at most 16. -/
def besselVal (z : FVal) : FVal :=
  (List.range 60).foldr (fun i acc => ((FVal.one false).add ((z.mul acc).over ((i + 1) * (i + 1)))).trim) (FVal.one false)

/-- A rational as a value. -/
def ofRat (q : Rat) : FVal := (FVal.ofInt q.num).div (FVal.ofInt q.den)

/-- sinc of a rational: sin(pi q) / (pi q), the sine reduced by whole turns. -/
def sincVal (q : Rat) : FVal :=
  if q = 0 then FVal.one false
  else (sinVal ((ofRat (q - 2 * (q / 2).floor)).mul piVal).trim).div ((ofRat q).mul piVal).trim

/-- Tap j of the prototype filter for an input rate: FP64, rounded once to FP32; the Kaiser window is centred with it (R207). -/
def firTap (rate j : Nat) : FVal :=
  let l := 16000 / Nat.gcd 16000 rate
  let f : Rat := (l * rate : Nat)
  let n : Nat := 32 * l
  let d : Rat := (j : Rat) - (n / 2 : Nat)
  let u : Rat := d / (n / 2 : Nat)
  let kaiser := (besselVal (ofRat (16 * (1 - u * u)))).div (besselVal (FVal.ofInt 16))
  f32 (f64 (((ofRat (15200 / f)).mul (sincVal (15200 * d / f))).mul kaiser))

/-- Tap that an input sample at a second meets at output sample n, if any. -/
def firIndex (rate : Nat) (t : Rat) (n : Nat) : Option Nat :=
  let l := 16000 / Nat.gcd 16000 rate
  let j : Int := (((n : Rat) / 16000 - t) * (l * rate : Nat)).floor + (16 * l : Nat)
  if 0 ≤ j ∧ j < (32 * l : Nat) then some j.toNat else none

/-- Output sample n of a track at 16 kHz: one fused multiply-add per tap, in ascending time; zero where there is no audio (R207). -/
def sample16 (us : List (Rat × Config.AudioUnit)) (n : Nat) : FVal :=
  us.foldl (fun acc p =>
    let m := unitMono p.2
    (m.zip (List.range m.length)).foldl (fun acc x =>
      match firIndex (max 1 p.2.rate) (p.1 + (x.2 : Rat) / (max 1 p.2.rate : Nat)) n with
      | some j => f32 (acc.add ((firTap (max 1 p.2.rate) j).mul x.1))
      | none => acc) acc) FVal.zero

-- features (R208) -----------------------------------------------------------------------------------------------------

/-- An angle of i / n turns, i below n. -/
def turn (i n : Nat) : FVal := ((ofRat ((2 * i : Nat) / (n : Nat))).mul piVal).trim

/-- The Hann window at j of 400. -/
def hann (j : Nat) : FVal :=
  let half := (FVal.one false).scale (-1)
  f32 (f64 (half.sub (half.mul (cosVal (turn j 400)))))

/-- A complex product in FP32. -/
def cmul32 (a b : FVal × FVal) : FVal × FVal :=
  (sub32 (mul32 a.1 b.1) (mul32 a.2 b.2), add32 (mul32 a.1 b.2) (mul32 a.2 b.1))

/-- Twiddle i of n, rounded once from FP64. -/
def twiddle (i n : Nat) : FVal × FVal := (f32 (f64 (cosVal (turn i n))), f32 (f64 (sinVal (turn i n)).neg))

/-- The radix-2 transform of 2^k values in FP32. -/
def fft (k : Nat) (l : List (FVal × FVal)) : List (FVal × FVal) :=
  match k with
  | 0 => l
  | k + 1 =>
    let part (b : Nat) := fft k ((List.range (2 ^ k)).map (fun i => l.getD (2 * i + b) (FVal.zero, FVal.zero)))
    let ps := ((part 0).zip (part 1)).zipIdx.map (fun p => (p.1.1, cmul32 (twiddle p.2 (2 ^ (k + 1))) p.1.2))
    ps.map (fun p => (add32 p.1.1 p.2.1, add32 p.1.2 p.2.2)) ++ ps.map (fun p => (sub32 p.1.1 p.2.1, sub32 p.1.2 p.2.2))

/-- The power |X_k|^2 of a frame of 400 samples, for k from 0 to 256. -/
def framePower (x : List FVal) : List FVal :=
  let w := x.zipIdx.map (fun p => (mul32 p.1 (hann p.2), FVal.zero))
  ((fft 9 (w ++ List.replicate (512 - w.length) (FVal.zero, FVal.zero))).take 257).map (fun c =>
    add32 (mul32 c.1 c.1) (mul32 c.2 c.2))

/-- Point i of the filters of a bank of n, in Hz: equally spaced on the mel scale from 0 to 8,000 Hz. -/
def melPoint (n i : Nat) : FVal :=
  let r := lnVal (ofRat (87 / 7))
  ((expVal (r.mul (ofRat ((i : Rat) / (n + 1 : Nat)))).trim).sub (FVal.one false)).mul (FVal.ofInt 700)

/-- The weight of filter b of a bank of n at a bin: a triangle on its three points. -/
def melWeight (n b bin : Nat) : FVal :=
  let f := ofRat (16000 * (bin : Rat) / 512)
  let up := (f.sub (melPoint n b)).div ((melPoint n (b + 1)).sub (melPoint n b))
  let down := ((melPoint n (b + 2)).sub f).div ((melPoint n (b + 2)).sub (melPoint n (b + 1)))
  let w := if up.lt down then up else down
  if w.lt FVal.zero then FVal.zero else f32 (f64 w)

/-- Feature b of a frame: ln(max(e, 10^-10)). -/
def melFeature (n : Nat) (power : List FVal) (b : Nat) : FVal :=
  let e := power.zipIdx.foldl (fun acc p => f32 (acc.add ((melWeight n b p.2).mul p.1))) FVal.zero
  let lo := rat32 1 (10 ^ 10)
  f32 (lnVal (if e.lt lo then lo else e))

/-- Samples at 16 kHz of a window of 90 kHz ticks. -/
def windowSamples (ticks : Nat) : Nat := ticks * 8 / 45

/-- Feature frames of a window of S samples. -/
def featureFrames (S : Nat) : Nat := if S < 400 then 0 else (S - 400) / 160 + 1

/-- The log-mel features of a track over a window, frame by frame, and the audio errors: a track with a unit that is not supported is empty and
counted, a unit that failed is silence and counted (R206 to R208). -/
def trackFeatures (l : List AudioPiece) (w0 ticks mel : Nat) : List FVal × Nat :=
  let us := l.map (fun p => (p, Config.audioUnits p.codec p.bytes))
  if us.any (fun p => p.2.any (unitBad p.1.codec)) then ([], 1)
  else
    let line := trackUnits (us.map (fun p => unitTimes w0 p.1.marks p.2))
    let xs := ((List.range (windowSamples ticks)).map (sample16 line)).toArray
    ((List.range (featureFrames (windowSamples ticks))).flatMap (fun f =>
        let pw := framePower ((xs.extract (160 * f) (160 * f + 400)).toList)
        (List.range mel).map (melFeature mel pw)),
      (us.map (fun p => p.2.countP (fun u => !u.ok))).sum)

end Sys2Proof.Machine
end

