-- ==== Sys2Proof/Machine/Mill.lean ====
section
/-! DEFINITION. Sys2Proof/Machine/Mill.lean: INGEST dockets, their spans, reads from storage, decoding and the sample record:
R178 to R213, R405. -/

namespace Sys2Proof.Machine

-- a Mill die ----------------------------------------------------------------------------------------------------------

/-- The state of a Mill die. -/
def millOf (s : State) (m : Nat) : MillSt := mapGet s.mill m MillSt.reset

/-- Domain index of decode group g of MDm (R403). -/
def groupDomain (m g : Nat) : Nat := 118 + 9 * m + g

/-- Stage of the span on a pipe. -/
def pipeStage (k : MillSt) (p : DocketRef × Nat) : Nat :=
  match k.jobs.find? (fun j => j.ref == p.1) with
  | none => 0
  | some j => match j.spans[p.2]? with | none => 0 | some sp => sp.stage

/-- The state of a Mill die replaced, with PIPES_BUSY. -/
def setMill (s : State) (m : Nat) (k : MillSt) : State :=
  let s := { s with mill := mapSet s.mill m k }
  let busy := k.pipes.foldl (fun acc p => if 2 ≤ pipeStage k p.2 then acc + 2 ^ p.1 else acc) 0
  rset s Reg.MILL_PIPES_BUSY m 0 busy

/-- The job of a docket changed. -/
def updJob (s : State) (m : Nat) (r : DocketRef) (f : MillJob → MillJob) : State :=
  let k := millOf s m
  setMill s m { k with jobs := updFirst k.jobs (fun j => j.ref == r) f }

/-- Span i of a job changed. -/
def updSpan (s : State) (m : Nat) (r : DocketRef) (i : Nat) (f : MSpan → MSpan) : State :=
  updJob s m r (fun j => { j with spans := match j.spans[i]? with | none => j.spans | some x => j.spans.set i (f x) })

/-- Decode groups whose pipes are all free start to idle (R405). -/
def noteIdle (s : State) (m : Nat) : State :=
  let k := millOf s m
  setMill s m { k with idleFrom := (List.range 8).filterMap (fun g =>
    if k.pipes.any (fun p => p.1 / 4 == g) then none else some (g, mapGet k.idleFrom g s.time.cyc)) }

/-- One Read leaves (R188, R189, R191). -/
def putCmd (s : State) (m : MDie) (c : MillCmd) : State :=
  let k := millOf s m.val
  let c := { c with cid := k.nextCid % 65536, sentAt := s.time.cyc }
  let rdma := rget s Reg.MILL_KIND m.val c.target = 1
  let blk := if rdma then 1 else 2 ^ rget s Reg.MILL_LBA_LOG2 m.val c.target
  let s := setMill s m.val { k with cmds := k.cmds ++ [c], nextCid := k.nextCid + 1 }
  emit s (.storageRead m c.target c.cid (c.off / blk) (c.len / blk))

/-- A Read to a target may leave: an NVMe target has 32 queues of depth 128 (R188). -/
def cmdRoom (s : State) (m target : Nat) : Bool :=
  rget s Reg.MILL_KIND m target == 1 || decide ((millOf s m).cmds.countP (fun c => c.target == target) < 32 * 128)

/-- A Read leaves, or waits behind those that already wait for its target (R188, R189). -/
def sendCmd (s : State) (m : MDie) (c : MillCmd) : State :=
  let k := millOf s m.val
  if cmdRoom s m.val c.target && !k.backlog.any (fun x => x.target == c.target) then putCmd s m c
  else setMill s m.val { k with backlog := k.backlog ++ [c] }

/-- Waiting Reads leave, oldest first, as far as their targets have room. -/
def pumpCmds (s : State) (m : MDie) (fuel : Nat) : State :=
  match fuel with
  | 0 => s
  | fuel + 1 =>
    let k := millOf s m.val
    match k.backlog.find? (fun c => cmdRoom s m.val c.target) with
    | none => s
    | some c => pumpCmds (putCmd (setMill s m.val { k with backlog := k.backlog.erase c }) m c) m fuel

/-- Reads are forgotten: those that wait, too; others take their room (R188). -/
def dropCmds (s : State) (m : Nat) (p : MillCmd → Bool) : State :=
  let k := millOf s m
  let s := setMill s m { k with cmds := k.cmds.filter (fun c => !p c), backlog := k.backlog.filter (fun c => !p c) }
  pumpCmds s (Fin.ofNat 2 m) k.backlog.length

/-- A docket leaves the die: its pipes, reservations and reads are free, completions of its reads are discarded by command
identifier (R190, R213). -/
def dropJob (s : State) (m : Nat) (r : DocketRef) : State :=
  let k := millOf s m
  let mine (p : Nat) : Bool := match mapFind k.pipes p with | some x => x.1 == r | none => false
  noteIdle (dropCmds (setMill s m { k with
    jobs := k.jobs.filter (fun j => j.ref != r), pipes := k.pipes.filter (fun p => p.2.1 != r)
    reserved := k.reserved.filter (fun p => !mine p.1), waiting := k.waiting.filter (fun w => w.1 != r) }) m (fun c => c.ref == r)) m

/-- An INGEST docket ends with a status and no record. -/
def endIngest (s : State) (m : Nat) (r : DocketRef) (status : Nat) : State :=
  dropJob (updEntry s (2060 + m) r (fun e => { e with
    started := true, done := true, status := if status = 1 then 1 else worst [e.status, status] })) m r

-- index records (R182 to R185) ----------------------------------------------------------------------------------------

/-- A field of a record read as a number. -/
def rf (n off lsb w : Nat) : Nat := bitsAt n (8 * off + lsb) w

/-- Profile of a docket (R216). -/
def profileIn (s : State) (m p : Nat) : Profile :=
  { deint := rget s Reg.MILL_DEINT m p, filter := rget s Reg.MILL_FILTER m p, aspect := rget s Reg.MILL_ASPECT m p
    colour := rget s Reg.MILL_COLOUR m p, prim709 := rget s Reg.MILL_PRIM_709 m p = 1
    fmt := rget s Reg.MILL_TOKEN_FMT m p, sat := rget s Reg.MILL_SAT m p = 1
    patch := 8 * 2 ^ rget s Reg.MILL_PATCH m p, gridW := rget s Reg.MILL_GRID_W m p
    gridH := rget s Reg.MILL_GRID_H m p, thresh := rget s Reg.MILL_MA_THRESH m p }

/-- Token bytes of one frame. -/
def frameBytes (pr : Profile) : Nat := pr.gridW * pr.gridH * pr.patch * pr.patch * 3 * elemBits pr.fmt / 8

/-- CODEC of a source record. -/
def codecOf (source : Nat) : Nat := rf source 0 8 4
/-- CONTAINER is an elementary stream. -/
def isEs (source : Nat) : Bool := rf source 0 4 1 == 1
/-- TARGET of a source record. -/
def targetOf (source : Nat) : Nat := rf source 0 0 4
/-- REFS of a frame record. -/
def frRefs (f : Nat) : Nat := rf f 8 0 64
/-- DISPLAY of a frame record. -/
def frDisplay (f : Nat) : Nat := rf f 0x18 0 32
/-- PTS of a frame record. -/
def frPts (f : Nat) : Nat := rf f 0x10 0 33

/-- One plan entry read with its span, source and frame records (R182 to R185). -/
def readSpan (x : Access) (plan i : Nat) : MSpan × Access :=
  let p := x.rdNat (plan + 16 * i) 16
  let addr := bitsAt p.1 0 48
  let sp := p.2.rdNat addr 32
  let src := rf sp.1 0 0 48
  let so := sp.2.rdNat src 64
  let audio := bitAt p.1 48
  let n := rf sp.1 0x14 0 7
  let frames := rf sp.1 0x18 0 64
  let fr := if audio ∨ n = 0 ∨ 64 < n then ([], so.2) else so.2.rd (frames % 2 ^ 48) (32 * n)
  let fs := if audio then [frames] else (chunksOf 32 fr.1).map leNat
  ({ addr, audio, track := bitsAt p.1 49 2, src, source := so.1, offset := rf sp.1 8 0 64, len := rf sp.1 0x10 0 32
     hdr := rf sp.1 0x14 16 16, frames := fs, targets := if audio then 0 else bitsAt p.1 64 64, stage := 0, cause := 0
     pieces := [] }, fr.2)

/-- Every plan entry read. -/
def readPlan (x : Access) (plan n : Nat) : List MSpan × Access :=
  (List.range n).foldl (fun acc i => let r := readSpan acc.2 plan i; (acc.1 ++ [r.1], r.2)) ([], x)

/-- Records of a span that its TARGETS name. -/
def targetIdx (sp : MSpan) : List Nat := (List.range 64).filter (fun i => bitAt sp.targets i)

/-- Display indices of a span's output frames, ascending; a record that is not there stands for itself (R195). -/
def outputs (sp : MSpan) : List Nat :=
  let ds := (targetIdx sp).map (fun i => match sp.frames[i]? with | some f => frDisplay f | none => 2 ^ 32 + i)
  (ds.foldl (fun acc d => if acc.contains d then acc else acc ++ [d]) []).mergeSort (fun a b => a ≤ b)

/-- A record's bytes lie outside a stream of n bytes (R184). -/
def recordOutside (sp : MSpan) (n : Nat) : Bool := sp.frames.any (fun f => n < rf f 0 0 32 + rf f 4 0 32)

/-- A span in error, as far as its records show it: the records of a transport-stream span count bytes of the stream that is demultiplexed from
it, which is held against them when it has been fetched (R184). -/
def spanError (sp : MSpan) : Bool :=
  sp.frames == [] || 0x4000000 < sp.len || (sp.frames.zip (List.range 64)).any (fun p => 2 ^ p.2 ≤ frRefs p.1) ||
    (isEs sp.source && recordOutside sp sp.len)

/-- The picture size and codec of a source are ones that a pipe decodes (R194, R196). -/
def sizeOk (source : Nat) : Bool :=
  let w := rf source 0x20 0 16
  let h := rf source 0x20 16 16
  codecOf source < 8 && 64 ≤ w && w ≤ 4096 && 64 ≤ h && h ≤ 2304

/-- A stream that R194 lets a pipe decode. -/
def streamOk (i : Config.StreamInfo) : Bool :=
  let size := 64 ≤ i.w && i.w ≤ 4096 && 64 ≤ i.h && i.h ≤ 2304
  let c420 := i.chroma == 1
  let both := i.chroma == 1 || i.chroma == 2
  let d8 := i.depth == 8
  let d10 := i.depth == 8 || i.depth == 10
  size && !i.excluded && match i.profile with
    | .mpeg2Main => decide (i.level ≤ 4) && c420 && d8
    | .mpeg2P422 => decide (i.level ≤ 4) && both && d8
    | .avcHigh => decide (i.level ≤ 52) && c420 && d8
    | .avcHigh10 => decide (i.level ≤ 52) && c420 && d10
    | .avcHigh422 => decide (i.level ≤ 52) && both && d10
    | .hevcMain => decide (i.level ≤ 51) && c420 && d8
    | .hevcMain10 => decide (i.level ≤ 51) && c420 && d10
    | .hevcMain422P10 => decide (i.level ≤ 51) && both && d10
    | .other => false

/-- A fetched stream is unsupported: its headers say so. Where they cannot be read its pictures are decoded as far as they can be (R196). -/
def streamBad (codec : Nat) (bytes : List Byte) : Bool :=
  match Config.streamInfo codec bytes with | some i => !streamOk i | none => false

/-- Bytes of the work area that a span reserves (R181). -/
def reservation (source : Nat) : Nat :=
  let dpb := if codecOf source ≤ 1 then 2 else 16
  let n := rf source 0x20 0 16 * rf source 0x20 16 16
  let c422 := [1, 4, 7].contains (codecOf source)
  let bytes := if c422 then ceilDiv (n * 8) 3 else n * 2
  (dpb + 1) * (ceilDiv bytes 4096 * 4096)

/-- INGEST: the plan of a dispatched docket is read and checked (R185, R186, R222). -/
def execIngest (m : MDie) (ref : DocketRef) (s : State) : Host.Outcome State Fault Refusal :=
  .next (live s (fun s =>
    match (entryOf s (2060 + m.val) ref).filter (fun e => e.running && !e.started && !e.done && !e.cut) with
    | none => s
    | some e =>
      let f := ingestFault s e
      if f ≠ 0 then endIngest s m.val ref f
      else
        let r := readPlan (e.access s) (ingPlan e.dk) (ingEntries e.dk)
        if r.2.stalled then s
        else if r.2.faults ≠ [] then
          endIngest (updEntry r.2.s (2060 + m.val) ref (fun e => { e with badAddr := r.2.bad.getD 0 })) m.val ref (worst r.2.faults)
        else
          let s := r.2.s
          let n := (r.1.map (fun sp => (targetIdx sp).length)).sum
          let frames := (r.1.map (fun sp => (outputs sp).length)).sum
          let room := if ingToHopper e.dk then min (ingOutMax e.dk) (hopSlotBytes s (ingHopper e.dk)) else ingOutMax e.dk
          if n = 0 ∨ 64 < n ∨ room < 128 + frames * frameBytes (profileIn s m.val (ingProfile e.dk)) then
            endIngest s m.val ref 1
          else
            let k := millOf s m.val
            let s := setMill s m.val { k with jobs := k.jobs ++ [{ ref, spans := r.1, frames := [], captions := [], audio := [] }] }
            updEntry s (2060 + m.val) ref (fun e => { e with started := true })))

-- decoding (R195 to R210) ---------------------------------------------------------------------------------------------

/-- The decode set closed once over REFS. -/
def closeRefs (frames : List Nat) (set : List Nat) : List Nat :=
  (List.range frames.length).filter (fun i => set.contains i || set.any (fun j => bitAt (frRefs (frames.getD j 0)) i))

/-- The decode set of a span, in coded order (R195). -/
def decodeSet (sp : MSpan) : List Nat :=
  let t := (targetIdx sp).filter (fun i => decide (i < sp.frames.length))
  let mates := (List.range sp.frames.length).filter (fun i =>
    t.contains i || t.any (fun j => rf (sp.frames.getD j 0) 0x14 4 1 == 1 &&
      frDisplay (sp.frames.getD i 0) == frDisplay (sp.frames.getD j 0)))
  sp.frames.foldl (fun acc _ => closeRefs sp.frames acc) mates

/-- The fetched bytes of a span in [a, a + n). -/
def spanBytes (sp : MSpan) (a n : Nat) : List Byte :=
  (sp.pieces.map (fun p => (p.2.drop (a - p.1)).take (a + n - max a p.1))).flatten.take n

/-- What a record of the decode set gave: display index, the picture, the picture that later ones refer to, with its lost area concealed, and
its reported area in 64ths (R209). -/
structure Decoded where
  idx : Nat
  display : Nat
  pic : Option Config.Picture
  ref : Config.Picture
  area : Nat
deriving DecidableEq, Repr

/-- Lost samples of a plane in 64ths of it, rounded up. -/
def lostArea (p : Config.Picture) : Nat :=
  ceilDiv (64 * p.y.countP Option.isNone) (max 1 p.y.length)

/-- The nearest wholly decoded picture in display order, ties to the earlier (R209). -/
def nearestGood (l : List Decoded) (display : Nat) : Option Config.Picture :=
  let good := l.filter (fun d => d.display != display && match d.pic with | some p => lostArea p == 0 | none => false)
  let dist (d : Decoded) : Nat := if d.display < display then 2 * (display - d.display) else 2 * (d.display - display) + 1
  (good.foldl (fun acc d => match acc with
    | none => some d
    | some b => if dist d < dist b then some d else acc) none).bind (·.pic)

/-- A plane with its lost samples filled from another. -/
def fillPlane (l other : List (Option Nat)) : List (Option Nat) :=
  (l.zip (List.range l.length)).map (fun p => match p.1 with | some v => some v | none => other.getD p.2 none)

/-- A picture with its lost area filled (R209). -/
def concealed (p : Config.Picture) (other : Option Config.Picture) : Config.Picture :=
  match other with
  | none => p
  | some o => { p with y := fillPlane p.y o.y, cb := fillPlane p.cb o.cb, cr := fillPlane p.cr o.cr }

/-- A picture of a source with no sample decoded: mid-grey (R209). -/
def greyPicture (source : Nat) : Config.Picture :=
  let w := rf source 0x20 0 16
  let h := rf source 0x20 16 16
  let c422 := [1, 4, 7].contains (codecOf source)
  let c : List (Option Nat) := List.replicate ((w + 1) / 2 * (if c422 then h else (h + 1) / 2)) none
  { w, h, depth := 8, c422, siting := 0, sarW := 0, sarH := 0, prim := 2, transfer := 2, matrix := 2
    y := List.replicate (w * h) none, cb := c, cr := c }

/-- The decode set decoded in coded order: later pictures refer to a picture as it is concealed, from those decoded so far (R195, R209; log
entry 24). -/
def decodeSpan (codec : Nat) (hdr : List Byte) (es : List (Byte × Bool)) (sp : MSpan) : List Decoded :=
  (decodeSet sp).foldl (fun acc i =>
    let f := sp.frames.getD i 0
    let refs := acc.filter (fun d => bitAt (frRefs f) d.idx || d.display == frDisplay f)
    let bytes := (es.drop (rf f 0 0 32)).take (rf f 4 0 32)
    let pic := Config.decodePicture codec hdr bytes (refs.map (·.ref))
    let near := nearestGood acc (frDisplay f)
    let inherited := (refs.filter (fun d => bitAt (frRefs f) d.idx)).foldl (fun a d => max a d.area) 0
    acc ++ [{ idx := i, display := frDisplay f, pic
              ref := match pic with | some p => concealed p near | none => near.getD (greyPicture sp.source)
              area := match pic with | none => 64 | some p => min 64 (lostArea p + inherited) }]) []

/-- One output frame of a decoded span (R195, R209, R210): its tokens, damage byte, and whether its colour codes fell back. -/
def outputFrame (pr : Profile) (entry : Nat) (sp : MSpan) (l : List Decoded) (display : Nat) : MFrame × Bool :=
  let mine := l.filter (fun d => d.display == display)
  let pts := match (sp.frames.filter (fun f => frDisplay f == display)).map frPts with
    | [] => 0
    | a :: r => r.foldl min a
  let near := nearestGood l display
  let last := mine.getLast?
  let grey : MFrame := { entry, display, pts, damage := 2 * 64 + 63, tokens := greyTokens pr sp.source }
  match last with
  | none => (grey, false)
  | some d =>
    match d.pic with
    | some p =>
      let area := mine.foldl (fun a x => max a x.area) 0
      let t := pictureTokens pr sp.source (concealed p near)
      ({ entry, display, pts, damage := if area = 0 then 0 else 64 + min 63 area, tokens := t.1 }, t.2)
    | none =>
      match near with
      | none => (grey, false)
      | some p => let t := pictureTokens pr sp.source p; ({ grey with tokens := t.1 }, t.2)

/-- The Ledger record of a damaged span: its address, the first damaged record and the cause: 1 CONCEALED, 2 SUBSTITUTED, 3 INDEX, 4 UNSUPPORTED
(R210; the numbers are a DESIGN CHOICE, log entry 24). -/
def damageRecord (s : State) (m : Nat) (e : QEntry) (addr first cause : Nat) : State :=
  raise s (evOf Reg.MILL_CONCEALED 0 (10 + m) 0 e.tenant.val (some e.words) [addr, first, cause])

/-- The targets of a span in error or unsupported: mid-grey (R209). -/
def greyFrames (pr : Profile) (entry : Nat) (sp : MSpan) : List MFrame :=
  (outputs sp).map (fun d =>
    { entry, display := d % 2 ^ 32
      pts := match (sp.frames.filter (fun f => frDisplay f == d)).map frPts with | [] => 0 | a :: r => r.foldl min a
      damage := 3 * 64 + 63, tokens := greyTokens pr sp.source })

-- the sample record (R205, R211, R212) --------------------------------------------------------------------------------

/-- n rounded up to 64. -/
def up64 (n : Nat) : Nat := ceilDiv n 64 * 64

/-- The whole caption entries that fit in n bytes, and whether any was cut. -/
def fitEntries (l : List (List Byte)) (n : Nat) : List Byte × Bool :=
  l.foldl (fun acc e => if !acc.2 ∧ acc.1.length + e.length ≤ n then (acc.1 ++ e, false) else (acc.1, true)) ([], false)

/-- CAPTION_GAP (R205): a source's listed spans leave out a DISPLAY between its first and last target. -/
def captionGap (spans : List MSpan) : Bool :=
  spans.any (fun sp =>
    let same := spans.filter (fun x => x.src == sp.src && !x.audio)
    let all := same.flatMap (fun x => x.frames.map frDisplay)
    let ts := (same.flatMap outputs).filter (fun d => decide (d < 2 ^ 32))
    let lo := ts.foldl min (ts.headD 0)
    let hi := ts.foldl max 0
    !sp.audio && (List.range (hi - lo)).any (fun i => !all.contains (lo + i)))

/-- One audio track of a record: its features as bytes, the frames that fit and whether any was cut, and the errors
(R206 to R208, R212). -/
def audioTrack (s : State) (m : Nat) (e : QEntry) (j : MillJob) (t w0 ticks room : Nat) : List Byte × Nat × Bool × Nat :=
  let ps := (j.audio.filter (fun a => a.track == t)).mergeSort (fun a b => a.entry ≤ b.entry)
  if ps = [] then ([], 0, false, 0)
  else
    let p := ingProfile e.dk
    let mel := rget s Reg.MILL_MEL_BINS m p
    let fmt := rget s Reg.MILL_AUDIO_FMT m p
    let r := trackFeatures ps w0 ticks mel
    let frame := mel * elemBits fmt / 8
    let n := r.1.length / mel
    let k := min n (room / frame)
    ((encodeAll fmt false (r.1.take (k * mel))).1, k, k < n, r.2)

/-- The caption bytes of a source's listed pictures in display order, by one parser, and the errors (R203, R204). A picture that several spans
list is read in the first of them (log entry 24). -/
def sourceCaptions (service : Nat) (l : List CapPic) : List (Nat × Nat × List Byte) × Nat :=
  let mine := l.filter (fun c => l.all (fun x => x.display != c.display || decide (c.entry ≤ x.entry)))
  let d0 : Dtvcc := { last := none, bytes := [], size := 0, out := [], errors := 0 }
  let r := (mine.mergeSort (fun a b => a.display ≤ b.display)).foldl
    (fun (acc : List (Nat × Nat × List Byte) × Nat × Dtvcc) c =>
      let p := pictureCaptions acc.2.2 service c.trip
      (acc.1 ++ p.1.map (fun x => (c.display, x.1, x.2)), acc.2.1 + p.2.1, p.2.2)) ([], 0, d0)
  (r.1, r.2.1)

/-- The captions of a job's listed spans, source by source, and the errors. -/
def jobCaptions (e : QEntry) (j : MillJob) : List (Nat × Nat × List Byte) × Nat :=
  let rs := (j.spans.map (·.src)).eraseDups.map (fun a => sourceCaptions (ingService e.dk) (j.captions.filter (fun c => c.src == a)))
  (rs.flatMap (·.1), (rs.map (·.2)).sum)

/-- The sections and header of a record (R211). -/
structure SampleRec where
  video : List Byte
  bytes : List Byte
  errors : Nat
  capErrors : Nat
deriving DecidableEq, Repr

/-- The output frames of a job in plan order, within a span in ascending DISPLAY (R195). -/
def framesOf (j : MillJob) : List MFrame :=
  j.frames.mergeSort (fun a b => a.entry < b.entry || (a.entry == b.entry && a.display ≤ b.display))

/-- The sample record of a job with no more than room bytes (R205, R207, R211, R212). -/
def sampleRecord (s : State) (m : Nat) (e : QEntry) (j : MillJob) (room : Nat) : SampleRec :=
  let d := e.dk
  let fs := framesOf j
  let video := (fs.map (·.tokens)).flatten
  let capOff := up64 (128 + video.length)
  let jc := jobCaptions e j
  let caps := (jc.1.mergeSort (fun a b => a.1 < b.1 || (a.1 == b.1 && a.2.1 ≤ b.2.1))).flatMap
    (fun c => captionEntries c.1 c.2.1 c.2.2)
  let cap := fitEntries caps (room - capOff)
  let w0 := (fs.head?.map (·.pts)).getD 0
  let dur := match j.spans.find? (fun sp => !sp.audio) with | some sp => rf sp.source 0x2C 0 32 | none => 0
  let ticks := ((fs.getLast?.map (·.pts)).getD 0 + 2 ^ 33 - w0) % 2 ^ 33 + dur / 300
  let base := up64 (capOff + cap.1.length)
  let tr := (List.range 3).foldl (fun (acc : List Byte × List (Nat × Nat) × Bool × Nat) t =>
    if bitAt (ingAudio d) t then
      let off := up64 (base + acc.1.length)
      let a := audioTrack s m e j t w0 ticks (room - off)
      (acc.1 ++ List.replicate (off - base - acc.1.length) 0 ++ a.1,
        acc.2.1 ++ [if a.2.1 = 0 then (0, 0) else (off, a.2.1)], acc.2.2.1 || a.2.2.1, acc.2.2.2 + a.2.2.2)
    else (acc.1, acc.2.1 ++ [(0, 0)], acc.2.2.1, acc.2.2.2)) ([], [], false, 0)
  let total := if tr.1 = [] then (if cap.1 = [] then 128 + video.length else capOff + cap.1.length) else base + tr.1.length
  let flags := b2n cap.2 + 2 * b2n tr.2.2.1 + 4 * b2n (fs.any (fun f => f.damage != 0)) + 8 * b2n (captionGap j.spans)
  let pr := profileIn s m (ingProfile d)
  let hdr := natLe 0x4C4C494D 4 ++ natLe (1 + flags * 2 ^ 16) 4 ++ natLe (ingSample d) 8 ++ natLe total 4
    ++ natLe fs.length 1 ++ natLe pr.fmt 1 ++ natLe pr.gridW 1 ++ natLe pr.gridH 1
    ++ natLe 128 4 ++ natLe video.length 4 ++ natLe (if cap.1 = [] then 0 else capOff) 4 ++ natLe cap.1.length 4
    ++ tr.2.1.flatMap (fun a => natLe a.1 4 ++ natLe a.2 4)
    ++ padTo 64 (0 : Byte) (fs.map (fun f => BitVec.ofNat 8 f.damage))
  let pad (n : Nat) (l : List Byte) : List Byte := l ++ List.replicate (n - l.length) 0
  let body := hdr ++ video
  let body := if cap.1 = [] then body else pad capOff body ++ cap.1
  let body := if tr.1 = [] then body else pad base body ++ tr.1
  { video, bytes := body, errors := tr.2.2.2, capErrors := jc.2 }

/-- The record of a job whose spans are all done is written: the word at offset 0 is cleared, the rest follows, and MARK and
VERSION come last; the Hopper slot becomes FULL (R212, R224). A docket whose slot no longer awaits its number is stale (R223). -/
def commitSample (s : State) (m : Nat) (j : MillJob) : State :=
  match entryOf s (2060 + m) j.ref with
  | none => s
  | some e =>
    if !j.spans.all (fun sp => sp.stage == 4) then s
    else
      let h := ingHopper e.dk
      let slot := e.slot.filter (fun i => hopExpect s h i == ingIntake e.dk)
      if ingToHopper e.dk = true ∧ slot = none then endIngest (rinc s Reg.HOPPER_STALE_INTAKES (h % 2)) m j.ref 1 else
      let at' := match slot with | some i => hopSlot s h i | none => ingOut e.dk
      let room := if ingToHopper e.dk then min (ingOutMax e.dk) (hopSlotBytes s (ingHopper e.dk)) else ingOutMax e.dk
      let r := sampleRecord s m e j room
      let x := (e.access s).wr at' (List.replicate 8 0)
      let x := (x.wr (at' + 8) (r.bytes.drop 8)).wr at' (r.bytes.take 8)
      let x := match slot with | some i => if x.faults = [] then x.hopTurn h i 2 else x | none => x
      if x.stalled then s
      else
        let s := finish s (2060 + m) e x 0 0 (digestOf e [(0, r.video)])
        dropJob (rinc (rinc s Reg.MILL_AUDIO_ERRORS m 0 r.errors) Reg.MILL_CAPTION_ERRORS m 0 r.capErrors) m j.ref

/-- The record of a job, if it can be written now. -/
def tryCommit (s : State) (m : Nat) (r : DocketRef) : State :=
  match (millOf s m).jobs.find? (fun j => j.ref == r) with | none => s | some j => commitSample s m j

-- fetching (R187 to R191) ---------------------------------------------------------------------------------------------

/-- Byte ranges of a span that are fetched, ascending, merged where less than 64 KiB apart (R189). -/
def fetchRanges (e : QEntry) (sp : MSpan) : List (Nat × Nat) :=
  if sp.audio || !isEs sp.source || ingCaptions e.dk then [(0, sp.len)]
  else
    let rs := (if sp.hdr = 0 then [] else [(0, sp.hdr)]) ++ ((decodeSet sp).map (fun i =>
      let f := sp.frames.getD i 0
      (rf f 0 0 32, rf f 0 0 32 + rf f 4 0 32))).mergeSort (fun a b => a.1 ≤ b.1)
    rs.foldl (fun acc r => match acc.getLast? with
      | none => [r]
      | some l => if r.1 < l.2 + 65536 then acc.dropLast ++ [(l.1, max l.2 r.2)] else acc ++ [r]) []

/-- The commands that fetch a range of the target, before their identifiers: first byte, length, and span bytes served. -/
def splitRange (lo hi base blk maxXfer : Nat) : List (Nat × Nat × Nat × Nat) :=
  let a := (base + lo) / blk * blk
  let b := ceilDiv (base + hi) blk * blk
  (List.range (ceilDiv (b - a) maxXfer)).map (fun i =>
    let o := a + i * maxXfer
    let n := min maxXfer (b - o)
    (o, n, max lo (o - base), min hi (o + n - base)))

/-- The fetch of a span starts (R189). -/
def startFetch (s : State) (m : MDie) (e : QEntry) (r : DocketRef) (i : Nat) (sp : MSpan) : State :=
  let t := targetOf sp.source
  let rdma := rget s Reg.MILL_KIND m.val t = 1
  let blk := if rdma then 1 else 2 ^ rget s Reg.MILL_LBA_LOG2 m.val t
  let xfer := if rdma then 0x100000 else max blk (rget s Reg.MILL_MAX_XFER_KIB m.val t * 1024)
  let base := rf sp.source 8 0 64 + sp.offset
  let cs := (fetchRanges e sp).flatMap (fun g => splitRange g.1 g.2 base blk xfer)
  let s := updSpan s m.val r i (fun x => { x with stage := if cs = [] then 3 else 2 })
  cs.foldl (fun s q => sendCmd s m { cid := 0, target := t, off := q.1, len := q.2.1, lo := q.2.2.1, hi := q.2.2.2, ref := r, span := i,
                                     tries := 0, sentAt := 0 }) s

/-- A fetch fails: the docket ends DATA_ERROR with no record (R190). -/
def failFetch (s : State) (m : Nat) (r : DocketRef) (addr : Nat) : State :=
  match entryOf s (2060 + m) r with
  | none => dropJob s m r
  | some e =>
    let s := rinc s Reg.MILL_FETCH_FAILS m
    let s := raise s (evOf Reg.MILL_FETCH_FAILS 0 (10 + m) 0 e.tenant.val (some { e.words with status := 3 }) [addr])
    endIngest s m r 3

/-- The first free pipe: in powered groups before others, the lower number first (R179, R405). -/
def freePipe (s : State) (m : Nat) : Option Nat :=
  let k := millOf s m
  let ps := (List.range 32).filter (fun p => (mapFind k.pipes p).isNone)
  match ps.find? (fun p => domainOn s (groupDomain m (p / 4))) with
  | some p => some p
  | none => ps.head?

/-- The first waiting span of the kind, oldest docket first, in plan order. -/
def nextSpan (k : MillSt) (audio : Bool) : Option (DocketRef × Nat × MSpan) :=
  let rec go (l : List MillJob) : Option (DocketRef × Nat × MSpan) :=
    match l with
    | [] => none
    | j :: r =>
      match (j.spans.zip (List.range 64)).find? (fun p => p.1.stage == 0 && p.1.audio == audio) with
      | some p => some (j.ref, p.2, p.1)
      | none => go r
  go k.jobs

/-- The first work set that does not belong to TC15, by its address: a pipe's accesses to it are refused (R164, R181). -/
def workRefused (s : State) (m : Nat) : Option Nat :=
  ((List.range (rget s Reg.MILL_WORK_SETS m)).map (fun i => rget s Reg.MILL_WORK_BASE_SET m + i)).find?
    (fun g => owner s (.near g) != (true, 15)) |>.map (· * 0x180000000)

/-- The target of a span may not be read by the docket's tenant (R187). -/
def targetRefused (s : State) (m : Nat) (e : QEntry) (sp : MSpan) : Bool :=
  let t := targetOf sp.source
  rget s Reg.MILL_ENABLE m t == 0 || !bitAt (rget s Reg.MILL_TENANT_MASK m t) e.tenant.val

/-- A span that is not decoded: its targets are mid-grey (R184, R196, R209, R210). -/
def greySpan (s : State) (m : Nat) (e : QEntry) (r : DocketRef) (i : Nat) (sp : MSpan) (cause : Nat) : State :=
  let fs := greyFrames (profileIn s m (ingProfile e.dk)) i sp
  let s := updSpan s m r i (fun x => { x with stage := 4, cause := cause, pieces := [] })
  let s := updJob s m r (fun j => { j with frames := j.frames ++ fs })
  let s := rinc s Reg.MILL_SPANS m
  tryCommit (damageRecord s m e sp.addr ((targetIdx sp).headD 0) (2 + cause)) m r

/-- A video span is not decoded, as its records or its source show: 0 it may be, 1 INDEX, 2 UNSUPPORTED (R184, R196). -/
def spanCause (sp : MSpan) : Nat := if spanError sp then 1 else if !sizeOk sp.source then 2 else 0

/-- A span that is not decoded is fetched all the same for its captions, where it can be (R184, R203). -/
def readsCaptions (e : QEntry) (sp : MSpan) : Bool := ingCaptions e.dk && sp.frames != [] && decide (sp.len ≤ 0x4000000)

/-- A video span takes a pipe, once its reservation fits (R179, R181, R405). -/
def takePipe (s : State) (m : MDie) (e : QEntry) (r : DocketRef) (i : Nat) (sp : MSpan) : State :=
  let k := millOf s m.val
  match freePipe s m.val with
  | none => s
  | some p =>
    match workRefused s m.val with
    | some a => endIngest ((e.access s).refused a).s m.val r 2
    | none =>
      let need := if spanCause sp = 0 then reservation sp.source else 0
      let used := (k.reserved.map (·.2)).sum
      if rget s Reg.MILL_WORK_SETS m.val * 0x180000000 < used + need then
        if k.waiting.contains (r, i) then s
        else rinc (setMill s m.val { k with waiting := (r, i) :: k.waiting }) Reg.MILL_WORK_WAITS m.val
      else
        let s := setMill s m.val { k with pipes := mapSet k.pipes p (r, i), reserved := mapSet k.reserved p need,
                                          waiting := k.waiting.filter (· != (r, i)), idleFrom := mapErase k.idleFrom (p / 4) }
        if domainOn s (groupDomain m.val (p / 4)) then startFetch s m e r i sp
        else updSpan s m.val r i (fun x => { x with stage := 1 })

/-- Audio bytes of a span join the job where its source is that of the first video entry (R207). -/
def addAudio (j : MillJob) (sp : MSpan) (l : List AudioPiece) : MillJob :=
  match j.spans.find? (fun x => !x.audio) with
  | none => j
  | some v =>
    if targetOf v.source = targetOf sp.source ∧ rf v.source 4 0 32 = rf sp.source 4 0 32 ∧
        rf v.source 8 0 64 = rf sp.source 8 0 64 then { j with audio := j.audio ++ l }
    else j

/-- An audio span whose bytes have all arrived is done: the audio unit takes them. -/
def audioSpanDone (s : State) (m : Nat) (r : DocketRef) (i : Nat) (sp : MSpan) : State :=
  let codec := if codecOf sp.source = 8 then 1 else 2
  let s := updSpan s m r i (fun x => { x with stage := 4, pieces := [] })
  let s := updJob s m r (fun j => addAudio j sp [{ entry := i, track := sp.track, codec, marks := [(0, sp.frames.headD 0 % 2 ^ 33)]
                                                   bytes := (spanBytes sp 0 sp.len).map (fun b => (b, false)) }])
  tryCommit (rinc s Reg.MILL_SPANS m) m r

/-- One waiting span is looked at (R181, R184, R187, R196). -/
def startSpan (s : State) (m : MDie) (r : DocketRef) (i : Nat) (sp : MSpan) : State :=
  match entryOf s (2060 + m.val) r with
  | none => s
  | some e =>
    let t := targetOf sp.source
    if targetRefused s m.val e sp then endIngest s m.val r 2
    else if !sp.audio && spanCause sp != 0 && !readsCaptions e sp then greySpan s m.val e r i sp (spanCause sp)
    else if rget s Reg.MILL_STATE m.val t = 3 then failFetch s m.val r sp.addr
    else if rget s Reg.MILL_STATE m.val t ≠ 2 then s
    else if sp.audio then (if sp.len = 0 then audioSpanDone s m.val r i sp else startFetch s m e r i sp)
    else takePipe s m e r i sp

/-- The audio unit fetches a span at the moment. -/
def audioBusy (k : MillSt) : Bool := k.jobs.any (fun j => j.spans.any (fun sp => sp.audio && sp.stage == 2))

/-- SPAN_START: the first waiting video span goes to a pipe, and the first waiting audio span to the audio unit, each in its own order (R179);
where no span waits, records that can be written are. -/
def execSpanStart (m : MDie) (s : State) : Host.Outcome State Fault Refusal :=
  .next (live s (fun s =>
    let v := nextSpan (millOf s m.val) false
    let s := match v with | some x => startSpan s m x.1 x.2.1 x.2.2 | none => s
    let k := millOf s m.val
    match if audioBusy k then none else nextSpan k true with
    | some x => startSpan s m x.1 x.2.1 x.2.2
    | none => if v.isSome then s else k.jobs.foldl (fun s j => tryCommit s m.val j.ref) s))

/-- The bytes of an accepted completion join their span; with the last of them the span is fetched (R189, R190). -/
def readDone (s : State) (m : Nat) (c : MillCmd) (base : Nat) (data : List Byte) : State :=
  let s := dropCmds s m (fun x => x.cid == c.cid && x.ref == c.ref && x.span == c.span && x.off == c.off)
  let bytes := (data.drop (base + c.lo - c.off)).take (c.hi - c.lo)
  let k := millOf s m
  let more := (k.cmds ++ k.backlog).any (fun x => x.ref == c.ref && x.span == c.span)
  let s := updSpan s m c.ref c.span (fun x => { x with
    pieces := (x.pieces ++ [(c.lo, bytes)]).mergeSort (fun a b => a.1 ≤ b.1), stage := if more then 2 else 3 })
  match (millOf s m).jobs.find? (fun j => j.ref == c.ref) with
  | none => s
  | some j => match j.spans[c.span]? with
    | some sp => if sp.audio && sp.stage == 3 then audioSpanDone s m c.ref c.span sp else s
    | none => s

/-- The span of a command. -/
def spanOf (s : State) (m : Nat) (c : MillCmd) : Option MSpan :=
  ((millOf s m).jobs.find? (fun j => j.ref == c.ref)).bind (fun j => j.spans[c.span]?)

/-- The command with an identifier. -/
def cmdOf (s : State) (m cid : Nat) : Option MillCmd := (millOf s m).cmds.find? (fun c => c.cid == cid)

/-- KEEP_ALIVE: sent to a ready NVMe target (R188). -/
def execKeepAlive (m : MDie) (target : Fin 16) (s : State) : Host.Outcome State Fault Refusal :=
  .next (live s (fun s =>
    if rget s Reg.MILL_STATE m.val target.val = 2 ∧ rget s Reg.MILL_KIND m.val target.val = 0 then
      emit s (.ethernet m 1 target.val)
    else s))

/-- A target's ENABLE applied: 1 starts its connection, unless its descriptor is refused or cannot be read; 0 takes it down. The descriptor is
read as TC15, which alone configures targets (R164, R187, R455; log entry 24). -/
def targetEnableApply (m i v : Nat) (s : State) : State :=
  let s := rset s Reg.MILL_ENABLE m i v
  if v % 2 = 0 then rset s Reg.MILL_STATE m i 0
  else
    let a := rget64 s Reg.MILL_DESC_LO Reg.MILL_DESC_HI m i
    let r := (Access.start s 15 none).rd a 256
    let s := r.2.s
    let fam := (r.1.headD 0).toNat % 16
    let nul := (r.1.drop 0x40).contains 0
    if r.2.faults = [] ∧ r.2.stalled = false ∧ (fam = 4 ∨ fam = 6) ∧ (nul ∨ rget s Reg.MILL_KIND m i = 1) then rset s Reg.MILL_STATE m i 1
    else raise (rset s Reg.MILL_STATE m i 3) (evOf Reg.MILL_STATE i (10 + m) 0)

/-- TARGET_CONNECTION_READY: a connecting target is ready (R187, R188). -/
def execTargetConnectionReady (m : MDie) (target : Fin 16) (mdtsKib : BitVec 16) (s : State) :
    Host.Outcome State Fault Refusal :=
  .next (live s (fun s =>
    if rget s Reg.MILL_STATE m.val target.val = 1 then
      rset (rset s Reg.MILL_STATE m.val target.val 2) Reg.MILL_MAX_XFER_KIB m.val target.val (min mdtsKib.toNat 1024)
    else s))

/-- DECODE_GROUP_POWERED: the group is on and its waiting spans start (R405). -/
def execDecodeGroupPowered (m : MDie) (g : Fin 8) (s : State) : Host.Outcome State Fault Refusal :=
  .next (live s (fun s =>
    let waiting := (millOf s m.val).pipes.filter (fun p => p.1 / 4 == g.val && pipeStage (millOf s m.val) p.2 == 1)
    if waiting = [] then s
    else
      let s := { s with power := { s.power with on := addOnce s.power.on (groupDomain m.val g.val) } }
      waiting.foldl (fun s p =>
        match entryOf s (2060 + m.val) p.2.1, ((millOf s m.val).jobs.find? (fun j => j.ref == p.2.1)).bind (fun j => j.spans[p.2.2]?) with
        | some e, some sp => startFetch s m e p.2.1 p.2.2 sp
        | _, _ => s) s))

/-- DECODE_GROUP_IDLE_OFF: MILL_IDLE_US without a span (R405), or at once at the thermal floor beyond the first two groups (R411). -/
def execDecodeGroupIdleOff (m : MDie) (g : Fin 8) (s : State) : Host.Outcome State Fault Refusal :=
  .next (live s (fun s =>
    let k := millOf s m.val
    let i := groupDomain m.val g.val
    if k.pipes.any (fun p => p.1 / 4 == g.val) ∨ !domainOn s i then s
    else
      let s := if s.power.floor ∧ 2 ≤ g.val then s
        else advanceTo s (mapGet k.idleFrom g.val 0 + 1000 * rget s Reg.POWER_MILL_IDLE_US)
      { s with power := { s.power with on := dropAll s.power.on i } }))

-- a span decoded ------------------------------------------------------------------------------------------------------

/-- The elementary stream of a video span, with the demultiplexer's counts over the PIDs of the source record and the transport stream's audio
of the tracks that the docket asks for and the record gives a codec (R182, R192, R193, R207). -/
def spanStream (s : State) (m : Nat) (e : QEntry) (i : Nat) (sp : MSpan) : List (Byte × Bool) × List AudioPiece × State :=
  if isEs sp.source then
    let last := sp.pieces.foldl (fun n p => max n (p.1 + p.2.length)) 0
    let bytes := (List.range last).map (fun i =>
      match sp.pieces.find? (fun p => p.1 ≤ i && i < p.1 + p.2.length) with
      | some p => (p.2.getD (i - p.1) 0, false)
      | none => ((0 : Byte), false))
    (bytes, [], s)
  else
    let b := (spanBytes sp 0 sp.len).toArray
    let sc := tsScan b 0 none { packets := [], skipped := 0, losses := 0 } (2 * b.size + 2)
    let vpid := rf sp.source 0x18 0 13
    let pid (t : Nat) : Nat := if t = 0 then rf sp.source 0x18 16 13 else if t = 1 then rf sp.source 0x1C 0 13 else rf sp.source 0x1C 16 13
    let ds := ([vpid, pid 0, pid 1, pid 2].eraseDups.filter (· != 0x1FFF)).map (fun n => (n, demux b sc.packets n))
    let of' (n : Nat) : Demux := ((ds.find? (fun d => d.1 == n)).map (·.2)).getD Demux.start
    let au := (List.range 3).filterMap (fun t =>
      let codec := rf sp.source 0x30 (2 * t) 2
      if bitAt (ingAudio e.dk) t && codec != 0 && pid t != 0x1FFF then
        some { entry := i, track := t, codec, marks := (of' (pid t)).marks, bytes := (of' (pid t)).es : AudioPiece }
      else none)
    let s := rinc s Reg.MILL_TS_BYTES_SKIPPED m 0 sc.skipped
    let s := rinc s Reg.MILL_TS_LOCK_LOSSES m 0 sc.losses
    let s := rinc s Reg.MILL_TEI_DROPS m 0 (ds.map (·.2.tei)).sum
    let s := rinc s Reg.MILL_SCRAMBLED_DROPS m 0 (ds.map (·.2.scrambled)).sum
    let s := rinc s Reg.MILL_CC_ERRORS m 0 (ds.map (·.2.ccErrors)).sum
    ((of' vpid).es, au, s)

/-- The caption data of every picture of a listed span, whether decoded or not (R203). -/
def spanCaptions (e : QEntry) (i : Nat) (sp : MSpan) (es : List (Byte × Bool)) : List CapPic :=
  if !ingCaptions e.dk then []
  else sp.frames.map (fun f =>
    { entry := i, src := sp.src, display := frDisplay f
      trip := Config.captionTriplets (codecOf sp.source) (((es.drop (rf f 0 0 32)).take (rf f 4 0 32)).map (·.1)) })

/-- A span that a pipe has decoded: its frames, counts and record (R195, R209, R210). -/
def decodedSpan (s : State) (m : Nat) (e : QEntry) (r : DocketRef) (i : Nat) (sp : MSpan) (es : List (Byte × Bool)) : State :=
  let hdr := if isEs sp.source then (es.take sp.hdr).map (·.1) else []
  let l := decodeSpan (codecOf sp.source) hdr es sp
  let fs := (outputs sp).map (outputFrame (profileIn s m (ingProfile e.dk)) i sp l)
  let s := rinc s Reg.MILL_FRAMES_DECODED m 0 l.length
  let s := rinc s Reg.MILL_CONCEALED m 0 (fs.countP (fun f => f.1.damage / 64 == 1))
  let s := rinc s Reg.MILL_SUBSTITUTED m 0 (fs.countP (fun f => f.1.damage / 64 == 2))
  let s := rinc s Reg.MILL_COLOUR_FALLBACK m 0 (fs.countP (·.2))
  let s := rinc s Reg.MILL_SPANS m
  let s := match l.find? (fun d => d.area != 0) with
    | none => s
    | some d => damageRecord s m e sp.addr d.idx (if d.pic.isNone then 2 else 1)
  let s := updSpan s m r i (fun y => { y with stage := 4, pieces := [] })
  tryCommit (updJob s m r (fun j => { j with frames := j.frames ++ fs.map (·.1) })) m r

/-- A fetched span on a pipe is decoded, concealed and handed on with its audio and captions, or is mid-grey; the pipe and its reservation are
free (R181, R184, R195 to R210). -/
def spanDone (s : State) (m p : Nat) (e : QEntry) (r : DocketRef) (i : Nat) (sp : MSpan) : State :=
  let k := millOf s m
  let s := noteIdle (setMill s m { k with pipes := mapErase k.pipes p, reserved := mapErase k.reserved p }) m
  let x := spanStream s m e i sp
  let s := updJob x.2.2 m r (fun j => { addAudio j sp x.2.1 with captions := j.captions ++ spanCaptions e i sp x.1 })
  if spanCause sp ≠ 0 then greySpan s m e r i sp (spanCause sp)
  else if !isEs sp.source && recordOutside sp x.1.length then greySpan s m e r i sp 1
  else if streamBad (codecOf sp.source) (x.1.map (·.1)) then greySpan s m e r i sp 2
  else decodedSpan s m e r i sp x.1

/-- SPAN_COMPLETE: a pipe has decoded its span. -/
def execSpanComplete (m : MDie) (pipe : Fin 32) (s : State) : Host.Outcome State Fault Refusal :=
  .next (live s (fun s =>
    let k := millOf s m.val
    match mapFind k.pipes pipe.val with
    | none => s
    | some (r, i) =>
      match entryOf s (2060 + m.val) r, (k.jobs.find? (fun j => j.ref == r)).bind (fun j => j.spans[i]?) with
      | some e, some sp => if sp.stage = 3 then spanDone s m.val pipe.val e r i sp else s
      | _, _ => s))

end Sys2Proof.Machine
end

