-- ==== Sys2Proof/Machine/Load.lean ====
section
/-! DEFINITION. Sys2Proof/Machine/Load.lean: LOAD: a weight image read from storage, multicast and placed: R354 to R358.
Log entry 28. -/

namespace Sys2Proof.Machine

-- the stream (R356) ---------------------------------------------------------------------------------------------------

/-- Manifest chunks of a stream: the manifest padded to whole chunks (log entry 28). -/
def manChunks (man : List Byte) : Nat := ceilDiv (manLen man) 4096

/-- Chunks of the whole stream: the manifest, then the slot from 0x80_0000 on. -/
def streamChunks (man : List Byte) : Nat :=
  if imageBad man then manChunks man else manChunks man + ceilDiv (mf man 0x30 0 64) 4096

/-- First chunk of an extent in the stream. -/
def extentChunk (man : List Byte) (ext : Nat) : Nat := manChunks man + (xrOffset ext - dataOff) / 4096

/-- The manifest as a member holds it: none until its chunks have arrived. -/
def memberManifest (j : ChestJob) : Option (List Byte) :=
  match mapFind j.stream 0 with
  | none => none
  | some c =>
    let n := manChunks c
    if headOk c ∧ (List.range n).all (fun i => (mapFind j.stream i).isSome) then
      some (((List.range n).flatMap (fun i => padTo 4096 0 (mapGet j.stream i []))).take (manLen c))
    else none

/-- End of an extent in its slot: the next extent's place or the end of the data. -/
def extentEnd (man : List Byte) (k : Nat) : Nat :=
  match (manRecs man)[k + 1]? with
  | some n => xrOffset n
  | none => dataOff + mf man 0x30 0 64

/-- Chunks that hold extent k: a compressed extent's stored length is not in its record. -/
def chunksFor (man : List Byte) (k : Nat) : List Nat :=
  match (manRecs man)[k]? with
  | none => []
  | some n =>
    let c := extentChunk man n
    let len := if xrZstd n then extentEnd man k - xrOffset n else storedLen n
    (List.range (ceilDiv len 4096)).map (c + ·)

/-- The stored bytes of extent k, once every chunk of it is there. -/
def extentBytes (j : ChestJob) (man : List Byte) (k : Nat) : Option (List Byte) :=
  match (manRecs man)[k]? with
  | none => none
  | some n =>
    let cs := chunksFor man k
    if cs.all (fun c => (mapFind j.stream c).isSome) then
      let all := cs.flatMap (fun c => padTo 4096 0 (mapGet j.stream c []))
      if !xrZstd n then some (all.take (storedLen n))
      else
        let m := leNat (all.take 4)
        some (all.take (4 + 4 * m + (unpack 32 (all.drop 4) m).sum))
    else none

/-- The place table (R354). -/
def placeTable (j : ChestJob) (man : List Byte) : Option (List Nat) :=
  (extentBytes j man 0).map (fun b => unpack 256 b (b.length / 32))

/-- Extent k placed on this member: its records of the place table (R354, R355). -/
def placeImage (s : State) (e : QEntry) (j : ChestJob) (man : List Byte) (table : List Nat) (k : Nat) : State :=
  match (manRecs man)[k]?, extentBytes j man k with
  | some n, some stored =>
    let mine := table.filter (fun p => prExtent p == k && prRank p == j.rank)
    let s := updChest s j.ref (fun j => { j with placed := j.placed ++ [k] })
    if mine = [] ∨ k = 0 then s
    else match elementBytes n stored mine with
      | none =>
        let s := rinc s Reg.CHEST_ZSTD_ERRORS
        noteChest j.ref ((e.access s).fault 3)
      | some data => noteChest j.ref (mine.foldl (fun x p => placeRecordData x n data p) (e.access s))
  | _, _ => s

/-- Every extent that has arrived and is not placed is placed; an image that breaks a rule ends the docket (R355). -/
def placeArrived (s : State) (r : DocketRef) : State :=
  match jobOf s r, entryOf s 2058 r with
  | some j, some e =>
    match (if j.man = [] then memberManifest j else some j.man) with
    | none => s
    | some man =>
      if imageBad man then (if j.rank = chNsources e.dk then s else endChest s r 1)
      else match placeTable j man with
        | none => s
        | some table =>
          if placesBad (manRecs man) table then endChest s r 1
          else
            let ks := (List.range (mfExtents man)).filter (fun k => !j.placed.contains k && (extentBytes j man k).isSome)
            ks.foldl (fun s k => placeImage s e j man table k) s
  | _, _ => s

-- packets (R357) ------------------------------------------------------------------------------------------------------

/-- An image packet: OPC 13 or 14, its flags, STATUS and chunk. -/
def imagePacket (s : State) (e : QEntry) (dev gen opc : Nat) (mcast resent fin : Bool) (status chunk : Nat) (data : List Byte) :
    Packet :=
  let op := opc + b2n resent * 16 + b2n fin * 32 + status * 256 + chCkpt e.dk % 2 ^ 32 * 2 ^ 32 + chunk % 2 ^ 32 * 2 ^ 64
  let crc := if opc = 13 then crc32c (natLe op 12 ++ data) else 0
  mkPacket s dev gen e.tenant.val mcast (if opc = 13 then 2 else 1) chunk (op + crc * 2 ^ 96) data

/-- An image packet's CRC as the perturbation leaves it, and the packet sent (R399). -/
def sendImage (s : State) (p : Packet) (chunk : Nat) : State :=
  let v := pertValue s (8 + chunk % 2) 2 0 32 (pf p 224 32)
  send v.2 (some 2058) (pSet p 224 32 v.1) (some (if chunk % 2 = 0 then 0 else 1))

/-- A chunk, or the END at the stream's end, as the root sends it: into the group of its parity, or to one member again. -/
def rootSend (s : State) (e : QEntry) (j : ChestJob) (c : Nat) (one : Option Nat) : State :=
  let fin := j.fin.isSome && !(mapFind j.stream c).isSome
  let data := mapGet j.stream c []
  let st := if fin then j.fin.getD 0 else 0
  match one with
  | none => sendImage s (imagePacket s e (chMcast e.dk (c % 2)) 0 13 true e.reexec fin st c data) c
  | some rank =>
    let dev := j.members.getD rank 0
    sendImage s (imagePacket s e dev (peerGen (peerOut s dev)) 13 false true fin st c data) c

/-- The other members of a LOAD. -/
def otherRanks (j : ChestJob) : List Nat := (List.range j.members.length).filter (· != j.rank)

/-- Members that can still be reached. -/
def liveRanks (s : State) (j : ChestJob) : List Nat :=
  (otherRanks j).filter (fun m => let d := j.members.getD m 0
    peerFault s d == 0 && (j.devs.any (fun x => x.1 == d && x.2 == peerGen (peerOut s d))))

/-- The root sends chunks in order while they are read and at most OUTSTANDING are unacknowledged, then the END (R337,
R356). -/
def rootPump (s : State) (r : DocketRef) (fuel : Nat) : State :=
  match fuel with
  | 0 => s
  | fuel + 1 =>
    match jobOf s r, entryOf s 2058 r with
    | some j, some e =>
      let open' := (j.sent.map (fun x => x.2.1)).eraseDups.length
      let ready := (mapFind j.stream j.next).isSome || (j.fin.isSome && j.next = j.slot && !(imageBad j.man && j.man != []))
      if !ready ∨ rget s Reg.CHEST_OUTSTANDING ≤ open' then s
      else
        let dests := if chMcastEn e.dk then liveRanks s j else []
        let s := if dests = [] then s else rootSend s e j j.next none
        let s := updChest s r (fun j => { j with
          next := j.next + 1, sent := j.sent ++ dests.map (fun m => (m, j.next, s.time.cyc)) })
        rootPump s r fuel
    | _, _ => s

/-- The root ends once everything it read is placed and acknowledged (R356): slot holds the stream's length. -/
def rootEnd (s : State) (r : DocketRef) : State :=
  match jobOf s r, entryOf s 2058 r with
  | some j, some _ =>
    if j.fin.isSome ∧ j.sent = [] ∧ j.slot < j.next then endChest s r (j.fin.getD 0)
    else if j.fin.isSome ∧ j.sent = [] ∧ imageBad j.man ∧ j.man ≠ [] ∧ j.slot ≤ j.next then endChest s r 1
    else s
  | _, _ => s

-- reading the image (R356, R188 to R191) ------------------------------------------------------------------------------

/-- The mark of a storage command that serves a LOAD, in its span number. -/
def loadSpan : Nat := 1024

/-- Reads in flight of a LOAD, or waiting to leave. -/
def loadCmds (s : State) (r : DocketRef) : Nat :=
  ((List.range 2).map (fun m => ((millOf s m).cmds ++ (millOf s m).backlog).countP (fun c => c.ref == r && loadSpan ≤ c.span))).sum

/-- One Mill's target may not be read by the docket's tenant (R187). -/
def loadRefused (s : State) (e : QEntry) : Bool :=
  (List.range 2).any (fun m => rget s Reg.MILL_ENABLE m (chTarget e.dk) == 0 || !bitAt (rget s Reg.MILL_TENANT_MASK m (chTarget e.dk)) e.tenant.val)

/-- A piece of the image of at most 1 MiB is asked for, on MD0 or MD1 by turns (R356). -/
def readPiece (s : State) (e : QEntry) (r : DocketRef) (lo hi : Nat) : State :=
  let m : MDie := if lo / 2 ^ 20 % 2 = 0 then 0 else 1
  let t := chTarget e.dk
  let rdma := rget s Reg.MILL_KIND m.val t = 1
  let blk := if rdma then 1 else 2 ^ rget s Reg.MILL_LBA_LOG2 m.val t
  let xfer := if rdma then 0x100000 else max blk (rget s Reg.MILL_MAX_XFER_KIB m.val t * 1024)
  (splitRange lo hi (chList e.dk) blk xfer).foldl (fun s q =>
    sendCmd s m { cid := 0, target := t, off := q.1, len := q.2.1, lo := q.2.2.1, hi := q.2.2.2, ref := r, span := loadSpan,
                  tries := 0, sentAt := 0 }) s

/-- Reads leave while both targets are ready and the I/O queues have room (R188). -/
def loadIssue (s : State) (r : DocketRef) (fuel : Nat) : State :=
  match fuel with
  | 0 => s
  | fuel + 1 =>
    match jobOf s r, entryOf s 2058 r with
    | some j, some e =>
      match j.pieces with
      | [] => s
      | p :: rest =>
        let st (m : Nat) : Nat := rget s Reg.MILL_STATE m (chTarget e.dk)
        if st 0 = 3 ∨ st 1 = 3 then endChest s r 3
        else if st 0 ≠ 2 ∨ st 1 ≠ 2 ∨ 4096 ≤ loadCmds s r then s
        else
          let s := updChest s r (fun j => { j with pieces := rest })
          loadIssue (readPiece s e r p.1 p.2) r fuel
    | _, _ => s

/-- The pieces of an image range, cut at multiples of 1 MiB. -/
def pieceList (lo hi : Nat) : List (Nat × Nat) :=
  (List.range (ceilDiv hi (2 ^ 20) - lo / 2 ^ 20)).map (fun i =>
    let a := (lo / 2 ^ 20 + i) * 2 ^ 20
    (max lo a, min hi (a + 2 ^ 20)))

/-- A LOAD's root enters a phase that reads a range of the image. -/
def loadRead (s : State) (r : DocketRef) (ph lo hi : Nat) : State :=
  loadIssue (updChest s r (fun j => { j with phase := ph, pieces := pieceList lo hi, got := [] })) r chestFuel

/-- The bytes [lo, hi) among the pieces read, or none while some are missing. -/
def piecesBytes (got : List (Nat × List Byte)) (lo hi : Nat) : Option (List Byte) :=
  let l := got.mergeSort (fun a b => a.1 ≤ b.1)
  if spansCover (sortSpans (l.map (fun p => (p.1, p.1 + p.2.length)))) lo hi then
    some (l.flatMap (fun p => (p.2.drop (lo - p.1)).take (min hi (p.1 + p.2.length) - max lo p.1)))
  else none

/-- The manifest is at hand: its chunks start the stream, and the data is read next (R356). -/
def manifestRead (s : State) (e : QEntry) (r : DocketRef) (man : List Byte) : State :=
  let n := manChunks man
  let chunks : SMap (List Byte) := (List.range n).map (fun i => (i, (man.drop (4096 * i)).take 4096))
  let bad := imageBad man
  let s := updChest s r (fun j => { j with man := man, stream := chunks, slot := streamChunks man, fin := if bad then some 1 else none })
  let s := if bad ∨ mf man 0x30 0 64 = 0 then updChest s r (fun j => { j with phase := 55, pieces := [], fin := if bad then some 1 else some e.status })
    else loadRead s r 55 dataOff (dataOff + mf man 0x30 0 64)
  rootEnd (rootPump s r chestFuel) r

/-- Neither copy is intact: the stream is an END alone (R356; log entry 28). -/
def noManifest (s : State) (r : DocketRef) : State :=
  let s := updChest s r (fun j => { j with phase := 55, pieces := [], slot := 0, fin := some 3 })
  rootEnd (rootPump s r chestFuel) r

/-- Data has arrived: whole chunks join the stream; once all are there the digests are checked (R343, R356). -/
def dataRead (s : State) (r : DocketRef) : State :=
  match jobOf s r, entryOf s 2058 r with
  | some j, some e =>
    let n := manChunks j.man
    let len := mf j.man 0x30 0 64
    let fresh := (List.range (ceilDiv len 4096)).filterMap (fun i =>
      if (mapFind j.stream (n + i)).isSome then none
      else (piecesBytes j.got (dataOff + 4096 * i) (dataOff + min len (4096 * i + 4096))).map (fun b => (n + i, b)))
    let s := updChest s r (fun j => { j with stream := fresh.foldl (fun m p => mapSet m p.1 p.2) j.stream })
    let s := placeArrived s r
    match jobOf s r with
    | none => s
    | some j =>
      let all := (List.range (ceilDiv len 4096)).all (fun i => (mapFind j.stream (n + i)).isSome)
      let s := if !all ∨ j.fin.isSome then s
        else
          let bad := (List.range (mfExtents j.man)).countP (fun k => match (manRecs j.man)[k]?, extentBytes j j.man k with
            | some x, some b => sha256 b != xrDigest x
            | _, _ => true)
          let s := rinc s Reg.CHEST_BAD_EXTENTS 0 0 bad
          let s := if bad = 0 then s else noteChest r ((e.access s).fault 3)
          updChest s r (fun j => { j with fin := some (if bad = 0 then 0 else 3) })
      rootEnd (rootPump s r chestFuel) r
  | _, _ => s

/-- Bytes of a LOAD's Read have arrived (R190, R356). -/
def loadData (s : State) (c : MillCmd) (data : List Byte) : State :=
  match jobOf s c.ref, entryOf s 2058 c.ref with
  | some j, some e =>
    let bytes := (data.drop (chList e.dk + c.lo - c.off)).take (c.hi - c.lo)
    let s := updChest s c.ref (fun j => { j with got := j.got ++ [(c.lo, bytes)] })
    let s := loadIssue s c.ref chestFuel
    let base := copyOff j.cur
    let got := j.got ++ [(c.lo, bytes)]
    match j.phase with
    | 51 =>
      match piecesBytes got base (base + 128) with
      | none => s
      | some h =>
        if headOk h then loadRead s c.ref 52 base (base + manLen h)
        else if j.cur = 0 then loadRead (updChest s c.ref (fun j => { j with cur := 1 })) c.ref 51 (copyOff 1) (copyOff 1 + 128)
        else noManifest s c.ref
    | 52 =>
      let h := (piecesBytes got base (base + 128)).getD []
      match if h = [] then none else piecesBytes got base (base + manLen h) with
      | none => s
      | some man =>
        if intact man then manifestRead s e c.ref man
        else if j.cur = 0 then loadRead (updChest s c.ref (fun j => { j with cur := 1 })) c.ref 51 (copyOff 1) (copyOff 1 + 128)
        else noManifest s c.ref
    | _ => dataRead s c.ref
  | _, _ => s

/-- A LOAD's Read has failed for good (R190; log entry 28). -/
def loadFail (s : State) (c : MillCmd) : State := endChest s c.ref 3

-- LOAD (R356, R358) ---------------------------------------------------------------------------------------------------

/-- A member acknowledges a chunk to the root (R356 to R358). -/
def ackImage (s : State) (e : QEntry) (dev chunk status : Nat) (fin : Bool) : State :=
  let p := imagePacket s e dev (peerGen (peerOut s dev)) 14 false false fin status chunk []
  send s (some 2058) p (some (if chunk % 2 = 0 then 0 else 1))

/-- LOAD starts on the root or on another member: the root goes on without members that are fenced, and completes FENCED (R289, R356,
R358). -/
def startLoad (s : State) (e : QEntry) : State :=
  let r := e.toRef
  let gr := (e.access s).rdNat (chChest e.dk) 128
  if gr.2.stalled then s
  else if gr.2.faults ≠ [] then endChest (noteChest r gr.2) r 0
  else
    let g := readGroup gr.1
    let devs := groupDevs g
    let rank := firstIdx devs (· == ownDev s)
    let root := chNsources e.dk
    if groupBad g ∨ devs.length ≤ rank ∨ devs.length ≤ root then endChest gr.2.s r 1
    else
      let others := devs.filter (· != ownDev s)
      let need := if rank = root then others else [devs.getD root 0]
      let gone := need.any (fun d => peerFault s d != 0)
      if gone ∧ rank ≠ root then endChest gr.2.s r 8
      else
        let s := updEntry gr.2.s 2058 r (fun e => { e with
          started := true, status := if gone then worst [e.status, 8] else e.status })
        let reach := need.filter (fun d => peerFault s d == 0)
        let j := { newJob s r with members := devs, rank := rank, devs := reach.map (fun d => (d, peerGen (peerOut s d))) }
        let s := { s with chest := s.chest ++ [j] }
        if rank ≠ root then (if e.reexec then ackImage s e (devs.getD root 0) 0 15 false else s)
        else if loadRefused s e then endChest s r 2
        else loadRead s r 51 0 128

/-- LOAD. -/
def execLoad (ref : DocketRef) (s : State) : Host.Outcome State Fault Refusal :=
  .next (live s (fun s =>
    match chestEntry s 2 ref with
    | none => s
    | some e => if (jobOf s ref).isSome then loadIssue s ref chestFuel else startLoad s e))

/-- The LOAD in progress that an image packet belongs to (R356). -/
def loadFor (s : State) (p : Packet) : Option (ChestJob × QEntry) :=
  s.chest.findSome? (fun j => match entryOf s 2058 j.ref with
    | none => none
    | some e => if dkOp e.dk = 2 ∧ e.tenant.val = pTenant p ∧ chCkpt e.dk % 2 ^ 32 = pf p 160 32 ∧ !e.done ∧ !e.cut then some (j, e) else none)

/-- A chunk or the END reaches a member: kept, placed with its extent, acknowledged; with the END and every chunk the docket
ends with the END's status (R356). -/
def takeImage (s : State) (j : ChestJob) (e : QEntry) (p : Packet) : State :=
  let c := pf p 192 32
  let fin := pf p 133 1 = 1
  let s := updChest s j.ref (fun j => { j with
    stream := if fin then j.stream else mapSet j.stream c p.data
    fin := if fin then some (pf p 136 4) else j.fin
    slot := if fin then c else j.slot })
  let s := ackImage s e (pSrc p) c 0 fin
  let s := placeArrived s j.ref
  match jobOf s j.ref with
  | none => s
  | some j => match j.fin with
    | none => s
    | some st => if (List.range j.slot).all (fun i => (mapFind j.stream i).isSome) then endChest s j.ref st else s

/-- IMAGE_DATA: a chunk or IMAGE_END, its CRC checked (R300, R356). -/
def execImageData (l : LinkId) (p : Packet) (s : State) : Host.Outcome State Fault Refusal :=
  .next (live s (fun s =>
    let a := admitPacket s (some l) p
    if pOpc p ≠ 13 ∨ !a.2 then (if pOpc p = 13 then a.1 else s)
    else match loadFor a.1 p with
      | none => rinc a.1 Reg.CHEST_STALE_CHUNKS
      | some (j, e) =>
        if j.rank = chNsources e.dk then a.1
        else if crc32c (natLe (pf p 128 96) 12 ++ p.data) ≠ pf p 224 32 then rinc a.1 Reg.CHEST_IMAGE_CRC_ERRORS
        else takeImage a.1 j e p))

/-- A member starts afresh: every chunk sent so far goes to it again by unicast (R358). -/
def restartMember (s : State) (j : ChestJob) (e : QEntry) (rank : Nat) : State :=
  let cs := List.range j.next
  let s := cs.foldl (fun s c => rootSend s e j c (some rank)) s
  updChest s j.ref (fun j => { j with
    sent := j.sent.filter (fun x => x.1 != rank) ++ cs.map (fun c => (rank, c, s.time.cyc)) })

/-- IMAGE_ACK: an answer reaches the root (R356, R358, R399). -/
def execImageAck (p : Packet) (s : State) : Host.Outcome State Fault Refusal :=
  .next (live s (fun s =>
    let a := admitPacket s none p
    let h := pertResponse a.1 (8 + pf p 192 32 % 2) 14 (pTenant p)
    if pOpc p ≠ 14 ∨ !a.2 then s
    else if h.1 then h.2
    else match loadFor h.2 p with
      | none => h.2
      | some (j, e) =>
        let rank := firstIdx j.members (· == pSrc p)
        if j.rank ≠ chNsources e.dk then h.2
        else if pf p 136 4 = 15 then restartMember h.2 j e rank
        else
          let s := updChest h.2 j.ref (fun j => { j with sent := j.sent.filter (fun x => !(x.1 == rank && x.2.1 == pf p 192 32)) })
          rootEnd (rootPump s j.ref chestFuel) j.ref))

/-- A chunk falls due: it goes again, to every member of a LOAD that has not acknowledged it (R305, R337). -/
def chunkResend (s : State) (j : ChestJob) (e : QEntry) (chunk : Nat) : State :=
  let due (at' : Nat) : Nat := at' + 1000 * rget s Reg.CHEST_CHUNK_RESEND_US / resendShift s (8 + chunk % 2)
  match j.wait.find? (fun x => x.chunk == chunk) with
  | some x =>
    let s := rinc (sendXfer (advanceTo s (due x.sentAt)) e x) Reg.CHEST_CHUNK_RESENDS
    updChest s j.ref (fun j => { j with wait := updFirst j.wait (fun y => y.chunk == chunk) (fun y => { y with sentAt := s.time.cyc }) })
  | none =>
    (j.sent.filter (fun x => x.2.1 == chunk)).foldl (fun s x =>
      let s := rinc (rootSend (advanceTo s (due x.2.2)) e j chunk (some x.1)) Reg.CHEST_CHUNK_RESENDS
      updChest s j.ref (fun j => { j with sent := j.sent.map (fun y => if y.1 = x.1 ∧ y.2.1 = chunk then (y.1, y.2.1, s.time.cyc) else y) })) s

/-- CHEST_CHUNK_RESEND (R337). -/
def execChestChunkResend (ref : DocketRef) (chunk : Nat) (s : State) : Host.Outcome State Fault Refusal :=
  .next (live s (fun s =>
    match jobOf s ref, (entryOf s 2058 ref).filter (fun e => e.running && !e.done && !e.cut) with
    | some j, some e => chunkResend s j e chunk
    | _, _ => s))

end Sys2Proof.Machine
end

