-- ==== Sys2Proof/Machine/RingOps.lean ====
section
/-! DEFINITION. Sys2Proof/Machine/RingOps.lean: docket rings as register writes reach them: R122, R123, R125, R128, R152, R155. -/

namespace Sys2Proof.Machine

/-- The DOCK page of a compute die. -/
def dockPage (n : Nat) : Page := ⟨.dock, n⟩

/-- A ring. -/
def ringOf (s : State) (n t : Nat) : RingSt := mapGet s.rings (16 * n + t) RingSt.reset

/-- A ring changed. -/
def updRing (s : State) (n t : Nat) (f : RingSt → RingSt) : State :=
  { s with rings := mapUpd s.rings (16 * n + t) RingSt.reset f }

/-- An index register of a ring. -/
def ringIdx (s : State) (f : Fld) (n t : Nat) : W32 := BitVec.ofNat 32 (rget s f n t)

/-- Slots of a ring. -/
def ringSlots (s : State) (n t : Nat) : Nat := 2 ^ rget s Reg.DOCK_RING_RING_LOG2 n t

/-- RING_BASE or COMP_BASE. -/
def ringBase (s : State) (comp : Bool) (n t : Nat) : Nat :=
  if comp then rget64 s Reg.DOCK_RING_COMP_BASE_LO Reg.DOCK_RING_COMP_BASE_HI n t
  else rget64 s Reg.DOCK_RING_RING_BASE_LO Reg.DOCK_RING_RING_BASE_HI n t

/-- STATE of a ring that is neither RESETTING nor STOPPED (R155). -/
def showRing (s : State) (n t : Nat) : State :=
  let en := rget s Reg.DOCK_RING_ENABLE n t = 1
  rset s Reg.DOCK_RING_STATE n t (if !en then 0 else if (ringOf s n t).stalled then 2 else 1)

/-- TAIL taken by a ring that is neither RESETTING nor STOPPED (R125, R128). -/
def tailTake (w : Writer) (n t : Nat) (v : W32) (s : State) : State :=
  let cur := ringIdx s Reg.DOCK_RING_TAIL n t
  let acc := ringIdx s Reg.DOCK_RING_ACCEPT n t
  if behind v cur then reportFld s (dockPage n) w Reg.DOCK_RING_TAIL t 2 v.toNat cur.toNat
  else
    let far := ringSlots s n t < (v - acc).toNat
    let x := if far then acc + BitVec.ofNat 32 (ringSlots s n t) else v
    let s := rset s Reg.DOCK_RING_TAIL n t x.toNat
    let s := if far then reportFld s (dockPage n) w Reg.DOCK_RING_TAIL t 0 v.toNat x.toNat else s
    if (ringOf s n t).stalled then showRing (updRing s n t (fun r => { r with stalled := false, retries := 0, fetched := [] })) n t
    else s

/-- TAIL applied: held aside while the ring is RESETTING or STOPPED (R152). -/
def tailApply (w : Writer) (n t : Nat) (v : W32) (s : State) : State :=
  if 3 ≤ rget s Reg.DOCK_RING_STATE n t then updRing s n t (fun r => { r with heldTail := some v })
  else tailTake w n t v s

/-- COMP_HEAD applied (R123, R125). -/
def compHeadApply (w : Writer) (n t : Nat) (v : W32) (s : State) : State :=
  let cur := ringIdx s Reg.DOCK_RING_COMP_HEAD n t
  if behind v cur then reportFld s (dockPage n) w Reg.DOCK_RING_COMP_HEAD t 2 v.toNat cur.toNat
  else rset s Reg.DOCK_RING_COMP_HEAD n t v.toNat

/-- ENABLE applied (R152, R155; a write of 1 during RESETTING is refused, log entry 30). -/
def ringEnableApply (w : Writer) (n t v : Nat) (s : State) : State :=
  let st := rget s Reg.DOCK_RING_STATE n t
  if v % 2 = 0 then
    let s := updRing (rset s Reg.DOCK_RING_ENABLE n t 0) n t (fun r => { r with fetched := [], retries := 0 })
    if 3 ≤ st then s else showRing s n t
  else if st = 3 then reportFld s (dockPage n) w Reg.DOCK_RING_ENABLE t 2 v 0
  else
    let s := showRing (rset s Reg.DOCK_RING_ENABLE n t 1) n t
    if st ≠ 4 then s
    else match (ringOf s n t).heldTail with
      | none => s
      | some h => tailTake w n t h (updRing s n t (fun r => { r with heldTail := none }))

/-- A field of a ring's configuration applied: refused while ENABLE is 1, whatever value is written (R122). -/
def ringCfgApply (w : Writer) (n t : Nat) (f : Fld) (v : Nat) (s : State) : State :=
  let cur := rget s f n t
  if rget s Reg.DOCK_RING_ENABLE n t = 1 then reportFld s (dockPage n) w f t 2 v cur
  else setClamped s w (dockPage n) f t v

-- BAR2 (R124) ---------------------------------------------------------------------------------------------------------

/-- What an offset of a tenant's BAR2 page names, for ring r. -/
inductive Bar2Fld where
  | tail (r : CDie)
  | compHead (r : CDie)
  | accept (r : CDie)
  | recorded (r : CDie)
  | state (r : CDie)
  | inflight (r : CDie)
deriving DecidableEq, Repr

/-- The tenant and the field at an offset of BAR2 (R124); none where the page has no field. -/
def bar2At (off : BitVec 17) : Option (TenantId × Bar2Fld) :=
  let t : TenantId := Fin.ofNat 16 (off.toNat / 0x2000)
  let o := off.toNat % 0x2000
  let two : CDie := Fin.ofNat 8 (o / 8)
  let four : CDie := Fin.ofNat 8 (o / 16)
  if o < 64 then
    (if o % 8 = 0 then some (t, .tail two) else if o % 8 = 4 then some (t, .compHead two) else none)
  else if 0x1000 ≤ o ∧ o < 0x1080 then
    (match o % 16 with
      | 0 => some (t, .accept four) | 4 => some (t, .recorded four) | 8 => some (t, .state four) | 12 => some (t, .inflight four)
      | _ => none)
  else none

/-- What the host reads at an offset of BAR2 (R18, R124): the write-only indices and an offset with no field read zero. -/
def bar2Read (s : State) (off : BitVec 17) : W32 :=
  BitVec.ofNat 32 (match bar2At off with
    | some (t, .accept r) => rget s Reg.DOCK_RING_ACCEPT r.val t.val
    | some (t, .recorded r) => rget s Reg.DOCK_RING_RECORDED r.val t.val
    | some (t, .state r) => rget s Reg.DOCK_RING_STATE r.val t.val
    | some (t, .inflight r) => rget s Reg.DOCK_RING_INFLIGHT r.val t.val
    | _ => 0)

/-- The writer behind a tenant's BAR2 page: that tenant, through PCIe (R124, R429, R437). -/
def bar2Writer (t : TenantId) : Writer := { input := 12, tenant := t }

/-- The writer of a ring's TAIL: through the ring's DOCK page, or through the offset of BAR2 that names it. A function in reset takes no
write through BAR2 (R123, R124, R153). -/
def tailBy (s : State) (way : Doorbell) (n : CDie) (t : TenantId) : Option Writer :=
  match way with
  | .dock w => some w
  | .bar2 off => if bar2At off = some (t, .tail n) ∧ hostUp s then some (bar2Writer t) else none

/-- The writer of a ring's COMP_HEAD. -/
def compHeadBy (s : State) (way : Doorbell) (n : CDie) (t : TenantId) : Option Writer :=
  match way with
  | .dock w => some w
  | .bar2 off => if bar2At off = some (t, .compHead n) ∧ hostUp s then some (bar2Writer t) else none

/-- TAIL_WRITE: through BAR2 or the DOCK page (R123, R124). -/
def execTailWrite (way : Doorbell) (die : CDie) (t : TenantId) (v : W32) (s : State) : Host.Outcome State Fault Refusal :=
  .next (match tailBy s way die t with
    | none => s
    | some w => gated s w (dockPage die.val) Reg.DOCK_RING_TAIL t.val v.toNat (tailApply w die.val t.val v))

/-- COMP_HEAD_WRITE. -/
def execCompHeadWrite (way : Doorbell) (die : CDie) (t : TenantId) (v : W32) (s : State) : Host.Outcome State Fault Refusal :=
  .next (match compHeadBy s way die t with
    | none => s
    | some w => gated s w (dockPage die.val) Reg.DOCK_RING_COMP_HEAD t.val v.toNat (compHeadApply w die.val t.val v))

/-- RING_ENABLE_WRITE. -/
def execRingEnableWrite (by' : Writer) (die : CDie) (t : TenantId) (en : Bool) (s : State) : Host.Outcome State Fault Refusal :=
  .next (gated s by' (dockPage die.val) Reg.DOCK_RING_ENABLE t.val (b2n en) (ringEnableApply by' die.val t.val (b2n en)))

end Sys2Proof.Machine
end

