-- ==== Sys2Proof/Machine/Rings.lean ====
section
/-! DEFINITION. Sys2Proof/Machine/Rings.lean: slots read, dockets accepted with their checks and clamps, completion records
written: R42, R43, R126 to R129, R139 to R141, R144. -/

namespace Sys2Proof.Machine

-- the Clerk's body (R136) ---------------------------------------------------------------------------------------------

/-- NCOND. -/
def ckNcond (d : Docket) : Nat := dkf d 0x30 1 3
/-- REMOTE. -/
def ckRemote (d : Docket) : Bool := dkf d 0x60 16 1 == 1
/-- DEVICE. -/
def ckDevice (d : Docket) : Nat := dkf d 0x60 0 16
/-- CLUSTER. -/
def ckCluster (d : Docket) : Nat := dkf d 0x64 0 6
/-- CTR. -/
def ckCtr (d : Docket) : Nat := dkf d 0x64 16 12
/-- ADD. -/
def ckAdd (d : Docket) : Nat := dkf d 0x68 0 64

/-- A Clerk docket completes PARAM_ERROR at acceptance (R117, R136). -/
def clerkError (d : Docket) : Bool := 2 < dkOp d || (dkOp d == 1 && (ckNcond d == 0 || 4 < ckNcond d))

-- fetching (R127, R128) -----------------------------------------------------------------------------------------------

/-- The ring may fetch and accept: ENABLE, SHAPE_OK, ACTIVE, and STATE RUNNING (R127, R155). -/
def ringRuns (s : State) (n t : Nat) : Bool :=
  rget s Reg.DOCK_RING_STATE n t == 1 && rget s Reg.DIMTAB_SHAPE_OK == 1 && rget s Reg.TENANT_ACTIVE 0 t == 1

/-- Slot q of a ring as a read returns it: none while the host cannot be reached or a zero-fill stalls it (R122, R153). -/
def readSlot (s : State) (n : CDie) (t : TenantId) (q : W32) (host : Docket) : Option (Docket × State) :=
  let a := ringBase s false n.val t.val + 128 * (q.toNat % ringSlots s n.val t.val)
  if rget s Reg.DOCK_RING_RING_LOC n.val t.val = 0 then
    (if hostUp s then some (host, emit s (.hostRead a 128)) else none)
  else
    let x := (Access.start s t.val none).rd a 128
    if x.2.stalled then none else some (BitVec.ofNat 1024 (leNat x.1), x.2.s)

/-- SLOT_READ_RETURN: the read of the next slot of a ring returns, up to 16 slots ahead of ACCEPT (R127). -/
def execSlotReadReturn (die : CDie) (t : TenantId) (host : Docket) (s : State) : Host.Outcome State Fault Refusal :=
  .next (live s (fun s =>
    let r := ringOf s die.val t.val
    let q := ringIdx s Reg.DOCK_RING_ACCEPT die.val t.val + BitVec.ofNat 32 r.fetched.length
    if !ringRuns s die.val t.val ∨ 16 ≤ r.fetched.length ∨ !ahead (ringIdx s Reg.DOCK_RING_TAIL die.val t.val) q then s
    else match readSlot s die t q host with
      | none => s
      | some (d, s) => updRing s die.val t.val (fun r => { r with
          fetched := r.fetched ++ [d], readAt := if r.fetched = [] then s.time.cyc else r.readAt })))

/-- The slot ACCEPT has been read and its SEQ does not match. -/
def seqMismatch (s : State) (n t : Nat) : Bool :=
  match (ringOf s n t).fetched with
  | [] => false
  | d :: _ => dkSeq d != ringIdx s Reg.DOCK_RING_ACCEPT n t

/-- SEQ_RETRY: the slot ACCEPT is read again after SEQ_RETRY_GAP; after SEQ_RETRY_LIMIT reads without a match the ring
stalls (R128). -/
def execSeqRetry (die : CDie) (t : TenantId) (host : Docket) (s : State) : Host.Outcome State Fault Refusal :=
  .next (live s (fun s =>
    if !ringRuns s die.val t.val ∨ !seqMismatch s die.val t.val then s
    else
      let s := advanceTo s ((ringOf s die.val t.val).readAt + 1024 * rget s Reg.DOCK_SEQ_RETRY_GAP die.val)
      match readSlot s die t (ringIdx s Reg.DOCK_RING_ACCEPT die.val t.val) host with
      | none => s
      | some (d, s) =>
        let s := updRing s die.val t.val (fun r => { r with
          fetched := d :: r.fetched.drop 1, retries := r.retries + 1, readAt := s.time.cyc })
        if !seqMismatch s die.val t.val then updRing s die.val t.val (fun r => { r with retries := 0 })
        else if (ringOf s die.val t.val).retries < rget s Reg.DOCK_SEQ_RETRY_LIMIT die.val then s
        else
          let s := updRing s die.val t.val (fun r => { r with stalled := true, retries := 0, fetched := [] })
          let s := rinc (showRing s die.val t.val) Reg.DOCK_SEQ_STALLS die.val
          raise s (evOf Reg.DOCK_SEQ_STALLS 0 die.val 0 t.val none [(ringIdx s Reg.DOCK_RING_ACCEPT die.val t.val).toNat])))

-- acceptance (R127, R129, R140, R144) ---------------------------------------------------------------------------------

/-- A docket of a ring completes PARAM_ERROR without executing (R129). -/
def docketError (s : State) (n t : Nat) (d : Docket) : Bool :=
  dkTenant d != t || dkNwait d == 3 ||
    match dkEngine d with
    | 0 => latheError s (dkHome n d) d
    | 1 => veError d
    | 2 => porterError s d
    | 3 => clerkError d
    | 4 => updateError d
    | 5 => collError d
    | 6 => millError d
    | 7 => hopperError s n d
    | 8 => chestError d
    | _ => true

/-- The clamped fields of a docket but EST (R129). -/
def engineClamps (s : State) (n : Nat) (d : Docket) : List DkClamp :=
  match dkEngine d with
  | 0 => latheClamps s (dkHome n d) d
  | 1 => veClamps d
  | 2 => porterClamps d
  | 5 => collClamps d
  | _ => []

/-- EST brought into 1 to MAX_EST (R144). -/
def estClamps (s : State) (t : Nat) (d : Docket) : List DkClamp :=
  let e := clampNat 1 (rget s Reg.TENANT_MAX_EST 0 t) (dkEst d)
  if e = dkEst d then [] else [{ off := 0x0C, lsb := 0, width := 16, written := dkEst d, applied := e }]

/-- A queue has an entry free for the tenant: 64 in all, four of them for TC15, at most QUEUE_CAP for another tenant
(R140). -/
def queueRoom (s : State) (q t : Nat) : Bool :=
  let l := queue s q
  if t = 15 then decide (l.length < 64)
  else decide (l.countP (fun e => e.tenant.val != 15) < 60) && decide (l.length < 64)
    && decide (l.countP (fun e => e.tenant.val == t) < rget s Reg.TENANT_QUEUE_CAP 0 t)

/-- A tenant is FOREGROUND. -/
def foreground (s : State) (t : Nat) : Bool := rget s Reg.TENANT_CLASS 0 t == 0

/-- vtime of a tenant in a queue (R141). -/
def vtimeOf (s : State) (q t : Nat) : Nat := mapGet s.vtime (16 * q + t) 0

/-- A foreground tenant's first docket in a queue raises its vtime to the least among those that hold dockets there
(R141). -/
def raiseVtime (s : State) (q t : Nat) : State :=
  let l := queue s q
  if !foreground s t ∨ l.any (fun e => e.tenant.val == t) then s
  else
    let vs := (l.filter (fun e => foreground s e.tenant.val)).map (fun e => vtimeOf s q e.tenant.val)
    match vs with
    | [] => s
    | v :: r => { s with vtime := mapSet s.vtime (16 * q + t) (max (vtimeOf s q t) (r.foldl min v)) }

/-- A new entry, its release evaluated for the first time (R42, R43, R56). -/
def newEntry (s : State) (die : CDie) (t : TenantId) (d : Docket) (q : Nat) (clamped : Bool) : QEntry :=
  let held := ftInvalid s (queueDie q)
  let n := stamp s
  let reached := !dkReleaseEn d || (!held && !ahead (dkRelease d) n)
  let late := dkReleaseEn d && !held && behind (dkRelease d) n
  { dk := d, die := die, tenant := t, seq := dkSeq d, est := dkEst d, late := late, clamped := clamped, reexec := false,
    carry := false, released := reached, judged := !held, eligible := false, waitFrom := none, running := false, ran := 0, done := false,
    cut := false, status := 0, badAddr := 0, nonfinite := 0, flushed := 0, digest := 0, todo := [], seqs := [], idx := [], parts := [], slot := none,
    started := false, xargs := [], startStamp := 0 }

/-- The docket with its clamped fields applied. -/
def applyClamps (d : Docket) (l : List DkClamp) : Docket := l.foldl (fun d c => dkSet d c.off c.lsb c.width c.applied) d

/-- The CLAMP records of a docket (R129): EST by the command processor, the others by the engine. -/
def raiseClamps (s : State) (e : QEntry) (src : Nat × Nat) (l : List DkClamp) : State :=
  l.foldl (fun s c => raise s { code := 0x3C04, off := c.off, lsb := c.lsb, die := src.1, unit := src.2, tenant := e.tenant.val,
                                dk := some e.words, args := [c.written, c.applied] }) s

/-- A docket is taken off its ring: ACCEPT and INFLIGHT advance, and its record is awaited (R127, R139). -/
def takeSlot (s : State) (n t : Nat) : State :=
  let acc := ringIdx s Reg.DOCK_RING_ACCEPT n t
  let s := updRing s n t (fun r => { r with
    fetched := r.fetched.drop 1, retries := 0, readAt := s.time.cyc, acc := r.acc ++ [{ seq := acc, done := none }] })
  let s := rset s Reg.DOCK_RING_ACCEPT n t (acc + 1).toNat
  rset s Reg.DOCK_RING_INFLIGHT n t (rget s Reg.DOCK_RING_INFLIGHT n t + 1)

/-- The head docket is accepted into its queue, where that has an entry free, or completes PARAM_ERROR there at once (R127, R129). A docket
that completes PARAM_ERROR at acceptance carries LATE 0: its release is never compared (DESIGN CHOICE, log entry 41). An unknown ENGINE has
no queue to wait for. -/
def acceptDocket (s : State) (die : CDie) (t : TenantId) (d : Docket) : State :=
  let n := die.val
  let q := queueOf n d
  if dkEngine d ≤ 8 ∧ !queueRoom s q t.val then s
  else if docketError s n t.val d then
    let s := takeSlot s n t.val
    let e := newEntry s die t d 0 false
    slotDone s n t.val e.seq (recordOf { e with late := false, status := 1 } 1 (stamp s) 0) (dkIrq d)
  else
      let ec := engineClamps s n d
      let tc := estClamps s t.val d
      let d := applyClamps d (tc ++ ec)
      let s := raiseVtime (takeSlot s n t.val) q t.val
      let e := newEntry s die t d q (tc ++ ec != [])
      let s := raiseClamps s e (n, 0) tc
      let src := queueSrc s q
      let s := raiseClamps s e (src.2.1, src.2.2) ec
      let s := if e.late ∧ q < 2048 then rinc s Reg.CLERK_LATE_RELEASES (q / 4) else s
      let s := wakeUnits (setQueue s q (queue s q ++ [e])) (unitsOfQueue q)
      evalQueue s q

/-- DOCKET_ACCEPT: the fetched docket of a ring whose conditions hold (R127). -/
def execDocketAccept (die : CDie) (t : TenantId) (s : State) : Host.Outcome State Fault Refusal :=
  .next (live s (fun s =>
    match (ringOf s die.val t.val).fetched with
    | [] => s
    | d :: _ =>
      if !ringRuns s die.val t.val ∨ seqMismatch s die.val t.val ∨ 1024 ≤ rget s Reg.DOCK_RING_INFLIGHT die.val t.val then s
      else acceptDocket s die t d))

-- completion records (R126, R139, R379) -------------------------------------------------------------------------------

/-- The record of the mirrored tenant is sent to the mirror ring on S (R379). -/
def mirrorRecord (s : State) (n t : Nat) (seq : W32) (r : Record) : State :=
  let lg := rget s Reg.HEALTH_RING_LOG2
  let base := rget64 s Reg.HEALTH_RING_LO Reg.HEALTH_RING_HI
  let a := base + (n * 2 ^ lg + seq.toNat % 2 ^ lg) * 32
  mirrorChunk s t 0 (writeOp a seq.toNat (tgenOf s t) 0 0 false false false 0 0) (natLe r.toNat 32)

/-- The record at its slot of the completion ring: in host memory, or in near memory under the tenant's ownership. None
while it must wait. -/
def writeRecord (s : State) (n t : Nat) (seq : W32) (r : Record) : Option State :=
  let a := ringBase s true n t + 32 * (seq.toNat % ringSlots s n t)
  if rget s Reg.DOCK_RING_COMP_LOC n t = 0 then (if hostUp s then some (emit s (.hostWrite a (natLe r.toNat 32))) else none)
  else
    let x := (Access.start s t none).wr a (natLe r.toNat 32)
    if x.stalled then none else some x.s

/-- COMPLETION_RECORD_WRITE: the oldest accepted docket of a ring has completed and a completion slot is free (R139). -/
def execCompletionRecordWrite (die : CDie) (t : TenantId) (s : State) : Host.Outcome State Fault Refusal :=
  .next (live s (fun s =>
    let n := die.val
    match (ringOf s n t.val).acc with
    | [] => s
    | a :: rest =>
      let recorded := ringIdx s Reg.DOCK_RING_RECORDED n t.val
      let free := (recorded - ringIdx s Reg.DOCK_RING_COMP_HEAD n t.val).toNat < ringSlots s n t.val
      match a.done with
      | none => s
      | some (r, irq) =>
        if !free then s
        else match writeRecord s n t.val a.seq r with
          | none => s
          | some s =>
            let s := updRing s n t.val (fun g => { g with acc := rest })
            let s := rset s Reg.DOCK_RING_RECORDED n t.val (a.seq + 1).toNat
            let s := rset s Reg.DOCK_RING_INFLIGHT n t.val (rget s Reg.DOCK_RING_INFLIGHT n t.val - 1)
            let s := if irq then msix s (8 * t.val + n) else s
            mirrorRecord s n t.val a.seq r))

end Sys2Proof.Machine
end

