-- ==== Sys2Proof/Machine/Finish.lean ====
section
/-! DEFINITION. Sys2Proof/Machine/Finish.lean: which dockets head their streams and may run, and all that a docket's completion
does: R42, R117 to R119, R139 to R141, R145, R223, R228, R379 to R382. -/

namespace Sys2Proof.Machine

-- eligibility (R140) --------------------------------------------------------------------------------------------------

/-- The oldest docket of each stream of a queue (R140). -/
def heads (l : List QEntry) : List QEntry :=
  l.foldl (fun acc e => if acc.any (fun x => x.tenant == e.tenant && x.die == e.die) then acc else acc ++ [e]) []

/-- The counters of a tenant in a cluster can be read: neither cleared nor filled at the moment (R93, R94). -/
def countersReady (s : State) (c t : Nat) : Bool :=
  !s.fills.counters.contains (16 * c + t) && match counterWay s c t with
    | none => true
    | some w => !s.fills.busy.contains (Region.way c w).key

/-- A counter has reached a target (R118). -/
def counterAt (s : State) (e : QEntry) (ctr target : Nat) : Bool := decide (target ≤ counterVal s e.cluster e.tenant.val ctr)

/-- Conditions joined by any or all; none hold where there are none. -/
def joined (any : Bool) (l : List Bool) : Bool := if any && l != [] then l.any id else l.all id

/-- The header waits hold (R131, R132). -/
def headerHolds (s : State) (e : QEntry) : Bool :=
  joined (dkWaitAny e.dk) ((List.range (dkNwait e.dk)).map (fun i =>
    counterAt s e (dkf e.dk 0x20 (16 * i) 12) (dkf e.dk (0x10 + 8 * i) 0 64)))

/-- The conditions of a CWAIT hold (R117, R136). -/
def cwaitHolds (s : State) (e : QEntry) : Bool :=
  if dkEngine e.dk = 3 ∧ dkOp e.dk = 1 then
    joined (dkf e.dk 0x30 0 1 == 1) ((List.range (ckNcond e.dk)).map (fun i =>
      counterAt s e (dkf e.dk (0x34 + 4 * (i / 2)) (16 * (i % 2)) 12) (dkf e.dk (0x40 + 8 * i) 0 64)))
  else true

/-- The intake number of an INGEST docket lies ahead of its window: it has no slot yet (R223). -/
def intakeAhead (s : State) (e : QEntry) : Bool :=
  dkEngine e.dk == 6 && ingToHopper e.dk && ingestFault s e == 0 &&
    decide (hopW s (ingHopper e.dk) + hopDrawn s (ingHopper e.dk) ≤ ingIntake e.dk)

/-- An INGEST docket to the Hopper is in progress. -/
def ingestRuns (s : State) (h : Nat) : Bool :=
  (queue s 2060 ++ queue s 2061).any (fun e => e.running && ingToHopper e.dk && ingHopper e.dk == h)

/-- What the Mill and the Hopper logic ask of a docket before its dispatch (R221, R223, R228). -/
def unitHolds (s : State) (e : QEntry) : Bool :=
  if dkEngine e.dk = 6 then
    if !ingToHopper e.dk ∨ ingestFault s e ≠ 0 then true
    else
      let h := ingHopper e.dk
      let twin := (queue s 2060 ++ queue s 2061).any (fun x =>
        x.running && ingToHopper x.dk && ingHopper x.dk == h && ingIntake x.dk == ingIntake e.dk && !x.is e.toRef)
      !hopFilling s h && !twin && !intakeAhead s e && match ingestSlot s e with
        | none => true
        | some i => e.reexec || hopState s h i != 1
  else if dkEngine e.dk = 7 then
    let h := hdHopper e.dk
    if dkOp e.dk = 1 then decide (hdArg e.dk % 2 ^ 48 ≤ hopDrawn s h) || !hopReady s h
    else dkOp e.dk == 2 || !ingestRuns s h
  else true

/-- The waits of a docket hold; one that names counters where its tenant has none does not wait (R94, R118, R132). -/
def waitsHold (s : State) (e : QEntry) : Bool :=
  if namesCounters e then
    if (counterWay s e.cluster e.tenant.val).isNone then true
    else countersReady s e.cluster e.tenant.val && headerHolds s e && cwaitHolds s e && unitHolds s e
  else unitHolds s e

/-- A release is reached on the die that evaluates it (R42, R56). -/
def releaseHolds (s : State) (q : Nat) (e : QEntry) : Bool :=
  e.released || !dkReleaseEn e.dk || (!ftInvalid s (queueDie q) && !ahead (dkRelease e.dk) (stamp s))

/-- The lines of the counters that a docket's waits read. -/
def counterLines (s : State) (e : QEntry) : List Nat :=
  let hdr := (List.range (dkNwait e.dk)).map (fun i => dkf e.dk 0x20 (16 * i) 12)
  let own := if dkEngine e.dk = 3 ∧ dkOp e.dk = 1 then
    (List.range (ckNcond e.dk)).map (fun i => dkf e.dk (0x34 + 4 * (i / 2)) (16 * (i % 2)) 12) else []
  ((hdr ++ own).filterMap (fun c => (counterAddr s e.cluster e.tenant.val c).map (· / 64))).eraseDups

/-- The counters that a docket waits on are read: errors in their lines are corrected, or poison them (R95). -/
def readCounters (s : State) (e : QEntry) : State :=
  if countersReady s e.cluster e.tenant.val then readLines s (counterLines s e) else s

/-- A docket that waits on a counter in a poisoned line ends with DATA_ERROR and a record: it waits no longer (R95, R167; log entry 11). -/
def counterPoison (s : State) (e : QEntry) : Access :=
  ((counterLines s e).filter (fun l => s.poison.contains l)).foldl (fun x l => x.poisoned l) (e.access s)

/-- A head evaluated: its wait timeout starts when its release is reached, and it stays eligible once it is (R95, R119, R145). What the Mill
and the Hopper logic ask must hold at the dispatch itself: a head for which it holds no longer waits again (R221, R223, R228). -/
def evalHead (s : State) (q : Nat) (e : QEntry) : State :=
  if e.running ∨ !e.released ∨ (e.eligible = true ∧ (unitHolds s e = true ∨ e.status = 3)) then s
  else
    let s := readCounters s e
    let x := if countersReady s e.cluster e.tenant.val then counterPoison s e else e.access s
    let s := x.s
    let e := { e with status := worst (e.status :: x.faults) }
    let ok := decide (x.faults ≠ []) || waitsHold s e
    let s := if x.faults = [] then s else updEntry s q e.toRef (fun f => { f with status := e.status })
    let from' := if e.eligible then none else e.waitFrom
    let s := if from'.isNone ∧ intakeAhead s e = true then rinc s Reg.HOPPER_INTAKE_WAITS (ingHopper e.dk % 2) else s
    updEntry s q e.toRef (fun e => { e with eligible := ok, waitFrom := some (from'.getD s.time.cyc) })

/-- The first comparison of a docket's release with FT, which settles LATE: at acceptance, or once FT is no longer INVALID (R43, R56). -/
def judge (s : State) (q : Nat) (e : QEntry) : QEntry :=
  if e.judged || ftInvalid s (queueDie q) then e
  else { e with judged := true, late := dkReleaseEn e.dk && behind (dkRelease e.dk) (stamp s) }

/-- Steps 2 and 3 of R119 on a queue: releases of its dockets, then the waits of its heads. Dockets first compared now that are late count in
LATE_RELEASES (R43). -/
def evalHeads (s : State) (q : Nat) : State :=
  let l := (queue s q).map (judge s q)
  let late := (l.zip (queue s q)).countP (fun p => p.1.late && !p.2.late)
  let s := if q < 2048 then rinc s Reg.CLERK_LATE_RELEASES (q / 4) 0 late else s
  let s := setQueue s q (l.map (fun e => { e with released := releaseHolds s q e }))
  (heads (queue s q)).foldl (fun s e => evalHead s q e) s

-- completion (R139) ---------------------------------------------------------------------------------------------------

/-- What an engine keeps about a docket is let go. -/
def dropWork (s : State) (q : Nat) (r : DocketRef) : State :=
  let cmds (s : State) (m : Nat) : State :=
    let k := millOf s m
    if (k.cmds ++ k.backlog).any (fun c => c.ref == r) then dropCmds s m (fun c => c.ref == r) else s
  let s := { s with msf := { s.msf with fences := if q < 2048 then mapErase s.msf.fences q else s.msf.fences } }
  if q < 2048 then s
  else if q < 2056 then
    (match mapFind s.upd (q - 2048) with
      | some u => if u.ref = r then setUpd s (q - 2048) none else s
      | none => s)
  else if q = 2056 then collsGo (dropColl s r) r
  else if q < 2060 then cmds (cmds (dropChest s r) 0) 1
  else if q < 2062 then dropJob s (q - 2060) r
  else match s.hopper.find? (fun d => d.2.ref == r) with
    | none => s
    | some d => { starveEnd s d.1 d.2 with hopper := mapErase s.hopper d.1 }

/-- The key of a docket among the mirrored records. -/
def mirrorKey (ring : Nat) (seq : W32) : Nat := ring * 2 ^ 32 + seq.toNat

/-- A mismatch noted: the first since the last marker is kept (R381). -/
def noteMismatch (s : State) (k : Nat) : State :=
  let h := s.health
  { s with health := { h with mismatch := some (h.mismatch.getD k) } }

/-- A digest of S compared with the mirrored record's, or held until that record comes (R380; log entry 33). -/
def shadowDigest (s : State) (k digest : Nat) : State :=
  match mapFind s.health.mirror k with
  | some r => if recDigest r = digest then s else noteMismatch s k
  | none => { s with health := { s.health with own := mapSet s.health.own k digest } }

/-- A docket of the shadowed tenant completes on S: its digest, or its run timeout (R380). -/
def shadowDone (s : State) (e : QEntry) (status : Nat) : State :=
  if !shadowed s e.tenant.val then s
  else
    let k := mirrorKey e.die.val e.seq
    if status = 5 then noteMismatch s k
    else if dkDigestEn e.dk ∧ e.done then shadowDigest s k e.digest
    else s

/-- A step marker of the shadowed tenant completes on S (R381). -/
def shadowMark (s : State) (e : QEntry) : State :=
  if !shadowed s e.tenant.val then s
  else match s.health.mismatch with
    | none =>
      let s := rinc s Reg.HEALTH_MATCH_STEPS
      if rget s Reg.HEALTH_SHADOW_STEPS ≤ rget s Reg.HEALTH_MATCH_STEPS then rset s Reg.HEALTH_SHADOW_READY 0 0 1 else s
    | some k =>
      let s := rinc (rset s Reg.HEALTH_MATCH_STEPS 0 0 0) Reg.HEALTH_MISMATCH_STEPS
      let s := raise s (evOf Reg.HEALTH_MISMATCH_STEPS 0 12 0 e.tenant.val none [k / 2 ^ 32, k % 2 ^ 32])
      { s with health := { s.health with mismatch := none } }

/-- A dispatched marker's lateness (R382). -/
def noteLateness (s : State) (e : QEntry) : State :=
  if !dkReleaseEn e.dk then s
  else
    let d := (e.startStamp - dkRelease e.dk).toNat
    let v := if 2 ^ 31 ≤ d then 0 else d
    let s := rset s Reg.HEALTH_LATE_LAST 0 0 v
    let s := rset s Reg.HEALTH_LATE_MAX 0 0 (max v (rget s Reg.HEALTH_LATE_MAX))
    let s := rsat s Reg.HEALTH_LATE_SUM 0 0 v
    let s := rinc s Reg.HEALTH_LATE_STEPS
    let streak := if rget s Reg.HEALTH_LATE_THRESH < v then min (rget s Reg.HEALTH_LATE_STREAK + 1) 65535 else 0
    let s := rset s Reg.HEALTH_LATE_STREAK 0 0 streak
    if streak ≠ 0 ∧ streak = rget s Reg.HEALTH_STREAK_LIMIT then
      msix (raise (rset s Reg.HEALTH_STRAGGLER 0 0 1) (evOf Reg.HEALTH_STRAGGLER 0 12 0 e.tenant.val none [v])) 129
    else s

/-- A docket marks a step end (R381, R382). -/
def isMarker (s : State) (e : QEntry) : Bool := e.die.val == 0 && dkTag e.dk == rget s Reg.HEALTH_STEP_TAG

/-- A docket completes, with everything that follows from it (R139, R140, R224, R380 to R382, R414). Where its signal or its slot's entry
stalls on a zero-fill nothing happens yet. -/
def completeDocket (s0 : State) (q : Nat) (e : QEntry) (status : Nat) : State :=
  let s := complete s0 q e status
  let x := ingestDone s e (signalOf s0 e status).2
  if (signalOf s0 e status).1.stalled ∨ x.stalled = true then s0
  else
    let status := (signalOf s0 e status).2
    let s := dropWork x.s q e.toRef
    let s := shadowDone s e status
    let s := if isMarker s e then shadowMark (if e.running then noteLateness s e else s) e else s
    evalHeads (evalQueue s q) q

-- a docket with remote parts on S (R380) ------------------------------------------------------------------------------

/-- A docket has remote parts. -/
def remoteParts (s : State) (e : QEntry) : Bool :=
  let d := e.dk
  match dkEngine d with
  | 2 =>
    if dkOp d ≤ 5 then poRemoteSrc s d || poRemoteDst s d
    else if dkOp d = 6 then gDev (dkf d 0x30 0 64) != ownDev s else dkOp d == 7
  | 3 => dkOp d == 2 && ckRemote d && ckDevice d != ownDev s
  | 5 => true
  | 7 => gDev (hdDst d) != ownDev s || (dkOp d == 1 && hdDst2En d && gDev (hdDst2 d) != ownDev s)
  | 8 => dkOp d == 1 || dkOp d == 2 || gDev (chChest d) != ownDev s
  | _ => false

/-- The status with which a running docket completes now, if it does: its own once its work is done, or the mirrored record's
once its local parts are done (R139, R380). -/
def readyStatus (s : State) (e : QEntry) : Option Nat :=
  if shadowed s e.tenant.val && remoteParts s e then
    match mapFind s.health.mirror (mirrorKey e.die.val e.seq) with
    | some r => if e.started || e.done then some (recStatus r) else none
    | none => none
  else if e.done then some e.status else none

end Sys2Proof.Machine
end

