-- ==== Sys2Proof/Machine/Route.lean ====
section
/-! DEFINITION. Sys2Proof/Machine/Route.lean: packets through the router, multicast groups, the peer table, generations and
self-fencing: R253 to R263, R267, R275, R373. -/

namespace Sys2Proof.Machine

/-- The ROUTE page. -/
def routePage : Page := ⟨.route, 0⟩

/-- A packet that only passes through is discarded once FENCED_SELF is set (R263). -/
def passOn (s : State) (from' : Option LinkId) (p : Packet) : State :=
  if rget s Reg.ROUTE_FENCED_SELF = 1 ∧ pTenant p ≠ 15 then rinc s Reg.ROUTE_FENCED_DROPS else forward s from' p

/-- PACKET_FORWARD: a unicast packet is checked, kept for this module or sent on (R253, R256, R261). -/
def execPacketForward (from' : Option LinkId) (p : Packet) (s : State) : Host.Outcome State Fault Refusal :=
  .next (live s (fun s =>
    if pMcast p then s
    else match from' with
      | none => send s none p
      | some l =>
        let c := checkArrival (takeRx s l p) l p
        if !c.2 then c.1
        else if pDst p = rget s Reg.ROUTE_OWN_DEV then keepPacket c.1 p
        else passOn c.1 (some l) p))

/-- A multicast packet of a stopped tenant goes no further once FENCED_SELF is set (R263). -/
def mcastFenced (s : State) (p : Packet) : Bool := rget s Reg.ROUTE_FENCED_SELF == 1 && pTenant p != 15

/-- MCAST_REPLICATE: sent on every masked link and kept here where LOCAL is set, once every branch has credits (R257, R263). -/
def execMcastReplicate (from' : Option LinkId) (p : Packet) (s : State) : Host.Outcome State Fault Refusal :=
  .next (live s (fun s =>
    let m := groupOf s (pDst p % 4096)
    if !pMcast p ∨ (m.valid ∧ !mcastFenced s p ∧ !branchesReady s m from' p) then s
    else
      let c := match from' with
        | none => ({ s with route := { s.route with mwait := dropFirst s.route.mwait (· == p) } }, true)
        | some l => checkArrival (takeRx s l p) l p
      if !c.2 then c.1
      else if !m.valid then rinc c.1 Reg.ROUTE_MCAST_DROPS
      else if !mcastFenced c.1 p then replicate c.1 from' m p
      else
        let s := rinc c.1 Reg.ROUTE_FENCED_DROPS
        if m.loc then keepPacket s p else s))

/-- The packets of TC0-TC14 that wait on a link are discarded. -/
def purgeLink (s : State) (l : Nat) : State :=
  let k := linkOf s l
  let n := k.tx.countP (fun p => pTenant p != 15)
  if n = 0 then s
  else rinc (setLink s l { k with tx := k.tx.filter (fun p => pTenant p == 15) }) Reg.ROUTE_FENCED_DROPS 0 0 n

/-- FENCED_SELF sets (R263): queued outgoing packets of TC0-TC14 are discarded and counted, a record, MSI-X 130. -/
def selfFence (s : State) : State :=
  if rget s Reg.ROUTE_FENCED_SELF = 1 then s
  else
    let s := rset s Reg.ROUTE_FENCED_SELF 0 0 1
    let s := (List.range 64).foldl purgeLink s
    let r := s.route
    let out := r.mwait.filter (fun p => pTenant p != 15)
    let s := rinc s Reg.ROUTE_FENCED_DROPS 0 0 (r.held.length + out.length)
    let s := { s with route := { r with held := [], mwait := r.mwait.filter (fun p => pTenant p == 15) } }
    msix (raise s (evOf Reg.ROUTE_FENCED_SELF 0 8 0)) 130

/-- A docket's work ends with a fault. -/
def endWith (s : State) (q : Nat) (r : DocketRef) (status : Nat) : State :=
  updEntry s q r (fun e => { e with done := true, status := worst [e.status, status] })

/-- REJECT: naming SRC_GEN it fences this module; naming DST_GEN it ends the atomic it answers (R261, R263, R279). -/
def execReject (p : Packet) (s : State) : Host.Outcome State Fault Refusal :=
  .next (live s (fun s =>
    let s := (admitPacket s none p).1
    if pOpc p ≠ 6 ∨ pDst p ≠ rget s Reg.ROUTE_OWN_DEV then s
    else
      let s := rinc s Reg.ROUTE_REJECTS_RECEIVED
      if pf p 132 4 = 0 then selfFence s
      else match ropOf s (pTenant p) (BitVec.ofNat 32 (pf p 160 32)) with
        | some o => if o.kind = 2 then endWith s o.queue o.ref 9 else s
        | none => s))

/-- FENCE_NOTICE (R263). -/
def execFenceNotice (p : Packet) (s : State) : Host.Outcome State Fault Refusal :=
  .next (live s (fun s =>
    let s := (admitPacket s none p).1
    if pOpc p = 7 ∧ pDst p = rget s Reg.ROUTE_OWN_DEV then selfFence s else s))

/-- FENCED_SELF_CLEAR (R263). -/
def execFencedSelfClear (by' : Writer) (s : State) : Host.Outcome State Fault Refusal :=
  .next (gated s by' routePage Reg.ROUTE_FENCED_SELF 0 1 (fun s => rset s Reg.ROUTE_FENCED_SELF 0 0 0))

/-- PEER_DATA applied: the entry goes to both copies, its reserved bits left out (R18, R260). -/
def peerDataApply (v : Nat) (s : State) : State :=
  let i := rget s Reg.ROUTE_PEER_INDEX
  let e := BitVec.ofNat 32 v &&& 0xF3FF
  { s with route := { s.route with pend := s.route.pend ++ [(0, i, e), (1, i, e)] } }

/-- PEER_DATA_WRITE. -/
def execPeerDataWrite (by' : Writer) (data : W32) (s : State) : Host.Outcome State Fault Refusal :=
  .next (gated s by' routePage Reg.ROUTE_PEER_DATA 0 data.toNat (peerDataApply data.toNat))

/-- The peer entry of a device no longer is the one an operation was sent under (R275). -/
def peerChanged (e : W32) (gen : Byte) : Bool := peerFenced e || !peerValid e || BitVec.ofNat 8 (peerGen e) != gen

/-- Outstanding copies toward a changed peer end FENCED (R275). -/
def fenceCopies (s : State) (idx : Nat) (e : W32) : State :=
  s.msf.ops.foldl (fun s o =>
    if o.kind < 2 ∧ o.dev.toNat / 4 = idx ∧ peerChanged e o.gen then endWith s o.queue o.ref 8 else s) s

/-- The first waiting peer write reaches the copy of a fabric die (R260). -/
def applyPeer (s : State) (f : FDie) : Option (Nat × W32 × State) :=
  match s.route.pend.find? (fun x => x.1 == f) with
  | none => none
  | some (_, i, e) =>
    let r := { s.route with pend := dropFirst s.route.pend (fun x => x.1 == f) }
    let r := if f.val = 0 then { r with peer0 := mapSet r.peer0 i e } else { r with peer1 := mapSet r.peer1 i e }
    some (i, e, { s with route := r })

/-- GROUP_INDEX applied: the staged entry is committed as a whole (R258). -/
def groupCommit (g : Nat) (s : State) : State :=
  let c := rget s Reg.ROUTE_GROUP_CTRL
  let m : Mcast := { valid := bitAt c 0, loc := bitAt c 1,
                     mask := BitVec.ofNat 64 (rget64 s Reg.ROUTE_GROUP_MASK_LO Reg.ROUTE_GROUP_MASK_HI) }
  { s with route := { s.route with groups := mapSet s.route.groups g m } }

/-- GROUP_INDEX with LOAD: the group's entry goes into the staging fields (R258). -/
def groupLoad (g : Nat) (s : State) : State :=
  let m := groupOf s g
  let s := rset64 s Reg.ROUTE_GROUP_MASK_LO Reg.ROUTE_GROUP_MASK_HI 0 0 m.mask.toNat
  rset s Reg.ROUTE_GROUP_CTRL 0 0 (b2n m.valid + 2 * b2n m.loc)

/-- GROUP_INDEX. -/
def execGroupIndex (by' : Writer) (g : Fin 4096) (s : State) : Host.Outcome State Fault Refusal :=
  .next (gated s by' routePage Reg.ROUTE_GROUP_INDEX 0 g.val (groupCommit g.val))

/-- GROUP_INDEX_LOAD. -/
def execGroupIndexLoad (by' : Writer) (g : Fin 4096) (s : State) : Host.Outcome State Fault Refusal :=
  .next (gated s by' routePage Reg.ROUTE_GROUP_INDEX_LOAD 0 1 (groupLoad g.val))

/-- A value of OWN_GEN takes effect, and every receipt window is cleared (R277). -/
def setOwnGen (s : State) (v : Nat) : State := setWindows (rset s Reg.ROUTE_OWN_GEN 0 0 v) []

/-- OWN_GEN applied: at once, or after a drain where the value is not greater than the one held (R373). -/
def ownGenApply (v : Nat) (s : State) : State :=
  if rget s Reg.ROUTE_OWN_GEN < v then setOwnGen s v
  else
    let r := s.resets
    rinc { s with resets := { r with ownGen := some (BitVec.ofNat 8 v) } } Reg.RESET_WRAP_WAITS

/-- OWN_GEN_WRITE. -/
def execOwnGenWrite (by' : Writer) (gen : Byte) (s : State) : Host.Outcome State Fault Refusal :=
  .next (gated s by' routePage Reg.ROUTE_OWN_GEN 0 gen.toNat (ownGenApply gen.toNat))

end Sys2Proof.Machine
end

