-- ==== Sys2Proof/Machine/Resets.lean ====
section
/-! DEFINITION. Sys2Proof/Machine/Resets.lean: domain resets, escalation, generation wraps, tenant resets and the decay of health
scores: R151, R152, R361 to R376. -/

namespace Sys2Proof.Machine

-- the domains (R364) --------------------------------------------------------------------------------------------------

/-- The key of a domain. -/
def domKey (code index : Nat) : Nat := code * 4096 + index

/-- Largest index of a code (R384). -/
def maxIndex (code : Nat) : Nat := [2063, 511, 63, 7, 15, 63, 1, 1, 0].getD code 0

/-- The domain that encloses a domain: the package is 8, 0. -/
def enclosing (code i : Nat) : Nat × Nat :=
  match code with
  | 0 => if i < 2048 then (1, i / 4) else if i < 2056 then (3, i - 2048) else if i < 2060 then (6, i % 2) else (7, i % 2)
  | 1 => (2, i / 8)
  | 2 => (3, i / 8)
  | 4 => (3, i / 2)
  | 5 => (6, i % 2)
  | _ => (8, 0)

/-- The domain lies inside another, or is it. -/
def insideDom (code i : Nat) (outer : Nat × Nat) (fuel : Nat) : Bool :=
  match fuel with
  | 0 => false
  | fuel + 1 => (code, i) == outer || ((code, i) != (8, 0) && (let e := enclosing code i; insideDom e.1 e.2 outer fuel))

/-- Key k lies inside the domain, or is its key. -/
def keyInside (k code i : Nat) : Bool := insideDom (k / 4096) (k % 4096) (code, i) 6

/-- Every domain's key. -/
def allKeys : List Nat := (List.range 9).flatMap (fun c => (List.range (maxIndex c + 1)).map (domKey c))

/-- The keys inside a domain, its own among them. -/
def keysIn (code i : Nat) : List Nat :=
  match code with
  | 0 | 4 | 5 => [domKey code i]
  | 1 => domKey 1 i :: (List.range 4).map (4 * i + ·)
  | _ => allKeys.filter (fun k => keyInside k code i)

/-- The engine queues whose dockets in progress a domain cuts: both Tally units and both re-layout engines take part in every docket of
their queue. -/
def queuesIn (code i : Nat) : List Nat :=
  let e := (keysIn code i).filter (· < 4096)
  (e.map (fun q => if q = 2057 then 2056 else if q = 2059 then 2058 else q)).eraseDups

/-- Time within which a reset completes, in FTCLK cycles (R364). -/
def resetBound (code : Nat) : Nat :=
  [250000, 900000, 5000000, 4000000000, 2500000000, 1000000000, 3000000000, 2000000000, 15000000000].getD code 0

/-- The health part of a domain (R377). -/
def domPart (code i : Nat) : Nat :=
  match code with
  | 0 => diePart (if i < 2048 then i / 256 else if i < 2056 then i - 2048 else if i < 2060 then 8 + i % 2 else 10 + i % 2)
  | 1 => diePart (i / 64)
  | 2 => diePart (i / 8)
  | 3 => diePart i
  | 4 => 64 + i
  | 5 => i
  | 6 => diePart (8 + i)
  | _ => diePart (10 + i)

/-- The dies whose PERTURB page a reset of the domain clears (R399). -/
def domDie (code i : Nat) : Nat := if code = 4 then i / 2 else if code = 5 then 8 + i % 2 else domPart code i - 112

/-- The domain resets now, itself or as part of one that encloses it. -/
def resetting (s : State) (code i : Nat) : Bool := s.resets.active.any (fun a => insideDom code i (a.1 / 4096, a.1 % 4096) 6)

/-- The domains of an engine queue. -/
def queueDomains (q : Nat) : List (Nat × Nat) := if q = 2056 then [(0, 2056), (0, 2057)] else if q = 2058 then [(0, 2058), (0, 2059)] else [(0, q)]

/-- Dispatch into a queue is held: its domain resets, its engine is held stopped, or a wrap drain runs (R361, R367, R372). -/
def queueHeld (s : State) (q : Nat) : Bool :=
  (queueDomains q).any (fun d => resetting s d.1 d.2 || s.resets.stopped.contains d.2 || s.resets.drains.any (fun x => x.1 == d.2))

-- cutting and returning (R148, R149, R367, R369) ----------------------------------------------------------------------

/-- A docket in progress is cut: what its engine held of it is gone. One whose final output has landed is left to complete. -/
def cutEntry (s : State) (q : Nat) (e : QEntry) : State :=
  if !e.running ∨ e.done ∨ e.cut then s
  else
    let s := dropWork s q e.toRef
    let m := s.msf
    let s := { s with msf := { m with ops := m.ops.filter (fun o => !(o.queue == q && e.is o.ref)) } }
    updEntry s q e.toRef (fun e => { e with cut := true })

/-- Every docket in progress of a queue is cut. -/
def cutQueue (s : State) (q : Nat) : State := (queue s q).foldl (fun s e => cutEntry s q e) s

/-- A cut docket returns as not started (R149), or completes PURGED where its tenant is being reset (R369). -/
def returnEntry (s : State) (q : Nat) (e : QEntry) : State :=
  if !e.cut then s
  else if s.resets.tenants.contains e.tenant.val then completeDocket s q e 7
  else updEntry s q e.toRef (fun e => { e with
    running := false, started := false, cut := false, reexec := true, ran := 0, status := 0, badAddr := 0, nonfinite := 0
    flushed := 0, digest := 0, todo := [], idx := [], parts := [], xargs := [], carry := false })

/-- Every cut docket of a queue. -/
def returnQueue (s : State) (q : Nat) : State := evalHeads ((queue s q).foldl (fun s e => returnEntry s q e) s) q

-- what a reset clears (R364, R365, R370, R399) ------------------------------------------------------------------------

/-- The controls of a PERTURB page cleared. -/
def clearPerturb (s : State) (d : Nat) : State :=
  let s := Reg.perturbFields.foldl (fun s f => if f = Reg.PERTURB_EVENTS then s else rset s f d 0 (rstVal f d 0)) s
  { s with perturb := s.perturb.filter (fun e => e.1 / 8 != d) }

/-- The pages of a domain (R365). -/
def domPages (code i : Nat) : List Page :=
  let core (c : Nat) : List Page := [⟨.lathe, c⟩, ⟨.vec, c⟩, ⟨.port, c⟩, ⟨.clerk, c⟩]
  let cluster (c : Nat) : List Page := (List.range 8).flatMap (fun j => core (8 * c + j)) ++ [⟨.cstore, c⟩]
  match code with
  | 0 =>
    if i < 2048 then [(core (i / 4)).getD (i % 4) ⟨.clerk, i / 4⟩]
    else if i < 2056 then [⟨.update, i - 2048⟩]
    else if i < 2058 then [⟨.tally, i % 2⟩]
    else if i < 2060 then [⟨.chest, 0⟩]
    else if i < 2062 then [⟨.mill, i % 2⟩] else [⟨.hopper, i % 2⟩]
  | 1 => core i
  | 2 => cluster i
  | 3 => (List.range 8).flatMap (fun j => cluster (8 * i + j)) ++ [⟨.hbmc, i⟩, ⟨.update, i⟩, ⟨.dock, i⟩, ⟨.clock, i⟩, ⟨.perturb, i⟩]
  | 4 => [⟨.hbmc, i / 2⟩]
  | 5 => [⟨.zlink, i⟩]
  | 6 => (List.range 32).map (fun j => ⟨.zlink, 2 * j + i⟩) ++ [⟨.storc, i⟩, ⟨.tally, i⟩, ⟨.clock, 8 + i⟩, ⟨.perturb, 8 + i⟩]
      ++ (if i = 0 then [⟨.route, 0⟩, ⟨.msf, 0⟩, ⟨.chest, 0⟩, ⟨.tenant, 0⟩, ⟨.ftime, 0⟩, ⟨.pcie, 0⟩] else [])
  | 7 => [⟨.mill, i⟩, ⟨.hopper, i⟩, ⟨.eth, i⟩, ⟨.clock, 10 + i⟩, ⟨.perturb, 10 + i⟩]
  | _ => []

/-- A link retrains as part of a reset: a disabled one has nothing to retrain. -/
def resetLink (s : State) (l : Nat) : State := if linkState s l = 0 then s else startRetrain s l false

/-- The Hopper logic reads its state back: the entry of the last counted draw is written again, as TC15's access (R230; log entry 25). -/
def hopperReset (s : State) (h : Nat) : State :=
  if !hopReady s h then s
  else
    let x := ((Access.start s 15 none).rd (hopBase s h + 16) 8).2
    let s := hopShowDrawn x.s h
    if hopDrawn s h = 0 ∨ x.faults ≠ [] then s
    else let j := hopDrawn s h - 1; (({ x with s := s } : Access).hopEntry h (hopDrawSlot s h j) (hopW s h + j) 0).s

/-- Every Hopper of a Mill die. -/
def hoppersReset (s : State) (m : Nat) : State := (List.range 8).foldl (fun s i => hopperReset s (2 * i + m)) s

/-- The function leaves the bus: the host must enumerate it again (R153, R370). -/
def functionDown (s : State) : State := { s with pcie := { s.pcie with enabled := false, cfg := [], msix := [] } }

/-- Die caches and copies that a reset of a compute die empties. -/
def clearDieCache (s : State) (n : Nat) : State :=
  let m := s.msf
  { s with msf := { m with
      cache := m.cache.filter (fun e => e.1 / 2 ^ 60 != n), dir := m.dir.map (fun e => (e.1, e.2 &&& ~~~(BitVec.ofNat 8 (2 ^ n)))) } }

/-- Slots that a die's command processor has fetched ahead are read again. -/
def clearFetched (s : State) (n : Nat) : State :=
  (List.range 16).foldl (fun s t => updRing s n t (fun r => { r with fetched := [], retries := 0 })) s

/-- CONTROL lines leave every die cache, with the directory of a fabric die (R282, R367). -/
def clearDirectory (s : State) (f : Nat) : State :=
  let mine (line : Nat) : Bool := match regionOf (64 * line) with | .near g => g % 2 == f | _ => false
  (s.msf.dir.filter (fun e => mine e.1)).foldl (fun s e => invalControl s e.1) s

/-- What the reset of a domain clears beside the dockets in progress. -/
def clearDomain (s : State) (code i : Nat) : State :=
  let s := clearPerturb s (domDie code i)
  match code with
  | 0 =>
    let s := if i < 2048 ∧ i % 4 = 0 then { s with carry := mapErase s.carry (i / 4) } else s
    if 2062 ≤ i then hoppersReset s (i % 2) else s
  | 1 => { s with carry := mapErase s.carry i }
  | 2 => { s with carry := s.carry.filter (fun c => c.1 / 8 != i) }
  | 3 => clearFetched (clearDieCache { s with carry := s.carry.filter (fun c => c.1 / 64 != i) } i) i
  | 5 => resetLink s i
  | 6 =>
    let s := resendChunks s i
    let s := (List.range 32).foldl (fun s j => resetLink s (2 * j + i)) s
    let s := clearDirectory s i
    let s := setWindows s (s.msf.windows.filter (fun w => w.2.die != i))
    if i = 0 then functionDown s else s
  | 7 =>
    let s := (List.range 16).foldl (fun s t => rset s Reg.MILL_STATE i t 0) s
    hoppersReset s i
  | _ => s

-- starting a reset (R367 to R372) -------------------------------------------------------------------------------------

/-- A generation advances; an RGEN at 255 first drains (R371, R372). -/
def advanceGen (s : State) (k cause : Nat) : State :=
  let g := mapGet s.resets.gens k 0
  let r := s.resets
  if k < 4096 ∧ g = 255 then
    if r.drains.any (fun d => d.1 == k) then s
    else rinc { s with resets := { r with drains := r.drains ++ [(k, cause)] } } Reg.RESET_WRAP_WAITS
  else { s with resets := { r with gens := mapSet r.gens k ((g + 1) % 256) } }

/-- A domain below the package starts to reset; done says that the RGEN of an engine has advanced already (R362). A reset of a domain inside
one that resets is part of that one; it absorbs those inside it (R369). A sleeping domain is first taken out of its state (R415). -/
def startReset (s : State) (code i cause : Nat) (done : Bool) : State :=
  if resetting s code i then s
  else
    let qs := queuesIn code i
    let s := qs.foldl (fun s q => rouse (wakeUnits s (unitsOfQueue q)) (unitsOfQueue q)) s
    let s := qs.foldl cutQueue s
    let s := if done then s else (keysIn code i).foldl (fun s k => advanceGen s k cause) s
    let s := clearDomain s code i
    let r := s.resets
    let s := { s with resets := { r with
        active := r.active.filter (fun a => !keyInside a.1 code i) ++ [(domKey code i, cause, s.time.cyc)]
        stopped := r.stopped.filter (fun q => !keyInside q code i) } }
    noteReset s code i cause

/-- RESET.REQ.GO applied: the selected domain (R361, R367). -/
def resetGo (v : Nat) (s : State) : State :=
  if v % 2 = 0 then s
  else
    let code := rget s Reg.RESET_REQ_DOMAIN
    if code = 8 then packageReset s else startReset s code (rget s Reg.RESET_REQ_INDEX) 0 false

/-- The RESET page. -/
def resetPage : Page := ⟨.reset, 0⟩

/-- RESET_REQ_GO. -/
def execResetReqGo (by' : Writer) (s : State) : Host.Outcome State Fault Refusal :=
  .next (gated s by' resetPage Reg.RESET_REQ_GO 0 1 (resetGo 1))

/-- A wrap drain of an engine inside the domain runs. -/
def drainsIn (s : State) (code i : Nat) : Bool := s.resets.drains.any (fun d => d.1 < 4096 && keyInside d.1 code i)

/-- The parts of a domain that did not train again (R365). -/
def untrained (s : State) (code i : Nat) : State :=
  match code with
  | 3 => partOut (partOut s (2 * i) (64 + 2 * i)) (2 * i + 1) (64 + 2 * i + 1)
  | 4 => partOut s i (64 + i)
  | 6 => (List.range 16).foldl (fun s k => partOut s (64 + 16 * i + k) (80 + 16 * i + k)) s
  | _ => s

/-- DOMAIN_RESET_DONE: the configuration is restored, cut dockets return, dispatch resumes (R365, R367). -/
def execDomainResetDone (d : Domain) (trained : Bool) (s : State) : Host.Outcome State Fault Refusal :=
  .next (live s (fun s =>
    let k := domKey d.code.val d.index
    if !s.resets.active.any (fun a => a.1 == k) ∨ drainsIn s d.code.val d.index then s
    else
      let r := s.resets
      let s := { s with resets := { r with active := r.active.filter (fun a => a.1 != k) } }
      let s := (domPages d.code.val d.index).foldl pageGenUp s
      let s := if trained then s else charge (untrained s d.code.val d.index) 10 (domPart d.code.val d.index)
      (queuesIn d.code.val d.index).foldl returnQueue s))

/-- A reset goes over to the enclosing domain; below the package it stops at the die's score (R368). -/
def escalate (s : State) (code i : Nat) : State :=
  let e := enclosing code i
  if e.1 = 8 then setScore s (domPart code i) 16383
  else startReset (rinc s Reg.RESET_ESCALATIONS) e.1 e.2 2 false

/-- RESET_BOUND_EXCEEDED (R368, R377). -/
def execResetBoundExceeded (d : Domain) (s : State) : Host.Outcome State Fault Refusal :=
  .next (live s (fun s =>
    match s.resets.active.find? (fun a => a.1 == domKey d.code.val d.index) with
    | none => s
    | some a =>
      let s := advanceTo s (a.2.2 + resetBound d.code.val)
      escalate (charge s 10 (domPart d.code.val d.index)) d.code.val d.index))

-- generation wraps (R372, R373) ---------------------------------------------------------------------------------------

/-- When a drain may end: at once where everything sent is resolved, else DRAIN_MS after the last packet (R372). The operations of a
docket that timed out are never resolved (log entry 36). -/
def drainDue (s : State) (sent : Nat) (resolved : Bool) : Nat :=
  match mapFind s.resets.lastSent sent with
  | none => s.time.cyc
  | some c => if resolved then s.time.cyc else c + 1000000 * rget s Reg.RESET_DRAIN_MS

/-- A drain leaves the list. -/
def dropDrain (s : State) (k : Nat) : State :=
  let r := s.resets
  { s with resets := { r with drains := r.drains.filter (fun d => d.1 != k) } }

/-- The drains end, and the generation enters 0 (R372, R373). -/
def drainEnd (s : State) (d : Drain) : State :=
  match d with
  | .engine q =>
    (match s.resets.drains.find? (fun x => x.1 == q.val) with
      | none => s
      | some x =>
        let s := advanceTo s (drainDue s q.val (x.2 != 1 && !s.msf.ops.any (fun o => o.queue == q.val)))
        let s := dropDrain s q.val
        { s with resets := { s.resets with gens := mapSet s.resets.gens q.val 0 } })
  | .tenant t =>
    if !s.resets.drains.any (fun x => x.1 == 65536 + t.val) then s
    else dropDrain (advanceTo s (drainDue s (65536 + t.val) (!s.msf.ops.any (fun o => o.tenant == t)))) (65536 + t.val)
  | .ownGen =>
    (match s.resets.ownGen with
      | none => s
      | some v =>
        let s := advanceTo s (drainDue s 131072 (!s.msf.ops.any (fun o => o.tenant.val != 15)))
        let held := s.route.held
        let s := setOwnGen { s with resets := { s.resets with ownGen := none }, route := { s.route with held := [] } } v.toNat
        held.foldl (fun s p => send s none (pSet p 40 8 v.toNat)) s)

/-- WRAP_DRAIN_END. -/
def execWrapDrainEnd (d : Drain) (s : State) : Host.Outcome State Fault Refusal := .next (live s (fun s => drainEnd s d))

-- tenant resets (R151, R152) ------------------------------------------------------------------------------------------

/-- Step 1 on one ring: acceptance stops. -/
def stopRing (s : State) (n t : Nat) : State :=
  let s := updRing s n t (fun r => { r with fetched := [], retries := 0, stalled := false })
  rset (rset s Reg.DOCK_RING_ENABLE n t 0) Reg.DOCK_RING_STATE n t 3

/-- Steps 2 and 3 on one queue: queued dockets of t complete PURGED, those in progress are cut. -/
def purgeQueue (t : Nat) (s : State) (q : Nat) : State :=
  ((queue s q).filter (fun e => e.tenant.val == t)).foldl (fun s e =>
    if e.running then cutEntry s q e else completeDocket s q e 7) s

/-- RESET_CTL.RESET applied: steps 1 to 3 of R151; at generation 255 the drain of R372 starts. -/
def tenantResetApply (t v : Nat) (s : State) : State :=
  if v % 2 = 0 ∨ s.resets.tenants.contains t then s
  else
    let s := (List.range 8).foldl (fun s n => stopRing s n t) s
    let s := { s with resets := { s.resets with tenants := s.resets.tenants ++ [t] } }
    let s := (s.queues.map (·.1)).foldl (purgeQueue t) s
    if rget s Reg.TENANT_GEN 0 t = 255 then
      let r := s.resets
      rinc { s with resets := { r with drains := r.drains ++ [(65536 + t, 0)] } } Reg.RESET_WRAP_WAITS
    else s

/-- The TENANT page. -/
def tenantPage : Page := ⟨.tenant, 0⟩

/-- TENANT_RESET. -/
def execTenantReset (by' : Writer) (t : TenantId) (s : State) : Host.Outcome State Fault Refusal :=
  .next (gated s by' tenantPage Reg.TENANT_RESET_CTL_RESET t.val 1 (tenantResetApply t.val 1))

/-- The dockets in progress reach their cut: those whose final output has landed complete as they are (R151, R152). -/
def endQueue (t : Nat) (s : State) (q : Nat) : State :=
  ((queue s q).filter (fun e => e.tenant.val == t)).foldl (fun s e =>
    completeDocket s q e (if e.done && !e.cut then e.status else 7)) s

/-- Step 5 on one ring. -/
def haltRing (s : State) (n t : Nat) : State :=
  let tail := rget s Reg.DOCK_RING_TAIL n t
  let s := rset (rset s Reg.DOCK_RING_ACCEPT n t tail) Reg.DOCK_RING_RECORDED n t tail
  rset s Reg.DOCK_RING_STATE n t 4

/-- TENANT_RESET_DONE: the cuts are reached; once every record is written and no drain runs, the generation advances and the rings stop
(R151, R372; log entry 36). -/
def execTenantResetDone (t : TenantId) (s : State) : Host.Outcome State Fault Refusal :=
  .next (live s (fun s =>
    if !s.resets.tenants.contains t.val then s
    else
      let s := (s.queues.map (·.1)).foldl (endQueue t.val) s
      if s.resets.drains.any (fun d => d.1 == 65536 + t.val) ∨ (List.range 8).any (fun n => (ringOf s n t.val).acc != []) then s
      else
        let s := rset s Reg.TENANT_GEN 0 t.val (rget s Reg.TENANT_GEN 0 t.val + 1)
        let s := (List.range 8).foldl (fun s n => haltRing s n t.val) s
        { s with resets := { s.resets with tenants := dropAll s.resets.tenants t.val } }))

-- health (R376) -------------------------------------------------------------------------------------------------------

/-- HEALTH_DECAY: every score loses 1/256, at the end of DECAY_MS. -/
def execHealthDecay (s : State) : Host.Outcome State Fault Refusal :=
  .next (live s (fun s =>
    let due := s.health.decayAt
    let s := advanceTo s due
    let s := { s with health := { s.health with decayAt := due + 1000000 * rget s Reg.HEALTH_DECAY_MS } }
    s.health.score.foldl (fun s e => setScore s e.1 (e.2 - e.2 / 256)) s))

end Sys2Proof.Machine
end

