-- ==== Sys2Proof/Machine/Clerk.lean ====
section
/-! DEFINITION. Sys2Proof/Machine/Clerk.lean: releases, counter waits, the choice of the next docket, the Clerk's own operations, completion
and both timeouts: R117 to R119, R139 to R146, R361, R362, R408. -/

namespace Sys2Proof.Machine

-- events of a queue (R119) --------------------------------------------------------------------------------------------

/-- Nanoseconds of FT to the soonest release ahead among some dockets of a queue, in whole 16 ns stamps from the present short stamp (R42, R142;
the granularity is a DESIGN CHOICE, log entry 41). -/
def soonest (s : State) (l : List QEntry) : Option Nat :=
  l.foldl (fun acc e => if !e.running && heldByRelease s e then earlier acc (some (16 * (dkRelease e.dk - stamp s).toNat)) else acc) none

/-- RELEASE_REACHED: FT reaches the soonest release of a queue (R42, R119). -/
def execReleaseReached (q : QueueId) (s : State) : Host.Outcome State Fault Refusal :=
  .next (live s (fun s =>
    if ftInvalid s (queueDie q.val) then s
    else match soonest s (queue s q.val) with
      | none => evalHeads s q.val
      | some ns => evalHeads (advanceFt s (BitVec.ofNat 64 ((s.time.ft.toNat / 16 + ns / 16) * 16))) q.val))

/-- The queues whose dockets wait on the counters of a cluster: its cores', and the uncore engines' with dockets homed there. -/
def queuesOn (s : State) (c : Nat) : List Nat :=
  (s.queues.filter (fun q => if q.1 < 2048 then q.1 / 32 == c else q.2.any (fun e => e.cluster == c))).map (·.1)

/-- COUNTER_UPDATE_VISIBLE: updates of a cluster's counters become visible to the queues that wait on them (R118, R119, R132). -/
def execCounterUpdateVisible (cluster : ClusterId) (s : State) : Host.Outcome State Fault Refusal :=
  .next (live s (fun s => (queuesOn s cluster.val).foldl evalHeads s))

-- the choice (R141, R142) ---------------------------------------------------------------------------------------------

/-- Dockets that a queue may have in progress (R117, R178, R287, R336, R411). -/
def maxRunning (s : State) (q : Nat) : Nat :=
  if q < 2056 then 1
  else if q = 2056 then rget s Reg.TALLY_MAX_IN_PROGRESS
  else if q < 2060 then rget s Reg.CHEST_MAX_IN_PROGRESS
  else if q < 2062 then
    let n := rget s Reg.MILL_MAX_IN_PROGRESS (q - 2060)
    if s.power.floor then min 2 n else n
  else 8

/-- An engine can take another docket: powered, awake, not resetting, with room (R117, R367, R412). -/
def engineFree (s : State) (q : Nat) : Bool :=
  queueAwake s q && !queueHeld s q && decide ((queue s q).countP (·.running) < maxRunning s q)

/-- Dockets that may be chosen: eligible heads; a Hopper runs one docket at a time (R140, R220). -/
def eligibleHeads (s : State) (q : Nat) : List QEntry :=
  (heads (queue s q)).filter (fun e => e.eligible && !e.running && !s.resets.tenants.contains e.tenant.val &&
    (decide (q < 2062) || !(queue s q).any (fun x => x.running && hdHopper x.dk == hdHopper e.dk)))

/-- The docket of lowest ring among some. -/
def lowestRing (l : List QEntry) : Option QEntry :=
  l.foldl (fun acc e => match acc with | none => some e | some x => if e.die.val < x.die.val then some e else acc) none

/-- The fill window in ns (R142). -/
def fillWindow (s : State) (q : Nat) (die : Nat) : Nat :=
  let cap := 1024 * rget s Reg.DOCK_FILL_MAX die
  match soonest s ((queue s q).filter (fun e => foreground s e.tenant.val)) with
  | none => cap
  | some ns => min cap (ns - 1024 * rget s Reg.DOCK_FILL_GUARD die)

/-- The foreground tenant of least vtime among some dockets, the lower on a tie. -/
def leastVtime (s : State) (q : Nat) (l : List QEntry) : Option Nat :=
  l.foldl (fun acc e => match acc with
    | none => some e.tenant.val
    | some t =>
      let a := vtimeOf s q e.tenant.val
      let b := vtimeOf s q t
      if a < b ∨ (a = b ∧ e.tenant.val < t) then some e.tenant.val else acc) none

/-- The next filler tenant in rising order after the last one, wrapping (R141). -/
def nextFiller (s : State) (q : Nat) (l : List QEntry) : Option Nat :=
  let last := mapGet s.filler q 0
  ((List.range 16).map (fun i => (last + i) % 16)).find? (fun t => l.any (fun e => e.tenant.val == t))

/-- choose of R141: the docket, and the state with vtime or last_filler moved on. est × 64 / weight is rounded down (DESIGN CHOICE, log
entry 41). -/
def choose (s : State) (q : Nat) : Option (QEntry × State) :=
  let hs := eligibleHeads s q
  match lowestRing (hs.filter (fun e => e.tenant.val == 15)) with
  | some e => some (e, s)
  | none =>
    let fg := hs.filter (fun e => foreground s e.tenant.val)
    match leastVtime s q fg with
    | some t =>
      (lowestRing (fg.filter (fun e => e.tenant.val == t))).map (fun e =>
        (e, { s with vtime := mapUpd s.vtime (16 * q + t) 0 (· + e.est * 64 / max 1 (rget s Reg.TENANT_WEIGHT 0 t)) }))
    | none =>
      let fl := hs.filter (fun e => decide (1024 * e.est ≤ fillWindow s q e.die.val))
      (nextFiller s q fl).bind (fun t => (lowestRing (fl.filter (fun e => e.tenant.val == t))).map (fun e =>
        (e, { s with filler := mapSet s.filler q (t + 1) })))

-- dispatch (R117, R141, R143) -----------------------------------------------------------------------------------------

/-- A CSIGNAL on this device: the counter is added to; on another it is an atomic add (R117, R136). -/
def clerkSignal (s : State) (q : Nat) (e : QEntry) : State :=
  let x := (e.access s).counterAdd (ckCluster e.dk) e.tenant.val (ckCtr e.dk) (ckAdd e.dk)
  if x.stalled then s else completeDocket x.s q e (worst (e.status :: x.faults))

/-- The signal goes to another device. -/
def clerkRemote (s : State) (e : QEntry) : Bool := dkOp e.dk == 2 && ckRemote e.dk && ckDevice e.dk != ownDev s

/-- A running Clerk docket completes in its dispatch cycle, but a remote CSIGNAL (R143). -/
def clerkRun (s : State) (q : Nat) (e : QEntry) : State :=
  if e.done ∨ clerkRemote s e = true then s
  else if dkOp e.dk = 2 then clerkSignal s q e
  else completeDocket s q e e.status

/-- An INGEST docket takes the slot of its Hopper that expects its number; it is stale where that slot is drawn (R223, R224, R229). -/
def takeIntake (s : State) (q : Nat) (e : QEntry) : State :=
  let h := ingHopper e.dk
  match (ingestSlot s e).filter (fun i => !slotDrawn s h i) with
  | none => completeDocket (rinc s Reg.HOPPER_STALE_INTAKES (h % 2)) q e 1
  | some i =>
    let x := (e.access s).hopTurn h i 1
    if x.faults ≠ [] then completeDocket x.s q { e with badAddr := x.bad.getD 0 } (worst x.faults)
    else updEntry x.s q e.toRef (fun e => { e with slot := some i })

/-- What happens to a docket in its dispatch (R94, R95, R143, R223, R224, R228). -/
def atDispatch (s : State) (q : Nat) (e : QEntry) : State :=
  if namesCounters e ∧ (counterWay s e.cluster e.tenant.val).isNone then completeDocket s q e 2
  else if namesCounters e ∧ e.status = 3 then completeDocket s q e 3
  else if q < 2048 then (if q % 4 = 3 then clerkRun s q e else s)
  else if 2060 ≤ q ∧ q < 2062 ∧ ingToHopper e.dk = true ∧ ingestFault s e = 0 then takeIntake s q e
  else s

/-- A docket of a queue starts to run. -/
def dispatch (s : State) (q : Nat) (e : QEntry) : State :=
  let s := updEntry s q e.toRef (fun e => { e with running := true, ran := 0, waitFrom := none, startStamp := stamp s })
  match entryOf s q e.toRef with
  | none => s
  | some e => atDispatch s q e

/-- DOCKET_DISPATCH: the docket that R141 chooses. -/
def execDocketDispatch (q : QueueId) (s : State) : Host.Outcome State Fault Refusal :=
  .next (live s (fun s =>
    let s := evalHeads (rouseQueue s q.val) q.val
    if !engineFree s q.val then s
    else match choose s q.val with
      | none => s
      | some (e, s) => dispatch s q.val e))

/-- A Clerk operation: the running docket's, or the next one's where it is of that kind. -/
def clerkOp (s : State) (core op : Nat) : State :=
  let q := 4 * core + 3
  match runningOp s q 3 op with
  | some e => clerkRun s q e
  | none =>
    let s := evalHeads (rouseQueue s q) q
    if !engineFree s q then s
    else match choose s q with
      | none => s
      | some (e, t) => if dkOp e.dk = op then dispatch t q e else s

/-- CNOP. -/
def execCnop (core : CoreId) (s : State) : Host.Outcome State Fault Refusal := .next (live s (fun s => clerkOp s core.val 0))

/-- CWAIT. -/
def execCwait (core : CoreId) (s : State) : Host.Outcome State Fault Refusal := .next (live s (fun s => clerkOp s core.val 1))

/-- DOCKET_COMPLETION: the engine has finished and the outputs are visible; a docket cut by its tenant's reset ends PURGED (R139, R151). -/
def execDocketCompletion (q : QueueId) (ref : DocketRef) (s : State) : Host.Outcome State Fault Refusal :=
  .next (live s (fun s =>
    match entryOf s q.val ref with
    | none => s
    | some e =>
      if !e.running then s
      else if e.cut then (if s.resets.tenants.contains e.tenant.val then completeDocket s q.val e 7 else s)
      else match readyStatus s e with
        | some st => completeDocket s q.val e st
        | none => if q.val < 2048 ∧ q.val % 4 = 3 then clerkRun s q.val e else s))

-- timeouts (R145, R146, R361, R362) -----------------------------------------------------------------------------------

/-- A timeout counted at the home core (R146). -/
def countTimeout (s : State) (e : QEntry) : State := rinc s Reg.CLERK_TIMEOUTS e.home

/-- Length of a docket's wait timeout in FTCLK cycles (R145, R400). -/
def waitLimit (s : State) (q : Nat) (e : QEntry) : Nat :=
  let n := dkWaitLimit e.dk
  16384 * (if n = 0 then rget s Reg.TENANT_WAIT_LIMIT_DEFAULT 0 e.tenant.val else n) / tmoShift s (queueDie q)

/-- WAIT_TIMEOUT: a head has waited its limit; an arrival of the same cycle wins (R119, R145, R146). -/
def execWaitTimeout (q : QueueId) (ref : DocketRef) (s : State) : Host.Outcome State Fault Refusal :=
  .next (live s (fun s =>
    let s := evalHeads s q.val
    match entryOf s q.val ref with
    | none => s
    | some e =>
      match e.waitFrom with
      | none => s
      | some c =>
        if e.eligible ∨ e.running then s
        else
          let s := evalHeads (advanceTo s (c + waitLimit s q.val e)) q.val
          match entryOf s q.val ref with
          | none => s
          | some e => if e.eligible then s else completeDocket (countTimeout s e) q.val e 6))

/-- Length of a docket's run timeout in FTCLK cycles (R145, R400). -/
def runLimit (s : State) (q : Nat) (e : QEntry) : Nat :=
  max (e.est * rget s Reg.CLERK_TIMEOUT_SCALE_UNITS e.home * 64) 65536 / tmoShift s (queueDie q)

/-- FTCLK cycles until a docket's run timer reaches its limit (R408). -/
def runLeft (s : State) (q : Nat) (e : QEntry) : Nat :=
  let rate : Rat := if q < 2048 then runRate s (q / 32) else 1
  let left : Rat := runLimit s q e - e.ran
  if left ≤ 0 then 0 else (left / rate).ceil.toNat

/-- Devices that still owe a docket an answer (R361). -/
def owing (s : State) (q : Nat) (e : QEntry) : List Nat :=
  let ops := (s.msf.ops.filter (fun o => o.queue == q && e.is o.ref)).map (fun o => o.dev.toNat)
  let coll := match collOf s e.toRef with
    | some k => k.sent.map (fun c => k.devs.getD ((stageOf k).members.getD c.1 0) 0)
    | none => []
  let load := match jobOf s e.toRef with
    | some j => j.sent.map (fun c => j.members.getD c.1 0)
    | none => []
  ((if q = 2056 then coll else []) ++ (if q = 2058 then load else []) ++ ops).eraseDups

/-- The arguments of a run-timeout record (R387). -/
def owingArgs (l : List Nat) : List Nat :=
  l.length :: (chunksOf 4 (l.take 100)).map (fun g => (g.zipIdx.map (fun p => p.1 * 2 ^ (16 * p.2))).sum)

/-- A docket's run timeout is taken: TIMEOUT, its record, suspicion, the generation and the reset of its engine, or of the domain around it
where hangs repeat (R146, R361, R362, R368, R374). -/
def hang (s : State) (q : Nat) (e : QEntry) : State :=
  let l := owing s q e
  let src := queueSrc s q
  let s := raise (countTimeout s e)
    { code := 0x0C0B, off := 0x2C, lsb := 0, die := src.2.1, unit := src.2.2, tenant := e.tenant.val
      dk := some { e.words with status := 5 }, args := owingArgs l }
  let s := match l.getLast? with
    | none => s
    | some d => rinc (rset s Reg.HEALTH_SUSPECT_DEV 0 0 d) Reg.HEALTH_SUSPECT_COUNT
  let s := charge s 7 (diePart src.2.1)
  let s := completeDocket s q e 5
  let s := advanceGen s q 1
  let r := s.resets
  let win := 1000000 * rget s Reg.RESET_ESCALATE_WINDOW_MS
  let hs := s.time.cyc :: (mapGet r.hangs q []).filter (fun c => decide (s.time.cyc < c + win))
  let s := { s with resets := { r with hangs := mapSet r.hangs q hs } }
  if rget s Reg.RESET_AUTO_ENGINE = 0 then { s with resets := { s.resets with stopped := addOnce s.resets.stopped q } }
  else if rget s Reg.RESET_ESCALATE_COUNT ≤ hs.length then
    escalate { s with resets := { s.resets with hangs := mapSet s.resets.hangs q [] } } 0 q
  else startReset s 0 q 1 true

/-- RUN_TIMEOUT: a running docket has used up its limit; a final output that has landed wins (R145, R146, R362). -/
def execRunTimeout (q : QueueId) (ref : DocketRef) (s : State) : Host.Outcome State Fault Refusal :=
  .next (live s (fun s =>
    match entryOf s q.val ref with
    | none => s
    | some e =>
      if !e.running ∨ e.done ∨ e.cut then s
      else
        let s := advance s (runLeft s q.val e)
        hang s q.val e))

end Sys2Proof.Machine
end

