-- ==== Sys2Proof/Machine/Flash.lean ====
section
/-! DEFINITION. Sys2Proof/Machine/Flash.lean: the boot flash behind the SMB page: R420, R462, R467. -/

namespace Sys2Proof.Machine

/-- The SMB page. -/
def smbPage : Page := ⟨.smb, 0⟩

/-- FLASH_CLAIM applied: a claim while the other path holds it is refused; 3 is clamped to 0. -/
def flashClaimApply (w : Writer) (v : Nat) (s : State) : State :=
  let f := Reg.SMB_FLASH_CLAIM
  let cur := rget s f
  let v := v % 4
  if v = 3 then reportFld (rset s f 0 0 0) smbPage w f 0 0 3 0
  else if v ≠ 0 ∧ cur ≠ 0 ∧ cur ≠ v then reportFld s smbPage w f 0 2 v cur
  else rset s f 0 0 v

/-- A flash command of a path can run: past the FLASH stage, the path's own claim, nothing in progress (R462; log entry 40). -/
def flashRuns (s : State) (path : Nat) : Bool :=
  s.boot.inRange && 2 ≤ bootStage s && rget s Reg.SMB_FLASH_CLAIM == path && s.flash.busy.isNone

/-- A flash command that does not run: FLASH_STATUS error. -/
def flashError (s : State) : State := rset s Reg.SMB_FLASH_STATUS 0 0 (setBit (rget s Reg.SMB_FLASH_STATUS) 1)

/-- The bytes of the buffer FLASH_DATA. -/
def flashBuffer (s : State) : BitVec 256 :=
  BitVec.ofNat 256 ((List.range 8).map (fun i => rget s Reg.SMB_FLASH_DATA 0 i * 2 ^ (32 * i))).sum

/-- A flash operation begins on the bytes at FLASH_ADDR. -/
def flashBegin (s : State) (path cmd : Nat) (data : BitVec 256) : State :=
  if !flashRuns s path then flashError s
  else
    let op : FlashOp := { cmd, addr := rget s Reg.SMB_FLASH_ADDR, data, smbus := path == 1 }
    rset { s with flash := { s.flash with busy := some op } } Reg.SMB_FLASH_STATUS 0 0 1

/-- FLASH_CMD applied: 1 read, 2 program, 3 erase sector. -/
def flashCmdApply (v : Nat) (s : State) : State := if v % 4 = 0 then s else flashBegin s 2 (v % 4) (flashBuffer s)

/-- FLASH_READ. -/
def execFlashRead (by' : Writer) (s : State) : Host.Outcome State Fault Refusal :=
  .next (gated s by' smbPage Reg.SMB_FLASH_CMD 0 1 (flashCmdApply 1))

/-- FLASH_PROGRAM. -/
def execFlashProgram (by' : Writer) (s : State) : Host.Outcome State Fault Refusal :=
  .next (gated s by' smbPage Reg.SMB_FLASH_CMD 0 2 (flashCmdApply 2))

/-- FLASH_ERASE_SECTOR. -/
def execFlashEraseSector (by' : Writer) (s : State) : Host.Outcome State Fault Refusal :=
  .next (gated s by' smbPage Reg.SMB_FLASH_CMD 0 3 (flashCmdApply 3))

/-- A byte of the flash set; an erased one is not kept. -/
def flashPut (m : List (Nat × Byte)) (a : Nat) (b : Byte) : List (Nat × Byte) := if b = 0xFF then mapErase m a else mapSet m a b

/-- 32 bytes programmed: NOR cells only go from 1 to 0 (log entry 40). -/
def flashStore (s : State) (addr : Nat) (data : BitVec 256) : State :=
  let bs := (List.range 32).map (fun i => (addr + i, flashByte s (addr + i) &&& BitVec.ofNat 8 (bitsAt data.toNat (8 * i) 8)))
  { s with flash := { s.flash with bytes := bs.foldl (fun m b => flashPut m b.1 b.2) s.flash.bytes } }

/-- The 64 KiB sector of an address erased. -/
def flashErase (s : State) (addr : Nat) : State :=
  { s with flash := { s.flash with bytes := s.flash.bytes.filter (fun b => b.1 / 65536 != addr / 65536) } }

/-- The 32 bytes at an address read into FLASH_DATA. -/
def flashLoad (s : State) (addr : Nat) : State :=
  (List.range 8).foldl (fun s i => rset s Reg.SMB_FLASH_DATA 0 i (leNat (flashBytes s (addr + 4 * i) 4))) s

/-- FLASH_OP_DONE: the operation's effect, and busy clears. -/
def execFlashOpDone (s : State) : Host.Outcome State Fault Refusal :=
  .next (match s.flash.busy with
    | none => s
    | some op =>
      let s := { s with flash := { s.flash with busy := none } }
      let s := rset s Reg.SMB_FLASH_STATUS 0 0 (clrBit (rget s Reg.SMB_FLASH_STATUS) 0)
      match op.cmd with
      | 1 => flashLoad s op.addr
      | 2 => flashStore s op.addr op.data
      | _ => flashErase s op.addr)

end Sys2Proof.Machine
end

