-- ==== Sys2Proof/Machine/Freeze.lean ====
section
/-! DEFINITION. Sys2Proof/Machine/Freeze.lean: freezes, their read-out, and the enabling of perturbation: R395 to R400, R402. -/

namespace Sys2Proof.Machine

/-- The FREEZE page. -/
def freezePage : Page := ⟨.freeze, 0⟩

/-- A bit of STATUS (R402). -/
def statusBit (s : State) (i : Nat) : Bool := bitAt (rget s Reg.FREEZE_STATUS) i

/-- A bit of STATUS set or cleared. -/
def setStatus (s : State) (i : Nat) (b : Bool) : State := rbit s Reg.FREEZE_STATUS 0 0 i b

/-- The record 0x6408 of the start or the end of a freeze, with the MSI-X message (R396, R398, R453). -/
def freezeRecord (s : State) : State := raise (msix s 132) (evOf Reg.FREEZE_STATUS 0 13 0)

-- arming (R395) -------------------------------------------------------------------------------------------------------

/-- AT. -/
def freezeAt (s : State) : Nat := rget64 s Reg.FREEZE_AT_LO Reg.FREEZE_AT_HI

/-- ARM applied: discarded while frozen; LATE_ARM where AT is not ahead of FT. -/
def armApply (w : Writer) (v : Nat) (s : State) : State :=
  if frozen s then reportFld s freezePage w Reg.FREEZE_ARM 0 2 (v % 2) (rget s Reg.FREEZE_ARM)
  else if v % 2 = 0 then rset s Reg.FREEZE_ARM 0 0 0
  else setStatus (rset s Reg.FREEZE_ARM 0 0 1) 4 (decide (freezeAt s ≤ s.time.ft.toNat))

/-- ARM, with AT where the same transaction writes it. -/
def execArm (by' : Writer) (at' : Option W64) (s : State) : Host.Outcome State Fault Refusal :=
  .next (gated s by' freezePage Reg.FREEZE_ARM 0 1 (fun s =>
    armApply by' 1 (match at' with | none => s | some v => rset64 s Reg.FREEZE_AT_LO Reg.FREEZE_AT_HI 0 0 v.toNat)))

/-- The multicast WRITE of AT and ARM to PROPAGATE_GROUP. -/
def propagateArm (s : State) (v : Nat) : State :=
  let op := writeOp (regBase + freezePage.base + Reg.FREEZE_AT_LO.off) 0 (tgenOf s 15) 0 0 false false false 0 0
  send s none (mkPacket s (rget s Reg.FREEZE_PROPAGATE_GROUP) 0 15 true 2 0 op (natLe v 8 ++ natLe 1 4))

/-- FREEZE_N_ASSERT: the pin is sampled low. -/
def execFreezeNAssert (s : State) : Host.Outcome State Fault Refusal :=
  .next (
    if statusBit s 1 then s
    else
      let s := setStatus { s with freeze := { s.freeze with pinEnd := none } } 1 true
      if frozen s then setStatus s 2 true
      else if rget s Reg.FREEZE_PIN_PROPAGATE = 1 then
        let v := s.time.ft.toNat + 1000 * rget s Reg.FREEZE_PROPAGATE_LEAD_US
        propagateArm { s with freeze := { s.freeze with pinAt := some (BitVec.ofNat 64 v) } } v
      else { s with freeze := { s.freeze with pinAt := some (s.time.ft + 64) } })

/-- FREEZE_N_RELEASE: a freeze by the pin ends RESUME_LEAD_US later (R398). -/
def execFreezeNRelease (s : State) : Host.Outcome State Fault Refusal :=
  .next (
    if !statusBit s 1 then s
    else
      let e := s.time.ft + BitVec.ofNat 64 (1000 * rget s Reg.FREEZE_RESUME_LEAD_US)
      setStatus { s with freeze := { s.freeze with pinEnd := some e } } 1 false)

/-- FT of the freeze that is armed: the earlier of the two instants. -/
def freezeInstant (s : State) : Option Nat :=
  earlier (if rget s Reg.FREEZE_ARM = 1 then some (freezeAt s) else none) (s.freeze.pinAt.map (·.toNat))

/-- The clocks stop (R396). -/
def freezeNow (s : State) : State :=
  let ft := s.time.ft.toNat
  let byAt := rget s Reg.FREEZE_ARM == 1 && decide (freezeAt s ≤ ft)
  let byPin := match s.freeze.pinAt with | none => false | some v => decide (v.toNat ≤ ft)
  let s := setStatus (setStatus (setStatus s 0 true) 2 byPin) 3 byAt
  let s := rset64 (rset s Reg.FREEZE_ARM 0 0 0) Reg.FREEZE_FROZEN_FT_LO Reg.FREEZE_FROZEN_FT_HI 0 0 ft
  let s := { s with freeze := { s.freeze with pinAt := none, resumeAt := none } }
  let s := if rget s Reg.FTIME_ROLE = 2 ∧ rget s Reg.FTIME_SYNC_STATE ≠ 4 then enterHoldover s else s
  freezeRecord s

/-- FREEZE_TAKEN: FT reaches the armed instant, or the next edge comes where it has passed (R395, R396). -/
def execFreezeTaken (s : State) : Host.Outcome State Fault Refusal :=
  .next (
    if frozen s then s
    else match freezeInstant s with
      | none => s
      | some v =>
        freezeNow (if v ≤ s.time.ft.toNat then advance s 1 else advanceFt s (BitVec.ofNat 64 v)))

-- ending (R398) -------------------------------------------------------------------------------------------------------

/-- RESUME and RESET are discarded outside a freeze and while FREEZE_N is low. -/
def resumeBarred (s : State) : Bool := !frozen s || statusBit s 1

/-- RESUME applied. -/
def resumeApply (w : Writer) (v : Nat) (s : State) : State :=
  if v % 2 = 0 then s
  else if resumeBarred s then reportFld s freezePage w Reg.FREEZE_RESUME 0 2 1 0
  else
    let r := rget64 s Reg.FREEZE_RESUME_AT_LO Reg.FREEZE_RESUME_AT_HI
    { s with freeze := { s.freeze with resumeAt := some (BitVec.ofNat 64 r) } }

/-- RESUME, with RESUME_AT where the same transaction writes it. -/
def execResume (by' : Writer) (at' : Option W64) (s : State) : Host.Outcome State Fault Refusal :=
  .next (gated s by' freezePage Reg.FREEZE_RESUME 0 1 (fun s =>
    let s := match at' with
      | none => s
      | some v => rset64 s Reg.FREEZE_RESUME_AT_LO Reg.FREEZE_RESUME_AT_HI 0 0 v.toNat
    resumeApply by' 1 s))

/-- STATUS and the instants as they stand when the clocks restart. -/
def thaw (s : State) : State :=
  let s := [0, 2, 3, 4].foldl (fun s i => setStatus s i false) s
  { s with freeze := { s.freeze with resumeAt := none, pinEnd := none } }

/-- RESET applied: the freeze ends with a package reset, which a trip refuses (R366, R398, R410). -/
def freezeResetApply (w : Writer) (v : Nat) (s : State) : State :=
  if v % 2 = 0 then s
  else if resumeBarred s then reportFld s freezePage w Reg.FREEZE_RESET 0 2 1 0
  else if tripHolds s then s
  else packageReset (thaw s)

/-- FREEZE_RESET. -/
def execFreezeReset (by' : Writer) (s : State) : Host.Outcome State Fault Refusal :=
  .next (gated s by' freezePage Reg.FREEZE_RESET 0 1 (freezeResetApply by' 1))

/-- FT at which the freeze ends, once every cause has been answered. -/
def thawInstant (s : State) : Option Nat :=
  let a : Option Nat := if statusBit s 3 then s.freeze.resumeAt.map (·.toNat) else some 0
  let p : Option Nat := if statusBit s 2 then (if statusBit s 1 then none else s.freeze.pinEnd.map (·.toNat)) else some 0
  match a, p with | some x, some y => some (max x y) | _, _ => none

/-- RESUME_REACHED: the clocks restart, at the instant or at the next edge where it has passed; dockets whose
release passed in the freeze are released at once, and a thermal floor asked for in the freeze applies from here (R398, R411). -/
def execResumeReached (s : State) : Host.Outcome State Fault Refusal :=
  .next (
    if !frozen s then s
    else match thawInstant s with
      | none => s
      | some v =>
        let s := if v ≤ s.time.ft.toNat then advance s 1 else advanceFt s (BitVec.ofNat 64 v)
        let s := freezeRecord (thaw s)
        let s := (s.queues.map (·.1)).foldl evalHeads s
        if s.power.thermLow ∧ !s.power.floor then floorOn s else s)

-- read-out (R397) -----------------------------------------------------------------------------------------------------

/-- Chains of a die. -/
def chainsOf (die : Nat) : Nat := if die < 8 then 12 else if die < 10 then 11 else if die < 12 then 9 else if die = 12 then 1 else 0

/-- CHAIN_SEL applied: an absent chain is clamped to 0, and the position returns to bit 0. -/
def chainSelApply (w : Writer) (v : Nat) (s : State) : State :=
  let v := v % 256
  let c := if v % 16 < chainsOf (v / 16) then v else 0
  let s := rset { s with freeze := { s.freeze with pos := 0 } } Reg.FREEZE_CHAIN_SEL 0 0 c
  if c = v then s else reportFld s freezePage w Reg.FREEZE_CHAIN_SEL 0 0 v c

/-- CHAIN_SEL_WRITE. -/
def execChainSelWrite (by' : Writer) (v : Byte) (s : State) : Host.Outcome State Fault Refusal :=
  .next (gated s by' freezePage Reg.FREEZE_CHAIN_SEL 0 v.toNat (chainSelApply by' v.toNat))

/-- An input reaches the pages of the AO domain: in a freeze only SMBus and JTAG do, and JTAG not while TRST_N is low (R396,
R440, R464). -/
def reachesAo (s : State) (w : Writer) : Bool := !frozen s || w.input == 13 || (w.input == 15 && s.pins.trstN)

/-- READOUT_DATA_READ. -/
def execReadoutDataRead (by' : Writer) (s : State) : Host.Outcome State Fault Refusal :=
  .next (
    if !reachesAo s by' then s
    else let r := readoutNext s; emit r.2 (.readData (BitVec.ofNat 32 r.1)))

/-- STORE_DATA_READ. -/
def execStoreDataRead (by' : Writer) (s : State) : Host.Outcome State Fault Refusal :=
  .next (
    if !reachesAo s by' then s
    else let r := storeNext s; emit r.2 (.readData (BitVec.ofNat 32 r.1)))

-- perturbation (R399, R400) -------------------------------------------------------------------------------------------

/-- DEBUG_EN applied: set only where the image permits debug; 0 clears every control. -/
def debugEnApply (w : Writer) (d v : Nat) (s : State) : State :=
  let v := v % 2
  if v = 0 then clearPerturb s d
  else if rget s Reg.PMC_DEBUG_PERMIT = 1 then rset s Reg.PERTURB_DEBUG_EN d 0 1
  else reportFld (clearPerturb s d) ⟨.perturb, d⟩ w Reg.PERTURB_DEBUG_EN 0 0 1 0

/-- DEBUG_EN_WRITE. -/
def execDebugEnWrite (by' : Writer) (d : DieId) (on : Bool) (s : State) : Host.Outcome State Fault Refusal :=
  .next (gated s by' ⟨.perturb, d.val⟩ Reg.PERTURB_DEBUG_EN 0 (b2n on) (debugEnApply by' d.val (b2n on)))

/-- The control, by its counter, that a field belongs to. -/
def controlOf (f : Fld) : Nat :=
  if f.off < 0x808 then 0 else if f.off < 0x810 then 1 else if f.off < 0x81C then 2 else if f.off < 0x828 then 3
  else if f.off < 0x82C then 5 else 4

/-- INJ_LINK brought to a link of the die. -/
def injLink (d v : Nat) : Nat := v % 64 / 2 * 2 + (d - 8)

/-- A control field applied: its control starts to count anew, and a class-1 record is written. -/
def controlApply (w : Writer) (d : Nat) (f : Fld) (v : Nat) (s : State) : State :=
  let p : Page := ⟨.perturb, d⟩
  if 0x810 ≤ f.off ∧ f.off < 0x81C ∧ dieKind d ≠ 1 then reportFld s p w f 0 2 (v % 2 ^ f.width) 0
  else
    let s := if f = Reg.PERTURB_INJ_LINK then
        let c := injLink d v
        let s := rset s f d 0 c
        if c = v % 64 then s else reportFld s p w f 0 0 (v % 64) c
      else setClamped s w p f 0 v
    let s := { s with perturb := mapErase s.perturb (8 * d + controlOf f) }
    raise s { evOf f 0 d 0 w.tenant.val none [rget s f d] with cls := some 1 }

end Sys2Proof.Machine
end

