-- ==== Sys2Proof/Machine/HopCfg.lean ====
section
/-! DEFINITION. Sys2Proof/Machine/HopCfg.lean: the configuration of a Hopper and its ENABLE: R217 to R219. -/

namespace Sys2Proof.Machine

/-- The page that configures Hopper h. -/
def hopPage (h : Nat) : Page := ⟨.hopper, h % 2⟩

/-- CAPACITY of Hopper h for its present geometry (R218). -/
def hopRoom (s : State) (h : Nat) : Nat :=
  hopCapacity (hopF s Reg.HOPPER_HOP_REGIONS h) (hopF s Reg.HOPPER_HOP_SLOT_UNITS h)

/-- CAPACITY shown (R218, R235). -/
def hopRecap (s : State) (h : Nat) : State := hopSet s Reg.HOPPER_HOP_CAPACITY h (hopRoom s h)

/-- The fields whose range depends on another one (R218, R235). -/
def hopDependent (f : Fld) : Bool := f == Reg.HOPPER_HOP_REGIONS || f == Reg.HOPPER_HOP_WINDOW

/-- A configuration field applied: refused and reported while ENABLE is 1 (R217). -/
def hopCfgApply (w : Writer) (h : Nat) (f : Fld) (v : Nat) (s : State) : State :=
  let p := hopPage h
  let cur := hopF s f h
  if hopF s Reg.HOPPER_HOP_ENABLE h = 1 then reportFld s p w f (h / 2) 2 v cur
  else
    let s := if hopDependent f then hopSet s f h (clampRng f.rng p.inst (v % 2 ^ f.width)) else setClamped s w p f (h / 2) v
    hopRecap s h

/-- Every region of the Hopper is owned by OWNER (R218). -/
def hopOwned (s : State) (h : Nat) : Bool :=
  (List.range (hopF s Reg.HOPPER_HOP_REGIONS h)).all (fun i =>
    owner s (.room (hopF s Reg.HOPPER_HOP_BASE_REGION h + i)) == (true, hopF s Reg.HOPPER_HOP_OWNER h))

/-- A Hopper docket or an INGEST docket for the Hopper is queued or in progress (R219). -/
def hopInUse (s : State) (h : Nat) : Bool :=
  (queue s (2062 + h % 2)).any (fun e => hdHopper e.dk == h)
    || (queue s 2060 ++ queue s 2061).any (fun e => ingToHopper e.dk && ingHopper e.dk == h)

/-- ENABLE applied (R218, R219). -/
def hopEnableApply (w : Writer) (h v : Nat) (s : State) : State :=
  let f := Reg.HOPPER_HOP_ENABLE
  let cur := hopF s f h
  if v % 2 = cur then s
  else if v % 2 = 1 then
    if hopRoom s h < 2 ∨ !hopOwned s h then reportFld s (hopPage h) w f (h / 2) 2 1 0
    else hopSet (hopSet s f h 1) Reg.HOPPER_HOP_STATE h 1
  else if hopInUse s h then reportFld s (hopPage h) w f (h / 2) 2 0 1
  else hopSet (hopSet s f h 0) Reg.HOPPER_HOP_STATE h 0

/-- HOPPER_ENABLE_WRITE. -/
def execHopperEnableWrite (by' : Writer) (h : HopperId) (en : Bool) (s : State) : Host.Outcome State Fault Refusal :=
  .next (gated s by' (hopPage h.val) Reg.HOPPER_HOP_ENABLE (h.val / 2) (b2n en) (hopEnableApply by' h.val (b2n en)))

end Sys2Proof.Machine
end

