-- ==== Sys2Proof/Machine/Memory.lean ====
section
/-! DEFINITION. Sys2Proof/Machine/Memory.lean: ownership and zero-fills of stores, sets and regions, patrol, refresh and stack
temperature: R92 to R95, R163, R165, R167, R169 to R173. -/

namespace Sys2Proof.Machine

-- ownership (R93, R94, R165) ------------------------------------------------------------------------------------------

/-- A nibble of a field pair or of one field set. -/
def setNibble (s : State) (f : Fld) (inst idx i v : Nat) : State :=
  rset s f inst idx (putBits (rget s f inst idx) (4 * i) 4 v)

/-- Valid bit and owner of a part written into its page's fields (R92, R163). -/
def setOwner (s : State) (r : Region) (valid : Bool) (t : Nat) : State :=
  match r with
  | .near g =>
    let s := rbit s Reg.HBMC_SET_VALID (g / 16) 0 (g % 16) valid
    setNibble s (if g % 16 < 8 then Reg.HBMC_SET_OWNER_LO else Reg.HBMC_SET_OWNER_HI) (g / 16) 0 (g % 8) t
  | .way c w =>
    let s := rbit s Reg.CSTORE_WAY_VALID c 0 w valid
    setNibble s (if w < 8 then Reg.CSTORE_WAY_OWNER_LO else Reg.CSTORE_WAY_OWNER_HI) c 0 (w % 8) t
  | .seg k g =>
    let s := rbit s Reg.CSTORE_SEG_VALID (k / 8) (k % 8) g valid
    setNibble s (if g < 8 then Reg.CSTORE_SEG_OWNER_LO else Reg.CSTORE_SEG_OWNER_HI) (k / 8) (k % 8) (g % 8) t
  | .room n =>
    let s := rbit s Reg.STORC_REGION_VALID 0 (n / 32) (n % 32) valid
    setNibble s Reg.STORC_REGION_OWNER 0 (n / 8) (n % 8) t
  | .reg | .hole => s

/-- First local address and size of a part. -/
def partRange (r : Region) : Nat × Nat :=
  match r with
  | .near g => (g * 0x180000000, 0x180000000)
  | .way c w => (clusterBase c + w * 0x200000, 0x200000)
  | .seg k g => (coreBase k + g * 0x20000, 0x20000)
  | .room n => (roomBase + n * 0x40000000, 0x40000000)
  | .reg | .hole => (0, 0)

/-- Zeros in a range, its poison and its errors gone: what a fill leaves (R93, R165, R167). -/
def zeroRange (s : State) (a n : Nat) : State :=
  let out (l : Nat) : Bool := 64 * l < a || a + n ≤ 64 * l
  { s with mem := memZero s.mem a n, poison := s.poison.filter out
           fills := { s.fills with flaws := s.fills.flaws.filter (fun p => out p.1) } }

/-- The page's progress fields of a part (R93, R165). -/
def showFill (s : State) (r : Region) (busy : Bool) : State :=
  match r with
  | .near g => rbit s Reg.HBMC_FILL_BUSY (g / 16) 0 (g % 16) busy
  | .way c w => rbit s Reg.CSTORE_SCRUB_BUSY c 0 w busy
  | .seg k g => rbit s Reg.CSTORE_SEG_SCRUB_BUSY (k / 8) (k % 8) g busy
  | .room _ =>
    let regions := s.fills.busy.filter (fun k => 65536 ≤ k && k < 131072)
    let s := rset s Reg.STORC_FILL_STATE_BUSY 0 0 (b2n (regions != []))
    rset s Reg.STORC_FILL_STATE_REGION 0 0 (regions.getLastD 65536 - 65536)
  | .reg | .hole => s

/-- New ownership applies, cached CONTROL lines of the part are invalidated, and the zero-fill starts (R93, R165, R282). -/
def startFill (s : State) (r : Region) (valid : Bool) (t : Nat) : State :=
  let a := partRange r
  let s := zeroRange (setOwner s r valid t) a.1 a.2
  let s := (s.msf.dir.filter (fun e => a.1 ≤ 64 * e.1 && 64 * e.1 < a.1 + a.2)).foldl (fun s e => invalControl s e.1) s
  showFill { s with fills := { s.fills with busy := addOnce s.fills.busy r.key } } r true

/-- The ways of a cluster that a tenant owns. -/
def waysOf (s : State) (c t : Nat) : List Nat := (List.range 16).filter (fun w => owner s (.way c w) == (true, t))

/-- The counter way of a tenant brought up to date after a change of ways (R94). -/
def counterWayUp (s : State) (c t : Nat) : State :=
  let ws := waysOf s c t
  let had := rget s Reg.CSTORE_CTR_WAY_VALID c t = 1
  if had ∧ ws.contains (rget s Reg.CSTORE_CTR_WAY_WAY c t) then s
  else match ws with
    | [] => rset (rset s Reg.CSTORE_CTR_WAY_VALID c t 0) Reg.CSTORE_CTR_WAY_WAY c t 0
    | w :: _ =>
      let s := rset (rset s Reg.CSTORE_CTR_WAY_VALID c t 1) Reg.CSTORE_CTR_WAY_WAY c t w
      if had then
        let s := zeroRange s (clusterBase c + w * 0x200000 + 0x1F8000) 0x8000
        { s with fills := { s.fills with counters := addOnce s.fills.counters (16 * c + t) } }
      else s

/-- Every tenant's counter way of a cluster. -/
def counterWays (s : State) (c : Nat) : State := (List.range 16).foldl (fun s t => counterWayUp s c t) s

/-- The clusters whose ways are among the parts. -/
def wayClusters (l : List Region) : List Nat :=
  l.foldl (fun acc r => match r with | .way c _ => addOnce acc c | _ => acc) []

/-- The ownership that a part will have once its queued writes have applied. -/
def pendingOwner (s : State) (r : Region) : Bool × Nat :=
  match (mapGet s.fills.queued r.key []).getLast? with | some x => (x.1, x.2.val) | none => owner s r

/-- One change of a part's ownership: applied with a fill, or queued behind a fill in progress (R93, R165). -/
def changeOwner (s : State) (r : Region) (valid : Bool) (t : TenantId) : State :=
  if pendingOwner s r = (valid, t.val) then s
  else if s.fills.busy.contains r.key then
    { s with fills := { s.fills with queued := mapUpd s.fills.queued r.key [] (· ++ [(valid, t)]) } }
  else startFill s r valid t.val

/-- The ownership changes of one transaction (R94: a tenant first gains ways together). -/
def changeOwners (s : State) (l : List (Region × Bool × TenantId)) : State :=
  let s := l.foldl (fun s x => changeOwner s x.1 x.2.1 x.2.2) s
  (wayClusters (l.map (·.1))).foldl counterWays s

/-- A fill ends: the part may be accessed, or its next queued write applies with a fresh fill (R93, R165). -/
def fillDone (s : State) (r : Region) : State :=
  let s := match r with
    | .way c w =>
      let ks := s.fills.counters.filter (fun k => !(k / 16 == c && rget s Reg.CSTORE_CTR_WAY_WAY c (k % 16) == w))
      { s with fills := { s.fills with counters := ks } }
    | _ => s
  if !s.fills.busy.contains r.key then s
  else match mapGet s.fills.queued r.key [] with
    | [] => showFill { s with fills := { s.fills with busy := dropAll s.fills.busy r.key } } r false
    | (v, t) :: rest =>
      let q := if rest = [] then mapErase s.fills.queued r.key else mapSet s.fills.queued r.key rest
      let s := startFill { s with fills := { s.fills with queued := q } } r v t.val
      (wayClusters [r]).foldl counterWays s

/-- The region of a store part. -/
def storeRegion (p : StorePart) : Region :=
  match p with | .seg c g => .seg c.val g.val | .way c w => .way c.val w.val

/-- The region of a memory part. -/
def memRegion (p : MemPart) : Region := match p with | .set g => .near g.val | .region n => .room n.val

/-- Page, field and index of a part's valid bit, with the field's value after the change. -/
def ownerField (s : State) (r : Region) (valid : Bool) : Page × Fld × Nat × Nat :=
  let put (f : Fld) (inst idx i : Nat) : Nat := let v := rget s f inst idx; if valid then setBit v i else clrBit v i
  match r with
  | .way c w => (⟨.cstore, c⟩, Reg.CSTORE_WAY_VALID, 0, put Reg.CSTORE_WAY_VALID c 0 w)
  | .seg k g => (⟨.cstore, k / 8⟩, Reg.CSTORE_SEG_VALID, k % 8, put Reg.CSTORE_SEG_VALID (k / 8) (k % 8) g)
  | .near g => (⟨.hbmc, g / 16⟩, Reg.HBMC_SET_VALID, 0, put Reg.HBMC_SET_VALID (g / 16) 0 (g % 16))
  | .room n => (⟨.storc, 0⟩, Reg.STORC_REGION_VALID, n / 32, put Reg.STORC_REGION_VALID 0 (n / 32) (n % 32))
  | .reg | .hole => (⟨.storc, 0⟩, Reg.STORC_REGION_VALID, 0, 0)

/-- One ownership write as a register transaction. -/
def ownershipOf (s : State) (w : Writer) (r : Region) (valid : Bool) (t : TenantId) : State :=
  let f := ownerField s r valid
  gated s w f.1 f.2.1 f.2.2.1 f.2.2.2 (fun s => changeOwners s [(r, valid, t)])

/-- OWNERSHIP_WRITE. -/
def execOwnershipWrite (by' : Writer) (part : StorePart) (valid : Bool) (owner : TenantId) (s : State) :
    Host.Outcome State Fault Refusal :=
  .next (ownershipOf s by' (storeRegion part) valid owner)

/-- SET_OWNERSHIP_WRITE. -/
def execSetOwnershipWrite (by' : Writer) (part : MemPart) (valid : Bool) (owner : TenantId) (s : State) :
    Host.Outcome State Fault Refusal :=
  .next (ownershipOf s by' (memRegion part) valid owner)

/-- STORE_FILL_DONE. -/
def execStoreFillDone (part : StorePart) (s : State) : Host.Outcome State Fault Refusal :=
  .next (live s (fun s => fillDone s (storeRegion part)))

/-- MEMORY_FILL_DONE. -/
def execMemoryFillDone (part : MemPart) (s : State) : Host.Outcome State Fault Refusal :=
  .next (live s (fun s => fillDone s (memRegion part)))

-- ECC and patrol (R95, R166, R167, R169) ------------------------------------------------------------------------------

/-- PATROL_SCRUB: a patrol read of a line, by its local address / 64: it finds what the line holds, and what the command says has befallen
the cells besides (log entry 11). A corrected value is written back, which changes no byte, and gives way to a write that lands in the same
cycle (R169). -/
def execPatrolScrub (line : Nat) (found : Ecc) (raced : Bool) (s : State) : Host.Outcome State Fault Refusal :=
  .next (live s (fun s =>
    match regionOf (64 * line) with
    | .hole | .reg => s
    | _ =>
      let s := readLine s line
      match found, raced with
      | .clean, _ => s
      | .corrected, _ => correctedLine s line
      | .uncorrectable, _ => if s.poison.contains line then s else poisonLine s line))

-- refresh (R170 to R173) ----------------------------------------------------------------------------------------------

/-- FT at which the next window of a period and phase opens. -/
def nextWindow (ft : W64) (period phase : Nat) : W64 :=
  let p := max 1 period
  let at' := phase * period / 4
  let now := ft.toNat % p
  ft + BitVec.ofNat 64 (if now ≤ at' then at' - now else p + at' - now)

/-- REFRESH_WINDOW: the unit's next window on FT opens and closes (R170, R172, R173; log entry 29). -/
def execRefreshWindow (unit : RefreshUnit) (s : State) : Host.Outcome State Fault Refusal :=
  .next (live s (fun s =>
    let r := refreshOf s unit
    if !r.2.2.2 then s
    else
      let s := advanceFt s (nextWindow s.time.ft r.1 r.2.2.1)
      advance s r.2.1))

/-- STACK_TEMPERATURE_REPORT: above 85 °C the stack is HOT, at 80 °C or below no longer (R172, R377). -/
def execStackTemperatureReport (stack : StackId) (celsius : Nat) (s : State) : Host.Outcome State Fault Refusal :=
  .next (live s (fun s =>
    let n := stack.val / 2
    let i := stack.val % 2
    let hot := bitAt (rget s Reg.HBMC_HOT n) i
    if 85 < celsius ∧ !hot then
      let s := rbit s Reg.HBMC_HOT n 0 i true
      let e := evOf Reg.HBMC_HOT 0 n stack.val 15 none [celsius]
      charge (raise s { e with lsb := i }) 6 (64 + stack.val)
    else if celsius ≤ 80 ∧ hot then rbit s Reg.HBMC_HOT n 0 i false
    else s))

end Sys2Proof.Machine
end

