-- ==== Sys2Proof/Machine/Pcie.lean ====
section
/-! DEFINITION. Sys2Proof/Machine/Pcie.lean: the module's edge: PERST_N and the PCIe function, TRST_N, and the Ethernet ports: R2, R153,
R418, R451 to R455, R464 to R466. -/

namespace Sys2Proof.Machine

/-- The PCIE page. -/
def pciePage : Page := ⟨.pcie, 0⟩

-- the aperture (R452, R465) -------------------------------------------------------------------------------------------

/-- Size of BAR4. -/
def apertureSize (s : State) : Nat := 2 ^ rget s Reg.PCIE_APERTURE_LOG2

/-- Bytes of near memory (R157). -/
def nearBytes : Nat := 0x00C000000000

/-- APERTURE_BASE brought to a multiple of the aperture's size whose window ends within near memory. -/
def apertureClamp (s : State) (v : Nat) : Nat :=
  let n := apertureSize s
  min (v / n * n) ((nearBytes - n) / n * n)

-- PERST_N and FLR (R153, R418, R464) ----------------------------------------------------------------------------------

/-- PERST_N_ASSERT: the function goes into reset, and host rings pause. -/
def execPerstNAssert (s : State) : Host.Outcome State Fault Refusal :=
  .next (
    if !s.pins.perstN then s
    else
      let s := functionDown { s with pins := { s.pins with perstN := false } }
      live s (fun s => rinc s Reg.PCIE_PERST_COUNT))

/-- PERST_N_RELEASE: the function leaves reset; the host re-enables it. -/
def execPerstNRelease (s : State) : Host.Outcome State Fault Refusal :=
  .next { s with pins := { s.pins with perstN := true } }

/-- FUNCTION_LEVEL_RESET. -/
def execFunctionLevelReset (s : State) : Host.Outcome State Fault Refusal :=
  .next (live s (fun s =>
    if !s.pins.perstN ∨ s.pcie.rrs then s else rinc (functionDown s) Reg.PCIE_FLR_COUNT))

-- configuration space (R2, R418, R451; log entry 39) ------------------------------------------------------------------

/-- A configuration word as it reads: the IDs of R2, a word that the host has written, or a free value. -/
def cfgWord (s : State) (i : Nat) : Nat × State :=
  if i = 0 then (0x0C511FA7, s)
  else
    let f := freeVal s
    if i = 2 then (0xB1 + f.1 % 2 ^ 24 * 256, f.2)
    else match mapFind s.pcie.cfg i with
      | some w => (w.toNat, s)
      | none => (f.1 % 2 ^ 32, f.2)

/-- A configuration write: the Command register's bus master bit re-enables the function; the Resizable BAR control sets
the size of BAR4. -/
def cfgWrite (s : State) (i : Nat) (v : W32) : State :=
  let p := s.pcie
  let s := { s with pcie := { p with cfg := mapSet p.cfg i v, enabled := p.enabled || (i == 1 && v.getLsbD 2) } }
  let n := bitsAt v.toNat 8 6 + 20
  if i = Config.rebarControl ∧ 30 ≤ n ∧ n ≤ 39 then
    let s := rset s Reg.PCIE_APERTURE_LOG2 0 0 n
    let b := rget64 s Reg.PCIE_APERTURE_BASE_LO Reg.PCIE_APERTURE_BASE_HI
    rset64 s Reg.PCIE_APERTURE_BASE_LO Reg.PCIE_APERTURE_BASE_HI 0 0 (apertureClamp s b)
  else s

/-- CONFIGURATION_REQUEST: no answer in reset, Request Retry Status before PUBLISH (R418). -/
def execConfigurationRequest (off : BitVec 12) (data : Option W32) (s : State) : Host.Outcome State Fault Refusal :=
  .next (live s (fun s =>
    let i := off.toNat / 4
    if !s.pins.perstN then s
    else if s.pcie.rrs then emit s .cfgRetry
    else match data with
      | some v => cfgWrite s i v
      | none => let r := cfgWord s i; emit r.2 (.cfgRead (BitVec.ofNat 32 r.1))))

/-- PCIE_LINK_CHANGE: the link trains once the FD0 uncore has power, or goes down (R418, R451). -/
def execPcieLinkChange (up : Bool) (speed : BitVec 3) (width : BitVec 5) (flitMode : Bool) (s : State) :
    Host.Outcome State Fault Refusal :=
  .next (live s (fun s =>
    if up ∧ !domainOn s 105 then s
    else
      let s := rset (rset s Reg.PCIE_LINK_UP 0 0 (b2n up)) Reg.PCIE_FLIT_MODE 0 0 (b2n flitMode)
      rset (rset s Reg.PCIE_LINK_WIDTH 0 0 width.toNat) Reg.PCIE_LINK_SPEED 0 0 speed.toNat))

/-- BAR4_ACCESS: the MSI-X table and PBA, or near memory through the aperture as TC15 (R452). -/
def execBar4Access (off : Nat) (data : Option (List Byte)) (len : Nat) (s : State) : Host.Outcome State Fault Refusal :=
  .next (live s (fun s =>
    if !hostUp s ∨ apertureSize s ≤ off then s
    else if off < 0x10000 then
      (match data with
        | some d => if off < 0x8000 then { s with pcie := { s.pcie with msix := memWrite s.pcie.msix off d } } else s
        | none => emit s (.bytes (memRead s.pcie.msix off len)))
    else
      let a := rget64 s Reg.PCIE_APERTURE_BASE_LO Reg.PCIE_APERTURE_BASE_HI + (off - 0x10000)
      let x := Access.start (arriveAt s a) 15 none
      match data with
      | some d => let y := x.wr a d; if y.stalled then s else y.s
      | none => let r := x.rd a len; if r.2.stalled then s else emit r.2.s (.bytes r.1)))

/-- TRST_N_ASSERT: JTAG stays in reset while TRST_N is low (R464). -/
def execTrstNAssert (low : Bool) (s : State) : Host.Outcome State Fault Refusal :=
  .next { s with pins := { s.pins with trstN := !low } }

-- Ethernet (R453, R454, R466) -----------------------------------------------------------------------------------------

/-- The local addresses of a port: those of its enabled targets' descriptors, bytes in network order (R187, R455). -/
def portAddresses (s : State) (m : Nat) : List Nat :=
  ((List.range 16).filter (fun i => rget s Reg.MILL_ENABLE m i == 1)).map (fun i =>
    leNat (memRead s.mem (rget64 s Reg.MILL_DESC_LO Reg.MILL_DESC_HI m i + 0x10) 16).reverse)

/-- NEIGHBOUR_SOLICITATION: answered with the port's MAC for its own addresses only. -/
def execNeighbourSolicitation (m : MDie) (ip : BitVec 128) (s : State) : Host.Outcome State Fault Refusal :=
  .next (live s (fun s =>
    if (portAddresses s m.val).contains ip.toNat then
      emit s (.ethernet m 0 (rget64 s Reg.ETH_MAC_LO Reg.ETH_MAC_HI m.val))
    else s))

/-- A port's state changed. -/
def updEth (s : State) (m : Nat) (f : EthSt → EthSt) : State := { s with eth := mapUpd s.eth m EthSt.reset f }

/-- CONGESTION_NOTIFICATION: counted, and the port reduces its rate. -/
def execCongestionNotification (m : MDie) (s : State) : Host.Outcome State Fault Refusal :=
  .next (live s (fun s =>
    updEth (rinc s Reg.ETH_CNP_RECEIVED m.val) m.val (fun e => { e with rateCuts := e.rateCuts + 1 })))

/-- PFC_PAUSE: counted; the port's priority pauses. -/
def execPfcPause (m : MDie) (priority : Fin 8) (s : State) : Host.Outcome State Fault Refusal :=
  .next (live s (fun s =>
    let s := rinc s Reg.ETH_PFC_PAUSES m.val
    if rget s Reg.ETH_PFC_PRIORITY m.val = priority.val then
      updEth s m.val (fun e => { e with paused := addOnce e.paused priority.val })
    else s))

/-- ETH_LINK_CHANGE: LINK_UP changes and MSI-X 131 is sent. -/
def execEthLinkChange (m : MDie) (up : Bool) (s : State) : Host.Outcome State Fault Refusal :=
  .next (live s (fun s =>
    if rget s Reg.ETH_LINK_UP m.val = b2n up then s else msix (rset s Reg.ETH_LINK_UP m.val 0 (b2n up)) 131))

end Sys2Proof.Machine
end

