-- ==== Sys2Proof/Machine/Power.lean ====
section
/-! DEFINITION. Sys2Proof/Machine/Power.lean: switched domains, operating points, power and temperature limits, and power states: R403 to
R416, R424. -/

namespace Sys2Proof.Machine

/-- The POWER page. -/
def powerPage : Page := ⟨.power, 0⟩

-- domains (R404) ------------------------------------------------------------------------------------------------------

/-- The domain is a link quad. -/
def isQuad (i : Nat) : Bool := 96 ≤ i && i < 116 && (i - 96) % 10 < 8

/-- The domain is a decode group. -/
def isGroup (i : Nat) : Bool := 118 ≤ i && i < 136 && (i - 118) % 9 < 8

/-- Switching off is refused: a span in the group, or the time parent link in the quad. -/
def offRefused (s : State) (i : Nat) : Bool :=
  if isQuad i then quadDomain (rget s Reg.FTIME_PARENT_LINK) == i
  else (millOf s ((i - 118) / 9)).pipes.any (fun p => p.1 / 4 == (i - 118) % 9)

/-- DOMAIN_ON applied to the selected domain. -/
def domainOnApply (w : Writer) (v : Nat) (s : State) : State :=
  let i := rget s Reg.POWER_DOMAIN_SEL
  if !isQuad i ∧ !isGroup i then reportFld s powerPage w Reg.POWER_DOMAIN_ON 0 2 (v % 2) (b2n (domainOn s i))
  else if v % 2 = 1 then domainsOn s [i]
  else if !domainOn s i then s
  else if offRefused s i then
    raise (rset s Reg.POWER_DOMAIN_REFUSED 0 0 (i + 1)) (evOf Reg.POWER_DOMAIN_REFUSED 0 12 0 15 none [i])
  else
    let s := if isQuad i then quadOff s i else s
    domainsOff s [i]

/-- DOMAIN_ON_WRITE. -/
def execDomainOnWrite (by' : Writer) (on : Bool) (s : State) : Host.Outcome State Fault Refusal :=
  .next (gated s by' powerPage Reg.POWER_DOMAIN_ON 0 (b2n on) (domainOnApply by' (b2n on)))

-- operating points (R406, R407) ---------------------------------------------------------------------------------------

/-- CCLK_MHZ of a cluster applied: clamped, a change begun, or queued behind one in progress (R61; log entry 37). -/
def cclkApply (w : Writer) (c v : Nat) (s : State) : State :=
  let f := Reg.POWER_CCLK_MHZ
  let v := v % 4096
  let n := clampRng f.rng 0 v
  let p := s.power
  let s := match mapFind p.cclk c with
    | some ch => { s with power := { p with cclk := mapSet p.cclk c { ch with next := some n } } }
    | none => rset { s with power := { p with cclk := mapSet p.cclk c { target := n, next := none, since := s.time.cyc } } } f 0 c n
  if n = v then s else reportFld s powerPage w f c 0 v n

/-- CCLK_MHZ_WRITE. -/
def execCclkMhzWrite (by' : Writer) (c : ClusterId) (mhz : BitVec 12) (s : State) : Host.Outcome State Fault Refusal :=
  .next (gated s by' powerPage Reg.POWER_CCLK_MHZ c.val mhz.toNat (cclkApply by' c.val mhz.toNat))

/-- The PLL of a logical cluster coasts (R56). -/
def coasting (s : State) (c : Nat) : Bool := (clockOf s (c / 8)).coast.contains (8 + physPos s c)

/-- A new written value takes force: a cluster that a limit holds is not raised by it, nor one whose PLL coasts. -/
def cclkInForce (s : State) (c v : Nat) : State :=
  let a := rget s Reg.POWER_CCLK_APPLIED 0 c
  let p := s.power
  if coasting s c then s
  else if mapGet p.capHeld c 0 = 0 then setCclk s c v
  else if a < v then s
  else showThrottle (setCclk { s with power := { p with capHeld := mapErase p.capHeld c } } c v)

/-- CCLK_CHANGE_DONE: the ramp of VCORE and the relock are over, no sooner than the ramp takes; a queued change begins (R407; the relock's
own time is at most 20 µs and is not counted, log entry 37). -/
def execCclkChangeDone (c : ClusterId) (s : State) : Host.Outcome State Fault Refusal :=
  .next (live s (fun s =>
    match mapFind s.power.cclk c.val with
    | none => s
    | some ch =>
      let s := cclkInForce (advanceTo s (ch.since + rampNs s c.val ch.target)) c.val ch.target
      let p := s.power
      match ch.next with
      | none => { s with power := { p with cclk := mapErase p.cclk c.val } }
      | some v =>
        rset { s with power := { p with cclk := mapSet p.cclk c.val { target := v, next := none, since := s.time.cyc } } } Reg.POWER_CCLK_MHZ 0 c.val v))

-- the power cap (R409, R445) ------------------------------------------------------------------------------------------

/-- The limit on input power in force. -/
def capW (s : State) : Nat :=
  let c := rget s Reg.POWER_CAP_W
  match s.pins.bladeLimit with | none => c | some b => min c b

/-- The next point of a grid of n cycles from the start of the timers. -/
def nextGrid (s : State) (n : Nat) : Nat := (s.time.cyc / n + 1) * n

/-- POWER_MEASUREMENT: every 100 µs. -/
def execPowerMeasurement (watts : Nat) (s : State) : Host.Outcome State Fault Refusal :=
  .next (live s (fun s =>
    let s := advanceTo s (nextGrid s 100000)
    let s := rset s Reg.POWER_POWER_W 0 0 (min watts 4095)
    if watts ≤ capW s then s
    else showThrottle (((List.range 64).filter (clusterOn s)).foldl (fun s c => lowerCluster s c 25 0) s)))

/-- A held cluster raised by 25 MHz toward its written value; there it is held no longer. -/
def raiseCluster (s : State) (c : Nat) : State :=
  let w := rget s Reg.POWER_CCLK_MHZ 0 c
  let n := min w (rget s Reg.POWER_CCLK_APPLIED 0 c + 25)
  let p := s.power
  if coasting s c then s
  else setCclk (if n = w then { s with power := { p with capHeld := mapErase p.capHeld c } } else s) c n

/-- A held cluster may rise: its die's excursion is over and no thermal floor holds. -/
def mayRaise (s : State) (c : Nat) : Bool := !s.power.hot.contains (c / 8) && !s.power.floor

/-- The thermal floor ends 1 s after THERM_N is released. -/
def floorOff (s : State) : State :=
  if s.power.floor ∧ !s.power.thermLow ∧ s.power.floorEnd ≤ s.time.cyc then
    showThrottle { s with power := { s.power with floor := false } }
  else s

/-- CCLK_RECOVERY_STEP: every ms, while the reading is below 98 % of the limit. -/
def execCclkRecoveryStep (s : State) : Host.Outcome State Fault Refusal :=
  .next (live s (fun s =>
    let s := floorOff (advanceTo s (nextGrid s 1000000))
    if 98 * capW s ≤ 100 * rget s Reg.POWER_POWER_W then s
    else showThrottle (((s.power.capHeld.map (·.1)).filter (mayRaise s)).foldl raiseCluster s)))

-- temperature (R410, R411) --------------------------------------------------------------------------------------------

/-- The hottest junction. -/
def tempMax (s : State) : Nat := (s.power.temp.map (·.2)).foldl max 0

/-- A trip: every switched domain but the PMC island loses power, and what it held; the module is held (R410; log entry 38). -/
def trip (s : State) : State :=
  let t := packageCore s
  let t := { t with
    resets := { t.resets with gens := s.resets.gens }, boot := s.boot
    power := { t.power with tripped := true }, pins := { t.pins with pwrGood := false } }
  let t := rset (rset t Reg.PMC_BOOT_STAGE 0 0 (bootStage s)) Reg.DIMTAB_READY 0 0 (rget s Reg.DIMTAB_READY)
  let t := rset t Reg.DIMTAB_SHAPE_OK 0 0 (rget s Reg.DIMTAB_SHAPE_OK)
  let t := showThrottle t
  alert (raise t { evOf Reg.POWER_THROTTLE 0 12 0 with lsb := 3, cls := some 0 }) 2

/-- An excursion begins: charged once (R410, R377). -/
def excursion (s : State) (d : Nat) : State :=
  if s.power.hot.contains d then s
  else charge { s with power := { s.power with hot := s.power.hot ++ [d] } } 6 (diePart d)

/-- DIE_TEMPERATURE_REPORT: a die reports its hottest sensor, every ms while it is hot. -/
def execDieTemperatureReport (d : DieId) (celsius : Nat) (s : State) : Host.Outcome State Fault Refusal :=
  .next (
    if frozen s then s
    else
      let p := s.power
      let s := { s with power := { p with temp := mapSet p.temp d.val celsius } }
      let s := rset s Reg.POWER_TEMP_MAX_C 0 0 (min 255 (tempMax s))
      if s.power.tripped then s
      else if rget s Reg.POWER_TRIP_C ≤ celsius then trip (excursion s d.val)
      else if rget s Reg.POWER_THROTTLE_C ≤ celsius then
        let s := excursion s d.val
        let cs := if d.val < 8 then (List.range 8).map (8 * d.val + ·) else []
        showThrottle (cs.foldl (fun s c => lowerCluster s c 100 1) s)
      else if celsius + 5 < rget s Reg.POWER_THROTTLE_C then
        showThrottle { s with power := { s.power with hot := dropAll s.power.hot d.val } }
      else s)

/-- THERM_N_ASSERT: the floor applies, from the resume where the part is frozen. -/
def execThermNAssert (s : State) : Host.Outcome State Fault Refusal :=
  .next (
    let s := { s with power := { s.power with thermLow := true } }
    if bootStage s = 0 then s else live s floorOn)

/-- THERM_N_RELEASE: the floor ends 1 s later. -/
def execThermNRelease (s : State) : Host.Outcome State Fault Refusal :=
  .next { s with power := { s.power with thermLow := false, floorEnd := s.time.cyc + 1000000000 } }

-- power states (R412 to R416) -----------------------------------------------------------------------------------------

/-- The key of a unit. -/
def unitKey (u : PowerUnit) : Nat :=
  match u with | .core c => c.val | .cluster c => clusterUnit c.val | .die n => dieUnit n.val | .module => moduleUnit

/-- P_STATE_ENTRY_DONE. -/
def execPStateEntryDone (u : PowerUnit) (s : State) : Host.Outcome State Fault Refusal :=
  .next (live s (fun s => entryDone s (unitKey u)))

/-- WAKE_TIME: exit and guard before the unit's earliest known event, its exit begins (R414). -/
def execWakeTime (u : PowerUnit) (s : State) : Host.Outcome State Fault Refusal :=
  .next (live s (fun s =>
    let k := unitKey u
    match sleepOf s k, nextEvent s k with
    | some (.asleep n), some t => setSleep (advance s (t - exitGuard s n.val)) k (some (.leaving n))
    | _, _ => s))

/-- P_STATE_EXIT_DONE: the unit is awake, and is evaluated again. -/
def execPStateExitDone (u : PowerUnit) (s : State) : Host.Outcome State Fault Refusal :=
  .next (live s (fun s =>
    match sleepOf s (unitKey u) with
    | some (.leaving _) => evalAll (exitDone s (unitKey u))
    | _ => s))

/-- WAKE_AT: FT reaches it while the module is in P4 (R416). -/
def execWakeAt (s : State) : Host.Outcome State Fault Refusal :=
  .next (live s (fun s =>
    let w := rget64 s Reg.POWER_WAKE_AT_LO Reg.POWER_WAKE_AT_HI
    match sleepOf s moduleUnit with
    | none => s
    | some _ => if w = 0 then s else wakeModule (advanceFt s (BitVec.ofNat 64 w))))

end Sys2Proof.Machine
end

