-- ==== Sys2Proof/Machine/Regs.lean ====
section
/-! DEFINITION. Sys2Proof/Machine/Regs.lean: what a write to the register space does, field by field, the Service Bus that carries
it, and its watchdog: R15 to R19, R34, R426 to R441. -/

namespace Sys2Proof.Machine

-- the fields of a write (R428) ----------------------------------------------------------------------------------------

/-- One field that a write touches: its bits and which of them the byte enables cover. -/
structure FWrite where
  f : Fld
  idx : Nat
  data : Nat
  mask : Nat
deriving DecidableEq, Repr

/-- The bits that byte enables cover. -/
def beMask (be : BitVec 4) : Nat := ((List.range 4).map (fun j => if be.getLsbD j then 255 * 256 ^ j else 0)).sum

/-- data where the mask is 1, held elsewhere. -/
def mergeBits (held data mask : Nat) : Nat := (data &&& mask) + (held - (held &&& mask))

/-- Fields whose write starts something, applied after the other fields of their word. -/
def isTrigger (f : Fld) : Bool :=
  [Reg.CLOCK_GATE_REQ, Reg.CHEST_REQUEST, Reg.HOPPER_HOP_ENABLE, Reg.MILL_ENABLE].contains f

/-- The place of a field in the order of its word. -/
def fieldRank (f : Fld) : Nat := b2n (isTrigger f) * 32 + f.lsb

/-- A write put into the order of its word. -/
def insertField (x : FWrite) (l : List FWrite) : List FWrite :=
  match l with
  | [] => [x]
  | y :: r => if fieldRank x.f < fieldRank y.f then x :: y :: r else y :: insertField x r

/-- The fields of a word that its byte enables touch and that a write can change. -/
def fieldWrites (p : Page) (w : WordWrite) : List FWrite :=
  let l := (fieldsAt p (w.off % 4096 / 4 * 4)).filterMap (fun x =>
    let m := bitsAt (beMask w.be) x.1.lsb x.1.width
    if m = 0 ∨ x.1.acc = .ro ∨ x.1.acc = .rc then none
    else some { f := x.1, idx := x.2, data := bitsAt w.data.toNat x.1.lsb x.1.width, mask := m })
  l.foldl (fun acc x => insertField x acc) []

/-- The 64-bit fields that software writes (R428). -/
def rw64 : List (Fld × Fld) :=
  [(Reg.CSTORE_WAY_OWNER_LO, Reg.CSTORE_WAY_OWNER_HI), (Reg.CSTORE_SEG_OWNER_LO, Reg.CSTORE_SEG_OWNER_HI),
   (Reg.DOCK_RING_RING_BASE_LO, Reg.DOCK_RING_RING_BASE_HI), (Reg.DOCK_RING_COMP_BASE_LO, Reg.DOCK_RING_COMP_BASE_HI),
   (Reg.HBMC_SET_OWNER_LO, Reg.HBMC_SET_OWNER_HI), (Reg.MILL_DESC_LO, Reg.MILL_DESC_HI),
   (Reg.ROUTE_GROUP_MASK_LO, Reg.ROUTE_GROUP_MASK_HI), (Reg.HEALTH_RING_LO, Reg.HEALTH_RING_HI),
   (Reg.LEDGER_CAP_BASE_LO, Reg.LEDGER_CAP_BASE_HI), (Reg.FREEZE_AT_LO, Reg.FREEZE_AT_HI),
   (Reg.FREEZE_RESUME_AT_LO, Reg.FREEZE_RESUME_AT_HI), (Reg.FREEZE_STORE_ADDR_LO, Reg.FREEZE_STORE_ADDR_HI),
   (Reg.POWER_WAKE_AT_LO, Reg.POWER_WAKE_AT_HI), (Reg.PCIE_APERTURE_BASE_LO, Reg.PCIE_APERTURE_BASE_HI),
   (Reg.FTIME_SET_LO, Reg.FTIME_SET_HI)]

/-- The pair that a field belongs to. -/
def pairOf (f : Fld) : Option (Fld × Fld) := rw64.find? (fun x => x.1 == f || x.2 == f)

/-- The key under which the lower word of a pair is held. -/
def heldKey (p : Page) (lo : Fld) (idx : Nat) : Nat := snapKey p (lo.off + lo.stride * idx)

/-- The lower word held: data and the bits written. -/
def heldLow (s : State) (p : Page) (lo : Fld) (idx : Nat) : Nat × Nat :=
  let v := mapGet s.held (heldKey p lo idx) 0
  (v % 2 ^ 32, v / 2 ^ 32)

/-- A lower word written: held until the upper word is written (R428). -/
def holdLow (s : State) (p : Page) (x : FWrite) : State :=
  let h := heldLow s p x.f x.idx
  { s with held := mapSet s.held (heldKey p x.f x.idx) (mergeBits h.1 x.data x.mask + (h.2 ||| x.mask) * 2 ^ 32) }

/-- The lower word is held no longer. -/
def dropLow (s : State) (p : Page) (lo : Fld) (idx : Nat) : State := { s with held := mapErase s.held (heldKey p lo idx) }

-- who may write (R429, R430) ------------------------------------------------------------------------------------------

/-- Tenants other than TC15 may write the page. -/
def Page.open' (p : Page) : Bool := (blkFields p.blk).any (fun f => f.acc != .ro && f.acc != .rc && f.perm == .any)

/-- A write to a field of the header goes on with k, or is discarded and reported. -/
def hdrGated (s : State) (w : Writer) (p : Page) (f : Fld) (v : Nat) (k : State → State) : State :=
  let held := rget s f p.num
  let s := if frozen s then s else wakeWrite s w p
  if w.tenant ≠ 15 ∧ !p.open' then reportFld s p w f 0 1 v held
  else if frozen s ∧ !p.ao then reportFld s p w f 0 2 v held
  else k s

/-- A write to a field passes the checks of gated. -/
def admitted (s : State) (w : Writer) (p : Page) (x : FWrite) : Bool :=
  permitted x.f x.idx w && (x.f.off < 0x800 || rget s Reg.HDR_EXPERT_EN p.num == 1) && (!frozen s || p.ao)

-- ownership (R93, R94, R163, R165) ------------------------------------------------------------------------------------

/-- The ownership parts of a page: part, the place of its valid bit and the place of its owner. -/
def ownerParts (p : Page) : List (Region × (Fld × Nat × Nat) × (Fld × Nat × Nat)) :=
  match p.blk with
  | .cstore =>
    (List.range 16).map (fun w => (.way p.inst w, (Reg.CSTORE_WAY_VALID, 0, w),
        (if w < 8 then Reg.CSTORE_WAY_OWNER_LO else Reg.CSTORE_WAY_OWNER_HI, 0, 4 * (w % 8))))
      ++ (List.range 128).map (fun k => (.seg (8 * p.inst + k / 16) (k % 16), (Reg.CSTORE_SEG_VALID, k / 16, k % 16),
        (if k % 16 < 8 then Reg.CSTORE_SEG_OWNER_LO else Reg.CSTORE_SEG_OWNER_HI, k / 16, 4 * (k % 8))))
  | .hbmc =>
    (List.range 16).map (fun g => (.near (16 * p.inst + g), (Reg.HBMC_SET_VALID, 0, g),
        (if g < 8 then Reg.HBMC_SET_OWNER_LO else Reg.HBMC_SET_OWNER_HI, 0, 4 * (g % 8))))
  | .storc =>
    if p.inst = 0 then
      (List.range 2048).map (fun n => (.room n, (Reg.STORC_REGION_VALID, n / 32, n % 32), (Reg.STORC_REGION_OWNER, n / 8, 4 * (n % 8))))
    else []
  | _ => []

/-- Ownership fields. -/
def isOwnerField (f : Fld) : Bool :=
  [Reg.CSTORE_WAY_VALID, Reg.CSTORE_WAY_OWNER_LO, Reg.CSTORE_WAY_OWNER_HI, Reg.CSTORE_SEG_VALID, Reg.CSTORE_SEG_OWNER_LO,
   Reg.CSTORE_SEG_OWNER_HI, Reg.HBMC_SET_VALID, Reg.HBMC_SET_OWNER_LO, Reg.HBMC_SET_OWNER_HI, Reg.STORC_REGION_VALID,
   Reg.STORC_REGION_OWNER].contains f

/-- The bits written at a place, where all of them are. -/
def writtenAt (l : List FWrite) (at' : Fld × Nat × Nat) (n : Nat) : Option Nat :=
  (l.find? (fun x => x.f == at'.1 && x.idx == at'.2.1 && bitsAt x.mask at'.2.2 n == 2 ^ n - 1)).map (fun x => bitsAt x.data at'.2.2 n)

/-- The ownership writes of a transaction with the lower words that were held for them. -/
def ownerWrites (s : State) (w : Writer) (p : Page) (l : List FWrite) : List FWrite :=
  (l.filter (fun x => isOwnerField x.f && admitted s w p x)).flatMap (fun x =>
    match pairOf x.f with
    | none => [x]
    | some (lo, hi) =>
      if x.f ≠ hi then []
      else
        let h := heldLow s p lo x.idx
        [x, { f := lo, idx := x.idx, data := h.1, mask := h.2 }])

/-- The ownership changes of a transaction applied (R93, R94, R165). -/
def applyOwners (s : State) (w : Writer) (p : Page) (l : List FWrite) : State :=
  let ws := ownerWrites s w p l
  if ws = [] then s
  else
    let s := ws.foldl (fun s x => dropLow s p x.f x.idx) s
    changeOwners s ((ownerParts p).filterMap (fun x =>
      let v := writtenAt ws x.2.1 1
      let t := writtenAt ws x.2.2 4
      if v.isNone && t.isNone then none
      else
        let cur := pendingOwner s x.1
        some (x.1, (v.map (· == 1)).getD cur.1, Fin.ofNat 16 (t.getD cur.2))))

-- ranges that depend on another field (R432) --------------------------------------------------------------------------

/-- The largest BRINGUP_TIMEOUT_MS of any link. -/
def maxBringup (s : State) : Nat := ((List.range 64).map (fun l => rget s Reg.ZLINK_BRINGUP_TIMEOUT_MS l)).foldl max 0

/-- The dependent fields of a page with their ranges (R55, R174, R176, R177, R181, R216, R218, R372, R378, R400, R410). -/
def dependents (s : State) (p : Page) (hopper update : Bool) : List (Fld × Nat × Nat × Nat) :=
  let i := p.inst
  match p.blk with
  | .clock => (List.range 8).map (fun m => (Reg.CLOCK_METER_BAND_FAIL, m, rget s Reg.CLOCK_METER_BAND_WARN i m, 100000))
  | .hbmc => [(Reg.HBMC_REFRESH_WINDOW_NS, 0, 300, rget s Reg.HBMC_REFRESH_PERIOD_NS i / 4)]
  | .storc =>
    let u := rget s Reg.STORC_UPDATE_SHARE i
    let h := rget s Reg.STORC_HOPPER_SHARE i
    (if update && !hopper then [(Reg.STORC_UPDATE_SHARE, 0, 0, 75 - h)]
     else [(Reg.STORC_UPDATE_SHARE, 0, 0, 75), (Reg.STORC_HOPPER_SHARE, 0, 0, 75 - u)])
      ++ [(Reg.STORC_REFRESH_WINDOW_NS, 0, 380, rget s Reg.STORC_REFRESH_PERIOD_NS i / 4)]
  | .mill =>
    (Reg.MILL_WORK_SETS, 0, 1, min 8 (128 - rget s Reg.MILL_WORK_BASE_SET i)) ::
      (List.range 16).flatMap (fun k =>
        let n := min 64 (1024 / (8 * 2 ^ rget s Reg.MILL_PATCH i k))
        [(Reg.MILL_GRID_W, k, 1, n), (Reg.MILL_GRID_H, k, 1, n)])
  | .hopper =>
    (List.range 8).flatMap (fun k =>
      let n := min 512 (2048 - rget s Reg.HOPPER_HOP_BASE_REGION i k)
      [(Reg.HOPPER_HOP_REGIONS, k, 1, n),
       (Reg.HOPPER_HOP_WINDOW, k, 2, hopCapacity (min n (rget s Reg.HOPPER_HOP_REGIONS i k)) (rget s Reg.HOPPER_HOP_SLOT_UNITS i k))])
  | .reset =>
    [(Reg.RESET_REQ_INDEX, 0, 0, maxIndex (rget s Reg.RESET_REQ_DOMAIN)), (Reg.RESET_DRAIN_MS, 0, max 1000 (5 * maxBringup s), 10000)]
  | .health => [(Reg.HEALTH_ACT_LEVEL, 0, rget s Reg.HEALTH_WARN_LEVEL, 1023)]
  | .power => [(Reg.POWER_TRIP_C, 0, rget s Reg.POWER_THROTTLE_C + 5, 125)]
  | .perturb => [(Reg.PERTURB_BP_ON, 0, 0, rget s Reg.PERTURB_BP_PERIOD i)]
  | _ => []

/-- Fields that dependents lists. -/
def isDependent (f : Fld) : Bool :=
  [Reg.CLOCK_METER_BAND_FAIL, Reg.HBMC_REFRESH_WINDOW_NS, Reg.STORC_UPDATE_SHARE, Reg.STORC_HOPPER_SHARE,
   Reg.STORC_REFRESH_WINDOW_NS, Reg.MILL_WORK_SETS, Reg.MILL_GRID_W, Reg.MILL_GRID_H, Reg.HOPPER_HOP_REGIONS,
   Reg.HOPPER_HOP_WINDOW, Reg.RESET_REQ_INDEX, Reg.RESET_DRAIN_MS, Reg.HEALTH_ACT_LEVEL, Reg.POWER_TRIP_C,
   Reg.PERTURB_BP_ON].contains f

/-- An event of the transaction, in front of the one its page shows where it comes first by offset and bit (R433). -/
def lateReport (s : State) (p : Page) (w : Writer) (shown : Bool) (e : ClampEv) : State :=
  let n := p.num
  let later := rget s Reg.HDR_CLAMP0_VALID n = 1 ∧
    e.off * 32 + e.lsb < rget s Reg.HDR_CLAMP0_OFFSET n * 32 + rget s Reg.HDR_CLAMP0_FIELD_LSB n
  let t := report s p w e
  if shown ∨ ¬ later then t
  else
    let t := rset t Reg.HDR_CLAMP0_KIND n 0 e.kind
    let t := rset t Reg.HDR_CLAMP0_FIELD_LSB n 0 e.lsb
    let t := rset t Reg.HDR_CLAMP0_OFFSET n 0 e.off
    let t := rset t Reg.HDR_CLAMP1_APPLIED n 0 e.applied
    rset t Reg.HDR_CLAMP1_WRITTEN n 0 e.written

/-- One dependent field brought into its range, and the report that shows the value it would have taken (R432). -/
def clampDependent (s : State) (w : Writer) (p : Page) (shown : Bool) (raw : Option Nat) (f : Fld) (idx lo hi : Nat) : State :=
  let v := rget s f p.inst idx
  let c := max lo (min hi v)
  let was := match raw with | none => v | some r => if clampRng f.rng p.inst r = v then r else v
  if c = was then s
  else lateReport (rset s f p.inst idx c) p w shown { kind := 0, off := f.off + f.stride * idx, lsb := f.lsb, written := was, applied := c }

/-- Every dependent field of a page after a transaction; s0 is the state before it (R432). -/
def clampPage (s0 s : State) (w : Writer) (p : Page) (shown : Bool) (l : List FWrite) : State :=
  let wrote (f : Fld) : Bool := l.any (fun x => x.f == f && admitted s w p x)
  let s := (dependents s p (wrote Reg.STORC_HOPPER_SHARE) (wrote Reg.STORC_UPDATE_SHARE)).foldl (fun s d =>
    let x := l.find? (fun x => x.f == d.1 && x.idx == d.2.1 && admitted s w p x)
    let open' := p.blk != .hopper || rget s Reg.HOPPER_HOP_ENABLE p.inst d.2.1 == 0
    let raw := if open' then x.map (fun x => mergeBits (rget s0 x.f p.inst x.idx) x.data x.mask) else none
    clampDependent s w p shown raw d.1 d.2.1 d.2.2.1 d.2.2.2) s
  if p.blk = .hopper ∧ l ≠ [] then (List.range 8).foldl (fun s k => if rget s Reg.HOPPER_HOP_ENABLE p.inst k = 0 then hopRecap s (2 * k + p.inst) else s) s
  else s

-- the fields of each page ---------------------------------------------------------------------------------------------

/-- A field taken: in its range, or left to clampPage. -/
def takeField (w : Writer) (p : Page) (f : Fld) (idx v : Nat) (s : State) : State :=
  if isDependent f then rset s f p.inst idx (clampRng f.rng p.inst (v % 2 ^ f.width)) else setClamped s w p f idx v

/-- A 64-bit field taken as a whole, in its range (R122, R393, R428, R465). -/
def takePair (w : Writer) (p : Page) (lo hi : Fld) (idx v : Nat) (s : State) : State :=
  let v := v % 2 ^ (32 + hi.width)
  let c := if p.blk = .pcie then apertureClamp s v else clampRng lo.rng p.inst v
  let cur := rget64 s lo hi p.inst idx
  let dock := p.blk = .dock ∧ rget s Reg.DOCK_RING_ENABLE p.inst idx = 1
  if dock then reportFld s p w lo idx 2 v cur
  else if p.blk = .ftime then setApply w (BitVec.ofNat 64 v) s
  else
    let s := rset64 s lo hi p.inst idx c
    let s := if c = v then s else reportFld s p w lo idx 0 v c
    if p.blk = .power then evalAll s else s

/-- The largest GUARD_NS of a state (R424). -/
def guardMax (i : Nat) : Nat := [1000, 100000, 10000000, 1000000000].getD i 0

/-- GUARD_NS applied. -/
def guardApply (w : Writer) (p : Page) (idx v : Nat) (s : State) : State :=
  let f := Reg.POWER_GUARD_NS
  let c := min v (guardMax idx)
  let s := rset s f 0 idx c
  evalAll (if c = v then s else reportFld s p w f idx 0 v c)

/-- The other half of a partition write in the same transaction (R312). -/
def otherHalf (s : State) (p : Page) (l : List FWrite) (f : Fld) (idx : Nat) : Option Nat :=
  (l.find? (fun x => x.f == f && x.idx == idx)).map (fun x => mergeBits (rget s f p.inst idx) x.data x.mask)

/-- The half of a partition named last applies both (R312). -/
def partApply (w : Writer) (p : Page) (l : List FWrite) (f : Fld) (idx v : Nat) (s : State) : State :=
  if f = Reg.TALLY_PART_BASE then
    if l.any (fun x => x.f == Reg.TALLY_PART_MIB && x.idx == idx) then s
    else partitionApply w p.inst idx (some v) none s
  else partitionApply w p.inst idx (otherHalf s p l Reg.TALLY_PART_BASE idx) (some v) s

/-- A field of a page that its writer may write, applied with the merged value v; l is the whole transaction. -/
def applyField (w : Writer) (p : Page) (l : List FWrite) (f : Fld) (idx v : Nat) (s : State) : State :=
  let i := p.inst
  match p.blk with
  | .lathe | .vec | .port | .clerk => cross s w p f idx v (takeField w p f idx v)
  | .dock =>
    if f = Reg.DOCK_RING_TAIL then tailApply w i idx (BitVec.ofNat 32 v) s
    else if f = Reg.DOCK_RING_COMP_HEAD then compHeadApply w i idx (BitVec.ofNat 32 v) s
    else if f = Reg.DOCK_RING_ENABLE then ringEnableApply w i idx v s
    else if 0x100 ≤ f.off ∧ f.off < 0x800 then ringCfgApply w i idx f v s
    else takeField w p f idx v s
  | .tenant =>
    if f = Reg.TENANT_RESET_CTL_RESET then tenantResetApply idx v s
    else if f = Reg.TENANT_CLASS ∧ idx = 15 then s
    else takeField w p f idx v s
  | .storc =>
    if i = 1 ∧ 0x300 ≤ f.off ∧ f.off < 0x800 then reportFld s p w f idx 2 v 0 else takeField w p f idx v s
  | .mill => if f = Reg.MILL_ENABLE then targetEnableApply i idx v s else takeField w p f idx v s
  | .hopper =>
    if f = Reg.HOPPER_HOP_ENABLE then hopEnableApply w (2 * idx + i) v s else hopCfgApply w (2 * idx + i) f v s
  | .zlink =>
    if f = Reg.ZLINK_ENABLE then enableApply i v s
    else if f = Reg.ZLINK_RETRAIN then (if v = 1 then retrainApply i true s else s)
    else takeField w p f idx v s
  | .route =>
    if f = Reg.ROUTE_PEER_DATA then peerDataApply v s
    else if f = Reg.ROUTE_OWN_GEN then ownGenApply v s
    else if f = Reg.ROUTE_GROUP_INDEX then
      (if l.any (fun x => x.f == Reg.ROUTE_GROUP_INDEX_LOAD && x.data == 1 && x.mask == 1) then groupLoad v s else groupCommit v s)
    else if f = Reg.ROUTE_GROUP_INDEX_LOAD then s
    else takeField w p f idx v s
  | .tally => if f = Reg.TALLY_PART_BASE ∨ f = Reg.TALLY_PART_MIB then partApply w p l f idx v s else takeField w p f idx v s
  | .chest => if f = Reg.CHEST_REQUEST then chestRequestApply v s else takeField w p f idx v s
  | .reset => if f = Reg.RESET_REQ_GO then resetGo v s else takeField w p f idx v s
  | .pmc =>
    if f = Reg.PMC_SVN_COMMIT then svnApply v s
    else if f = Reg.PMC_KEY_REVOKE then keyApply w v s
    else if f = Reg.PMC_REBOOT then (if v = 1 then reboot s else s)
    else takeField w p f idx v s
  | .clock =>
    if f = Reg.CLOCK_SOURCE_SEL then sourceSelApply w i v s
    else if [Reg.CLOCK_GATE_SEL, Reg.CLOCK_GATE_SUBTREE, Reg.CLOCK_GATE_REQ].contains f then gateApply w i f v s
    else takeField w p f idx v s
  | .ftime =>
    if f = Reg.FTIME_ROLE then roleApply w v s
    else if f = Reg.FTIME_SOURCE then sourceApply w v s
    else if f = Reg.FTIME_SET_HI then setApply w (BitVec.ofNat 64 v) s
    else cross s w p f idx v (takeField w p f idx v)
  | .power =>
    if f = Reg.POWER_DOMAIN_ON then domainOnApply w v s
    else if f = Reg.POWER_CCLK_MHZ then cclkApply w idx v s
    else if f = Reg.POWER_GUARD_NS then guardApply w p idx v s
    else if f = Reg.POWER_P3_EN ∨ f = Reg.POWER_P4_PERMIT then evalAll (takeField w p f idx v s)
    else takeField w p f idx v s
  | .freeze =>
    if f = Reg.FREEZE_ARM then armApply w v s
    else if f = Reg.FREEZE_RESUME then resumeApply w v s
    else if f = Reg.FREEZE_RESET then freezeResetApply w v s
    else if f = Reg.FREEZE_CHAIN_SEL then chainSelApply w v s
    else takeField w p f idx v s
  | .perturb =>
    if f = Reg.PERTURB_DEBUG_EN then debugEnApply w i v s
    else if f = Reg.PERTURB_BP_ON then takeField w p f idx v (controlApply w i f v s)
    else controlApply w i f v s
  | .ledger =>
    if f = Reg.LEDGER_AO_TAIL then aoTailApply w v s
    else if f = Reg.LEDGER_CAP_TAIL then capTailApply w v s
    else if f = Reg.LEDGER_CODE_PROFILE then codeProfileApply v s
    else if f = Reg.LEDGER_DEPTH then depthApply w idx v s
    else if f = Reg.LEDGER_REFILL_US then refillUsApply w idx v s
    else if f = Reg.LEDGER_SUMMARY_MS then summaryMsApply w v s
    else takeField w p f idx v s
  | .health =>
    let s := takeField w p f idx v s
    if f = Reg.HEALTH_SHADOW_EN ∧ v = 0 then rset s Reg.HEALTH_SHADOW_READY 0 0 0 else s
  | .smb =>
    if f = Reg.SMB_FLASH_CLAIM then flashClaimApply w v s
    else if f = Reg.SMB_FLASH_CMD then flashCmdApply v s
    else takeField w p f idx v s
  | .cstore | .hbmc | .msf | .update | .sbus | .pcie | .eth | .dimtab | .hdr => takeField w p f idx v s

/-- The header fields that a write can change: VALID clears the report, EXPERT_EN is taken, LOCK is reserved on every page. -/
def applyHdr (p : Page) (f : Fld) (v : Nat) (s : State) : State :=
  let n := p.num
  if f = Reg.HDR_CLAMP0_VALID then
    if v = 0 then s
    else [Reg.HDR_CLAMP0_VALID, Reg.HDR_CLAMP0_OVERRUN, Reg.HDR_CLAMP0_KIND, Reg.HDR_CLAMP0_SOURCE, Reg.HDR_CLAMP0_TENANT,
      Reg.HDR_CLAMP0_FIELD_LSB, Reg.HDR_CLAMP0_OFFSET, Reg.HDR_CLAMP1_APPLIED, Reg.HDR_CLAMP1_WRITTEN].foldl (fun s f => rset s f n 0 0) s
  else if f = Reg.HDR_EXPERT_EN then rset s f n 0 v
  else s

/-- The crossing writes are acknowledged; those that waited for them take effect in order (R61). -/
def ackCrossing (s : State) : State :=
  s.sbus.crossQ.foldl (fun s x => applyField x.by' ⟨x.blk, x.inst⟩ [] x.f x.idx x.v s)
    { s with sbus := { s.sbus with crossing := [], crossQ := [] } }

/-- SET: SET_HI is written, after SET_LO or together with it (R45, R62, R428). -/
def execSet (by' : Writer) (hi : W32) (lo : Option W32) (s : State) : Host.Outcome State Fault Refusal :=
  .next (gated s by' ftimePage Reg.FTIME_SET_HI 0 hi.toNat (fun s =>
    let h := heldLow s ftimePage Reg.FTIME_SET_LO 0
    let l := match lo with | some l => l.toNat | none => mergeBits (rget s Reg.FTIME_SET_LO) h.1 h.2
    setApply by' (hi ++ BitVec.ofNat 32 l) (dropLow s ftimePage Reg.FTIME_SET_LO 0)))

/-- The bits that hardware sets in a word in the cycle of the write (R16). -/
def setBits (hwSet : List (Nat × W32)) (off : Nat) : Nat :=
  hwSet.foldl (fun acc x => if x.1 / 4 = off / 4 then acc ||| x.2.toNat else acc) 0

/-- One field of a transaction. -/
def writeField (w : Writer) (p : Page) (l : List FWrite) (hwSet : List (Nat × W32)) (s : State) (x : FWrite) : State :=
  let f := x.f
  if f.blk = .hdr then hdrGated s w p f (x.data &&& x.mask) (applyHdr p f (x.data &&& x.mask))
  else match pairOf f with
    | some (lo, hi) =>
      let h := heldLow s p lo x.idx
      let cur := rget64 s lo hi p.inst x.idx
      let v := mergeBits (cur % 2 ^ 32) h.1 h.2 + mergeBits (cur / 2 ^ 32) x.data x.mask * 2 ^ 32
      if f = lo then gated s w p f x.idx x.data (fun s => holdLow s p x)
      else gated s w p f x.idx (if isOwnerField f then x.data else v) (fun s =>
        if isOwnerField f then s else takePair w p lo hi x.idx v (dropLow s p lo x.idx))
    | none =>
      if f.acc = .w1c then
        let hw := bitsAt (setBits hwSet (p.base + f.off + f.stride * x.idx)) f.lsb f.width
        gated s w p f x.idx (x.data &&& x.mask) (fun s => rset s f p.inst x.idx (mergeBits (rget s f p.inst x.idx) 0 (x.data &&& x.mask) ||| hw))
      else
        let v := mergeBits (if f.acc = .wo then 0 else fieldRead s p f x.idx) x.data x.mask
        gated s w p f x.idx v (fun s => if isOwnerField f && (p.blk != .storc || p.inst == 0) then s else applyField w p l f x.idx v s)

/-- FILL_STATE of FD1 exists no more than its region table: a write to it is discarded and reported (R177). -/
def fillStateFd1 (w : Writer) (p : Page) (s : State) (x : WordWrite) : State :=
  if p = ⟨.storc, 1⟩ ∧ x.off % 4096 / 4 = 0x38 / 4 ∧ x.be ≠ 0 then
    let v := x.data.toNat &&& beMask x.be
    gated s w p Reg.STORC_FILL_STATE_REGION 0 v (fun s => reportFld s p w Reg.STORC_FILL_STATE_REGION 0 2 v 0)
  else s

/-- A write to the first clamp word of DIMTAB takes effect as on every other page: its writer is TC15, and no freeze holds (R34, R396). -/
def dimtabClears (s : State) (w : Writer) (x : WordWrite) : Bool :=
  x.off % 4096 / 4 == 4 && w.tenant == 15 && !frozen s

/-- A word of DIMTAB: discarded and reported, but for the clamp report's own words (R34). The word written is the word held with its enabled
bytes replaced, and one with no byte enabled is reported too (DEDUCED, log entry 41). -/
def dimtabWord (w : Writer) (s : State) (x : WordWrite) : State :=
  let p : Page := ⟨.dimtab, 0⟩
  let o := x.off % 4096 / 4 * 4
  let bit := bitsAt (x.data.toNat &&& beMask x.be) 31 1
  if o = 0x10 then
    if x.be.getLsbD 3 && !dimtabClears s w x then hdrGated s w p Reg.HDR_CLAMP0_VALID bit (fun s => s) else s
  else if o = 0x14 then s
  else
    let held := pageWord s (fieldRead s p) p o
    report s p w { kind := 1, off := o, lsb := 0, written := mergeBits held x.data.toNat (beMask x.be), applied := held }

/-- The words of one transaction to DIMTAB: a write of 1 to CLAMP0.VALID clears the report first, and a word discarded in the same cycle is
then recorded (R34, R433). -/
def dimtabWords (w : Writer) (ws : List WordWrite) (s : State) : State :=
  let s := (ws.filter (dimtabClears s w)).foldl (fun s x =>
    applyHdr ⟨.dimtab, 0⟩ Reg.HDR_CLAMP0_VALID (bitsAt (x.data.toNat &&& beMask x.be) 31 1) s) s
  ws.foldl (dimtabWord w) s

/-- The words of one transaction to one page, applied together (R428). -/
def pageWrite (w : Writer) (p : Page) (ws : List WordWrite) (hwSet : List (Nat × W32)) (s : State) : State :=
  if p.blk = .dimtab then dimtabWords w ws s
  else
    let l := ws.flatMap (fieldWrites p)
    let clears := l.any (fun x => x.f == Reg.HDR_CLAMP0_VALID && x.data &&& x.mask == 1)
    let shown := rget s Reg.HDR_CLAMP0_VALID p.num == 1 && !clears
    let t := ws.foldl (fun s x => (fieldWrites p x).foldl (writeField w p l hwSet) (fillStateFd1 w p s x)) s
    let t := applyOwners t w p l
    let t := clampPage s t w p shown l
    if p.blk = .zlink then clampPage t t w resetPage (rget t Reg.HDR_CLAMP0_VALID resetPage.num == 1) [] else t

-- the Service Bus (R436 to R441) --------------------------------------------------------------------------------------

/-- The highest input that requests. -/
def topInput (r : BitVec 16) : Option Nat := (List.range 16).reverse.find? (fun i => r.getLsbD i)

/-- Beats of one grant that an input may have. -/
def burstOf (s : State) (i : Nat) : Nat := rget s Reg.SBUS_BURST_LIMIT 0 i + 1

/-- The input owns the bus within a grant. -/
def continuesGrant (s : State) (i : Nat) : Bool :=
  rget s Reg.SBUS_OWNER_VALID == 1 && rget s Reg.SBUS_OWNER == i && s.sbus.beats != 0

/-- The bus after n beats of an input (R438, R439). -/
def busBeats (s : State) (i n : Nat) (ctl : BusCtl) : State :=
  let cont := continuesGrant s i
  let locked := (!cont && ctl.lock) || (cont && rget s Reg.SBUS_LOCKED == 1 && !ctl.lockEnd)
  let beats := (if cont then s.sbus.beats else 0) + n
  let same := rget s Reg.SBUS_OWNER_VALID = 1 ∧ rget s Reg.SBUS_OWNER = i
  let watch := if ctl.requests.getLsbD i then (if same then s.sbus.watch else 0) + n else 0
  let keep := locked || (ctl.requests.getLsbD i && beats < burstOf s i)
  let next := if keep then some i else topInput ctl.requests
  let s := rset (rset (rinc s Reg.SBUS_BUSY_CYCLES 0 0 n) Reg.SBUS_REQUESTS 0 0 ctl.requests.toNat) Reg.SBUS_LOCKED 0 0 (b2n locked)
  let s := rset s Reg.SBUS_OWNER_VALID 0 0 (b2n next.isSome)
  let s := match next with | none => s | some j => rset s Reg.SBUS_OWNER 0 0 j
  { s with sbus := { s.sbus with beats := if keep then beats else 0, watch := if next = some i then watch else 0 } }

/-- Another input holds a locked sequence (R439). -/
def lockedOut (s : State) (i : Nat) : Bool := rget s Reg.SBUS_LOCKED == 1 && rget s Reg.SBUS_OWNER != i

/-- An input whose requests are ignored after a bite waits until they are not (R440). -/
def awaitInput (s : State) (i : Nat) : State :=
  match mapFind s.sbus.ignored i with
  | none => s
  | some c => let s := advanceTo s c; { s with sbus := { s.sbus with ignored := mapErase s.sbus.ignored i } }

/-- A page answers: after a trip only those of the AO domain and of the PMC island have power (R410). -/
def answers (s : State) (p : Page) : Bool := !s.power.tripped || p.die ≥ 12

/-- The words of one transaction: one page, or an unmapped offset (R426). -/
def transact (w : Writer) (hwSet : List (Nat × W32)) (ctl : BusCtl) (s : State) (t : List WordWrite) : State :=
  let s := if frozen s then s else busBeats s w.input (1 + t.length) ctl
  match pageAt (t.headD { off := 0, data := 0, be := 0 }).off with
  | some p => if answers s p then pageWrite w p t hwSet s else s
  | none => if frozen s then s else rinc s Reg.SBUS_UNMAPPED 0 0 t.length

/-- A write of words to the register space. -/
def regWrite (s : State) (w : Writer) (words : List WordWrite) (hwSet : List (Nat × W32)) (ctl : BusCtl) : State :=
  let s := if frozen s then s else awaitInput s w.input
  if !frozen s ∧ lockedOut s w.input then s else (transactions words).foldl (transact w hwSet ctl) s

/-- A bus side with no lock and no request after it. -/
def plainBus : BusCtl := { lock := false, lockEnd := false, requests := 0 }

/-- The posted writes of Porters and of the fabric applied, in order (R436). -/
def drainPosted (s : State) : State :=
  s.sbus.posted.foldl (fun s x => regWrite s x.1 x.2 [] plainBus) { s with sbus := { s.sbus with posted := [] } }

/-- REGISTER_WRITE. -/
def execRegisterWrite (by' : Writer) (words : List WordWrite) (hwSet : List (Nat × W32)) (ctl : BusCtl) (s : State) :
    Host.Outcome State Fault Refusal := .next (regWrite s by' words hwSet ctl)

/-- UNMAPPED_WRITE. -/
def execUnmappedWrite (by' : Writer) (words : List WordWrite) (s : State) : Host.Outcome State Fault Refusal :=
  .next (regWrite s by' words [] plainBus)

/-- A read of one word over the bus: its command beat, and the word returned (R436). -/
def readRow (s : State) (w : Writer) (off : Nat) (inc : W32) : State :=
  let s := if frozen s then s else awaitInput s w.input
  if !frozen s ∧ lockedOut s w.input then s
  else
    let s := if frozen s then s else busBeats s w.input 1 plainBus
    let r := busRead s off inc
    emit r.2 (.readData (BitVec.ofNat 32 r.1))

/-- RC_COUNTER_READ. -/
def execRcCounterRead (by' : Writer) (off : Nat) (inc : W32) (s : State) : Host.Outcome State Fault Refusal :=
  .next (readRow s by' off inc)

/-- NOW_LO_READ. -/
def execNowLoRead (by' : Writer) (s : State) : Host.Outcome State Fault Refusal :=
  .next (readRow s by' (ftimePage.base + Reg.FTIME_NOW_LO.off) 0)

/-- DRAWN_LO_READ. -/
def execDrawnLoRead (by' : Writer) (h : HopperId) (s : State) : Host.Outcome State Fault Refusal :=
  .next (readRow s by' ((hopPage h.val).base + Reg.HOPPER_HOP_DRAWN_LO.off + Reg.HOPPER_HOP_DRAWN_LO.stride * (h.val / 2)) 0)

/-- RO64_LOW_WORD_READ. -/
def execRo64LowWordRead (by' : Writer) (off : Nat) (s : State) : Host.Outcome State Fault Refusal := .next (readRow s by' off 0)

/-- CTRL_LOCK: a write of 1 to CTRL.LOCK of the page at an offset; no page of the manual has RWL fields (R430, R434). -/
def execCtrlLock (by' : Writer) (off : Nat) (s : State) : Host.Outcome State Fault Refusal :=
  .next (regWrite s by' [{ off := off / 4096 * 4096 + 8, data := 1, be := 15 }] [] plainBus)

/-- SBUS_WATCHDOG_BITE: 2^20 cycles as owner (R440). -/
def execSbusWatchdogBite (input : Fin 16) (s : State) : Host.Outcome State Fault Refusal :=
  .next (live s (fun s =>
    if rget s Reg.SBUS_OWNER_VALID = 1 ∧ rget s Reg.SBUS_OWNER ≠ input.val then s
    else
      let left := 2 ^ 20 - s.sbus.watch
      let s := rinc (advanceTo s (s.time.cyc + 5 * left)) Reg.SBUS_BUSY_CYCLES 0 0 left
      let s := rset (rset s Reg.SBUS_OWNER_VALID 0 0 0) Reg.SBUS_LOCKED 0 0 0
      let s := rset (rinc s Reg.SBUS_BITES) Reg.SBUS_LAST_BITE 0 0 input.val
      let b := s.sbus
      let s := { s with sbus := { b with
        beats := 0, watch := 0, ignored := mapSet b.ignored input.val (s.time.cyc + 320)
        posted := b.posted.filter (fun x => x.1.input != input) } }
      raise s { evOf Reg.SBUS_BITES 0 12 0 15 none [input.val] with cls := some 1 }))

end Sys2Proof.Machine
end

