-- ==== Sys2Proof/Machine/Hopper.lean ====
section
/-! DEFINITION. Sys2Proof/Machine/Hopper.lean: the Hopper's dockets: INIT, DRAW, SAVE and RESTORE: R219 to R234 (log entry 25). -/

namespace Sys2Proof.Machine

/-- The queue of the Mill die that homes Hopper h (R220). -/
def hopQueue (h : Nat) : Nat := 2062 + h % 2

/-- The docket of Hopper h that runs with an operation code, its work not finished. -/
def hopRunning (s : State) (h op : Nat) : Option QEntry :=
  (queue s (hopQueue h)).find? (fun e => e.running && !e.done && !e.cut && dkEngine e.dk == 7 && dkOp e.dk == op && hdHopper e.dk == h)

/-- A Hopper docket's work ends with a status. -/
def hopEnd (s : State) (h : Nat) (e : QEntry) (status addr : Nat) : State :=
  updEntry s (hopQueue h) e.toRef (fun e => { e with started := true, done := true, status := status, badAddr := addr })

/-- The completion code with which a docket ends at once: disabled, UNINIT where that matters, or not the owner's (R219, R220). -/
def hopRefuse (s : State) (h : Nat) (e : QEntry) : Nat :=
  let st := hopF s Reg.HOPPER_HOP_STATE h
  if st = 0 ∨ (dkOp e.dk = 1 ∧ st ≠ 2) then 1
  else if hopF s Reg.HOPPER_HOP_OWNER h ≠ e.tenant.val then 2
  else 0

/-- Faults of an access noted in a docket's entry. -/
def hopNote (h : Nat) (e : QEntry) (x : Access) : State :=
  updEntry x.s (hopQueue h) e.toRef (fun e => { e with
    status := worst (e.status :: x.faults), badAddr := if e.status = 4 then e.badAddr else x.bad.getD e.badAddr })

-- the control block (R218, R221) --------------------------------------------------------------------------------------

/-- The bytes of a control block: SEED, W, DRAWN, zeros, and the entries (EXPECT, all EMPTY) (R218, R221). -/
def hopBlock (seed w drawn : Nat) (expects : List Nat) : List Byte :=
  natLe seed 8 ++ natLe w 4 ++ natLe 0 4 ++ natLe drawn 8 ++ List.replicate 40 0 ++ expects.flatMap (fun k => natLe (k % 2 ^ 48) 8)

/-- A control block written by the docket of an access; where no line of it is refused or discarded the page shows it and the Hopper is READY
(R164, R168, R219, R221, R235). -/
def Access.hopReady (x : Access) (h seed drawn : Nat) (expects : List Nat) : Access :=
  let w := hopW x.s h
  let y := x.wr (hopBase x.s h) (hopBlock seed w drawn expects)
  if y.faults ≠ [] then y
  else { y with s := hopSet (hopSet (hopShowDrawn y.s h) Reg.HOPPER_HOP_EMPTY_SLOTS h w) Reg.HOPPER_HOP_STATE h 2 }

/-- Every queue that waits on a Hopper looks again at its heads. -/
def hopWake (s : State) : State := evalHeads (evalHeads s 2060) 2061

/-- INIT (R221). -/
def execInit (h : HopperId) (s : State) : Host.Outcome State Fault Refusal :=
  .next (live s (fun s =>
    match hopRunning s h.val 0 with
    | none => s
    | some e =>
      let r := hopRefuse s h.val e
      if r ≠ 0 then hopEnd s h.val e r 0
      else if hopFilling s h.val then s
      else
        hopWake (finish s (hopQueue h.val) e ((e.access s).hopReady h.val (hdArg e.dk) 0 (List.range (hopW s h.val))) 0 0 (digestOf e []))))

-- draws (R227) --------------------------------------------------------------------------------------------------------

/-- FIRST_DRAW. -/
def hdFirst (d : Docket) : Nat := hdArg d % 2 ^ 48

/-- The destinations of draw j: global addresses (R227). -/
def drawDests (e : QEntry) (j : Nat) : List Nat :=
  let off := (j - hdFirst e.dk) * hdStride e.dk
  (hdDst e.dk + off) :: (if hdDst2En e.dk then [hdDst2 e.dk + off] else [])

/-- A destination takes a SEQ: it is remote, or its chunks are counted (R271, R273). -/
def takesSeq (s : State) (e : QEntry) (ga : Nat) : Bool := hdArriveEn e.dk || gDev ga != ownDev s

/-- SEQs issued one after the other; none where one cannot be. -/
def issueSeqs (s : State) (t n : Nat) : Option (List W32) × State :=
  match n with
  | 0 => (some [], s)
  | n + 1 =>
    let r := issueSeq s t
    match r.1 with
    | none => (none, r.2)
    | some q =>
      let x := issueSeqs r.2 t n
      (x.1.map (q :: ·), x.2)

/-- The SEQ of each destination. -/
def destSeqs (s : State) (e : QEntry) (l : List Nat) (seqs : List W32) : List (Nat × Option W32) :=
  match l with
  | [] => []
  | ga :: r =>
    if takesSeq s e ga then (ga, seqs.head?) :: destSeqs s e r seqs.tail else (ga, none) :: destSeqs s e r seqs

/-- The header that a draw writes for a void slot that awaited an intake number (R227). -/
def voidHeader (k : Nat) : List Byte := natLe 0x44494F56 4 ++ natLe 1 4 ++ natLe k 8 ++ natLe 128 4 ++ List.replicate 108 0

/-- What a draw copies from slot i, read once for all destinations: the record of a FULL slot, TOTAL_BYTES rounded up to 64, or the header
of a VOID one (R227). -/
def drawData (x : Access) (h i : Nat) : List Byte × Access :=
  let en := x.rdNat (hopEntryAt x.s h i) 8
  if bitsAt en.1 48 2 = 3 then (voidHeader (en.1 % 2 ^ 48), en.2)
  else
    let a := hopSlot x.s h i
    let n := en.2.rdNat (a + 0x10) 4
    n.2.rd a (ceilDiv n.1 64 * 64)

/-- Chunk i of a draw's record (R114). -/
def drawChunk (bytes : List Byte) (i : Nat) : List Byte := (bytes.drop (4096 * i)).take 4096

/-- The destination that an operation serves. -/
def destOf (s : State) (e : QEntry) (d : HopDraw) (o : ROp) : Nat :=
  (((destSeqs s e (drawDests e d.j) e.seqs).find? (fun x => x.2 == some o.seq)).map (·.1)).getD 0

/-- The packet of chunk i of a draw. -/
def drawPacket (s : State) (e : QEntry) (d : HopDraw) (o : ROp) (i : Nat) (bytes : List Byte) : Packet :=
  let ga := destOf s e d o + 4096 * i
  mkPacket s (gDev ga) o.gen.toNat e.tenant.val false 2 i
    (writeOp (gLoc ga) o.seq.toNat o.tgen.toNat o.rgen.toNat 0 o.retry (hdArriveEn e.dk) false (hdArriveCtr e.dk) (hdArriveCluster e.dk))
    (drawChunk bytes i)

/-- The next chunk of an operation is sent: taken from nextChunk, unacknowledged unless S shadows the tenant (R272, R380). -/
def takeHop (s : State) (o : ROp) : State :=
  updRop s o (fun o => { o with
    nextChunk := o.nextChunk + 1, sentAt := s.time.cyc
    unacked := if shadowed s o.tenant.val = true ∧ o.kind = 0 then o.unacked else o.unacked ++ [o.nextChunk] })

/-- Chunks of a draw that may leave to a remote destination now do, 64 unacknowledged at most (R272). -/
def pumpDraw (s : State) (h : Nat) (e : QEntry) (d : HopDraw) (seq : W32) (fuel : Nat) : State :=
  match fuel with
  | 0 => s
  | fuel + 1 =>
    match ropOf s e.tenant.val seq with
    | none => s
    | some o =>
      let low := o.unacked.foldl min o.nextChunk
      if o.nextChunk < o.chunks ∧ o.nextChunk < low + 64 then
        pumpDraw (send (takeHop s o) (some (hopQueue h)) (drawPacket s e d o o.nextChunk d.data)) h e d seq fuel
      else s

/-- Fuel for pumpDraw: one more than a draw's chunks. -/
def drawFuel (d : HopDraw) : Nat := ceilDiv d.data.length 4096 + 1

/-- The address that no packet to a remote destination of n bytes can name, or no device's (R14, R157, R270). -/
def badDest (s : State) (n ga : Nat) : Option Nat :=
  if gDev ga % 4 ≠ 0 then some ga
  else if gDev ga ≠ ownDev s ∧ 2 ^ 43 < gLoc ga + n then some (remoteHole ga n)
  else none

/-- A docket's work ends and its draw with it, not counted (R151, R228). -/
def endDraw (s : State) (h : Nat) (e : QEntry) (status addr : Nat) : State :=
  { hopEnd s h e status addr with hopper := mapErase s.hopper h }

/-- A draw's copy begins at every destination, or the docket ends on a bad one (R14, R262, R268). -/
def startDraw (s : State) (h : Nat) (e : QEntry) (d : HopDraw) : State :=
  let l := drawDests e d.j
  match l.findSome? (badDest s d.data.length) with
  | some a => endDraw s h e 4 a
  | none =>
    match l.find? (fun ga => gDev ga != ownDev s && peerFault s (gDev ga) != 0) with
    | some ga => endDraw s h e (peerFault s (gDev ga)) ga
    | none =>
      let n := l.countP (takesSeq s e)
      let r := if e.seqs.length = n then (some e.seqs, s) else issueSeqs s e.tenant.val n
      match r.1 with
      | none => { s with regs := r.2.regs }
      | some seqs =>
        let s := updEntry r.2 (hopQueue h) e.toRef (fun e => { e with seqs := seqs })
        let s := { s with hopper := mapSet s.hopper h d }
        (destSeqs s e l seqs).foldl (fun s x =>
          match x.2 with
          | some q =>
            if gDev x.1 = ownDev s then s
            else match entryOf s (hopQueue h) e.toRef with
              | none => s
              | some e => pumpDraw (startRemote s (hopQueue h) e 0 (gDev x.1) (ceilDiv d.data.length 4096) q) h e d q (drawFuel d)
          | none => s) s

/-- Step 1 of R227 on a waiting draw: it starts once its slot is FULL or VOID and can be read, and the cycles of the wait are counted (R228).
A draw that meets a fault in its slot ends the docket's work: a draw counted in DRAWN has landed in full (R138, R228; log entry 25). -/
def evalDraw (s : State) (h : Nat) (e : QEntry) (d : HopDraw) : State :=
  let i := hopDrawSlot s h d.j
  let st := hopState s h i
  let r := drawData (e.access s) h i
  if d.copying ∨ st < 2 ∨ hopFilling s h = true ∨ r.2.stalled = true then s
  else if r.2.faults ≠ [] then endDraw (starveEnd r.2.s h d) h e (worst (e.status :: r.2.faults)) (r.2.bad.getD 0)
  else
    let t := startDraw r.2.s h e { d with copying := true, src := if st = 2 then hopSlot s h i else 0, data := r.1 }
    if (mapFind t.hopper h).any (fun x => !x.copying) then t else starveEnd t h d

/-- Draw j of a docket begins: it waits at step 1. -/
def beginDraw (s : State) (h : Nat) (e : QEntry) (j : Nat) : State :=
  if 2 ^ 48 - 1 ≤ j then hopEnd s h e 1 0
  else
    let d : HopDraw := { ref := e.toRef, j, copying := false, waitFrom := s.time.cyc, starved := 0, src := 0, data := [] }
    evalDraw { s with hopper := mapSet s.hopper h d } h e d

/-- DRAW: the docket starts at draw DRAWN (R228, R233). -/
def execDraw (h : HopperId) (s : State) : Host.Outcome State Fault Refusal :=
  .next (live s (fun s =>
    match hopRunning s h.val 1 with
    | none => s
    | some e =>
      let r := hopRefuse s h.val e
      let j := hopDrawn s h.val
      if e.started then s
      else if r ≠ 0 then hopEnd s h.val e r 0
      else if hopFilling s h.val ∨ j < hdFirst e.dk then s
      else if hdFirst e.dk + hdCount e.dk ≤ j then finish s (hopQueue h.val) e (e.access s) 0 0 (digestOf e [])
      else
        let s := updEntry s (hopQueue h.val) e.toRef (fun e => { e with started := true, idx := [0], digest := 0 })
        match entryOf s (hopQueue h.val) e.toRef with
        | none => s
        | some e => beginDraw s h.val e j))

/-- DRAW_SLOT_READY: a waiting draw looks at its slot again (R227, R229). -/
def execDrawSlotReady (h : HopperId) (s : State) : Host.Outcome State Fault Refusal :=
  .next (live s (fun s =>
    match hopRunning s h.val 1, mapFind s.hopper h.val with
    | some e, some d => if e.is d.ref then evalDraw s h.val e d else s
    | _, _ => s))

/-- What landing the chunks of a draw at its local destinations has done. -/
structure HopLand where
  x : Access
  /-- every chunk has landed -/
  all : Bool
deriving DecidableEq, Repr

/-- One chunk lands at a local destination, through the Mill dies' input where that is a register page (R273, R437). -/
def landChunk (e : QEntry) (ga : Nat) (seq : W32) (bytes : List Byte) (l : HopLand) (i : Nat) : HopLand :=
  let p := placeChunk l.x 10 (ownDev l.x.s) seq e.reexec (hdArriveEn e.dk) (BitVec.ofNat 16 i) (hdArriveCluster e.dk) (hdArriveCtr e.dk)
    (gLoc ga + 4096 * i) (drawChunk bytes i)
  { x := p.x, all := l.all && p.landed }

/-- A draw's record lands at every local destination. -/
def landDraw (s : State) (e : QEntry) (d : HopDraw) : HopLand :=
  (destSeqs s e (drawDests e d.j) e.seqs).foldl (fun l x =>
    if gDev x.1 = ownDev s then (List.range (ceilDiv d.data.length 4096)).foldl (landChunk e x.1 (x.2.getD 0) d.data) l else l)
    { x := e.access s, all := true }

/-- Every remote chunk of a draw has been acknowledged. -/
def drawAcked (s : State) (e : QEntry) : Bool :=
  e.seqs.all (fun q => match ropOf s e.tenant.val q with | none => true | some o => o.unacked == [] && o.chunks ≤ o.nextChunk)

/-- Steps 4 and 5 of R227 as accesses: the slot's entry, then DRAWN, each an 8-byte store, then the list. A store that is discarded ends the
steps, so that DRAWN never passes an entry that could not be written (R168; log entry 25). -/
def countStores (h : Nat) (e : QEntry) (d : HopDraw) (x : Access) : Access :=
  let i := hopDrawSlot x.s h d.j
  let k := hopExpect x.s h i
  let y := x.hopEntry h i (hopW x.s h + d.j) 0
  if y.faults ≠ [] then y
  else
    let z := y.hopDrawn h (d.j + 1)
    if z.faults ≠ [] ∨ hdList e.dk = 0 then z
    else z.wr (hdList e.dk + 16 * (d.j - hdFirst e.dk)) (natLe k 8 ++ natLe i 8)

/-- A landed draw is counted and its docket goes on with the next one, or its work is done: after the last draw, or on a fault (R227, R228). -/
def countDraw (h : Nat) (e : QEntry) (d : HopDraw) (x : Access) : State :=
  let q := hopQueue h
  let y := countStores h e d x
  let counted := hopDrawn y.s h = d.j + 1
  let s := resolveSeqs (hopNote h e y) e.tenant.val e.seqs
  let s := if counted then rinc s Reg.HOPPER_DRAWS (h % 2) else s
  let s := if counted ∧ d.src = 0 then rinc s Reg.HOPPER_VOIDS_DRAWN (h % 2) else s
  let off := e.idx.headD 0
  let dig := if dkDigestEn e.dk then digestWords off d.data else 0
  let s := updEntry { s with hopper := mapErase s.hopper h } q e.toRef (fun e => { e with
    seqs := [], idx := [off + d.data.length], digest := (e.digest + dig) % 2 ^ 64 })
  match entryOf s q e.toRef with
  | none => hopWake s
  | some e =>
    hopWake (
      if e.status = 0 ∧ d.j + 1 < hdFirst e.dk + hdCount e.dk then beginDraw s h e (d.j + 1)
      else
        let len := off + d.data.length
        updEntry s q e.toRef (fun e => { e with
          done := true, digest := if dkDigestEn e.dk then (e.digest + digestStart len) % 2 ^ 64 else 0 }))

/-- DRAW_LANDED: every chunk of a sample has landed at every destination (R227). A draw that met a fault has not landed in full: it is not
counted, and the docket's work ends (R138, R228; log entry 25). -/
def execDrawLanded (h : HopperId) (s : State) : Host.Outcome State Fault Refusal :=
  .next (live s (fun s =>
    match hopRunning s h.val 1, mapFind s.hopper h.val with
    | some e, some d =>
      if !e.is d.ref ∨ !d.copying ∨ !drawAcked s e ∨ hopFilling s h.val then s
      else
        let l := landDraw s e d
        let y := countStores h.val e d l.x
        let f := worst (e.status :: l.x.faults)
        if l.x.stalled then s
        else if !l.all then drainPosted l.x.s
        else if f ≠ 0 then drainPosted (endDraw l.x.s h.val e f (if e.status = 4 then e.badAddr else l.x.bad.getD e.badAddr))
        else if y.stalled then s
        else drainPosted (countDraw h.val e d l.x)
    | _, _ => s))

-- SAVE and RESTORE (R231, R232) ---------------------------------------------------------------------------------------

/-- Bytes of a state block of w slots. -/
def stateBytes (w : Nat) : Nat := 64 + 8 * w

/-- The word at 0x18 of a state block: MAGIC and VERSION 1. -/
def stateMagic : List Byte := natLe 0x52504F48 4 ++ natLe 1 4

/-- The state block as its second step writes it, the word at 0x18 still zero: the control block read for the docket (R164, R167, R231). -/
def stateBlock (x : Access) (h : Nat) : List Byte × Access :=
  let r := x.rd (hopBase x.s h) (stateBytes (hopW x.s h))
  (r.1.take 24 ++ List.replicate 40 0 ++ r.1.drop 64, r.2)

/-- Chunks of the remote SAVE of a block: the zero word, the block in pieces, the word at 0x18. -/
def saveChunk (block : List Byte) (i : Nat) : Nat × List Byte :=
  let n := ceilDiv block.length 4096
  if i = 0 then (0x18, natLe 0 8)
  else if i ≤ n then (4096 * (i - 1), drawChunk block (i - 1))
  else (0x18, stateMagic)

/-- The packet of chunk i of a remote SAVE. -/
def savePacket (s : State) (e : QEntry) (o : ROp) (block : List Byte) (i : Nat) : Packet :=
  let c := saveChunk block i
  let ga := hdDst e.dk + c.1
  mkPacket s (gDev ga) o.gen.toNat e.tenant.val false 2 i
    (writeOp (gLoc ga) o.seq.toNat o.tgen.toNat o.rgen.toNat 0 o.retry false false 0 0) c.2

/-- The next chunk of a remote SAVE may leave: the order of R231 waits for what lies before it. -/
def saveMay (o : ROp) : Bool :=
  decide (o.nextChunk < o.chunks) &&
    (if o.nextChunk = 0 then true
     else if o.nextChunk = 1 ∨ o.nextChunk + 1 = o.chunks then o.unacked == []
     else decide (o.nextChunk < o.unacked.foldl min o.nextChunk + 64))

/-- Fuel for a remote state block: one more than its chunks. -/
def saveFuel (s : State) (h : Nat) : Nat := ceilDiv (stateBytes (hopW s h)) 4096 + 3

/-- Chunks of a remote SAVE that may leave now do; at the last acknowledgement its work is done. -/
def pumpSave (s : State) (h : Nat) (e : QEntry) (seq : W32) (fuel : Nat) : State :=
  match fuel with
  | 0 => s
  | fuel + 1 =>
    match ropOf s e.tenant.val seq with
    | none => s
    | some o =>
      let b := stateBlock (e.access s) h
      if b.2.stalled then s
      else if saveMay o then
        let s := hopNote h e b.2
        pumpSave (send (takeHop s o) (some (hopQueue h)) (savePacket s e o b.1 o.nextChunk)) h e seq fuel
      else if o.unacked = [] ∧ o.chunks ≤ o.nextChunk then
        updEntry s (hopQueue h) e.toRef (fun e => { e with
          done := true, digest := digestOf e [(0, b.1.take 24 ++ stateMagic ++ b.1.drop 32)] })
      else s

/-- A remote state block's transfer begins, or the docket ends or waits for a SEQ (R14, R157, R262, R268, R271). -/
def startState (s : State) (h : Nat) (e : QEntry) (k : State → QEntry → W32 → State) : State :=
  let f := peerFault s (gDev (hdDst e.dk))
  match badDest s (stateBytes (hopW s h)) (hdDst e.dk) with
  | some a => hopEnd s h e 4 a
  | none =>
  if f ≠ 0 then hopEnd s h e f (hdDst e.dk)
  else
    let r := seqFor s (hopQueue h) e
    match r.1 with
    | none => r.2
    | some seq =>
      let s := updEntry r.2 (hopQueue h) e.toRef (fun e => { e with started := true })
      match entryOf s (hopQueue h) e.toRef with
      | none => s
      | some e => k s e seq

/-- HOPPER_SAVE (R231). -/
def execHopperSave (h : HopperId) (s : State) : Host.Outcome State Fault Refusal :=
  .next (live s (fun s =>
    match hopRunning s h.val 2 with
    | none => s
    | some e =>
      let r := hopRefuse s h.val e
      let ga := hdDst e.dk
      let n := stateBytes (hopW s h.val)
      if e.started then
        (match e.seqs with | q :: _ => pumpSave s h.val e q (saveFuel s h.val) | [] => s)
      else if r ≠ 0 then hopEnd s h.val e r 0
      else if gDev ga % 4 ≠ 0 then hopEnd s h.val e 4 ga
      else if gDev ga = ownDev s then
        let b := stateBlock (e.access s) h.val
        let a := gLoc ga
        let x := ((b.2.wr (a + 0x18) (natLe 0 8)).wr a b.1).wr (a + 0x18) stateMagic
        finish s (hopQueue h.val) e x 0 0 (digestOf e [(0, b.1.take 24 ++ stateMagic ++ b.1.drop 32)])
      else startState s h.val e (fun s e seq =>
        pumpSave (startRemote s (hopQueue h.val) e 0 (gDev ga) (ceilDiv n 4096 + 2) seq) h.val e seq (saveFuel s h.val))))

/-- A state block that RESTORE has read whole: refused, or the Hopper is set from it (R232). -/
def applyState (s : State) (h : Nat) (e : QEntry) (x : Access) (b : List Byte) : State :=
  let at' (o n : Nat) : Nat := leNat ((b.drop o).take n)
  let w := hopW s h
  if x.stalled ∨ hopFilling s h = true then s
  else if x.faults ≠ [] then finish s (hopQueue h) e x 0 0 (digestOf e [])
  else if at' 0x18 4 ≠ 0x52504F48 ∨ at' 0x1C 2 ≠ 1 ∨ at' 8 4 ≠ w then hopEnd x.s h e 1 0
  else
    hopWake (finish s (hopQueue h) e (x.hopReady h (at' 0 8) (at' 0x10 6) ((List.range w).map (fun i => at' (0x40 + 8 * i) 6))) 0 0
      (digestOf e []))

/-- The packet that asks for chunk i of a remote state block. -/
def statePacket (s : State) (h : Nat) (e : QEntry) (o : ROp) (i : Nat) : Packet :=
  let ga := hdDst e.dk + 4096 * i
  let op := 1 + b2n o.retry * 2 ^ 9 + o.tgen.toNat * 2 ^ 16 + o.rgen.toNat * 2 ^ 24 + o.seq.toNat * 2 ^ 32 + gLoc ga % 2 ^ 43 * 2 ^ 64
  { mkPacket s (gDev ga) o.gen.toNat e.tenant.val false 0 i op [] with side := min 4096 (stateBytes (hopW s h) - 4096 * i) }

/-- Chunks of a remote state block that may be asked for now are; once all have come RESTORE goes on with the block. -/
def pumpRestore (s : State) (h : Nat) (e : QEntry) (seq : W32) (fuel : Nat) : State :=
  match fuel with
  | 0 => s
  | fuel + 1 =>
    match ropOf s e.tenant.val seq with
    | none => s
    | some o =>
      if o.nextChunk < o.chunks ∧ o.nextChunk < o.unacked.foldl min o.nextChunk + 64 then
        let p := statePacket s h e o o.nextChunk
        pumpRestore (send (takeHop s o) (some (hopQueue h)) p) h e seq fuel
      else if o.unacked = [] ∧ o.chunks ≤ o.nextChunk then
        let n := stateBytes (hopW s h)
        let b := (e.idx.flatMap (fun c => natLe c 4096)).take n
        applyState s h e { e.access s with faults := if e.status = 0 then [] else [e.status] } b
      else s

/-- HOPPER_RESTORE (R232). -/
def execHopperRestore (h : HopperId) (s : State) : Host.Outcome State Fault Refusal :=
  .next (live s (fun s =>
    match hopRunning s h.val 3 with
    | none => s
    | some e =>
      let r := hopRefuse s h.val e
      let ga := hdDst e.dk
      let n := stateBytes (hopW s h.val)
      if e.started then
        (match e.seqs with | q :: _ => pumpRestore s h.val e q 1 | [] => s)
      else if r ≠ 0 then hopEnd s h.val e r 0
      else if gDev ga % 4 ≠ 0 then hopEnd s h.val e 4 ga
      else if gDev ga = ownDev s then
        let r := (e.access s).rd (gLoc ga) n
        applyState s h.val e r.2 r.1
      else startState s h.val e (fun s e seq =>
        let c := ceilDiv n 4096
        let s := updEntry s (hopQueue h.val) e.toRef (fun e => { e with idx := List.replicate c 0 })
        match entryOf s (hopQueue h.val) e.toRef with
        | none => s
        | some e => pumpRestore (startRemote s (hopQueue h.val) e 1 (gDev ga) c seq) h.val e seq (saveFuel s h.val))))

-- answers to a Hopper's remote operations (R272) ----------------------------------------------------------------------

/-- Global address and bytes of chunk i of a Hopper docket's remote operation. -/
def hopAway (s : State) (e : QEntry) (o : ROp) (i : Nat) : Nat × Nat :=
  let h := hdHopper e.dk
  let n := stateBytes (hopW s h)
  if dkOp e.dk = 2 then let c := saveChunk (List.replicate n 0) i; (hdDst e.dk + c.1, c.2.length)
  else if dkOp e.dk = 3 then (hdDst e.dk + 4096 * i, min 4096 (n - 4096 * i))
  else match mapFind s.hopper h with
    | some d => (destOf s e d o + 4096 * i, (drawChunk d.data i).length)
    | none => (0, 0)

/-- The status of a remote answer noted in its docket, with the first invalid address (R138, R470). -/
def hopAnswer (s : State) (e : QEntry) (o : ROp) (i status : Nat) : State :=
  let a := hopAway s e o i
  hopNote (hdHopper e.dk) e { e.access s with
    faults := if status = 0 then [] else [status], bad := if status = 4 then some (remoteHole a.1 a.2) else none }

/-- A chunk of a draw or of a SAVE is acknowledged with a status. -/
def hopAck (s : State) (e : QEntry) (o : ROp) (i status : Nat) : State :=
  let h := hdHopper e.dk
  let s := hopAnswer s e o i status
  let s := ackChunk s o i
  match entryOf s (hopQueue h) e.toRef with
  | none => s
  | some e =>
    if dkOp e.dk = 2 then pumpSave s h e o.seq (saveFuel s h)
    else match mapFind s.hopper h with
      | some d => if e.is d.ref then pumpDraw s h e d o.seq (drawFuel d) else s
      | none => s

/-- A chunk of a state block has come. -/
def hopData (s : State) (e : QEntry) (o : ROp) (i status : Nat) (data : List Byte) : State :=
  let h := hdHopper e.dk
  let s := hopAnswer s e o i status
  let s := ackChunk (updEntry s (hopQueue h) e.toRef (fun e => { e with idx := e.idx.set i (leNat data) })) o i
  match entryOf s (hopQueue h) e.toRef with
  | none => s
  | some e => pumpRestore s h e o.seq (saveFuel s h)

/-- The packet of a chunk of a Hopper docket as it was first sent (R277). -/
def hopAgain (s : State) (e : QEntry) (o : ROp) (i : Nat) : Option Packet :=
  let h := hdHopper e.dk
  if dkOp e.dk = 2 then some (savePacket s e o (stateBlock (e.access s) h).1 i)
  else if dkOp e.dk = 3 then some (statePacket s h e o i)
  else (mapFind s.hopper h).map (fun d => drawPacket s e d o i d.data)

end Sys2Proof.Machine
end

