-- ==== Sys2Proof/Machine/PorterCmd.lean ====
section
/-! DEFINITION. Sys2Proof/Machine/PorterCmd.lean: the Porter's commands: R113 to R115, R268 to R275, R468. Chunks that a copy places in
the register space are applied as posted Service Bus writes (R429, R436). -/

namespace Sys2Proof.Machine

/-- CHUNK_LANDED: a chunk of the core's running copy lands from memory of this module or from its die cache. -/
def execChunkLanded (core : CoreId) (chunk : Nat) (s : State) : Host.Outcome State Fault Refusal :=
  .next (live s (fun s =>
    match (queue s (4 * core.val + 2)).find? (fun e => e.running && e.started && !e.done && !e.cut && e.todo.contains chunk) with
    | none => s
    | some e => drainPosted (landChunkOf s core.val e chunk)))

/-- PCOPY. -/
def execPcopy (core : CoreId) (s : State) : Host.Outcome State Fault Refusal :=
  .next (live s (fun s => drainPosted (startCopy s core.val 0)))

/-- PCONV. -/
def execPconv (core : CoreId) (s : State) : Host.Outcome State Fault Refusal :=
  .next (live s (fun s => drainPosted (startCopy s core.val 1)))

/-- PGATHER. -/
def execPgather (core : CoreId) (s : State) : Host.Outcome State Fault Refusal :=
  .next (live s (fun s => drainPosted (startCopy s core.val 3)))

/-- PSCATTER. -/
def execPscatter (core : CoreId) (s : State) : Host.Outcome State Fault Refusal :=
  .next (live s (fun s => drainPosted (startCopy s core.val 4)))

/-- PFILL. -/
def execPfill (core : CoreId) (s : State) : Host.Outcome State Fault Refusal :=
  .next (live s (fun s => drainPosted (startCopy s core.val 5)))

/-- PLAYOUT: a matrix moved between row-major or group layout and panel layout, in chunks. -/
def execPlayout (core : CoreId) (s : State) : Host.Outcome State Fault Refusal :=
  .next (live s (fun s => drainPosted (startCopy s core.val 2)))

end Sys2Proof.Machine
end

