-- ==== Sys2Proof/Machine/Remote.lean ====
section
/-! DEFINITION. Sys2Proof/Machine/Remote.lean: remote memory: the packets of R270 at their target and at their origin, atomics, fences,
invalidations and the peer table: R260, R268 to R285, R379, R380. -/

namespace Sys2Proof.Machine

-- a packet at its operation (R270) ------------------------------------------------------------------------------------

/-- ADDR of a packet. -/
def pAddr (p : Packet) : Nat := pf p 192 43
/-- SEQ of a packet. -/
def pSeq (p : Packet) : W32 := BitVec.ofNat 32 (pf p 160 32)
/-- RETRY. -/
def pRetry (p : Packet) : Bool := pf p 137 1 == 1
/-- ARRIVE_EN. -/
def pArrive (p : Packet) : Bool := pf p 138 1 == 1
/-- WIDEN. -/
def pWiden (p : Packet) : Bool := pf p 139 1 == 1
/-- ARRIVE_CTR. -/
def pCtr (p : Packet) : Nat := pf p 235 12
/-- ARRIVE_CLUSTER. -/
def pCluster (p : Packet) : Nat := pf p 247 6
/-- STATUS of a response. -/
def pStatus (p : Packet) : Nat := pf p 132 4

/-- A packet of an operation code that is for this module, after the checks of R261; where k answers none the packet waits as it was
(an access of its own stalls on a zero-fill: R93, R165). -/
def arrived (s : State) (l : Option LinkId) (p : Packet) (opc : Nat) (k : State → Option State) : State :=
  if pOpc p ≠ opc ∨ (!pMcast p ∧ pDst p ≠ ownDev s) then s
  else
    let a := admitPacket s l p
    if a.2 then (k a.1).getD s else a.1

/-- A response is sent, and an INDETERMINATE one counted; a multicast packet is not answered (R278, R379). -/
def answerPacket (s : State) (p : Packet) (opc status extra : Nat) (data : List Byte) : State :=
  let s := if status = 9 then rinc s Reg.MSF_INDETERMINATE else s
  if pMcast p then s else respond s p opc 1 status extra data

-- WRITE (R115, R270, R273, R278) --------------------------------------------------------------------------------------

/-- The bytes that a WRITE chunk leaves: widened where WIDEN is set; free where the formats are not known (log entry 20). -/
def widened (s : State) (p : Packet) : List Byte × State :=
  if !pWiden p then (p.data, s)
  else if p.side < 2048 then
    let f := freeVal s
    (natLe f.1 p.data.length, f.2)
  else
    let src := p.side % 32
    ((convertChunk src (p.side / 32 % 32) (p.side / 1024 % 2 == 1) [] (pFlow p * chunkElems src p.data.length) p.data).1, s)

/-- The core that widens a chunk at an address (R115, R270). -/
def widenCore (p : Packet) : Nat :=
  match regionOf (pAddr p) with | .way c _ => 8 * c + pf p 133 3 | .seg k _ => k | _ => 0

/-- A mirrored completion record has landed in the mirror ring (R379, R380). -/
def noteRecord (s : State) (t a : Nat) (data : List Byte) : State :=
  let base := rget64 s Reg.HEALTH_RING_LO Reg.HEALTH_RING_HI
  let slots := 2 ^ rget s Reg.HEALTH_RING_LOG2
  let i := (a - base) / 32
  if !shadowed s t ∨ a < base ∨ (a - base) % 32 ≠ 0 ∨ 8 * slots ≤ i ∨ data.length ≠ 32 then s
  else
    let r : Record := BitVec.ofNat 256 (leNat data)
    let k := mirrorKey (i / slots) (BitVec.ofNat 32 (bitsAt r.toNat 0 32))
    let h := s.health
    let s := { s with health := { h with mirror := mapSet h.mirror k r, own := mapErase h.own k } }
    match mapFind h.own k with
    | some d => if d = recDigest r then s else noteMismatch s k
    | none => s

/-- A chunk has landed for a WRITE: mirrored, noted, answered. -/
def writeLanded (s : State) (p : Packet) (data : List Byte) (faults : List Nat) : State :=
  let t := pTenant p
  let s := countWiden s (widenCore p) (pWiden p)
  let s := if faults = [] then noteRecord s t (pAddr p) data else s
  let s := if faults = [] then
      mirrorChunk s t (pFlow p) (writeOp (pAddr p) (pSeq p).toNat (pf p 144 8) (pf p 152 8) 0 (pRetry p) (pArrive p) false (pCtr p) (pCluster p)) data
    else s
  answerPacket (drainPosted s) p 3 (worst faults) 0 []

/-- WRITE: a chunk arrives at its target. -/
def execWrite (l : Option LinkId) (p : Packet) (s : State) : Host.Outcome State Fault Refusal :=
  .next (live s (fun s => arrived s l p 0 (fun s =>
    let s := arriveAt s (pAddr p)
    let w := widened s p
    let busy := pArrive p && (chunkDecide w.2 (pSrc p) (pTenant p) (pSeq p) (pRetry p) (BitVec.ofNat 16 (pFlow p))).2 == Chunk.busy
    let r := placeChunk (Access.start w.2 (pTenant p) none) 11 (pSrc p) (pSeq p) (pRetry p) (pArrive p) (BitVec.ofNat 16 (pFlow p))
      (pCluster p) (pCtr p) (pAddr p) w.1
    if r.x.stalled then none
    else if !r.landed then some (if busy then answerPacket r.x.s p 3 15 0 [] else r.x.s)
    else some (writeLanded r.x.s p w.1 r.x.faults))))

-- READ (R270, R281) ---------------------------------------------------------------------------------------------------

/-- Every line of a range is of class PARAM (R280, R281). -/
def allParam (s : State) (a n : Nat) : Bool := n != 0 && (linesOf a n).all (fun l => classOf s (64 * l) == 2)

/-- READ: one chunk is read for the packet's tenant and sent back. -/
def execRead (l : Option LinkId) (p : Packet) (s : State) : Host.Outcome State Fault Refusal :=
  .next (live s (fun s => arrived s l p 1 (fun s =>
    let a := pAddr p
    let n := if p.side = 0 then 4096 else p.side
    let s := arriveAt s a
    if inRegs a n then
      let r := regBytes s a n
      some (answerPacket r.2 p 2 0 0 r.1)
    else
      let r := (Access.start s (pTenant p) none).rd a n
      if r.2.stalled then none
      else
        let st := worst r.2.faults
        some (answerPacket r.2.s p 2 st (if st = 0 ∧ allParam s a n = true then 2 ^ 12 else 0) r.1))))

-- responses at the origin (R271, R272) --------------------------------------------------------------------------------

/-- The operation that a response belongs to: its SEQ unresolved, its generations current (R271). -/
def opFor (s : State) (p : Packet) : Option ROp :=
  match ropOf s (pTenant p) (pSeq p) with
  | some o => if pf p 144 8 = tgenOf s o.tenant.val ∧ pf p 152 8 = rgenOf s o.queue then some o else none
  | none => none

/-- A response handed to the docket of its operation: dropped and counted where that is resolved (R271), held back or dropped by
RPL_KIND on the die of its engine (R399). -/
def response (s : State) (p : Packet) (k : State → QEntry → ROp → Option State) : Option State :=
  match opFor s p with
  | none => some (rinc s Reg.TENANT_DROPPED 0 (pTenant p))
  | some o =>
    let h := pertResponse s (queueDie o.queue) (pOpc p) (pTenant p)
    if h.1 then some h.2
    else match entryOf h.2 o.queue o.ref with
      | none => some h.2
      | some e => k h.2 e o

/-- Packets that fences await are struck out; a fence that awaits none is done, with FENCED where the strike says so (R285). -/
def strikeAwaited (s : State) (f : TenantId × W32 × Nat → Bool) (status : Nat) : State :=
  s.msf.fences.foldl (fun s x =>
    let hit := x.2.any f
    let rest := x.2.filter (fun y => !f y)
    if !hit then s
    else
      let m := s.msf
      let s := { s with msf := { m with fences := if rest = [] then mapErase m.fences x.1 else mapSet m.fences x.1 rest } }
      match runningOp s x.1 2 7 with
      | none => s
      | some e => updEntry s x.1 e.toRef (fun e => { e with
          status := if status = 0 then e.status else worst [e.status, status], done := rest == [] })) s

/-- The acknowledgement of a packet has arrived. -/
def fenceAck (s : State) (o : ROp) (i : Nat) : State := strikeAwaited s (fun y => y.1 == o.tenant && y.2.1 == o.seq && y.2.2 == i) 0

/-- An awaited operation ends FENCED. -/
def fenceEnds (s : State) (o : ROp) : State := strikeAwaited s (fun y => y.1 == o.tenant && y.2.1 == o.seq) 8

/-- How an operation ends where its peer's entry no longer is the one it was sent under: FENCED, or INDETERMINATE for an atomic whose peer's
GEN has changed (R262, R275, R279). -/
def peerEnds (s : State) (o : ROp) : Option State :=
  let p := peerOut s o.dev.toNat
  if peerFenced p ∨ !peerValid p then some (fenceEnds (endWith s o.queue o.ref 8) o)
  else if peerGen p = o.gen.toNat then none
  else if o.kind = 2 then some (endWith s o.queue o.ref 9)
  else some (fenceEnds (endWith s o.queue o.ref 8) o)

-- atomics at the origin (R268, R269, R279) ----------------------------------------------------------------------------

/-- What an atomic docket asks for: address, operation, width, operands, and whether it is a remote CSIGNAL. -/
structure AtomicReq where
  addr : Nat
  aop : Nat
  wide : Bool
  operand : Nat
  compare : Nat
  signal : Bool
deriving DecidableEq, Repr

/-- The request of a RATOMIC docket or of a remote CSIGNAL (R136, R268). -/
def atomicReq (e : QEntry) : AtomicReq :=
  let d := e.dk
  if dkEngine d = 3 then
    { addr := ckDevice d * 2 ^ 48, aop := 0, wide := true, operand := ckAdd d, compare := 0, signal := true }
  else
    { addr := dkf d 0x30 0 64, aop := dkf d 0x38 0 4, wide := dkf d 0x38 4 1 == 1, operand := dkf d 0x40 0 64,
      compare := dkf d 0x48 0 64, signal := false }

/-- RESULT of a RATOMIC; 0 for none. -/
def atomicDst (e : QEntry) : Nat := if dkEngine e.dk = 3 then 0 else dkf e.dk 0x50 0 64

/-- The ATOMIC packet of an operation (R270). -/
def atomicPacket (s : State) (e : QEntry) (o : ROp) : Packet :=
  let r := atomicReq e
  let op := 4 + r.aop * 2 ^ 4 + b2n r.wide * 2 ^ 8 + b2n o.retry * 2 ^ 9 + b2n r.signal * 2 ^ 10 + o.tgen.toNat * 2 ^ 16
    + o.rgen.toNat * 2 ^ 24 + o.seq.toNat * 2 ^ 32 + gLoc r.addr % 2 ^ 43 * 2 ^ 64
    + (if r.signal then ckCtr e.dk * 2 ^ 107 + ckCluster e.dk * 2 ^ 119 else 0)
  mkPacket s (gDev r.addr) o.gen.toNat e.tenant.val false 0 0 op (natLe r.operand 8 ++ natLe r.compare 8)

/-- The old value has come back: it goes to RESULT, and the docket's work is done; where RESULT's part is being filled it waits. -/
def atomicEnd (s : State) (q : Nat) (e : QEntry) (status old : Nat) : Option State :=
  let x := e.access s
  let dst := atomicDst e
  let x := if dst = 0 then x else x.wrNat dst 8 old
  if x.stalled then none
  else
    let x := if status = 0 then x
      else if status = 4 then x.invalid (remoteHole (atomicReq e).addr (if (atomicReq e).wide then 8 else 4)) else x.fault status
    some (finish x.s q { e with status := worst [e.status] } x 0 0 (digestOf e (if dst = 0 then [] else [(dst, natLe old 8)])))

/-- An atomic docket starts: at this device at once, or as a packet (R262, R268, R271). -/
def startAtomic (s : State) (q : Nat) (e : QEntry) : State :=
  let r := atomicReq e
  let dev := gDev r.addr
  let fault := if dev = ownDev s then 0 else peerFault s dev
  if dev % 4 ≠ 0 then endCopy s q e 4 r.addr
  else if fault ≠ 0 then endCopy s q e fault r.addr
  else if dev ≠ ownDev s ∧ 2 ^ 43 ≤ gLoc r.addr then endCopy s q e 4 (remoteHole r.addr (if r.wide then 8 else 4))
  else
    let n := seqFor s q e
    match n.1 with
    | none => n.2
    | some seq =>
      let s1 := updEntry n.2 q e.toRef (fun e => { e with started := true })
      match entryOf s1 q e.toRef with
      | none => s
      | some e =>
        if dev = ownDev s then
          let x := (e.access (arriveAt s1 (gLoc r.addr))).atomic (gLoc r.addr) r.aop (if r.wide then 64 else 32) r.operand r.compare
          if x.2.stalled then s
          else
            let t := updEntry x.2.s q e.toRef (fun e => { e with status := worst (e.status :: x.2.faults), badAddr := x.2.bad.getD e.badAddr })
            match entryOf t q e.toRef with
            | none => s
            | some e => (atomicEnd t q e (worst x.2.faults) x.1).getD s
        else
          let s1 := startRemote (cacheForget s1 (q / 256) r.addr 8) q e 2 dev 1 seq
          match ropOf s1 e.tenant.val seq with
          | none => s
          | some o => send (updRop s1 o (fun o => { o with nextChunk := 1, unacked := [0] })) (some q) (atomicPacket s1 e o)

/-- A running docket of a queue that its engine has not started on. -/
def unstarted (s : State) (q : Nat) (f : QEntry → Bool) : Option QEntry :=
  (queue s q).find? (fun e => e.running && !e.started && !e.done && !e.cut && f e)

/-- A remote CSIGNAL that runs leaves as an atomic (R268). -/
def startSignal (s : State) (core : Nat) : State :=
  match unstarted s (4 * core + 3) (clerkRemote s) with
  | some e => startAtomic s (4 * core + 3) e
  | none => s

/-- RATOMIC: the core's running atomic docket starts; a remote CSIGNAL is one (R268). -/
def execRatomic (core : CoreId) (s : State) : Host.Outcome State Fault Refusal :=
  .next (live s (fun s =>
    let s := match unstarted s (4 * core.val + 2) (fun e => dkEngine e.dk == 2 && dkOp e.dk == 6) with
      | some e => startAtomic s (4 * core.val + 2) e
      | none => s
    startSignal s core.val))

/-- CSIGNAL: on this device; a remote one leaves as an atomic (R117, R136, R268). -/
def execCsignal (core : CoreId) (s : State) : Host.Outcome State Fault Refusal :=
  .next (live s (fun s => startSignal (clerkOp s core.val 2) core.val))

/-- The atomic of a core that awaits its answer longest, and is not to be sent again for BUSY. -/
def dueAtomic (s : State) (core : Nat) : Option ROp :=
  (s.msf.ops.filter (fun o => o.kind == 2 && o.queue / 4 == core && o.queue < 2048 && o.unacked != [] && o.again == [])).foldl (fun acc o =>
    match acc with | none => some o | some x => if o.sentAt < x.sentAt then some o else acc) none

/-- ATOMIC_RESEND: no reply within ATOMIC_RESEND_US (R279). -/
def execAtomicResend (core : CoreId) (s : State) : Host.Outcome State Fault Refusal :=
  .next (live s (fun s =>
    match dueAtomic s core.val with
    | none => s
    | some o =>
      match entryOf s o.queue o.ref with
      | none => s
      | some e =>
        if e.done ∨ e.cut then s
        else
          let s := advanceTo s (o.sentAt + 1000 * rget s Reg.MSF_ATOMIC_RESEND_US / resendShift s (queueDie o.queue))
          match peerEnds s o with
          | some t => t
          | none =>
            let o' := { o with retry := true, sentAt := s.time.cyc }
            send (rinc (updRop s o (fun _ => o')) Reg.MSF_ATOMIC_RESENDS) (some o.queue) (atomicPacket s e o')))

-- atomics at the target (R269, R277, R278) ----------------------------------------------------------------------------

/-- An atomic applied for a packet: the old value, and the accesses. -/
def applyAtomic (s : State) (p : Packet) : Nat × Access :=
  let x := Access.start s (pTenant p) none
  let operand := leNat (p.data.take 8)
  let aop := pf p 132 4
  if pArrive p then
    let c := pCluster p
    let old := counterVal s c (pTenant p) (pCtr p)
    (old, x.counterAdd c (pTenant p) (pCtr p) operand)
  else if 9 < aop then (0, x.fault 1)
  else x.atomic (pAddr p) aop (if pf p 136 1 = 1 then 64 else 32) operand (leNat ((p.data.drop 8).take 8))

/-- The completion code of an atomic at its target: PARAM_ERROR for a reserved operation. -/
def atomicStatus (x : Access) : Nat := if x.faults.contains 1 then 1 else worst x.faults

/-- An atomic applied, its receipt stored, and its answer sent. -/
def storeAtomic (s : State) (p : Packet) : Option State :=
  let r := applyAtomic (arriveAt s (pAddr p)) p
  if r.2.stalled then none
  else
    let st := atomicStatus r.2
    let slot : Receipt := { Receipt.empty with seq := pSeq p, kind := 1, status := st, result := r.1 }
    some (answerPacket (setSlot r.2.s (pSrc p) (pTenant p) (pSeq p) slot) p 5 st 0 (natLe r.1 8))

/-- ATOMIC: the receipt table decides whether it is applied. -/
def execAtomic (l : Option LinkId) (p : Packet) (s : State) : Host.Outcome State Fault Refusal :=
  .next (live s (fun s => arrived s l p 4 (fun s =>
    let w := windowFor s (pSrc p) (pTenant p)
    if !w.2 then some (answerPacket (rinc s Reg.MSF_WINDOW_BUSY) p 5 15 0 (natLe 0 8))
    else
      let s := w.1
      let r := slotOf s (pSrc p) (pTenant p) (pSeq p)
      if r.kind = 0 then
        if pRetry p then some (answerPacket s p 5 9 0 (natLe 0 8)) else storeAtomic s p
      else if r.seq = pSeq p then
        some (answerPacket (rinc s Reg.MSF_DUP_ATOMICS) p 5 r.status 0 (natLe r.result 8))
      else if behind r.seq (pSeq p) then storeAtomic s p
      else some (if pRetry p then s else rinc s Reg.MSF_STALE_DISCARDS))))

-- BUSY (R277) ---------------------------------------------------------------------------------------------------------

/-- The packet of an operation that a BUSY answer names, as it was first sent. -/
def againPacket (s : State) (e : QEntry) (o : ROp) (flow : Nat) : Option Packet :=
  if o.kind = 2 then some (atomicPacket s e o)
  else match chunkOfFlow o flow with
    | none => none
    | some i =>
      if 2062 ≤ o.queue then hopAgain s e o i
      else if o.kind = 1 then some (readPacket s e o i)
      else if o.kind = 0 then
        let r := chunkRead (e.access s) (o.queue / 4) e i
        some (writePacket s e o i (if poWidens e.dk then r.1 else (entryConvert e i r.1).1))
      else none

/-- A packet was answered BUSY: it is kept to go again. -/
def busyAnswer (s : State) (e : QEntry) (o : ROp) (flow : Nat) : State :=
  match againPacket s e o flow with
  | none => s
  | some p => updRop s o (fun o => { o with again := if o.again.contains p then o.again else o.again ++ [p], sentAt := s.time.cyc })

/-- BUSY_REPLY: a WRITE_ACK or ATOMIC_RESULT whose STATUS is BUSY. -/
def execBusyReply (l : Option LinkId) (p : Packet) (s : State) : Host.Outcome State Fault Refusal :=
  .next (live s (fun s =>
    if (pOpc p ≠ 3 ∧ pOpc p ≠ 5) ∨ pStatus p ≠ 15 then s
    else arrived s l p (pOpc p) (fun s => response s p (fun s e o => some (busyAnswer s e o (pFlow p))))))

/-- BUSY_BACKOFF: BUSY_BACKOFF_US after a BUSY answer the packets of a queue's dockets go again, unless their peer's entry has changed (R262,
R275, R277). -/
def execBusyBackoff (q : QueueId) (s : State) : Host.Outcome State Fault Refusal :=
  .next (live s (fun s =>
    match s.msf.ops.find? (fun o => o.queue == q.val && o.again != []) with
    | none => s
    | some o =>
      let s := advanceTo s (o.sentAt + 1000 * rget s Reg.MSF_BUSY_BACKOFF_US)
      let v := updRop s o (fun o => { o with again := [], sentAt := s.time.cyc })
      match if o.dev.toNat = ownDev s then none else peerEnds v o with
      | some t => t
      | none => o.again.foldl (fun s p => send s (some q.val) p) v))

-- answers to copies and atomics (R272, R273, R281) --------------------------------------------------------------------

/-- A chunk of a remote read has landed at its origin: cacheable lines are installed, fences count it, and further chunks leave (R272, R281,
R285). -/
def readLanded (s : State) (p : Packet) (e : QEntry) (o : ROp) (i : Nat) : State :=
  let s := if pf p 140 1 = 1 ∧ pStatus p = 0 ∧ !o.noCache.contains i then
      cacheChunk s (o.queue / 256) e.tenant.val (chunkFrom e.dk e.idx i) p.data else s
  let s := fenceAck s o i
  match entryOf s o.queue e.toRef with
  | none => drainPosted s
  | some e => drainPosted (issueChunks s o.queue e o.seq)

/-- A chunk of a remote read arrives at the origin and lands there; none where its destination is being filled. A piece of a PLAYOUT's source
is kept (R113, R268). -/
def readLands (s : State) (p : Packet) (e : QEntry) (o : ROp) (i : Nat) : Option State :=
  let q := o.queue
  if dkOp e.dk = 2 then some (readLanded (landRead s q e o i p.data (pStatus p)) p e o i)
  else
    let dst := gLoc (chunkTo e.dk e.idx i)
    let out := entryConvert e i p.data
    let s := arriveAt s dst
    if ((e.access s).place 0 dst out.1).stalled then none
    else
      let busy := poArriveEn e.dk && (chunkDecide s (ownDev s) e.tenant.val o.seq o.retry (BitVec.ofNat 16 i)).2 == Chunk.busy
      let s := landRead s q e o i p.data (pStatus p)
      if busy then some (updRop s o (fun o => { o with again := o.again ++ [readPacket s e o i], sentAt := s.time.cyc }))
      else if !(ropOf s e.tenant.val o.seq).any (fun o => !o.unacked.contains i) then some s
      else
        let s := if pStatus p = 0 then
            mirrorChunk s e.tenant.val i (writeOp dst o.seq.toNat o.tgen.toNat o.rgen.toNat 0 o.retry (poArriveEn e.dk) false
              (poArriveCtr e.dk) (poArriveCluster e.dk)) out.1 else s
        some (readLanded s p e o i)

/-- READ_DATA: a chunk that was asked for comes. -/
def execReadData (l : Option LinkId) (p : Packet) (s : State) : Host.Outcome State Fault Refusal :=
  .next (live s (fun s => arrived s l p 2 (fun s => response s p (fun s e o =>
    if o.queue = 2058 then some (drainPosted (chestAnswer s o (pFlow p) (pStatus p) p.data))
    else match chunkOfFlow o (pFlow p) with
      | none => some s
      | some i =>
        if o.kind ≠ 1 then some s
        else if 2062 ≤ o.queue then some (hopData s e o i (pStatus p) p.data)
        else readLands s p e o i))))

/-- A chunk of a remote write is acknowledged with a status. -/
def writeAcked (s : State) (e : QEntry) (o : ROp) (i status : Nat) : State :=
  let q := o.queue
  let s := copyFault s q e.toRef status (remoteHole (chunkTo e.dk e.idx i) (chunkOut e.dk (chunkLen e.dk i)))
  let s := fenceAck (ackChunk (rinc s Reg.PORT_CHUNKS (q / 4)) o i) o i
  match entryOf s q e.toRef with
  | none => s
  | some e => issueChunks s q e o.seq

/-- WRITE_ACK. -/
def execWriteAck (l : Option LinkId) (p : Packet) (s : State) : Host.Outcome State Fault Refusal :=
  .next (live s (fun s => arrived s l p 3 (fun s => response s p (fun s e o =>
    if pStatus p = 15 then some (busyAnswer s e o (pFlow p))
    else if o.queue = 2058 then some (chestAnswer s o (pFlow p) (pStatus p) [])
    else match chunkOfFlow o (pFlow p) with
      | none => some s
      | some i =>
        if o.kind ≠ 0 then some s
        else if 2062 ≤ o.queue then some (hopAck s e o i (pStatus p))
        else some (writeAcked s e o i (pStatus p))))))

/-- ATOMIC_RESULT: the reply wins over a resend that falls due in the same cycle (R279). -/
def execAtomicResult (l : Option LinkId) (p : Packet) (s : State) : Host.Outcome State Fault Refusal :=
  .next (live s (fun s => arrived s l p 5 (fun s => response s p (fun s e o =>
    if o.kind ≠ 2 ∨ o.unacked = [] then some s
    else if pStatus p = 15 then some (busyAnswer s e o 0)
    else
      let s := arriveAt s (atomicDst e)
      (atomicEnd s o.queue e (pStatus p) (leNat (p.data.take 8))).map (fun s =>
        fenceAck (updRop s o (fun o => { o with unacked := [], again := [] })) o 0)))))

-- fences and invalidations (R283, R285) -------------------------------------------------------------------------------

/-- The packets that a fence awaits: every one of its tenant's, from its core or from every core of its die, that is not
acknowledged. -/
def awaitedOf (s : State) (core : Nat) (e : QEntry) : List (TenantId × W32 × Nat) :=
  let wide := dkf e.dk 0x30 0 1 = 1
  (s.msf.ops.filter (fun o => o.tenant == e.tenant && decide (o.queue < 2048) &&
      (if wide then o.queue / 256 == core / 64 else o.queue / 4 == core))).flatMap (fun o =>
    let held := match entryOf s o.queue o.ref with | some e => if o.kind = 1 then e.todo else [] | none => []
    (o.unacked.filter (fun i => !held.contains i)).map (fun i => (o.tenant, o.seq, i)))

/-- RFENCE. -/
def execRfence (core : CoreId) (s : State) : Host.Outcome State Fault Refusal :=
  .next (live s (fun s =>
    let q := 4 * core.val + 2
    match unstarted s q (fun e => dkEngine e.dk == 2 && dkOp e.dk == 7) with
    | none => s
    | some e =>
      let l := awaitedOf s core.val e
      let m := s.msf
      let s := if l = [] then s else { s with msf := { m with fences := mapSet m.fences q l } }
      updEntry s q e.toRef (fun e => { e with started := true, done := l == [] })))

/-- A line of the global range [a, a + n), or any line where n is 0. -/
def inRange (a n line : Nat) : Bool := n == 0 || (a / 64 ≤ line && line ≤ (a + n - 1) / 64)

/-- The lines of a range leave the cache of CDn, and its CONTROL lines the directory; a fill asked for before is not installed. -/
def invalRange (s : State) (a n : Nat) (die : Nat) : State :=
  let m := s.msf
  let hit (k : Nat) : Bool := k / 2 ^ 60 == die && inRange a n (k % 2 ^ 60)
  let own := ownLine s 0
  let gone := m.cache.filter (fun c => hit c.1)
  let dir := gone.foldl (fun d c =>
    let line := c.1 % 2 ^ 60
    if line < own then d
    else match mapFind d (line - own) with
      | none => d
      | some h =>
        let h := h &&& ~~~(BitVec.ofNat 8 (2 ^ die))
        if h = 0 then mapErase d (line - own) else mapSet d (line - own) h) m.dir
  let ops := m.ops.map (fun o =>
    if o.kind = 1 ∧ o.queue / 256 = die ∧ o.queue < 2048 then
      match entryOf s o.queue o.ref with
      | none => o
      | some e => { o with noCache := o.noCache ++ o.unacked.filter (fun i =>
          (linesOf (chunkFrom e.dk e.idx i) (chunkLen e.dk i)).any (inRange a n)) }
    else o)
  rinc { s with msf := { m with cache := m.cache.filter (fun c => !hit c.1), dir := dir, ops := ops } } Reg.MSF_INVAL_LINES 0 0 gone.length

/-- RINVAL; a BASE with device bits [1:0] set names no device (R14). -/
def execRinval (core : CoreId) (s : State) : Host.Outcome State Fault Refusal :=
  .next (live s (fun s =>
    let q := 4 * core.val + 2
    match unstarted s q (fun e => dkEngine e.dk == 2 && dkOp e.dk == 8) with
    | none => s
    | some e =>
      if gDev (dkf e.dk 0x38 0 64) % 4 ≠ 0 then endCopy s q e 4 (dkf e.dk 0x38 0 64)
      else
      let dies := if dkf e.dk 0x30 0 1 = 1 then List.range 8 else [core.val / 64]
      let s := dies.foldl (fun s n => invalRange s (dkf e.dk 0x38 0 64) (dkf e.dk 0x40 0 40) n) s
      updEntry s q e.toRef (fun e => { e with started := true, done := true })))

-- the peer table (R260, R275) -----------------------------------------------------------------------------------------

/-- PEER_ENTRY_APPLIED: a fabric die's copy takes the new entry; what is outstanding toward a changed peer ends FENCED (R275, R285,
R306, R345, R358). -/
def execPeerEntryApplied (f : FDie) (s : State) : Host.Outcome State Fault Refusal :=
  .next (live s (fun s =>
    match applyPeer s f with
    | none => s
    | some (i, e, s) =>
      let changed (dev gen : Nat) : Bool := dev / 4 == i && peerChanged e (BitVec.ofNat 8 gen)
      let s := s.msf.ops.foldl (fun s o => if o.kind < 2 ∧ changed o.dev.toNat o.gen.toNat = true then fenceEnds s o else s) s
      fenceChests (fenceColls (fenceCopies s i e) changed) changed))

end Sys2Proof.Machine
end

