-- ==== Sys2Proof/Machine/Smbus.lean ====
section
/-! DEFINITION. Sys2Proof/Machine/Smbus.lean: the SMBus port, its commands and the alert response: R460 to R463. -/

namespace Sys2Proof.Machine

/-- The port as requester 13, TC15 (R462). -/
def smbusWriter : Writer := { input := 13, tenant := 15 }

/-- The port runs once the input power has come (R417, R462). -/
def smbusOn (s : State) (k : State → State) : State := if s.boot.inRange then k s else s

/-- A write of the port: a PEC mismatch NACKs it, counts and discards it (R460). -/
def smbusWrite (s : State) (pecOk : Bool) (k : State → State) : State :=
  smbusOn s (fun s => if pecOk then k s else emit (rinc s Reg.SMB_PEC_ERRORS) (.smbus [] true))

/-- Bytes returned to the SMBus host. -/
def smbusReply (s : State) (l : List Byte) : State := emit s (.smbus l false)

/-- Only the AO domain's pages are reached: frozen, before POWER_UP, or in RECOVERY (R462). -/
def aoOnly (s : State) : Bool := frozen s || rget s Reg.PMC_BOOT_STAGE < 3 || rget s Reg.PMC_BOOT_STAGE == 8

/-- The offset lies in the AO ring or in a page of the AO domain. -/
def aoOffset (off : Nat) : Bool :=
  (0x3FF0000 ≤ off && off < 0x4000000) || (match pageAt off with | some p => p.ao | none => false)

/-- The word at the port's offset can be reached. -/
def smbusReach (s : State) : Bool := !aoOnly s || aoOffset s.smbus.off.toNat

/-- The offset moves on, and NOT_REACHABLE shows how the access went. -/
def smbusNext (s : State) (reached : Bool) : State :=
  { s with smbus := { off := s.smbus.off + 4, notReachable := !reached } }

/-- SMBUS_STATUS_READ, command 0x01. -/
def execSmbusStatusRead (s : State) : Host.Outcome State Fault Refusal :=
  .next (smbusOn s (fun s =>
    let b (f : Fld) : List Byte := natLe (rget s f) 1
    smbusReply s (b Reg.PMC_BOOT_STAGE ++ b Reg.FREEZE_STATUS ++ b Reg.POWER_THROTTLE ++ b Reg.POWER_TEMP_MAX_C
      ++ natLe (rget s Reg.POWER_POWER_W) 2 ++ b Reg.HEALTH_ACT_PARTS ++ b Reg.HEALTH_WARN_PARTS)))

/-- SMBUS_POS_ID_READ, command 0x02. -/
def execSmbusPosIdRead (s : State) : Host.Outcome State Fault Refusal :=
  .next (smbusOn s (fun s => smbusReply s (natLe (rget s Reg.SMB_POS_ID) 1)))

/-- SMBUS_SERIAL_READ, command 0x03. -/
def execSmbusSerialRead (s : State) : Host.Outcome State Fault Refusal :=
  .next (smbusOn s (fun s => smbusReply s (natLe Config.serial.toNat 8)))

/-- SMBUS_SET_OFFSET, command 0x10: register accesses are whole words (R428). -/
def execSmbusSetOffset (off : W32) (pecOk : Bool) (s : State) : Host.Outcome State Fault Refusal :=
  .next (smbusWrite s pecOk (fun s => { s with smbus := { s.smbus with off := BitVec.ofNat 32 (off.toNat / 4 * 4) } }))

/-- SMBUS_READ_WORD, command 0x11. -/
def execSmbusReadWord (s : State) : Host.Outcome State Fault Refusal :=
  .next (smbusOn s (fun s =>
    if smbusReach s then
      let t := if aoOnly s then s else busBeats s 13 1 plainBus
      let r := busRead t s.smbus.off.toNat 0
      smbusReply (smbusNext r.2 true) (natLe r.1 4)
    else smbusReply (smbusNext s false) (natLe 0 4)))

/-- SMBUS_WRITE_WORD, command 0x12. -/
def execSmbusWriteWord (data : W32) (pecOk : Bool) (s : State) : Host.Outcome State Fault Refusal :=
  .next (smbusWrite s pecOk (fun s =>
    let x : WordWrite := { off := s.smbus.off.toNat, data, be := 15 }
    if !smbusReach s then smbusNext s false
    else if aoOnly s then
      smbusNext (match pageAt x.off with | some p => pageWrite smbusWriter p [x] [] s | none => s) true
    else smbusNext (regWrite s smbusWriter [x] [] plainBus) true))

/-- SMBUS_NOT_REACHABLE_READ, command 0x13. -/
def execSmbusNotReachableRead (s : State) : Host.Outcome State Fault Refusal :=
  .next (smbusOn s (fun s => smbusReply s (natLe (b2n s.smbus.notReachable) 1)))

/-- SMBUS_WAKE, command 0x20: the module leaves P4 (R416). -/
def execSmbusWake (pecOk : Bool) (s : State) : Host.Outcome State Fault Refusal :=
  .next (smbusWrite s pecOk (fun s => live s wakeModule))

/-- SMBUS_REBOOT, command 0x21: PMC.REBOOT is written; in a freeze the write is discarded and reported (R396, R419). -/
def execSmbusReboot (pecOk : Bool) (s : State) : Host.Outcome State Fault Refusal :=
  .next (smbusWrite s pecOk (fun s => if frozen s then reportFld s pmcPage smbusWriter Reg.PMC_REBOOT 0 2 1 0 else reboot s))

/-- SMBUS_FLASH_ADDR, command 0x30. -/
def execSmbusFlashAddr (addr : W32) (pecOk : Bool) (s : State) : Host.Outcome State Fault Refusal :=
  .next (smbusWrite s pecOk (fun s => setClamped s smbusWriter smbPage Reg.SMB_FLASH_ADDR 0 addr.toNat))

/-- FLASH_ADDR after 32 bytes. -/
def flashAddrNext (s : State) : State := rset s Reg.SMB_FLASH_ADDR 0 0 (rget s Reg.SMB_FLASH_ADDR + 32)

/-- SMBUS_FLASH_READ, command 0x31: a read that fails returns free bytes (log entry 40). -/
def execSmbusFlashRead (s : State) : Host.Outcome State Fault Refusal :=
  .next (smbusOn s (fun s =>
    if flashRuns s 1 then
      smbusReply (flashAddrNext (rset s Reg.SMB_FLASH_STATUS 0 0 0)) (flashBytes s (rget s Reg.SMB_FLASH_ADDR) 32)
    else
      let f := freeVal (flashError s)
      smbusReply f.2 (natLe (f.1 % 2 ^ 256) 32)))

/-- A flash command of the port that moves FLASH_ADDR on where it runs. -/
def smbusProgram (data : BitVec 256) (s : State) : State :=
  if flashRuns s 1 then flashAddrNext (flashBegin s 1 2 data) else flashError s

/-- SMBUS_FLASH_PROGRAM, command 0x32. -/
def execSmbusFlashProgram (data : BitVec 256) (pecOk : Bool) (s : State) : Host.Outcome State Fault Refusal :=
  .next (smbusWrite s pecOk (smbusProgram data))

/-- SMBUS_FLASH_ERASE, command 0x33. -/
def execSmbusFlashErase (pecOk : Bool) (s : State) : Host.Outcome State Fault Refusal :=
  .next (smbusWrite s pecOk (fun s => flashBegin s 1 3 0))

/-- SMBUS_FLASH_STATUS, command 0x34. -/
def execSmbusFlashStatus (s : State) : Host.Outcome State Fault Refusal :=
  .next (smbusOn s (fun s => smbusReply s (natLe (rget s Reg.SMB_FLASH_STATUS) 1)))

/-- SMBUS_TIMEOUT: a line has stayed low for TIMEOUT_MS; the port resets (R460). -/
def execSmbusTimeout (s : State) : Host.Outcome State Fault Refusal :=
  .next (smbusOn s (fun s =>
    let s := { rinc s Reg.SMB_TIMEOUTS with smbus := { off := 0, notReachable := false } }
    raise s { evOf Reg.SMB_TIMEOUTS 0 13 0 with cls := some 2 }))

/-- ALERT_RESPONSE: a read of 0x0C returns 0xB4 and releases ALERT_N (R463). -/
def execAlertResponse (s : State) : Host.Outcome State Fault Refusal :=
  .next (smbusOn s (fun s =>
    if alertAsserted s then
      let causes := BitVec.ofNat 4 (rget s Reg.SMB_ALERT_CAUSE &&& rget s Reg.SMB_ALERT_MASK)
      smbusReply { s with pins := { s.pins with acked := s.pins.acked ||| causes } } [0xB4]
    else emit s (.smbus [] true)))

end Sys2Proof.Machine
end

