-- ==== Sys2Proof/Machine/Target.lean ====
section
/-! DEFINITION. Sys2Proof/Machine/Target.lean: what a storage target answers, to an INGEST docket's fetch or to a LOAD: R187 to
R191, R356. -/

namespace Sys2Proof.Machine

/-- A Read that failed for good. -/
def readFailed (s : State) (m : MDie) (c : MillCmd) : State :=
  if loadSpan ≤ c.span then loadFail (dropCmds s m.val (· == c)) c
  else failFetch s m.val c.ref ((spanOf s m.val c).map (·.addr) |>.getD 0)

/-- A Read that failed is retried up to FETCH_RETRY_LIMIT times (R190). -/
def retryRead (s : State) (m : MDie) (c : MillCmd) : State :=
  let k := millOf s m.val
  let s := setMill s m.val { k with cmds := k.cmds.filter (fun x => x.cid != c.cid) }
  if c.tries < rget s Reg.MILL_FETCH_RETRY_LIMIT m.val then
    putCmd (rinc s Reg.MILL_FETCH_RETRIES m.val) m { c with tries := c.tries + 1 }
  else readFailed s m c

/-- A completion of a command (R190, R191); one whose command is not in flight is discarded. -/
def completion (s : State) (m : MDie) (cid : Nat) (st : NvmeStatus) (data : List Byte) : State :=
  match cmdOf s m.val cid with
  | none => s
  | some c =>
    match st with
    | .retryable => retryRead s m c
    | .doNotRetry => readFailed s m c
    | .ok =>
      if loadSpan ≤ c.span then
        loadData (dropCmds s m.val (· == c)) c data
      else match spanOf s m.val c with
        | some sp => readDone s m.val c (rf sp.source 8 0 64 + sp.offset) data
        | none => s

/-- NVME_COMPLETION. -/
def execNvmeCompletion (m : MDie) (cid : Nat) (status : NvmeStatus) (data : List Byte) (s : State) :
    Host.Outcome State Fault Refusal :=
  .next (live s (fun s => completion s m cid status data))

/-- NVME_TIMEOUT: NVME_TIMEOUT_MS without a completion (R190, R400). -/
def execNvmeTimeout (m : MDie) (cid : Nat) (s : State) : Host.Outcome State Fault Refusal :=
  .next (live s (fun s =>
    match cmdOf s m.val cid with
    | none => s
    | some c =>
      let t := 1000000 * rget s Reg.MILL_NVME_TIMEOUT_MS m.val / resendShift s (10 + m.val)
      retryRead (advanceTo s (c.sentAt + t)) m c))

/-- RDMA_COMPLETION (R191). -/
def execRdmaCompletion (m : MDie) (cid : Nat) (ok : Bool) (data : List Byte) (s : State) : Host.Outcome State Fault Refusal :=
  .next (live s (fun s => completion s m cid (if ok then .ok else .retryable) data))

/-- TARGET_CONNECTION_LOST: STATE reads FAILED and every fetch from the target fails (R190). -/
def execTargetConnectionLost (m : MDie) (target : Fin 16) (s : State) : Host.Outcome State Fault Refusal :=
  .next (live s (fun s =>
    if rget s Reg.MILL_STATE m.val target.val = 0 then s
    else
      let s := rset s Reg.MILL_STATE m.val target.val 3
      let k := millOf s m.val
      (k.cmds ++ k.backlog).foldl (fun s c =>
        if c.target = target.val ∧ ((millOf s m.val).cmds ++ (millOf s m.val).backlog).any (fun x => x.ref == c.ref && x.span == c.span) then
          readFailed s m c else s) s))

end Sys2Proof.Machine
end

