-- ==== Sys2Proof/Machine/Dispatch.lean ====
section
/-! DEFINITION. Sys2Proof/Machine/Dispatch.lean: one arm per command. -/

namespace Sys2Proof.Machine

def exec (i : Instr) (s : State) : Host.Outcome State Fault Refusal :=
  match i with
  | .powerInputInRange => Sys2Proof.Machine.execPowerInputInRange s
  | .powerInputOutOfRange => Sys2Proof.Machine.execPowerInputOutOfRange s
  | .bladeCurrentLoss milliVolts => Sys2Proof.Machine.execBladeCurrentLoss milliVolts s
  | .rom posId refclk => Sys2Proof.Machine.execRom posId refclk s
  | .flash => Sys2Proof.Machine.execFlash s
  | .verify => Sys2Proof.Machine.execVerify s
  | .powerUp => Sys2Proof.Machine.execPowerUp s
  | .selftest failed => Sys2Proof.Machine.execSelftest failed s
  | .train trained channels => Sys2Proof.Machine.execTrain trained channels s
  | .publish ms => Sys2Proof.Machine.execPublish ms s
  | .perstNAssert => Sys2Proof.Machine.execPerstNAssert s
  | .perstNRelease => Sys2Proof.Machine.execPerstNRelease s
  | .functionLevelReset => Sys2Proof.Machine.execFunctionLevelReset s
  | .bar4Access off data len => Sys2Proof.Machine.execBar4Access off data len s
  | .registerWrite by' words hwSet ctl => Sys2Proof.Machine.execRegisterWrite by' words hwSet ctl s
  | .unmappedWrite by' words => Sys2Proof.Machine.execUnmappedWrite by' words s
  | .rcCounterRead by' off inc => Sys2Proof.Machine.execRcCounterRead by' off inc s
  | .nowLoRead by' => Sys2Proof.Machine.execNowLoRead by' s
  | .drawnLoRead by' h => Sys2Proof.Machine.execDrawnLoRead by' h s
  | .ro64LowWordRead by' off => Sys2Proof.Machine.execRo64LowWordRead by' off s
  | .ctrlLock by' off => Sys2Proof.Machine.execCtrlLock by' off s
  | .sbusWatchdogBite input => Sys2Proof.Machine.execSbusWatchdogBite input s
  | .tailWrite way die t v => Sys2Proof.Machine.execTailWrite way die t v s
  | .compHeadWrite way die t v => Sys2Proof.Machine.execCompHeadWrite way die t v s
  | .ringEnableWrite by' die t en => Sys2Proof.Machine.execRingEnableWrite by' die t en s
  | .slotReadReturn die t host => Sys2Proof.Machine.execSlotReadReturn die t host s
  | .seqRetry die t host => Sys2Proof.Machine.execSeqRetry die t host s
  | .docketAccept die t => Sys2Proof.Machine.execDocketAccept die t s
  | .releaseReached q => Sys2Proof.Machine.execReleaseReached q s
  | .counterUpdateVisible cluster => Sys2Proof.Machine.execCounterUpdateVisible cluster s
  | .docketDispatch q => Sys2Proof.Machine.execDocketDispatch q s
  | .docketCompletion q ref => Sys2Proof.Machine.execDocketCompletion q ref s
  | .completionRecordWrite die t => Sys2Proof.Machine.execCompletionRecordWrite die t s
  | .waitTimeout q ref => Sys2Proof.Machine.execWaitTimeout q ref s
  | .runTimeout q ref => Sys2Proof.Machine.execRunTimeout q ref s
  | .lmma core => Sys2Proof.Machine.execLmma core s
  | .ltally core => Sys2Proof.Machine.execLtally core s
  | .vmap core => Sys2Proof.Machine.execVmap core s
  | .vrow core => Sys2Proof.Machine.execVrow core s
  | .vtto core => Sys2Proof.Machine.execVtto core s
  | .vtadd core => Sys2Proof.Machine.execVtadd core s
  | .vtround core => Sys2Proof.Machine.execVtround core s
  | .vamax core => Sys2Proof.Machine.execVamax core s
  | .pcopy core => Sys2Proof.Machine.execPcopy core s
  | .pconv core => Sys2Proof.Machine.execPconv core s
  | .playout core => Sys2Proof.Machine.execPlayout core s
  | .pgather core => Sys2Proof.Machine.execPgather core s
  | .pscatter core => Sys2Proof.Machine.execPscatter core s
  | .pfill core => Sys2Proof.Machine.execPfill core s
  | .chunkLanded core chunk => Sys2Proof.Machine.execChunkLanded core chunk s
  | .ratomic core => Sys2Proof.Machine.execRatomic core s
  | .rfence core => Sys2Proof.Machine.execRfence core s
  | .rinval core => Sys2Proof.Machine.execRinval core s
  | .cnop core => Sys2Proof.Machine.execCnop core s
  | .cwait core => Sys2Proof.Machine.execCwait core s
  | .csignal core => Sys2Proof.Machine.execCsignal core s
  | .ownershipWrite by' part valid owner => Sys2Proof.Machine.execOwnershipWrite by' part valid owner s
  | .storeFillDone part => Sys2Proof.Machine.execStoreFillDone part s
  | .setOwnershipWrite by' part valid owner => Sys2Proof.Machine.execSetOwnershipWrite by' part valid owner s
  | .memoryFillDone part => Sys2Proof.Machine.execMemoryFillDone part s
  | .patrolScrub line found raced => Sys2Proof.Machine.execPatrolScrub line found raced s
  | .refreshWindow unit => Sys2Proof.Machine.execRefreshWindow unit s
  | .stackTemperatureReport stack celsius => Sys2Proof.Machine.execStackTemperatureReport stack celsius s
  | .ingest m ref => Sys2Proof.Machine.execIngest m ref s
  | .spanStart m => Sys2Proof.Machine.execSpanStart m s
  | .nvmeCompletion m cid status data => Sys2Proof.Machine.execNvmeCompletion m cid status data s
  | .nvmeTimeout m cid => Sys2Proof.Machine.execNvmeTimeout m cid s
  | .rdmaCompletion m cid ok data => Sys2Proof.Machine.execRdmaCompletion m cid ok data s
  | .keepAlive m target => Sys2Proof.Machine.execKeepAlive m target s
  | .targetConnectionLost m target => Sys2Proof.Machine.execTargetConnectionLost m target s
  | .spanComplete m pipe => Sys2Proof.Machine.execSpanComplete m pipe s
  | .decodeGroupIdleOff m g => Sys2Proof.Machine.execDecodeGroupIdleOff m g s
  | .decodeGroupPowered m g => Sys2Proof.Machine.execDecodeGroupPowered m g s
  | .init h => Sys2Proof.Machine.execInit h s
  | .draw h => Sys2Proof.Machine.execDraw h s
  | .drawSlotReady h => Sys2Proof.Machine.execDrawSlotReady h s
  | .drawLanded h => Sys2Proof.Machine.execDrawLanded h s
  | .hopperSave h => Sys2Proof.Machine.execHopperSave h s
  | .hopperRestore h => Sys2Proof.Machine.execHopperRestore h s
  | .hopperEnableWrite by' h en => Sys2Proof.Machine.execHopperEnableWrite by' h en s
  | .markerSlotReceived l lane bitErrors inverted logical counter onPeriod => Sys2Proof.Machine.execMarkerSlotReceived l lane bitErrors inverted logical counter onPeriod s
  | .laneMarkerMissed l lane => Sys2Proof.Machine.execLaneMarkerMissed l lane s
  | .flitReceived l fec flit => Sys2Proof.Machine.execFlitReceived l fec flit s
  | .replayTimeout l => Sys2Proof.Machine.execReplayTimeout l s
  | .timeWordSend l => Sys2Proof.Machine.execTimeWordSend l s
  | .timeWordReceived l wordFt => Sys2Proof.Machine.execTimeWordReceived l wordFt s
  | .holdoverTimeout => Sys2Proof.Machine.execHoldoverTimeout s
  | .linkEnableWrite by' l en => Sys2Proof.Machine.execLinkEnableWrite by' l en s
  | .retrain l by' => Sys2Proof.Machine.execRetrain l by' s
  | .linkPhaseDone l peerDev peerLink delay => Sys2Proof.Machine.execLinkPhaseDone l peerDev peerLink delay s
  | .bringupTimeout l => Sys2Proof.Machine.execBringupTimeout l s
  | .packetForward from' p => Sys2Proof.Machine.execPacketForward from' p s
  | .mcastReplicate from' p => Sys2Proof.Machine.execMcastReplicate from' p s
  | .write l p => Sys2Proof.Machine.execWrite l p s
  | .read l p => Sys2Proof.Machine.execRead l p s
  | .readData l p => Sys2Proof.Machine.execReadData l p s
  | .writeAck l p => Sys2Proof.Machine.execWriteAck l p s
  | .atomic l p => Sys2Proof.Machine.execAtomic l p s
  | .atomicResult l p => Sys2Proof.Machine.execAtomicResult l p s
  | .busyReply l p => Sys2Proof.Machine.execBusyReply l p s
  | .atomicResend core => Sys2Proof.Machine.execAtomicResend core s
  | .busyBackoff q => Sys2Proof.Machine.execBusyBackoff q s
  | .reject p => Sys2Proof.Machine.execReject p s
  | .fenceNotice p => Sys2Proof.Machine.execFenceNotice p s
  | .fencedSelfClear by' => Sys2Proof.Machine.execFencedSelfClear by' s
  | .peerDataWrite by' data => Sys2Proof.Machine.execPeerDataWrite by' data s
  | .peerEntryApplied f => Sys2Proof.Machine.execPeerEntryApplied f s
  | .groupIndex by' g => Sys2Proof.Machine.execGroupIndex by' g s
  | .groupIndexLoad by' g => Sys2Proof.Machine.execGroupIndexLoad by' g s
  | .ownGenWrite by' gen => Sys2Proof.Machine.execOwnGenWrite by' gen s
  | .reduceScatter ref => Sys2Proof.Machine.execReduceScatter ref s
  | .allGather ref => Sys2Proof.Machine.execAllGather ref s
  | .allReduce ref => Sys2Proof.Machine.execAllReduce ref s
  | .broadcast ref => Sys2Proof.Machine.execBroadcast ref s
  | .anchorMax ref => Sys2Proof.Machine.execAnchorMax ref s
  | .tallyData l p => Sys2Proof.Machine.execTallyData l p s
  | .tallyAnchor l p => Sys2Proof.Machine.execTallyAnchor l p s
  | .tallyGrant p => Sys2Proof.Machine.execTallyGrant p s
  | .tallyAck p => Sys2Proof.Machine.execTallyAck p s
  | .tallyNak p => Sys2Proof.Machine.execTallyNak p s
  | .tallyChunkResend ref peer chunk => Sys2Proof.Machine.execTallyChunkResend ref peer chunk s
  | .tallyPartitionWrite by' f t base mib => Sys2Proof.Machine.execTallyPartitionWrite by' f t base mib s
  | .apply n => Sys2Proof.Machine.execApply n s
  | .pageCommit n => Sys2Proof.Machine.execPageCommit n s
  | .normPartial n => Sys2Proof.Machine.execNormPartial n s
  | .normFinish n => Sys2Proof.Machine.execNormFinish n s
  | .save ref => Sys2Proof.Machine.execSave ref s
  | .restore ref => Sys2Proof.Machine.execRestore ref s
  | .load ref => Sys2Proof.Machine.execLoad ref s
  | .scan ref => Sys2Proof.Machine.execScan ref s
  | .imageData l p => Sys2Proof.Machine.execImageData l p s
  | .imageAck p => Sys2Proof.Machine.execImageAck p s
  | .chestChunkResend ref chunk => Sys2Proof.Machine.execChestChunkResend ref chunk s
  | .chestRequest by' => Sys2Proof.Machine.execChestRequest by' s
  | .resetReqGo by' => Sys2Proof.Machine.execResetReqGo by' s
  | .domainResetDone d trained => Sys2Proof.Machine.execDomainResetDone d trained s
  | .resetBoundExceeded d => Sys2Proof.Machine.execResetBoundExceeded d s
  | .wrapDrainEnd d => Sys2Proof.Machine.execWrapDrainEnd d s
  | .packageReset => Sys2Proof.Machine.execPackageReset s
  | .tenantReset by' t => Sys2Proof.Machine.execTenantReset by' t s
  | .tenantResetDone t => Sys2Proof.Machine.execTenantResetDone t s
  | .healthDecay => Sys2Proof.Machine.execHealthDecay s
  | .ledgerDrain => Sys2Proof.Machine.execLedgerDrain s
  | .tokenRefill p => Sys2Proof.Machine.execTokenRefill p s
  | .summaryIntervalEnd => Sys2Proof.Machine.execSummaryIntervalEnd s
  | .aoTailWrite by' v => Sys2Proof.Machine.execAoTailWrite by' v s
  | .capTailWrite by' v => Sys2Proof.Machine.execCapTailWrite by' v s
  | .refillUsWrite by' p v => Sys2Proof.Machine.execRefillUsWrite by' p v s
  | .depthWrite by' p v => Sys2Proof.Machine.execDepthWrite by' p v s
  | .summaryMsWrite by' v => Sys2Proof.Machine.execSummaryMsWrite by' v s
  | .arm by' at' => Sys2Proof.Machine.execArm by' at' s
  | .freezeNAssert => Sys2Proof.Machine.execFreezeNAssert s
  | .freezeNRelease => Sys2Proof.Machine.execFreezeNRelease s
  | .freezeTaken => Sys2Proof.Machine.execFreezeTaken s
  | .resume by' at' => Sys2Proof.Machine.execResume by' at' s
  | .freezeReset by' => Sys2Proof.Machine.execFreezeReset by' s
  | .resumeReached => Sys2Proof.Machine.execResumeReached s
  | .chainSelWrite by' v => Sys2Proof.Machine.execChainSelWrite by' v s
  | .readoutDataRead by' => Sys2Proof.Machine.execReadoutDataRead by' s
  | .storeDataRead by' => Sys2Proof.Machine.execStoreDataRead by' s
  | .debugEnWrite by' d on => Sys2Proof.Machine.execDebugEnWrite by' d on s
  | .domainOnWrite by' on => Sys2Proof.Machine.execDomainOnWrite by' on s
  | .cclkMhzWrite by' c mhz => Sys2Proof.Machine.execCclkMhzWrite by' c mhz s
  | .cclkChangeDone c => Sys2Proof.Machine.execCclkChangeDone c s
  | .powerMeasurement watts => Sys2Proof.Machine.execPowerMeasurement watts s
  | .cclkRecoveryStep => Sys2Proof.Machine.execCclkRecoveryStep s
  | .dieTemperatureReport d celsius => Sys2Proof.Machine.execDieTemperatureReport d celsius s
  | .thermNAssert => Sys2Proof.Machine.execThermNAssert s
  | .thermNRelease => Sys2Proof.Machine.execThermNRelease s
  | .pStateEntryDone u => Sys2Proof.Machine.execPStateEntryDone u s
  | .wakeTime u => Sys2Proof.Machine.execWakeTime u s
  | .pStateExitDone u => Sys2Proof.Machine.execPStateExitDone u s
  | .wakeAt => Sys2Proof.Machine.execWakeAt s
  | .gateReqWrite by' d sel subtree on => Sys2Proof.Machine.execGateReqWrite by' d sel subtree on s
  | .sourceSelWrite by' d xtal => Sys2Proof.Machine.execSourceSelWrite by' d xtal s
  | .pllRelockDone d => Sys2Proof.Machine.execPllRelockDone d s
  | .meterWindowEnd d m count refStopped => Sys2Proof.Machine.execMeterWindowEnd d m count refStopped s
  | .ftsyncEdge xtalCycles => Sys2Proof.Machine.execFtsyncEdge xtalCycles s
  | .ftsyncMissed => Sys2Proof.Machine.execFtsyncMissed s
  | .roleWrite by' v => Sys2Proof.Machine.execRoleWrite by' v s
  | .sourceWrite by' v => Sys2Proof.Machine.execSourceWrite by' v s
  | .set by' hi lo => Sys2Proof.Machine.execSet by' hi lo s
  | .ptpSync m sync => Sys2Proof.Machine.execPtpSync m sync s
  | .ptpSyncLoss m => Sys2Proof.Machine.execPtpSyncLoss m s
  | .neighbourSolicitation m ip => Sys2Proof.Machine.execNeighbourSolicitation m ip s
  | .congestionNotification m => Sys2Proof.Machine.execCongestionNotification m s
  | .pfcPause m priority => Sys2Proof.Machine.execPfcPause m priority s
  | .ethLinkChange m up => Sys2Proof.Machine.execEthLinkChange m up s
  | .reboot by' => Sys2Proof.Machine.execReboot by' s
  | .svnCommit by' => Sys2Proof.Machine.execSvnCommit by' s
  | .keyRevoke by' mask => Sys2Proof.Machine.execKeyRevoke by' mask s
  | .flashRead by' => Sys2Proof.Machine.execFlashRead by' s
  | .flashProgram by' => Sys2Proof.Machine.execFlashProgram by' s
  | .flashEraseSector by' => Sys2Proof.Machine.execFlashEraseSector by' s
  | .flashOpDone => Sys2Proof.Machine.execFlashOpDone s
  | .smbusStatusRead => Sys2Proof.Machine.execSmbusStatusRead s
  | .smbusPosIdRead => Sys2Proof.Machine.execSmbusPosIdRead s
  | .smbusSerialRead => Sys2Proof.Machine.execSmbusSerialRead s
  | .smbusSetOffset off pecOk => Sys2Proof.Machine.execSmbusSetOffset off pecOk s
  | .smbusReadWord => Sys2Proof.Machine.execSmbusReadWord s
  | .smbusWriteWord data pecOk => Sys2Proof.Machine.execSmbusWriteWord data pecOk s
  | .smbusNotReachableRead => Sys2Proof.Machine.execSmbusNotReachableRead s
  | .smbusWake pecOk => Sys2Proof.Machine.execSmbusWake pecOk s
  | .smbusReboot pecOk => Sys2Proof.Machine.execSmbusReboot pecOk s
  | .smbusFlashAddr addr pecOk => Sys2Proof.Machine.execSmbusFlashAddr addr pecOk s
  | .smbusFlashRead => Sys2Proof.Machine.execSmbusFlashRead s
  | .smbusFlashProgram data pecOk => Sys2Proof.Machine.execSmbusFlashProgram data pecOk s
  | .smbusFlashErase pecOk => Sys2Proof.Machine.execSmbusFlashErase pecOk s
  | .smbusFlashStatus => Sys2Proof.Machine.execSmbusFlashStatus s
  | .smbusTimeout => Sys2Proof.Machine.execSmbusTimeout s
  | .alertResponse => Sys2Proof.Machine.execAlertResponse s
  | .targetConnectionReady m target mdtsKib => Sys2Proof.Machine.execTargetConnectionReady m target mdtsKib s
  | .configurationRequest off data => Sys2Proof.Machine.execConfigurationRequest off data s
  | .pcieLinkChange up speed width flitMode => Sys2Proof.Machine.execPcieLinkChange up speed width flitMode s
  | .trstNAssert low => Sys2Proof.Machine.execTrstNAssert low s

end Sys2Proof.Machine
end

