-- ==== Sys2Proof/Machine/Step.lean ====
section
/-! DEFINITION. Sys2Proof/Machine/Step.lean: one step of the module: the command at the front of its queue, or one FTCLK cycle. -/

namespace Sys2Proof.Machine

/-- One FTCLK cycle with no command: Fabric Time and the timers advance, crossing writes are acknowledged and posted writes
land (R39, R61, R436; log entry 12). In a freeze the clocks of both stand (R396). -/
def tick (s : State) : State :=
  let s := advance s 1
  if frozen s then s else drainPosted (ackCrossing s)

/-- The command at the front of the queue is taken and has its effect; with none waiting one FTCLK cycle passes. -/
def step (s : State) : Host.Outcome State Fault Refusal :=
  match s.pending with
  | [] => .next (tick s)
  | c :: rest => exec c { s with pending := rest }

/-- The state with the command that a word spells in front of its queue; none does. -/
def State.withFetchWord (s : State) (nbits w : Nat) : State :=
  match decodeTableWord nbits w with
  | some c => { s with pending := c :: s.pending }
  | none => s

end Sys2Proof.Machine
end

