-- ==== Sys2Proof/Safety.lean ====
section
/-! DEFINITION. Sys2Proof/Safety.lean: what claims about the whole machine are stated in. -/

namespace Sys2Proof.Machine

/-- Every clock but that of the AO domain is stopped: a freeze is taken (R395), or the package has tripped (R410). -/
def Stopped (s : State) : Prop := frozen s = true ∨ s.power.tripped = true

/-- The clocks run. -/
abbrev Clocked (s : State) : Prop := frozen s = false ∧ s.power.tripped = false

/-- The command answers a next state that meets P. -/
def Yields (c : Instr) (s : State) (P : State → Prop) : Prop := ∃ t, exec c s = .next t ∧ P t

/-- Two states differ in the register file, the Ledger, the outputs and the acknowledged causes of ALERT_N at most. -/
def RegsOnly (s t : State) : Prop :=
  t = { s with regs := t.regs, ledger := t.ledger, out := t.out, pins := { s.pins with acked := t.pins.acked } }

/-- A field reads as before, everywhere but at one place of the register file. -/
def OnlyField (s t : State) (f : Fld) (i j : Nat) : Prop := ∀ k, k ≠ regKey f i j → mapFind t.regs k = mapFind s.regs k

/-- The boot is at a stage, with the clocks running (R417). -/
abbrev AtStage (s : State) (n : Nat) : Prop := s.boot.inRange = true ∧ bootStage s = n ∧ Clocked s

/-- An invariant of the machine: every step from a state that meets it ends in a state that meets it. -/
def Kept (I : State → Prop) : Prop := ∀ s t : State, I s → step s = .next t → I t

/-- Every byte of memory outside [lo, lo + n) is the same in two states. -/
def SameOutside (s t : State) (lo n : Nat) : Prop := ∀ a, a < lo ∨ lo + n ≤ a → memGet t.mem a = memGet s.mem a

/-- The state in which a register write to a page takes effect: the units that it wakes are on their way (R415, R416). -/
def taken (s : State) (w : Writer) (p : Page) : State := if frozen s then s else wakeWrite s w p

/-- A write to a field reaches it in state u: its writer may write it (R429), an expert field is enabled (R431), and a page outside
the AO domain is written outside a freeze only (R396). -/
abbrev Lands (s : State) (w : Writer) (p : Page) (f : Fld) (idx : Nat) (u : State) : Prop :=
  u = taken s w p ∧ permitted f idx w = true ∧ (f.off < 0x800 ∨ rget u Reg.HDR_EXPERT_EN p.num ≠ 0) ∧
    (frozen u = false ∨ p.ao = true)

/-- The Service Bus takes an access of this writer at once: the clocks run, no lock shuts its input out and no bite ignores it. -/
abbrev BusFree (s : State) (w : Writer) : Prop :=
  Clocked s ∧ mapFind s.sbus.ignored w.input.val = none ∧ lockedOut s w.input.val = false

/-- The ownership fields hold no more than their widths. -/
def OwnersFit (s : State) : Prop :=
  ∀ f ∈ [Reg.CSTORE_WAY_OWNER_LO, Reg.CSTORE_WAY_OWNER_HI, Reg.CSTORE_SEG_OWNER_LO, Reg.CSTORE_SEG_OWNER_HI, Reg.HBMC_SET_OWNER_LO,
    Reg.HBMC_SET_OWNER_HI, Reg.STORC_REGION_OWNER], ∀ i j, rget s f i j < 2 ^ f.width

/-- The state in which a read row of this writer reads: its input is not ignored any more (R440), and its command beat has gone by (R436). -/
def busRow (s : State) (w : Writer) : State := busBeats (awaitInput s w.input.val) w.input.val 1 plainBus

/-- A packet of an operation code that is for this module passes the checks of its arrival (R261), in state u. -/
abbrev Passed (s : State) (l : Option LinkId) (p : Packet) (opc : Nat) (u : State) : Prop :=
  Clocked s ∧ pOpc p = opc ∧ (pMcast p = true ∨ pDst p = ownDev s) ∧ admitPacket s l p = (u, true)

/-- A response belongs to operation o of docket e, and no perturbation holds it back (R271, R399). -/
abbrev Answers (u : State) (p : Packet) (e : QEntry) (o : ROp) : Prop :=
  opFor u p = some o ∧ pertResponse u (queueDie o.queue) (pOpc p) (pTenant p) = (false, u) ∧ entryOf u o.queue o.ref = some e

/-- A line can be accessed now: in service, out of reset, with no error that its code has yet to find and no poison. -/
abbrev SoundLine (s : State) (l : Nat) : Prop :=
  outOfService s (64 * l) = false ∧ heldByReset s (64 * l) = false ∧ mapFind s.fills.flaws l = none ∧ l ∉ s.poison

/-- Tenant t may write and read [a, a + n) now: no hole, all of it its own and sound, no fill and no perturbation. -/
abbrev Plain (s : State) (t a n : Nat) : Prop :=
  n ≠ 0 ∧ hasHole a n = false ∧ s.fills.busy = [] ∧ (∀ d : DieId, rget s Reg.PERTURB_DEBUG_EN d.val = 0) ∧
    ∀ l ∈ linesOf a n, mayAccess s t (regionOf (64 * l)) = true ∧ SoundLine s l

/-- The field that a command writes as one register write of its own: writer, page, field, index and value. -/
def fieldWrite (c : Instr) : Option (Writer × Page × Fld × Nat × Nat) :=
  match c with
  | .reboot w => some (w, pmcPage, Reg.PMC_REBOOT, 0, 1)
  | .svnCommit w => some (w, pmcPage, Reg.PMC_SVN_COMMIT, 0, 1)
  | .keyRevoke w m => some (w, pmcPage, Reg.PMC_KEY_REVOKE, 0, m.toNat)
  | .chestRequest w => some (w, chestPage, Reg.CHEST_REQUEST, 0, 1)
  | .roleWrite w v => some (w, ftimePage, Reg.FTIME_ROLE, 0, v.toNat)
  | .sourceWrite w v => some (w, ftimePage, Reg.FTIME_SOURCE, 0, v.toNat)
  | .set w hi _ => some (w, ftimePage, Reg.FTIME_SET_HI, 0, hi.toNat)
  | .sourceSelWrite w d x => some (w, ⟨.clock, d.val⟩, Reg.CLOCK_SOURCE_SEL, 0, b2n x)
  | .gateReqWrite w d _ _ on => some (w, ⟨.clock, d.val⟩, Reg.CLOCK_GATE_REQ, 0, b2n on)
  | .tallyPartitionWrite w f t b _ => some (w, tallyPage f.val, Reg.TALLY_PART_BASE, t.val, b.toNat)
  | .flashRead w => some (w, smbPage, Reg.SMB_FLASH_CMD, 0, 1)
  | .flashProgram w => some (w, smbPage, Reg.SMB_FLASH_CMD, 0, 2)
  | .flashEraseSector w => some (w, smbPage, Reg.SMB_FLASH_CMD, 0, 3)
  | .arm w _ => some (w, freezePage, Reg.FREEZE_ARM, 0, 1)
  | .resume w _ => some (w, freezePage, Reg.FREEZE_RESUME, 0, 1)
  | .freezeReset w => some (w, freezePage, Reg.FREEZE_RESET, 0, 1)
  | .chainSelWrite w v => some (w, freezePage, Reg.FREEZE_CHAIN_SEL, 0, v.toNat)
  | .debugEnWrite w d on => some (w, ⟨.perturb, d.val⟩, Reg.PERTURB_DEBUG_EN, 0, b2n on)
  | .hopperEnableWrite w h en => some (w, hopPage h.val, Reg.HOPPER_HOP_ENABLE, h.val / 2, b2n en)
  | .aoTailWrite w v => some (w, ledgerPage, Reg.LEDGER_AO_TAIL, 0, v.toNat)
  | .capTailWrite w v => some (w, ledgerPage, Reg.LEDGER_CAP_TAIL, 0, v.toNat)
  | .refillUsWrite w p v => some (w, ledgerPage, Reg.LEDGER_REFILL_US, p.val, v.toNat)
  | .depthWrite w p v => some (w, ledgerPage, Reg.LEDGER_DEPTH, p.val, v.toNat)
  | .summaryMsWrite w v => some (w, ledgerPage, Reg.LEDGER_SUMMARY_MS, 0, v.toNat)
  | .linkEnableWrite w l en => some (w, linkPage l.val, Reg.ZLINK_ENABLE, 0, b2n en)
  | .retrain l by' => by'.map (fun w => (w, linkPage l.val, Reg.ZLINK_RETRAIN, 0, 1))
  | .domainOnWrite w on => some (w, powerPage, Reg.POWER_DOMAIN_ON, 0, b2n on)
  | .cclkMhzWrite w k v => some (w, powerPage, Reg.POWER_CCLK_MHZ, k.val, v.toNat)
  | .resetReqGo w => some (w, resetPage, Reg.RESET_REQ_GO, 0, 1)
  | .tenantReset w t => some (w, tenantPage, Reg.TENANT_RESET_CTL_RESET, t.val, 1)
  | .tailWrite (.dock w) n t v => some (w, dockPage n.val, Reg.DOCK_RING_TAIL, t.val, v.toNat)
  | .compHeadWrite (.dock w) n t v => some (w, dockPage n.val, Reg.DOCK_RING_COMP_HEAD, t.val, v.toNat)
  | .ringEnableWrite w n t en => some (w, dockPage n.val, Reg.DOCK_RING_ENABLE, t.val, b2n en)
  | .fencedSelfClear w => some (w, routePage, Reg.ROUTE_FENCED_SELF, 0, 1)
  | .peerDataWrite w v => some (w, routePage, Reg.ROUTE_PEER_DATA, 0, v.toNat)
  | .groupIndex w g => some (w, routePage, Reg.ROUTE_GROUP_INDEX, 0, g.val)
  | .groupIndexLoad w _ => some (w, routePage, Reg.ROUTE_GROUP_INDEX_LOAD, 0, 1)
  | .ownGenWrite w v => some (w, routePage, Reg.ROUTE_OWN_GEN, 0, v.toNat)
  | .tailWrite (.bar2 _) _ _ _ | .compHeadWrite (.bar2 _) _ _ _ | .powerInputInRange | .powerInputOutOfRange | .bladeCurrentLoss _
  | .rom _ _ | .flash | .verify | .powerUp | .selftest _ | .train _ _ | .publish _ | .perstNAssert | .perstNRelease | .functionLevelReset | .bar4Access _ _ _ | .registerWrite _ _ _ _
  | .unmappedWrite _ _ | .rcCounterRead _ _ _ | .nowLoRead _ | .drawnLoRead _ _ | .ro64LowWordRead _ _ | .ctrlLock _ _
  | .sbusWatchdogBite _ | .slotReadReturn _ _ _ | .seqRetry _ _ _ | .docketAccept _ _ | .releaseReached _
  | .counterUpdateVisible _ | .docketDispatch _ | .docketCompletion _ _ | .completionRecordWrite _ _ | .waitTimeout _ _
  | .runTimeout _ _ | .lmma _ | .ltally _ | .vmap _ | .vrow _ | .vtto _ | .vtadd _ | .vtround _ | .vamax _ | .pcopy _
  | .pconv _ | .playout _ | .pgather _ | .pscatter _ | .pfill _ | .chunkLanded _ _ | .ratomic _ | .rfence _ | .rinval _
  | .cnop _ | .cwait _ | .csignal _ | .ownershipWrite _ _ _ _ | .storeFillDone _ | .setOwnershipWrite _ _ _ _
  | .memoryFillDone _ | .patrolScrub _ _ _ | .refreshWindow _ | .stackTemperatureReport _ _ | .ingest _ _ | .spanStart _
  | .nvmeCompletion _ _ _ _ | .nvmeTimeout _ _ | .rdmaCompletion _ _ _ _ | .keepAlive _ _ | .targetConnectionLost _ _
  | .spanComplete _ _ | .decodeGroupIdleOff _ _ | .decodeGroupPowered _ _ | .init _ | .draw _ | .drawSlotReady _
  | .drawLanded _ | .hopperSave _ | .hopperRestore _ | .markerSlotReceived _ _ _ _ _ _ _ | .laneMarkerMissed _ _
  | .flitReceived _ _ _ | .replayTimeout _ | .timeWordSend _ | .timeWordReceived _ _ | .holdoverTimeout
  | .linkPhaseDone _ _ _ _ | .bringupTimeout _ | .packetForward _ _ | .mcastReplicate _ _ | .write _ _ | .read _ _
  | .readData _ _ | .writeAck _ _ | .atomic _ _ | .atomicResult _ _ | .busyReply _ _ | .atomicResend _ | .busyBackoff _
  | .reject _ | .fenceNotice _ | .peerEntryApplied _ | .reduceScatter _ | .allGather _ | .allReduce _ | .broadcast _
  | .anchorMax _ | .tallyData _ _ | .tallyAnchor _ _ | .tallyGrant _ | .tallyAck _ | .tallyNak _ | .tallyChunkResend _ _ _
  | .apply _ | .pageCommit _ | .normPartial _ | .normFinish _ | .save _ | .restore _ | .load _ | .scan _ | .imageData _ _
  | .imageAck _ | .chestChunkResend _ _ | .domainResetDone _ _ | .resetBoundExceeded _ | .wrapDrainEnd _ | .packageReset
  | .tenantResetDone _ | .healthDecay | .ledgerDrain | .tokenRefill _ | .summaryIntervalEnd | .freezeNAssert | .freezeNRelease
  | .freezeTaken | .resumeReached | .readoutDataRead _ | .storeDataRead _ | .cclkChangeDone _ | .powerMeasurement _
  | .cclkRecoveryStep | .dieTemperatureReport _ _ | .thermNAssert | .thermNRelease | .pStateEntryDone _ | .wakeTime _
  | .pStateExitDone _ | .wakeAt | .pllRelockDone _ | .meterWindowEnd _ _ _ _ | .ftsyncEdge _ | .ftsyncMissed | .ptpSync _ _
  | .ptpSyncLoss _ | .neighbourSolicitation _ _ | .congestionNotification _ | .pfcPause _ _ | .ethLinkChange _ _ | .flashOpDone
  | .smbusStatusRead | .smbusPosIdRead | .smbusSerialRead | .smbusSetOffset _ _ | .smbusReadWord | .smbusWriteWord _ _
  | .smbusNotReachableRead | .smbusWake _ | .smbusReboot _ | .smbusFlashAddr _ _ | .smbusFlashRead | .smbusFlashProgram _ _
  | .smbusFlashErase _ | .smbusFlashStatus | .smbusTimeout | .alertResponse | .targetConnectionReady _ _ _
  | .configurationRequest _ _ | .pcieLinkChange _ _ _ _ | .trstNAssert _ => none

/-- The command is work of a clock that a freeze stops (R396): in a freeze it has no effect. -/
def clockWork (c : Instr) : Bool :=
  match c with
  | .retrain _ by' => by'.isNone
  | .tailWrite _ _ _ _ | .compHeadWrite _ _ _ _ | .ringEnableWrite _ _ _ _ | .hopperEnableWrite _ _ _ | .linkEnableWrite _ _ _
  | .fencedSelfClear _ | .peerDataWrite _ _ | .groupIndex _ _ | .groupIndexLoad _ _ | .ownGenWrite _ _
  | .tallyPartitionWrite _ _ _ _ _ | .chestRequest _ | .resetReqGo _ | .tenantReset _ _ | .aoTailWrite _ _ | .capTailWrite _ _
  | .refillUsWrite _ _ _ | .depthWrite _ _ _ | .summaryMsWrite _ _ | .arm _ _ | .resume _ _ | .freezeReset _
  | .chainSelWrite _ _ | .debugEnWrite _ _ _ | .domainOnWrite _ _ | .cclkMhzWrite _ _ _ | .gateReqWrite _ _ _ _ _
  | .sourceSelWrite _ _ _ | .roleWrite _ _ | .sourceWrite _ _ | .set _ _ _ | .reboot _ | .svnCommit _ | .keyRevoke _ _
  | .flashRead _ | .flashProgram _ | .flashEraseSector _ => false
  | .registerWrite _ _ _ _ | .unmappedWrite _ _ | .rcCounterRead _ _ _ | .nowLoRead _ | .drawnLoRead _ _ | .ro64LowWordRead _ _
  | .ctrlLock _ _ | .ownershipWrite _ _ _ _ | .setOwnershipWrite _ _ _ _ | .powerInputInRange | .powerInputOutOfRange
  | .perstNAssert | .perstNRelease | .trstNAssert _ | .thermNAssert | .thermNRelease | .pllRelockDone _ | .ptpSyncLoss _
  | .flashOpDone | .freezeNAssert | .freezeNRelease | .resumeReached | .readoutDataRead _ | .storeDataRead _ | .smbusStatusRead
  | .smbusPosIdRead | .smbusSerialRead | .smbusSetOffset _ _ | .smbusReadWord | .smbusWriteWord _ _ | .smbusNotReachableRead
  | .smbusWake _ | .smbusReboot _ | .smbusFlashAddr _ _ | .smbusFlashRead | .smbusFlashProgram _ _ | .smbusFlashErase _
  | .smbusFlashStatus | .smbusTimeout | .alertResponse => false
  | .bladeCurrentLoss _ | .rom _ _ | .flash | .verify | .powerUp | .selftest _ | .train _ _ | .publish _ | .functionLevelReset
  | .bar4Access _ _ _ | .sbusWatchdogBite _ | .slotReadReturn _ _ _ | .seqRetry _ _ _ | .docketAccept _ _ | .releaseReached _
  | .counterUpdateVisible _ | .docketDispatch _ | .docketCompletion _ _ | .completionRecordWrite _ _ | .waitTimeout _ _
  | .runTimeout _ _ | .lmma _ | .ltally _ | .vmap _ | .vrow _ | .vtto _ | .vtadd _ | .vtround _ | .vamax _ | .pcopy _
  | .pconv _ | .playout _ | .pgather _ | .pscatter _ | .pfill _ | .chunkLanded _ _ | .ratomic _ | .rfence _ | .rinval _
  | .cnop _ | .cwait _ | .csignal _ | .storeFillDone _ | .memoryFillDone _ | .patrolScrub _ _ _ | .refreshWindow _
  | .stackTemperatureReport _ _ | .ingest _ _ | .spanStart _ | .nvmeCompletion _ _ _ _ | .nvmeTimeout _ _
  | .rdmaCompletion _ _ _ _ | .keepAlive _ _ | .targetConnectionLost _ _ | .spanComplete _ _ | .decodeGroupIdleOff _ _
  | .decodeGroupPowered _ _ | .init _ | .draw _ | .drawSlotReady _ | .drawLanded _ | .hopperSave _ | .hopperRestore _
  | .markerSlotReceived _ _ _ _ _ _ _ | .laneMarkerMissed _ _ | .flitReceived _ _ _ | .replayTimeout _ | .timeWordSend _
  | .timeWordReceived _ _ | .holdoverTimeout | .linkPhaseDone _ _ _ _ | .bringupTimeout _ | .packetForward _ _
  | .mcastReplicate _ _ | .write _ _ | .read _ _ | .readData _ _ | .writeAck _ _ | .atomic _ _ | .atomicResult _ _
  | .busyReply _ _ | .atomicResend _ | .busyBackoff _ | .reject _ | .fenceNotice _ | .peerEntryApplied _ | .reduceScatter _
  | .allGather _ | .allReduce _ | .broadcast _ | .anchorMax _ | .tallyData _ _ | .tallyAnchor _ _ | .tallyGrant _ | .tallyAck _
  | .tallyNak _ | .tallyChunkResend _ _ _ | .apply _ | .pageCommit _ | .normPartial _ | .normFinish _ | .save _ | .restore _
  | .load _ | .scan _ | .imageData _ _ | .imageAck _ | .chestChunkResend _ _ | .domainResetDone _ _ | .resetBoundExceeded _
  | .wrapDrainEnd _ | .packageReset | .tenantResetDone _ | .healthDecay | .ledgerDrain | .tokenRefill _ | .summaryIntervalEnd
  | .freezeTaken | .cclkChangeDone _ | .powerMeasurement _ | .cclkRecoveryStep | .dieTemperatureReport _ _ | .pStateEntryDone _
  | .wakeTime _ | .pStateExitDone _ | .wakeAt | .meterWindowEnd _ _ _ _ | .ftsyncEdge _ | .ftsyncMissed | .ptpSync _ _
  | .neighbourSolicitation _ _ | .congestionNotification _ | .pfcPause _ _ | .ethLinkChange _ _ | .targetConnectionReady _ _ _
  | .configurationRequest _ _ | .pcieLinkChange _ _ _ _ => true

/-- A state without what a freeze lets move on: the queue, Fabric Time, and the acknowledgements of the bus. -/
def held (s : State) : State := { s with pending := [], time := TimeSt.reset, sbus := { s.sbus with crossing := [] } }

/-- A frozen module that holds q, with only clock work waiting and no posted write (R396). -/
def FrozenAt (q s : State) : Prop :=
  frozen s = true ∧ s.sbus.posted = [] ∧ (∀ c ∈ s.pending, clockWork c = true) ∧ held s = held q

end Sys2Proof.Machine
end

