-- ==== Sys2Proof/Certificates/Slice0/Obligations.lean ====
section
/-! DEFINITION. Sys2Proof/Certificates/Slice0/Obligations.lean: the statements for the provers. -/

open Sys2Proof Sys2Proof.Machine

/-- A step takes the front command: it is exec of that command on the state with the queue's rest; with none waiting one tick passes. The
model's own choices in it: log entry 5. -/
def Obligations.StepRunsFrontCommand : Prop :=
  (∀ (s : State) (c : Instr) (rest : List Instr), s.pending = c :: rest → step s = exec c { s with pending := rest }) ∧
  (∀ s : State, s.pending = [] → step s = .next (tick s))

/-- Of R396: A frozen module on which only work of stopped clocks waits keeps every part of its state but Fabric Time. The model's own choices
in it: log entry 9. -/
def Obligations.FrozenModuleHoldsItsState : Prop := ∀ q : State, Kept (FrozenAt q)

/-- Of R429, R396: A write by a tenant that may not write the field is discarded and reported with KIND 1. In a freeze a write to a page
outside the AO domain is discarded and reported with KIND 2. -/
def Obligations.DiscardedWritesAreReported : Prop :=
  (∀ (s : State) (c : Instr) (w : Writer) (p : Page) (f : Fld) (idx v : Nat),
    fieldWrite c = some (w, p, f, idx, v) → permitted f idx w = false →
      exec c s = .next (reportFld (taken s w p) p w f idx 1 v (rget s f p.inst idx))) ∧
  (∀ (s : State) (c : Instr) (w : Writer) (p : Page) (f : Fld) (idx v : Nat),
    fieldWrite c = some (w, p, f, idx, v) → permitted f idx w = true → f.off < 0x800 ∨ rget s Reg.HDR_EXPERT_EN p.num ≠ 0 →
      frozen s = true → p.ao = false → exec c s = .next (reportFld s p w f idx 2 v (rget s f p.inst idx)))

/-- Of R41, R62, R155, R264, R403, R417: Before the input comes into range no domain has power, time stands at 0 in state FREE, every ring and
link is disabled, and nothing is queued or stored. The model's own choices in it: log entries 4, 5, 6, 10. -/
def Obligations.ResetLeavesNothingRunning : Prop :=
  State.reset.pending = [] ∧ State.reset.mem = [] ∧ Memory.wf State.reset.mem = true ∧ State.reset.time.ft = 0 ∧
    State.reset.queues = [] ∧ State.reset.power.on = [] ∧ State.reset.boot.inRange = false ∧ bootStage State.reset = 0 ∧
    rget State.reset Reg.FTIME_SYNC_STATE = 0 ∧ rget State.reset Reg.DIMTAB_READY = 0 ∧ frozen State.reset = false ∧
    (∀ l : LinkId, rget State.reset Reg.ZLINK_ENABLE l.val = 0 ∧ rget State.reset Reg.ZLINK_STATE l.val = 0) ∧
    (∀ (n : CDie) (t : TenantId), rget State.reset Reg.DOCK_RING_ENABLE n.val t.val = 0 ∧ rget State.reset Reg.DOCK_RING_STATE n.val t.val = 0) ∧
    step State.reset = .next (advance State.reset 1)

/-- Of R417, R445, R446, R366, R419: The module boots when its input comes into range, loses everything but the flash and the fuses when it
leaves it, and takes a power limit when it loses its blade. A package reset clears every die, keeps the AO domain and the PMC island, and
reruns the boot from POWER_UP; a reboot clears the PMC island too and starts at ROM. The model's own choices in it: log entry 35. -/
def Obligations.PowerAndPackageResets : Prop :=
  ((∀ s : State, s.boot.inRange = false →
    exec .powerInputInRange s = .next { s with boot := { s.boot with inRange := true } }) ∧
  (∀ s : State, Yields .powerInputOutOfRange s (fun t =>
    t.boot.inRange = false ∧ t.regs = [] ∧ t.mem = [] ∧ t.queues = [] ∧ t.power.on = [] ∧ t.boot.image = none ∧
      t.flash.bytes = s.flash.bytes ∧ t.boot.svnUp = s.boot.svnUp ∧ t.boot.revoked = s.boot.revoked ∧ t.pending = s.pending)) ∧
  (∀ (s : State) (mv : Nat), Clocked s → Yields (.bladeCurrentLoss mv) s (fun t =>
    RegsOnly { s with pins := { s.pins with bladeLimit := some (50 * mv / 1000) } } t ∧
      rget t Reg.POWER_CAP_W = rget s Reg.POWER_CAP_W))) ∧
  ((∀ (s : State) (i : Nat), frozen s = false → s.boot.image = some i → tripHolds s = false →
    Yields .packageReset s (fun t =>
      bootStage t = 3 ∧ t.mem = [] ∧ t.poison = [] ∧ t.queues = [] ∧ t.rings = [] ∧ t.links = [] ∧ t.msf = State.reset.msf ∧
        t.power.on = [136] ∧ t.flash = s.flash ∧ t.boot.image = some i ∧ rget t Reg.DIMTAB_READY = 0 ∧
        rget t Reg.RESET_LAST_DOMAIN = 8 ∧ t.pending = s.pending ∧ rget t Reg.LEDGER_CAP_EN = 0)) ∧
  (∀ (s u : State) (w : Writer), Lands s w pmcPage Reg.PMC_REBOOT 0 u → tripHolds u = false →
    Yields (.reboot w) s (fun t =>
      bootStage t = 0 ∧ t.mem = [] ∧ t.queues = [] ∧ t.links = [] ∧ t.flash = u.flash ∧
        t.boot.image = none ∧ t.boot.svnUp = u.boot.svnUp ∧ t.boot.revoked = u.boot.revoked ∧ t.pending = u.pending)))

/-- Of R417, R420, R459, R421, R423, R33: ROM reads the straps and the fuses, FLASH reads an image, and each passes to the stage after it.
VERIFY takes slot A where it verifies, else slot B with a record, else the part stays in RECOVERY. POWER_UP powers every domain, SELFTEST
decides SHAPE_OK, TRAIN counts the parts out of service, PUBLISH sets READY. The model's own choices in it: log entry 35. -/
def Obligations.BootStages : Prop :=
  ((∀ (s : State) (pos : Byte) (refclk : Bool), AtStage s 0 → Yields (.rom pos refclk) s (fun t =>
    bootStage t = 1 ∧ rget t Reg.SMB_POS_ID = pos.toNat ∧ rget t Reg.PCIE_SRIS = b2n (!refclk) ∧
      rget t Reg.PMC_SVN_FUSE = fuseSvn s % 256 ∧ rget t Reg.PMC_KEY_REVOKED = fuseRevoked s % 16 ∧
      domainOn t 136 = true ∧ t.mem = s.mem ∧ t.queues = s.queues ∧ t.flash = s.flash)) ∧
  (∀ s : State, AtStage s 1 → Yields .flash s (fun t =>
    bootStage t = 2 ∧ t = { s with boot := { s.boot with loaded := true }, regs := t.regs } ∧
      OnlyField s t Reg.PMC_BOOT_STAGE 0 0))) ∧
  (∀ s : State, AtStage s 2 →
    (verifySlot s 0 = 0 → Yields .verify s (fun t =>
      bootStage t = 3 ∧ t.boot.image = some 0 ∧ rget t Reg.PMC_IMAGE_SLOT = 0 ∧ rget t Reg.PMC_BOOT_FAIL = 0 ∧
        t.mem = s.mem ∧ t.flash = s.flash)) ∧
    (verifySlot s 0 ≠ 0 → verifySlot s 1 = 0 → Yields .verify s (fun t =>
      bootStage t = 3 ∧ t.boot.image = some 1 ∧ rget t Reg.PMC_IMAGE_SLOT = 1 ∧ t.mem = s.mem ∧ t.flash = s.flash)) ∧
    (verifySlot s 0 ≠ 0 → verifySlot s 1 ≠ 0 → Yields .verify s (fun t =>
      bootStage t = 8 ∧ t.boot.image = s.boot.image ∧ bitAt (rget t Reg.SMB_ALERT_CAUSE) 3 = true ∧ t.mem = s.mem ∧
        t.flash = s.flash))) ∧
  ((∀ s : State, AtStage s 3 → Yields .powerUp s (fun t =>
    bootStage t = 4 ∧ t.power.on = List.range 137 ∧ t.pins.pwrGood = true ∧ t.mem = s.mem ∧ t.queues = s.queues ∧
      (∀ d : Fin 12, rget t Reg.CLOCK_SOURCE_SEL d.val =
        (if rget s Reg.CLOCK_STATUS_XTAL_READY d.val = 1 then 1 else rget s Reg.CLOCK_SOURCE_SEL d.val)))) ∧
  (∀ (s : State) (failed : List (Fin 8 × Fin 9)), AtStage s 4 → Yields (.selftest failed) s (fun t =>
    let of (n : Nat) := benchOf ((List.range 9).filter (fun k => failed.any (fun p => p.1.val == n && p.2.val == k))) (fusedOut n)
    bootStage t = 5 ∧ t.mem = s.mem ∧ t.queues = s.queues ∧
      rget t Reg.DIMTAB_SHAPE_OK = b2n ((List.range 8).all (fun n => (of n).2.2)) ∧
      (∀ n : Fin 8, mapFind t.boot.mapped n.val = (of n.val).1 ∧ mapFind t.boot.bench n.val = some (of n.val).2.1))) ∧
  (∀ (s : State) (ks : List StackId) (cs : List (Fin 32)), AtStage s 5 → Yields (.train ks cs) s (fun t =>
    bootStage t = 6 ∧ t.mem = s.mem ∧ t.queues = s.queues ∧
      rget t Reg.PMC_PARTS_OUT = ((List.finRange 16).filter (fun i => !ks.contains i)).length
        + ((List.finRange 32).filter (fun i => !cs.contains i)).length ∧
      (∀ i : StackId, t.boot.outOf.contains i.val = (s.boot.outOf.contains i.val || !ks.contains i)))) ∧
  (∀ (s : State) (ms : Nat), AtStage s 6 → Yields (.publish ms) s (fun t =>
    rget t Reg.DIMTAB_READY = 1 ∧ t.boot.published = true ∧ t.pcie.rrs = false ∧ bootStage t = 7 ∧ t.mem = s.mem ∧
      t.queues = s.queues)))

/-- Of R422, R462, R467: A commit raises SVN_FUSE to the image's version, a revocation burns its key slots unless it names the one in use. A
flash command that may run starts, one that may not sets the error bit. When a flash operation ends busy clears; a read fills FLASH_DATA,
an erase leaves 0xFF in its 64 KiB sector and every other byte as it was. The model's own choices in it: log entry 40. -/
def Obligations.FlashAndFuses : Prop :=
  ((∀ (s u : State) (w : Writer), Lands s w pmcPage Reg.PMC_SVN_COMMIT 0 u →
    exec (.svnCommit w) s = .next (rset { u with boot := { u.boot with
      svnUp := max u.boot.svnUp (max (rget u Reg.PMC_SVN_FUSE) (rget u Reg.PMC_SVN_IMAGE)) } } Reg.PMC_SVN_FUSE 0 0
      (max (rget u Reg.PMC_SVN_FUSE) (rget u Reg.PMC_SVN_IMAGE)))) ∧
  (∀ (s u : State) (w : Writer) (m : BitVec 4), Lands s w pmcPage Reg.PMC_KEY_REVOKE 0 u →
    (u.boot.image = none ∨ bitAt m.toNat (rget u Reg.PMC_KEY_SLOT) = false) →
      exec (.keyRevoke w m) s = .next (rset { u with boot := { u.boot with revoked := u.boot.revoked ||| m.toNat } }
        Reg.PMC_KEY_REVOKED 0 0 (rget u Reg.PMC_KEY_REVOKED ||| m.toNat))) ∧
  (∀ (s u : State) (w : Writer) (m : BitVec 4), Lands s w pmcPage Reg.PMC_KEY_REVOKE 0 u →
    u.boot.image ≠ none → bitAt m.toNat (rget u Reg.PMC_KEY_SLOT) = true →
      exec (.keyRevoke w m) s = .next (reportFld u pmcPage w Reg.PMC_KEY_REVOKE 0 2 m.toNat (rget u Reg.PMC_KEY_REVOKED)))) ∧
  (∀ (s u : State) (w : Writer) (c : Instr) (n : Nat),
    (c, n) ∈ [(Instr.flashRead w, 1), (Instr.flashProgram w, 2), (Instr.flashEraseSector w, 3)] →
    Lands s w smbPage Reg.SMB_FLASH_CMD 0 u →
      (flashRuns u 2 = true → exec c s = .next (rset { u with flash := { u.flash with
        busy := some { cmd := n, addr := rget u Reg.SMB_FLASH_ADDR, data := flashBuffer u, smbus := false } } }
        Reg.SMB_FLASH_STATUS 0 0 1)) ∧
      (flashRuns u 2 = false → exec c s = .next (rset u Reg.SMB_FLASH_STATUS 0 0 (setBit (rget u Reg.SMB_FLASH_STATUS) 1)))) ∧
  (∀ (s : State) (op : FlashOp), s.flash.busy = some op → Yields .flashOpDone s (fun t =>
    t.flash.busy = none ∧ bitAt (rget t Reg.SMB_FLASH_STATUS) 0 = false ∧ t.mem = s.mem ∧ t.queues = s.queues ∧
      (op.cmd = 1 → t.flash.bytes = s.flash.bytes ∧
        ∀ i : Fin 8, rget t Reg.SMB_FLASH_DATA 0 i.val = leNat (flashBytes s (op.addr + 4 * i.val) 4)) ∧
      (op.cmd = 2 → ∀ a, flashByte t a = if op.addr ≤ a ∧ a < op.addr + 32 then
        flashByte s a &&& BitVec.ofNat 8 (bitsAt op.data.toNat (8 * (a - op.addr)) 8) else flashByte s a) ∧
      (op.cmd = 3 → ∀ a, flashByte t a = if a / 65536 = op.addr / 65536 then 0xFF else flashByte s a)))

/-- Of R460 to R463, R462: Each read of the SMBus port returns its bytes and changes nothing else. The offset is set, and a read or a write of
the word there moves it on by four; where the word cannot be reached it reads zero, a write has no effect, and NOT_REACHABLE is set. The
model's own choices in it: log entry 40. -/
def Obligations.SmbusReadsAndWords : Prop :=
  (∀ s : State, s.boot.inRange = true →
    exec .smbusStatusRead s = .next (smbusReply s (natLe (rget s Reg.PMC_BOOT_STAGE) 1 ++ natLe (rget s Reg.FREEZE_STATUS) 1
      ++ natLe (rget s Reg.POWER_THROTTLE) 1 ++ natLe (rget s Reg.POWER_TEMP_MAX_C) 1 ++ natLe (rget s Reg.POWER_POWER_W) 2
      ++ natLe (rget s Reg.HEALTH_ACT_PARTS) 1 ++ natLe (rget s Reg.HEALTH_WARN_PARTS) 1)) ∧
    exec .smbusPosIdRead s = .next (smbusReply s (natLe (rget s Reg.SMB_POS_ID) 1)) ∧
    exec .smbusSerialRead s = .next (smbusReply s (natLe Config.serial.toNat 8)) ∧
    exec .smbusNotReachableRead s = .next (smbusReply s (natLe (b2n s.smbus.notReachable) 1)) ∧
    exec .smbusFlashStatus s = .next (smbusReply s (natLe (rget s Reg.SMB_FLASH_STATUS) 1))) ∧
  (∀ s : State, s.boot.inRange = true →
    (∀ off : W32, exec (.smbusSetOffset off true) s =
      .next { s with smbus := { s.smbus with off := BitVec.ofNat 32 (off.toNat / 4 * 4) } }) ∧
    (smbusReach s = true → Yields .smbusReadWord s (fun t => ∃ u : State,
      u = (busRead (if aoOnly s then s else busBeats s 13 1 plainBus) s.smbus.off.toNat 0).2 ∧
        t = smbusReply { u with smbus := { off := u.smbus.off + 4, notReachable := false } }
          (natLe (busRead (if aoOnly s then s else busBeats s 13 1 plainBus) s.smbus.off.toNat 0).1 4))) ∧
    (smbusReach s = false → exec .smbusReadWord s =
      .next (smbusReply { s with smbus := { off := s.smbus.off + 4, notReachable := true } } (natLe 0 4))) ∧
    (∀ d : W32, smbusReach s = true → aoOnly s = false → exec (.smbusWriteWord d true) s =
      .next (smbusNext (regWrite s smbusWriter [{ off := s.smbus.off.toNat, data := d, be := 15 }] [] plainBus) true)) ∧
    (∀ d : W32, smbusReach s = false → exec (.smbusWriteWord d true) s =
      .next { s with smbus := { off := s.smbus.off + 4, notReachable := true } }))

/-- Of R460, R416, R419, R462, R463: A write of the port whose PEC does not match is not acknowledged, is counted and has no other effect. The
port wakes the module, reboots it, runs the flash, resets after a stuck line, and answers an alert. The model's own choices in it: log
entries 40, 31. -/
def Obligations.SmbusCommands : Prop :=
  (∀ (s : State) (off d : W32) (data : BitVec 256) (c : Instr), s.boot.inRange = true →
    c ∈ [Instr.smbusSetOffset off false, .smbusWriteWord d false, .smbusWake false, .smbusReboot false, .smbusFlashAddr off false,
      .smbusFlashProgram data false, .smbusFlashErase false] →
    exec c s = .next (emit (rinc s Reg.SMB_PEC_ERRORS) (.smbus [] true))) ∧
  (∀ s : State, s.boot.inRange = true →
    (Clocked s → ∀ n, s.power.sleep = [(584, .asleep n)] → exec (.smbusWake true) s =
      .next { s with power := { s.power with sleep := [(584, .leaving n)] } }) ∧
    (frozen s = false → tripHolds s = false → exec (.smbusReboot true) s = .next (rebootCore s)) ∧
    (∀ a : W32, a.toNat % 32 = 0 → a.toNat < 2 ^ 26 → exec (.smbusFlashAddr a true) s =
      .next (rset s Reg.SMB_FLASH_ADDR 0 0 a.toNat)) ∧
    (flashRuns s 1 = true → Yields .smbusFlashRead s (fun t =>
      t = { s with regs := t.regs, out := .smbus (flashBytes s (rget s Reg.SMB_FLASH_ADDR) 32) false :: s.out } ∧
        rget t Reg.SMB_FLASH_ADDR = (rget s Reg.SMB_FLASH_ADDR + 32) % 2 ^ 26 ∧ rget t Reg.SMB_FLASH_STATUS = 0)) ∧
    (∀ d : BitVec 256, flashRuns s 1 = true → Yields (.smbusFlashProgram d true) s (fun t =>
      t.flash = { s.flash with busy := some { cmd := 2, addr := rget s Reg.SMB_FLASH_ADDR, data := d, smbus := true } } ∧
        rget t Reg.SMB_FLASH_ADDR = (rget s Reg.SMB_FLASH_ADDR + 32) % 2 ^ 26 ∧ t.mem = s.mem ∧ t.queues = s.queues)) ∧
    (flashRuns s 1 = true → Yields (.smbusFlashErase true) s (fun t =>
      t.flash = { s.flash with busy := some { cmd := 3, addr := rget s Reg.SMB_FLASH_ADDR, data := 0, smbus := true } } ∧
        rget t Reg.SMB_FLASH_STATUS = 1 ∧ t = { s with flash := t.flash, regs := t.regs })) ∧
    Yields .smbusTimeout s (fun t => t.smbus = { off := 0, notReachable := false } ∧ t.mem = s.mem ∧ t.queues = s.queues) ∧
    (alertAsserted s = true → Yields .alertResponse s (fun t => alertAsserted t = false ∧ t.out = .smbus [0xB4] false :: s.out ∧
      t = { s with out := t.out, pins := { s.pins with acked := t.pins.acked } })) ∧
    (alertAsserted s = false → exec .alertResponse s = .next (emit s (.smbus [] true))))

/-- Of R153, R418, R464, R2, R451, R452, R465: PERST_N and a function-level reset take the function down and are counted; releasing PERST_N
and moving TRST_N change their pins only. Configuration requests, the PCIe link, and BAR4. The model's own choices in it: log entry 39. -/
def Obligations.HostInterface : Prop :=
  ((∀ s : State, s.pins.perstN = true → Clocked s → exec .perstNAssert s =
    .next (rinc (functionDown { s with pins := { s.pins with perstN := false } }) Reg.PCIE_PERST_COUNT)) ∧
  (∀ s : State, exec .perstNRelease s = .next { s with pins := { s.pins with perstN := true } }) ∧
  (∀ s : State, Clocked s → s.pins.perstN = true → s.pcie.rrs = false → exec .functionLevelReset s =
    .next (rinc (functionDown s) Reg.PCIE_FLR_COUNT)) ∧
  (∀ (s : State) (low : Bool), exec (.trstNAssert low) s = .next { s with pins := { s.pins with trstN := !low } }) ∧
  (∀ s : State, (functionDown s).pcie.enabled = false ∧ (functionDown s).mem = s.mem ∧ (functionDown s).queues = s.queues)) ∧
  (∀ s : State, Clocked s →
    (∀ (off : BitVec 12) (d : Option W32), s.pins.perstN = true → s.pcie.rrs = true →
      exec (.configurationRequest off d) s = .next (emit s .cfgRetry)) ∧
    (s.pins.perstN = true → s.pcie.rrs = false →
      exec (.configurationRequest 0 none) s = .next (emit s (.cfgRead 0x0C511FA7))) ∧
    (∀ (up : Bool) (speed : BitVec 3) (width : BitVec 5) (fm : Bool), (up = false ∨ domainOn s 105 = true) →
      Yields (.pcieLinkChange up speed width fm) s (fun t =>
        rget t Reg.PCIE_LINK_UP = b2n up ∧ rget t Reg.PCIE_LINK_SPEED = speed.toNat ∧ rget t Reg.PCIE_LINK_WIDTH = width.toNat ∧
          rget t Reg.PCIE_FLIT_MODE = b2n fm ∧ t = { s with regs := t.regs })) ∧
    (∀ (off n : Nat), hostUp s = true → off < 0x10000 → off < apertureSize s →
      exec (.bar4Access off none n) s = .next (emit s (.bytes (memRead s.pcie.msix off n)))) ∧
    (∀ (off : Nat) (d : List Byte), hostUp s = true → off < 0x8000 → off < apertureSize s →
      exec (.bar4Access off (some d) d.length) s =
        .next { s with pcie := { s.pcie with msix := memWrite s.pcie.msix off d } }) ∧
    (∀ (off : Nat) (d : List Byte), hostUp s = true → 0x10000 ≤ off → off < apertureSize s → s.power.sleep = [] →
      ((Access.start s 15 none).wr (rget64 s Reg.PCIE_APERTURE_BASE_LO Reg.PCIE_APERTURE_BASE_HI + (off - 0x10000)) d).stalled = false →
      exec (.bar4Access off (some d) d.length) s = .next ((Access.start s 15 none).wr
        (rget64 s Reg.PCIE_APERTURE_BASE_LO Reg.PCIE_APERTURE_BASE_HI + (off - 0x10000)) d).s))

/-- Of R453, R454, R466: What a Mill die's Ethernet port does with a solicitation, a congestion notification, a pause and a link change. -/
def Obligations.EthernetPortEvents : Prop :=
  ∀ (s : State) (m : MDie), Clocked s →
    (∀ ip : BitVec 128, ip.toNat ∈ portAddresses s m.val → exec (.neighbourSolicitation m ip) s =
      .next (emit s (.ethernet m 0 (rget64 s Reg.ETH_MAC_LO Reg.ETH_MAC_HI m.val)))) ∧
    (∀ ip : BitVec 128, ip.toNat ∉ portAddresses s m.val → exec (.neighbourSolicitation m ip) s = .next s) ∧
    Yields (.congestionNotification m) s (fun t =>
      (mapGet t.eth m.val EthSt.reset).rateCuts = (mapGet s.eth m.val EthSt.reset).rateCuts + 1 ∧
        (rget s Reg.ETH_CNP_RECEIVED m.val < 2 ^ 32 - 1 → rget t Reg.ETH_CNP_RECEIVED m.val = rget s Reg.ETH_CNP_RECEIVED m.val + 1) ∧
        t = { s with regs := t.regs, eth := t.eth } ∧ OnlyField s t Reg.ETH_CNP_RECEIVED m.val 0) ∧
    (∀ k : Fin 8, rget s Reg.ETH_PFC_PRIORITY m.val = k.val → Yields (.pfcPause m k) s (fun t =>
      k.val ∈ (mapGet t.eth m.val EthSt.reset).paused ∧ t = { s with regs := t.regs, eth := t.eth } ∧
        OnlyField s t Reg.ETH_PFC_PAUSES m.val 0)) ∧
    (∀ up : Bool, rget s Reg.ETH_LINK_UP m.val ≠ b2n up → exec (.ethLinkChange m up) s =
      .next (msix (rset s Reg.ETH_LINK_UP m.val 0 (b2n up)) 131))

/-- Of R44, R45, R46, R50, R62, R49, R45 to R47, R456: Writes of ROLE, SOURCE and SET. A follower's first word steps it to its parent's time;
later words slew it, 16 within 4 ticks lock it, and one beyond 64 ticks sends it to HOLDOVER; a missing word does so too. Edges of FTSYNC,
missed ones, and the Syncs of a port, set and clear the ready flags and slew FT. The model's own choices in it: log entries 5, 12, 23. -/
def Obligations.FabricTime : Prop :=
  ((∀ (s u : State) (w : Writer) (v : BitVec 2), Lands s w ftimePage Reg.FTIME_ROLE 0 u → v ≠ 3 →
    rget u Reg.FTIME_SYNC_STATE ≠ 4 → crossBusy u ftimePage Reg.FTIME_ROLE = false → Yields (.roleWrite w v) s (fun t =>
      rget t Reg.FTIME_ROLE = v.toNat ∧ rget t Reg.FTIME_SYNC_STATE = (if v = 2 then 1 else 0) ∧ t.time.ft = u.time.ft ∧
        t.time.stepped = false ∧ t.time.streak = 0 ∧ t = { u with regs := t.regs, time := t.time, sbus := t.sbus })) ∧
  (∀ (s u : State) (w : Writer) (v : BitVec 2), Lands s w ftimePage Reg.FTIME_SOURCE 0 u →
    crossBusy u ftimePage Reg.FTIME_SOURCE = false →
    (sourceReady u v.toNat = true → Yields (.sourceWrite w v) s (fun t =>
      rget t Reg.FTIME_SOURCE = v.toNat ∧ t.time = { u.time with slew := 0, slewPhase := 0, ptpStep := false } ∧
        pagePending t ftimePage = true ∧ t = { u with regs := t.regs, time := t.time, sbus := t.sbus } ∧
        OnlyField u t Reg.FTIME_SOURCE 0 0)) ∧
    (sourceReady u v.toNat = false → exec (.sourceWrite w v) s = .next (crossing
      (reportFld u ftimePage w Reg.FTIME_SOURCE 0 2 v.toNat (rget u Reg.FTIME_SOURCE)) ftimePage Reg.FTIME_SOURCE))) ∧
  (∀ (s u : State) (w : Writer) (v : BitVec 2), Lands s w ftimePage Reg.FTIME_SOURCE 0 u →
    crossBusy u ftimePage Reg.FTIME_SOURCE = true → Yields (.sourceWrite w v) s (fun t =>
      (∃ x : CrossWrite, x.f = Reg.FTIME_SOURCE ∧ x.v = v.toNat ∧ t.sbus.crossQ = u.sbus.crossQ ++ [x]) ∧ t = { u with sbus := t.sbus })) ∧
  (∀ (s u : State) (w : Writer) (hi lo : W32), Lands s w ftimePage Reg.FTIME_SET_HI 0 u →
    crossBusy u ftimePage Reg.FTIME_SET_HI = false → rget u Reg.FTIME_ROLE = 0 →
    ((u.time.joined = false ∨ u.time.ft ≤ hi ++ lo) → Yields (.set w hi (some lo)) s (fun t =>
      t.time = { u.time with ft := hi ++ lo, slew := 0, slewPhase := 0 } ∧ t.mem = u.mem ∧ t.queues = u.queues)) ∧
    (u.time.joined = true → hi ++ lo < u.time.ft → Yields (.set w hi (some lo)) s (fun t => t.time = u.time)))) ∧
  (∀ (s : State) (l : LinkId) (w : W64), frozen s = false → rget s Reg.FTIME_ROLE = 2 →
    rget s Reg.FTIME_PARENT_LINK = l.val → rget s Reg.FTIME_SYNC_STATE ≠ 4 →
    let o := (w + BitVec.ofNat 64 (delayNs s l.val) - s.time.ft).toInt
    (s.time.stepped = false → s.time.joined = false → Yields (.timeWordReceived l w) s (fun t =>
      t.time.ft = w + BitVec.ofNat 64 (delayNs s l.val) ∧ t.time.stepped = true ∧ rget t Reg.FTIME_SYNC_STATE = 1)) ∧
    (s.time.stepped = false → s.time.joined = true → o ≤ 0 → Yields (.timeWordReceived l w) s (fun t =>
      t.time.ft = s.time.ft ∧ t.time.pause = o.natAbs ∧ t.time.stepped = true)) ∧
    (s.time.stepped = true → rget s Reg.FTIME_SYNC_STATE = 1 → o.natAbs ≤ 4 → 15 ≤ s.time.streak → s.time.pause = 0 →
      Yields (.timeWordReceived l w) s (fun t =>
        rget t Reg.FTIME_SYNC_STATE = 2 ∧ t.time.joined = true ∧ t.time.slew = o ∧ t.time.ft = s.time.ft)) ∧
    (s.time.stepped = true → rget s Reg.FTIME_SYNC_STATE = 2 → 64 < o.natAbs →
      Yields (.timeWordReceived l w) s (fun t => rget t Reg.FTIME_SYNC_STATE = 3 ∧ t.time.ft = s.time.ft ∧ t.mem = s.mem)) ∧
    (rget s Reg.FTIME_SYNC_STATE ≠ 3 → Yields .holdoverTimeout s (fun t =>
      rget t Reg.FTIME_SYNC_STATE = 3 ∧ t.time.slew = 0 ∧ t.time.streak = 0 ∧ t.mem = s.mem))) ∧
  (∀ s : State, frozen s = false →
    (∀ n : Nat, s.time.sawPulse = true → 24997500 ≤ n → n ≤ 25002500 → 1 ≤ s.time.goodSync → Yields (.ftsyncEdge n) s (fun t =>
      bitAt (rget t Reg.FTIME_REF_READY) 1 = true ∧ t.time.goodSync = s.time.goodSync + 1 ∧ t.time.missedSync = 0 ∧
        t = { s with regs := t.regs, time := t.time } ∧ OnlyField s t Reg.FTIME_REF_READY 0 0)) ∧
    (∀ n : Nat, (s.time.sawPulse = false ∨ n < 24997500 ∨ 25002500 < n) → Yields (.ftsyncEdge n) s (fun t =>
      t.time.goodSync = 0 ∧ t.time.sawPulse = true ∧ rget t Reg.FTIME_REF_READY = rget s Reg.FTIME_REF_READY)) ∧
    (s.time.missedSync = 1 → Yields .ftsyncMissed s (fun t => bitAt (rget t Reg.FTIME_REF_READY) 1 = false ∧
      rget t Reg.FTIME_SOURCE = (if rget s Reg.FTIME_SOURCE = 1 then 0 else rget s Reg.FTIME_SOURCE) ∧ t.mem = s.mem)) ∧
    (∀ (m : MDie) (o : Int) (ns : W64), rget s Reg.ETH_PTP_EN m.val = 1 → o.natAbs ≤ 50 →
      15 ≤ (mapGet s.eth m.val EthSt.reset).ptpStreak → Yields (.ptpSync m ⟨o, ns⟩) s (fun t =>
        rget t Reg.ETH_PTP_LOCKED m.val = 1 ∧ bitAt (rget t Reg.FTIME_REF_READY) (2 + m.val) = true ∧
          rget t Reg.ETH_PTP_OFFSET_NS m.val = twos 32 o ∧ t = { s with regs := t.regs, time := t.time, eth := t.eth } ∧
          (rget s Reg.FTIME_SOURCE ≠ 2 + m.val ∨ rget s Reg.FTIME_ROLE = 2 → t.time = s.time) ∧
          (rget s Reg.FTIME_SOURCE = 2 + m.val → rget s Reg.FTIME_ROLE ≠ 2 → s.time.ptpStep = false → s.time.joined = false →
            t.time = { s.time with ft := ns, slew := 0, ptpStep := true }) ∧
          (rget s Reg.FTIME_SOURCE = 2 + m.val → rget s Reg.FTIME_ROLE ≠ 2 → s.time.ptpStep = true → s.time.pause = 0 →
            t.time = { s.time with slew := (ns - s.time.ft).toInt }))) ∧
    (∀ m : MDie, rget s Reg.ETH_PTP_LOCKED m.val = 1 → Yields (.ptpSyncLoss m) s (fun t =>
      rget t Reg.ETH_PTP_LOCKED m.val = 0 ∧ bitAt (rget t Reg.FTIME_REF_READY) (2 + m.val) = false ∧
        (mapGet t.eth m.val EthSt.reset).ptpStreak = 0 ∧ t = { s with regs := t.regs, eth := t.eth })))

/-- Of R52 to R58: Clock sources, relocks, meters and gates. The model's own choices in it: log entries 12, 23. -/
def Obligations.ClockTreeCommands : Prop :=
  (∀ (s u : State) (w : Writer) (d : DieId) (x : Bool), Lands s w ⟨.clock, d.val⟩ Reg.CLOCK_SOURCE_SEL 0 u →
    (x = false ∨ rget u Reg.CLOCK_STATUS_XTAL_READY d.val ≠ 0) → crossBusy u ⟨.clock, d.val⟩ Reg.CLOCK_SOURCE_SEL = false →
    Yields (.sourceSelWrite w d x) s (fun t =>
      rget t Reg.CLOCK_SOURCE_SEL d.val = b2n x ∧ (clockOf t d.val).relock = true ∧
        t = { u with regs := t.regs, clocks := t.clocks, sbus := t.sbus } ∧ OnlyField u t Reg.CLOCK_SOURCE_SEL d.val 0)) ∧
  (∀ (s u : State) (w : Writer) (d : DieId), Lands s w ⟨.clock, d.val⟩ Reg.CLOCK_SOURCE_SEL 0 u →
    rget u Reg.CLOCK_STATUS_XTAL_READY d.val = 0 → exec (.sourceSelWrite w d true) s =
      .next (reportFld u ⟨.clock, d.val⟩ w Reg.CLOCK_SOURCE_SEL 0 2 1 (rget u Reg.CLOCK_SOURCE_SEL d.val))) ∧
  (∀ (s : State) (d : DieId), (clockOf s d.val).relock = true → Yields (.pllRelockDone d) s (fun t =>
    (clockOf t d.val).relock = false ∧ (clockOf t d.val).coast = [] ∧ rget t Reg.CLOCK_STATUS_COAST d.val = 0 ∧
      t.time.ft = s.time.ft ∧ t.mem = s.mem ∧ t.queues = s.queues)) ∧
  (∀ (s : State) (d : DieId) (m : Fin 8) (n : W32), exec (.meterWindowEnd d m n true) s = .next s) ∧
  (∀ (s : State) (d : DieId) (m : Fin 8) (n : W32), frozen s = false → n ≠ 0 →
    let c := meterCfg s d.val m.val
    let ppm := meterPpm n.toNat c.mhz (nominalMHz s d.val c.ref)
    ((clockOf s d.val).spoiled.contains m.val = false → clockOff s d.val c.clk = false → ppm.natAbs ≤ c.warn → ppm.natAbs ≤ c.fail →
      Yields (.meterWindowEnd d m n false) s (fun t =>
        rget t Reg.CLOCK_METER_COUNT d.val m.val = n.toNat ∧ rget t Reg.CLOCK_METER_PPM d.val m.val = twos 32 ppm ∧
          t = { s with regs := t.regs, clocks := t.clocks, time := t.time } ∧ t.time.ft = s.time.ft)) ∧
    ((clockOf s d.val).spoiled.contains m.val = true ∨ clockOff s d.val c.clk = true → Yields (.meterWindowEnd d m n false) s (fun t =>
      t = { s with clocks := t.clocks, time := t.time } ∧ t.time.ft = s.time.ft ∧ (clockOf t d.val).off = (clockOf s d.val).off))) ∧
  (∀ (s u : State) (w : Writer) (d : DieId) (sub : Bool), Lands s w ⟨.clock, d.val⟩ Reg.CLOCK_GATE_REQ 0 u → sub = false →
    crossBusy u ⟨.clock, d.val⟩ Reg.CLOCK_GATE_REQ = false → crossBusy u ⟨.clock, d.val⟩ Reg.CLOCK_GATE_SUBTREE = false →
    refusers u d.val (rget u Reg.CLOCK_GATE_SEL d.val) = [] → Yields (.gateReqWrite w d none sub false) s (fun t =>
      rget u Reg.CLOCK_GATE_SEL d.val ∈ (clockOf t d.val).off ∧
        t = { u with regs := t.regs, clocks := t.clocks, sbus := t.sbus } ∧ OnlyField u t Reg.CLOCK_GATE_SUBTREE d.val 0)) ∧
  (∀ (s u : State) (w : Writer) (d : DieId), Lands s w ⟨.clock, d.val⟩ Reg.CLOCK_GATE_REQ 0 u →
    crossBusy u ⟨.clock, d.val⟩ Reg.CLOCK_GATE_REQ = false → crossBusy u ⟨.clock, d.val⟩ Reg.CLOCK_GATE_SUBTREE = false →
    Yields (.gateReqWrite w d none false true) s (fun t => rget u Reg.CLOCK_GATE_SEL d.val ∉ (clockOf t d.val).off ∧
      t = { u with regs := t.regs, clocks := t.clocks, sbus := t.sbus }))

/-- Of R395 to R398, R397, R399, R402, R440: Arming a freeze, the pin, the instant at which the clocks stop, and the end. The read-out of a
frozen part, and enabling perturbation. The model's own choices in it: log entries 32, 37. -/
def Obligations.FreezeAndReadOut : Prop :=
  ((∀ (s u : State) (w : Writer) (v : W64), Lands s w freezePage Reg.FREEZE_ARM 0 u → frozen u = false →
    Yields (.arm w (some v)) s (fun t =>
      rget t Reg.FREEZE_ARM = 1 ∧ freezeAt t = v.toNat ∧ statusBit t 4 = decide (v.toNat ≤ u.time.ft.toNat) ∧
        frozen t = false ∧ t = { u with regs := t.regs })) ∧
  (∀ s : State, statusBit s 1 = false → frozen s = false → rget s Reg.FREEZE_PIN_PROPAGATE = 0 → Yields .freezeNAssert s (fun t =>
    statusBit t 1 = true ∧ t.freeze = { s.freeze with pinAt := some (s.time.ft + 64), pinEnd := none } ∧
      t = { s with regs := t.regs, freeze := t.freeze } ∧ OnlyField s t Reg.FREEZE_STATUS 0 0)) ∧
  (∀ s : State, statusBit s 1 = true → Yields .freezeNRelease s (fun t =>
    statusBit t 1 = false ∧
      t.freeze = { s.freeze with pinEnd := some (s.time.ft + BitVec.ofNat 64 (1000 * rget s Reg.FREEZE_RESUME_LEAD_US)) } ∧
      t = { s with regs := t.regs, freeze := t.freeze } ∧ OnlyField s t Reg.FREEZE_STATUS 0 0)) ∧
  (∀ (s : State) (v : Nat), frozen s = false → freezeInstant s = some v → s.time.ft.toNat < v → v < 2 ^ 64 →
    Yields .freezeTaken s (fun t =>
      frozen t = true ∧ rget64 t Reg.FREEZE_FROZEN_FT_LO Reg.FREEZE_FROZEN_FT_HI = t.time.ft.toNat ∧ v ≤ t.time.ft.toNat ∧
        rget t Reg.FREEZE_ARM = 0 ∧ t.freeze.pinAt = none ∧ t.mem = s.mem ∧ t.msf = s.msf ∧ t.links = s.links)) ∧
  (∀ (s u : State) (w : Writer) (v : W64), Lands s w freezePage Reg.FREEZE_RESUME 0 u → frozen u = true → statusBit u 1 = false →
    Yields (.resume w (some v)) s (fun t => t.freeze.resumeAt = some v ∧ frozen t = true ∧
      t = { u with regs := t.regs, freeze := t.freeze })) ∧
  (∀ (s : State) (v : Nat), frozen s = true → thawInstant s = some v → s.power.thermLow = false → Yields .resumeReached s (fun t =>
    ∃ u : State, frozen u = false ∧ u.freeze.resumeAt = none ∧ u.freeze.pinEnd = none ∧ u.mem = s.mem ∧ u.queues = s.queues ∧
      u.time.cyc = s.time.cyc ∧ t = (s.queues.map (·.1)).foldl evalHeads u)) ∧
  (∀ (s u : State) (w : Writer) (i : Nat), Lands s w freezePage Reg.FREEZE_RESET 0 u → frozen u = true → statusBit u 1 = false →
    tripHolds u = false → u.boot.image = some i → Yields (.freezeReset w) s (fun t =>
      frozen t = false ∧ bootStage t = 3 ∧ t.mem = [] ∧ t.queues = [] ∧ t.flash = u.flash ∧ t.boot.image = some i))) ∧
  ((∀ (s u : State) (w : Writer) (v : Byte), Lands s w freezePage Reg.FREEZE_CHAIN_SEL 0 u → v.toNat % 16 < chainsOf (v.toNat / 16) →
    exec (.chainSelWrite w v) s = .next (rset { u with freeze := { u.freeze with pos := 0 } } Reg.FREEZE_CHAIN_SEL 0 0 v.toNat)) ∧
  (∀ (s : State) (w : Writer), reachesAo s w = true → exec (.readoutDataRead w) s =
    .next (emit (readoutNext s).2 (.readData (BitVec.ofNat 32 (readoutNext s).1)))) ∧
  (∀ (s : State) (w : Writer), reachesAo s w = true → exec (.storeDataRead w) s =
    .next (emit (storeNext s).2 (.readData (BitVec.ofNat 32 (storeNext s).1)))) ∧
  (∀ (s : State) (w : Writer), frozen s = true → w.input ≠ 13 → w.input ≠ 15 →
    exec (.readoutDataRead w) s = .next s ∧ exec (.storeDataRead w) s = .next s) ∧
  (∀ (s u : State) (w : Writer) (d : DieId), Lands s w ⟨.perturb, d.val⟩ Reg.PERTURB_DEBUG_EN 0 u →
    rget u Reg.PMC_DEBUG_PERMIT = 1 → exec (.debugEnWrite w d true) s = .next (rset u Reg.PERTURB_DEBUG_EN d.val 0 1)) ∧
  (∀ (s u : State) (w : Writer) (d : DieId), Lands s w ⟨.perturb, d.val⟩ Reg.PERTURB_DEBUG_EN 0 u →
    exec (.debugEnWrite w d false) s = .next (clearPerturb u d.val)))

/-- Of R404, R406, R407, R61: Switching a link quad or a decode group, and refusing where a span, the time parent or the domain's kind forbids
it. A write of CCLK_MHZ clamps to the nearest step and begins a change, or waits behind one; a change that is done shows in CCLK_APPLIED.
The model's own choices in it: log entry 37. -/
def Obligations.OperatingPoints : Prop :=
  (∀ (s u : State) (w : Writer) (on : Bool), Lands s w powerPage Reg.POWER_DOMAIN_ON 0 u →
    let i := rget u Reg.POWER_DOMAIN_SEL
    (isQuad i = true ∨ isGroup i = true →
      (on = true → Yields (.domainOnWrite w on) s (fun t => domainOn t i = true ∧ t = { u with power := t.power })) ∧
      (on = false → domainOn u i = true → offRefused u i = true → Yields (.domainOnWrite w on) s (fun t =>
        t.power = u.power ∧ rget t Reg.POWER_DOMAIN_REFUSED = (i + 1) % 256 ∧ t.links = u.links ∧ t.mem = u.mem)) ∧
      (on = false → domainOn u i = true → offRefused u i = false → isQuad i = false →
        exec (.domainOnWrite w on) s = .next (domainsOff u [i])) ∧
      (on = false → domainOn u i = true → offRefused u i = false → isQuad i = true →
        exec (.domainOnWrite w on) s = .next (domainsOff (quadOff u i) [i]))) ∧
    (isQuad i = false → isGroup i = false → exec (.domainOnWrite w on) s =
      .next (reportFld u powerPage w Reg.POWER_DOMAIN_ON 0 2 (b2n on) (b2n (domainOn u i))))) ∧
  ((∀ (s u : State) (w : Writer) (c : ClusterId) (v : BitVec 12), Lands s w powerPage Reg.POWER_CCLK_MHZ c.val u →
    400 ≤ v.toNat → v.toNat ≤ 2400 → v.toNat % 25 = 0 →
      (mapFind u.power.cclk c.val = none → exec (.cclkMhzWrite w c v) s = .next (rset { u with power := { u.power with
        cclk := mapSet u.power.cclk c.val { target := v.toNat, next := none, since := u.time.cyc } } } Reg.POWER_CCLK_MHZ 0 c.val v.toNat)) ∧
      (∀ ch, mapFind u.power.cclk c.val = some ch → exec (.cclkMhzWrite w c v) s = .next { u with power := { u.power with
        cclk := mapSet u.power.cclk c.val { ch with next := some v.toNat } } })) ∧
  (∀ (s u : State) (w : Writer) (c : ClusterId) (v : BitVec 12), Lands s w powerPage Reg.POWER_CCLK_MHZ c.val u →
    2400 < v.toNat → mapFind u.power.cclk c.val = none → Yields (.cclkMhzWrite w c v) s (fun t =>
      mapFind t.power.cclk c.val = some { target := 2400, next := none, since := u.time.cyc })) ∧
  (∀ (s u : State) (c : ClusterId) (v b : Nat), Clocked s → mapFind s.power.cclk c.val = some { target := v, next := none, since := b } →
    coasting s c.val = false → mapGet s.power.capHeld c.val 0 = 0 → u = advanceTo s (b + rampNs s c.val v) →
      Yields (.cclkChangeDone c) s (fun t => rget t Reg.POWER_CCLK_APPLIED 0 c.val = v % 4096 ∧ b + rampNs s c.val v ≤ t.time.cyc ∧
        t = { u with regs := t.regs, clocks := t.clocks, power := { u.power with cclk := mapErase u.power.cclk c.val } } ∧
        OnlyField s t Reg.POWER_CCLK_APPLIED 0 c.val)) ∧
  (∀ (s : State) (c : ClusterId) (v n b : Nat), Clocked s → mapFind s.power.cclk c.val = some { target := v, next := some n, since := b } →
    coasting s c.val = false → mapGet s.power.capHeld c.val 0 = 0 → Yields (.cclkChangeDone c) s (fun t =>
      mapFind t.power.cclk c.val = some { target := n, next := none, since := t.time.cyc } ∧
        rget t Reg.POWER_CCLK_APPLIED 0 c.val = v % 4096 ∧ rget t Reg.POWER_CCLK_MHZ 0 c.val = n % 4096)))

/-- Of R408, R409, R445, R410, R411: A reading within the limit is shown; one above it lowers every powered cluster by 25 MHz, to 400 MHz at
least; below 98 % of the limit the held clusters rise. A die's report shows the hottest junction; at TRIP_C the part trips and loses its
memory; THERM_N sets the floor. The model's own choices in it: log entries 37, 38. -/
def Obligations.PowerAndTemperatureLimits : Prop :=
  ((∀ (s : State) (watts : Nat), Clocked s → watts ≤ capW s → Yields (.powerMeasurement watts) s (fun t =>
    rget t Reg.POWER_POWER_W = min watts 4095 ∧ OnlyField s t Reg.POWER_POWER_W 0 0 ∧ t.mem = s.mem ∧ t.power = s.power)) ∧
  (∀ (s : State) (watts : Nat) (c : ClusterId), Clocked s → capW s < watts → clusterOn s c.val = true →
    425 ≤ rget s Reg.POWER_CCLK_APPLIED 0 c.val → rget s Reg.POWER_CCLK_APPLIED 0 c.val < 4096 →
      Yields (.powerMeasurement watts) s (fun t =>
        rget t Reg.POWER_CCLK_APPLIED 0 c.val = rget s Reg.POWER_CCLK_APPLIED 0 c.val - 25 ∧
          bitAt (mapGet t.power.capHeld c.val 0) 0 = true ∧ t.mem = s.mem)) ∧
  (∀ s : State, Clocked s → s.power.floor = false → 98 * capW s ≤ 100 * rget s Reg.POWER_POWER_W →
    Yields .cclkRecoveryStep s (fun t => t.regs = s.regs ∧ t.power = s.power ∧ t.mem = s.mem)) ∧
  (∀ (s : State) (c k : Nat), Clocked s → s.power.floor = false → 100 * rget s Reg.POWER_POWER_W < 98 * capW s →
    s.power.capHeld = [(c, k)] → k ≠ 0 → s.power.hot = [] → coasting s c = false →
    rget s Reg.POWER_CCLK_APPLIED 0 c + 25 < rget s Reg.POWER_CCLK_MHZ 0 c → rget s Reg.POWER_CCLK_MHZ 0 c < 4096 → c < 64 →
      Yields .cclkRecoveryStep s (fun t =>
        rget t Reg.POWER_CCLK_APPLIED 0 c = rget s Reg.POWER_CCLK_APPLIED 0 c + 25 ∧ t.power.capHeld = [(c, k)] ∧ t.mem = s.mem))) ∧
  ((∀ (s : State) (d : DieId) (celsius : Nat), Clocked s → celsius + 5 < rget s Reg.POWER_THROTTLE_C →
    rget s Reg.POWER_THROTTLE_C ≤ rget s Reg.POWER_TRIP_C → Yields (.dieTemperatureReport d celsius) s (fun t =>
      mapFind t.power.temp d.val = some celsius ∧ d.val ∉ t.power.hot ∧ t.power.tripped = false ∧
        rget t Reg.POWER_TEMP_MAX_C = min 255 (tempMax t) ∧ t.mem = s.mem ∧ t.queues = s.queues)) ∧
  (∀ (s : State) (d : DieId) (celsius : Nat), Clocked s → rget s Reg.POWER_TRIP_C ≤ celsius →
    Yields (.dieTemperatureReport d celsius) s (fun t =>
      t.power.tripped = true ∧ t.power.on = [136] ∧ t.mem = [] ∧ t.queues = [] ∧ t.pins.pwrGood = false ∧ t.flash = s.flash ∧
        bitAt (rget t Reg.POWER_THROTTLE) 3 = true ∧ bitAt (rget t Reg.SMB_ALERT_CAUSE) 2 = true ∧ bootStage t = bootStage s % 16)) ∧
  (∀ (s : State), Clocked s → bootStage s ≠ 0 → exec .thermNAssert s =
    .next (floorOn { s with power := { s.power with thermLow := true } })) ∧
  (∀ (s : State) (c : ClusterId), 400 < rget s Reg.POWER_CCLK_APPLIED 0 c.val →
    rget s Reg.POWER_CCLK_APPLIED 0 c.val < 4096 →
      rget (floorOn s) Reg.POWER_CCLK_APPLIED 0 c.val = 400 ∧ (floorOn s).power.floor = true ∧ (floorOn s).mem = s.mem) ∧
  (∀ s : State, exec .thermNRelease s =
    .next { s with power := { s.power with thermLow := false, floorEnd := s.time.cyc + 1000000000 } }))

/-- Of R412 to R416: A unit ends its entry asleep, wakes at its time, and ends its exit awake; WAKE_AT ends P4. The model's own choices in it:
log entry 31. -/
def Obligations.PowerStates : Prop :=
  (∀ (s : State) (u : PowerUnit) (n : Fin 5), Clocked s → sleepOf s (unitKey u) = some (.entering n false) →
    Yields (.pStateEntryDone u) s (fun t => sleepOf t (unitKey u) = some (.asleep n) ∧ t.mem = s.mem ∧
      (∀ i, i ∈ unitDomains s (unitKey u) → unitKey u ≠ moduleUnit → i ∉ t.power.on))) ∧
  (∀ (s : State) (u : PowerUnit) (n : Fin 5), Clocked s → sleepOf s (unitKey u) = some (.entering n true) →
    Yields (.pStateEntryDone u) s (fun t => sleepOf t (unitKey u) = some (.leaving n) ∧ t.mem = s.mem)) ∧
  (∀ (s : State) (u : PowerUnit) (n : Fin 5) (ns : Nat), Clocked s → sleepOf s (unitKey u) = some (.asleep n) →
    nextEvent s (unitKey u) = some ns → exec (.wakeTime u) s =
      .next (setSleep (advance s (ns - exitGuard s n.val)) (unitKey u) (some (.leaving n)))) ∧
  (∀ (s : State) (u : PowerUnit) (n : Fin 5), Clocked s → sleepOf s (unitKey u) = some (.leaving n) →
    exec (.pStateExitDone u) s = .next (evalAll (exitDone s (unitKey u))) ∧
      sleepOf (exitDone s (unitKey u)) (unitKey u) = none) ∧
  (∀ (s : State) (n : Fin 5), Clocked s → sleepOf s moduleUnit = some (.asleep n) →
    rget64 s Reg.POWER_WAKE_AT_LO Reg.POWER_WAKE_AT_HI ≠ 0 → Yields .wakeAt s (fun t =>
      sleepOf t moduleUnit = some (.leaving n) ∧ t.mem = s.mem ∧
        BitVec.ofNat 64 (rget64 s Reg.POWER_WAKE_AT_LO Reg.POWER_WAKE_AT_HI) ≤ t.time.ft))

/-- Of R390 to R393, R401: The tails of the Ledger's rings, its drain, its buckets and its summaries. -/
def Obligations.LedgerCommands : Prop :=
  (∀ (s u : State) (w : Writer) (p n : Nat) (rest : List (Nat × Nat)), Lands s w ledgerPage Reg.LEDGER_AO_TAIL 0 u →
    rget u Reg.LEDGER_CAP_EN = 0 → u.ledger.lost = 0 → u.ledger.recs = (p, n) :: rest → rget u Reg.LEDGER_AO_TAIL = p →
    0 < n → p + n < 4096 → (∀ r ∈ rest, 0 < r.2) →
      exec (.aoTailWrite w (BitVec.ofNat 12 (p + n))) s =
        .next (rset { u with ledger := { u.ledger with recs := rest } } Reg.LEDGER_AO_TAIL 0 0 (p + n))) ∧
  (∀ (s u : State) (w : Writer) (v : BitVec 12), Lands s w ledgerPage Reg.LEDGER_AO_TAIL 0 u → rget u Reg.LEDGER_CAP_EN = 1 →
    exec (.aoTailWrite w v) s = .next (reportFld u ledgerPage w Reg.LEDGER_AO_TAIL 0 2 v.toNat (rget u Reg.LEDGER_AO_TAIL))) ∧
  (∀ (s u : State) (w : Writer) (p n : Nat) (rest : List (Nat × Nat)), Lands s w ledgerPage Reg.LEDGER_CAP_TAIL 0 u →
    u.ledger.lost = 0 → u.ledger.capLost = 0 → u.ledger.capRecs = (p, n) :: rest → rget u Reg.LEDGER_CAP_TAIL = p →
    0 < n → p + n < capUnits u → p + n < 2 ^ 26 → (∀ r ∈ rest, 0 < r.2) →
      exec (.capTailWrite w (BitVec.ofNat 26 (p + n))) s =
        .next (rset { u with ledger := { u.ledger with capRecs := rest } } Reg.LEDGER_CAP_TAIL 0 0 (p + n))) ∧
  (∀ (s : State) (p n : Nat) (rest : List (Nat × Nat)), mayDrain s = true → s.ledger.recs = (p, n) :: rest → s.ledger.lost = 0 →
    leNat (((memRead s.ledger.ao (16 * p) (16 * n)).drop 6).take 2) = 0xFFFF → exec .ledgerDrain s =
      .next (rset { s with ledger := { s.ledger with recs := rest } } Reg.LEDGER_AO_TAIL 0 0 ((p + n) % 4096))) ∧
  (∀ (s : State) (p n : Nat) (rest : List (Nat × Nat)), mayDrain s = true → s.ledger.recs = (p, n) :: rest →
    leNat (((memRead s.ledger.ao (16 * p) (16 * n)).drop 6).take 2) ≠ 0xFFFF →
    let x := capCollect s (memRead s.ledger.ao (16 * p) (16 * n)) n
    (x.stalled = true → exec .ledgerDrain s = .next s) ∧
    (x.stalled = false → exec .ledgerDrain s = .next (lostRecord (rset { x.s with
      ledger := { x.s.ledger with recs := rest ++ x.s.ledger.recs.drop (rest.length + 1) } } Reg.LEDGER_AO_TAIL 0 0 ((p + n) % 4096))))) ∧
  (∀ (s : State) (p : Fin 8), frozen s = false → Yields (.tokenRefill p) s (fun t =>
    t.ledger.base.getD p.val 0 = (let b := s.ledger.base.getD p.val 0
      if p.val < s.ledger.base.length then min (b + 1) (max b (rget s Reg.LEDGER_DEPTH 0 p.val)) else 0) ∧
      (p.val < s.ledger.grid.length → t.ledger.grid.getD p.val 0 =
        s.ledger.grid.getD p.val 0 + 1000 * rget s Reg.LEDGER_REFILL_US 0 p.val) ∧ t.regs = s.regs ∧ t.mem = s.mem)) ∧
  (∀ s : State, frozen s = false → Yields .summaryIntervalEnd s (fun t =>
    t.ledger.supp = [] ∧ t.ledger.sumEnd = s.ledger.sumEnd + 1000000 * rget s Reg.LEDGER_SUMMARY_MS ∧ t.mem = s.mem)) ∧
  (∀ (s u : State) (w : Writer) (p : Fin 8) (v : BitVec 24), Lands s w ledgerPage Reg.LEDGER_REFILL_US p.val u → v ≠ 0 →
    Yields (.refillUsWrite w p v) s (fun t => rget t Reg.LEDGER_REFILL_US 0 p.val = v.toNat ∧
      t = { u with regs := t.regs, ledger := { u.ledger with
        grid := u.ledger.grid.set p.val (u.time.cyc + 1000 * v.toNat) } } ∧ OnlyField u t Reg.LEDGER_REFILL_US 0 p.val)) ∧
  (∀ (s u : State) (w : Writer) (p : Fin 8) (v : Byte), Lands s w ledgerPage Reg.LEDGER_DEPTH p.val u → v ≠ 0 →
    Yields (.depthWrite w p v) s (fun t => rget t Reg.LEDGER_DEPTH 0 p.val = v.toNat ∧ OnlyField u t Reg.LEDGER_DEPTH 0 p.val ∧
      t.ledger.base = u.ledger.base.set p.val (min (u.ledger.base.getD p.val 0) v.toNat) ∧
      t = { u with regs := t.regs, ledger := t.ledger })) ∧
  (∀ (s u : State) (w : Writer) (v : BitVec 16), Lands s w ledgerPage Reg.LEDGER_SUMMARY_MS 0 u → 10 ≤ v.toNat → v.toNat ≤ 60000 →
    Yields (.summaryMsWrite w v) s (fun t => rget t Reg.LEDGER_SUMMARY_MS = v.toNat ∧ t.ledger.supp = [] ∧
      t.ledger.sumEnd = u.time.cyc + 1000000 * v.toNat ∧ t.mem = u.mem))

/-- Of R123, R124, R125, R128, R152, R155: TAIL and COMP_HEAD reach a ring through the DOCK page or through BAR2, whose offsets name a
tenant's indices. A ring takes a TAIL between its own and one ring beyond ACCEPT, clamps one beyond, discards and reports one behind, and
holds one aside while it is RESETTING or STOPPED; a TAIL that is taken ends a SEQ stall. COMP_HEAD likewise only moves on. ENABLE starts
and stops a ring, and takes the held TAIL where the ring was STOPPED. The model's own choices in it: log entry 30. -/
def Obligations.RingIndexWrites : Prop :=
  ((∀ (t : TenantId) (r : CDie),
    bar2At (BitVec.ofNat 17 (0x2000 * t.val + 8 * r.val)) = some (t, .tail r) ∧
    bar2At (BitVec.ofNat 17 (0x2000 * t.val + 8 * r.val + 4)) = some (t, .compHead r) ∧
    bar2At (BitVec.ofNat 17 (0x2000 * t.val + 0x1000 + 16 * r.val)) = some (t, .accept r) ∧
    bar2At (BitVec.ofNat 17 (0x2000 * t.val + 0x1004 + 16 * r.val)) = some (t, .recorded r) ∧
    bar2At (BitVec.ofNat 17 (0x2000 * t.val + 0x1008 + 16 * r.val)) = some (t, .state r) ∧
    bar2At (BitVec.ofNat 17 (0x2000 * t.val + 0x100C + 16 * r.val)) = some (t, .inflight r)) ∧
  (∀ (s : State) (off : BitVec 17) (t : TenantId) (r : CDie),
    (bar2At off = some (t, .accept r) → bar2Read s off = ringIdx s Reg.DOCK_RING_ACCEPT r.val t.val) ∧
    (bar2At off = some (t, .recorded r) → bar2Read s off = ringIdx s Reg.DOCK_RING_RECORDED r.val t.val) ∧
    (bar2At off = some (t, .state r) → bar2Read s off = ringIdx s Reg.DOCK_RING_STATE r.val t.val) ∧
    (bar2At off = some (t, .inflight r) → bar2Read s off = ringIdx s Reg.DOCK_RING_INFLIGHT r.val t.val) ∧
    (bar2At off = some (t, .tail r) → bar2Read s off = 0 ∧ (hostUp s = true → tailBy s (.bar2 off) r t = some ⟨12, t⟩)) ∧
    (bar2At off = some (t, .compHead r) → bar2Read s off = 0 ∧ (hostUp s = true → compHeadBy s (.bar2 off) r t = some ⟨12, t⟩))) ∧
  (∀ (s : State) (d : Doorbell) (n : CDie) (t : TenantId) (v : W32), (tailBy s d n t = none → exec (.tailWrite d n t v) s = .next s) ∧
    (compHeadBy s d n t = none → exec (.compHeadWrite d n t v) s = .next s))) ∧
  (∀ (s u : State) (d : Doorbell) (w : Writer) (n : CDie) (t : TenantId) (v : W32), tailBy s d n t = some w →
    Lands s w (dockPage n.val) Reg.DOCK_RING_TAIL t.val u →
    let tail := ringIdx u Reg.DOCK_RING_TAIL n.val t.val
    let accept := ringIdx u Reg.DOCK_RING_ACCEPT n.val t.val
    let slots := ringSlots u n.val t.val
    (rget u Reg.DOCK_RING_STATE n.val t.val < 3 → behind v tail = false → (v - accept).toNat ≤ slots →
      Yields (.tailWrite d n t v) s (fun x => rget x Reg.DOCK_RING_TAIL n.val t.val = v.toNat ∧
        (ringOf x n.val t.val).stalled = false ∧ x = { u with regs := x.regs, rings := x.rings } ∧
        (ringOf x n.val t.val).acc = (ringOf u n.val t.val).acc ∧
        ((ringOf u n.val t.val).stalled = false → x.rings = u.rings ∧ OnlyField u x Reg.DOCK_RING_TAIL n.val t.val))) ∧
    (rget u Reg.DOCK_RING_STATE n.val t.val < 3 → behind v tail = false → slots < (v - accept).toNat →
      (ringOf u n.val t.val).stalled = false → exec (.tailWrite d n t v) s = .next (reportFld
        (rset u Reg.DOCK_RING_TAIL n.val t.val (accept + BitVec.ofNat 32 slots).toNat) (dockPage n.val) w Reg.DOCK_RING_TAIL t.val 0 v.toNat
        (accept + BitVec.ofNat 32 slots).toNat)) ∧
    (rget u Reg.DOCK_RING_STATE n.val t.val < 3 → behind v tail = true → exec (.tailWrite d n t v) s =
      .next (reportFld u (dockPage n.val) w Reg.DOCK_RING_TAIL t.val 2 v.toNat tail.toNat)) ∧
    (3 ≤ rget u Reg.DOCK_RING_STATE n.val t.val → Yields (.tailWrite d n t v) s (fun x =>
      (ringOf x n.val t.val).heldTail = some v ∧ x = { u with rings := x.rings }))) ∧
  (∀ (s u : State) (d : Doorbell) (w : Writer) (n : CDie) (t : TenantId) (v : W32), compHeadBy s d n t = some w →
    Lands s w (dockPage n.val) Reg.DOCK_RING_COMP_HEAD t.val u →
    let head := ringIdx u Reg.DOCK_RING_COMP_HEAD n.val t.val
    (behind v head = false → exec (.compHeadWrite d n t v) s = .next (rset u Reg.DOCK_RING_COMP_HEAD n.val t.val v.toNat)) ∧
    (behind v head = true → exec (.compHeadWrite d n t v) s =
      .next (reportFld u (dockPage n.val) w Reg.DOCK_RING_COMP_HEAD t.val 2 v.toNat head.toNat))) ∧
  (∀ (s u : State) (w : Writer) (n : CDie) (t : TenantId), Lands s w (dockPage n.val) Reg.DOCK_RING_ENABLE t.val u →
    let st := rget u Reg.DOCK_RING_STATE n.val t.val
    (st ≠ 3 → (st ≠ 4 ∨ (ringOf u n.val t.val).heldTail = none) → Yields (.ringEnableWrite w n t true) s (fun x =>
      rget x Reg.DOCK_RING_ENABLE n.val t.val = 1 ∧ x = { u with regs := x.regs } ∧
        rget x Reg.DOCK_RING_STATE n.val t.val = (if (ringOf u n.val t.val).stalled then 2 else 1))) ∧
    (∀ h, st = 4 → (ringOf u n.val t.val).heldTail = some h → (ringOf u n.val t.val).stalled = false →
      behind h (ringIdx u Reg.DOCK_RING_TAIL n.val t.val) = false →
      (h - ringIdx u Reg.DOCK_RING_ACCEPT n.val t.val).toNat ≤ ringSlots u n.val t.val → Yields (.ringEnableWrite w n t true) s (fun x =>
        rget x Reg.DOCK_RING_ENABLE n.val t.val = 1 ∧ rget x Reg.DOCK_RING_STATE n.val t.val = 1 ∧
          rget x Reg.DOCK_RING_TAIL n.val t.val = h.toNat ∧ (ringOf x n.val t.val).heldTail = none ∧
          x = { u with regs := x.regs, rings := x.rings })) ∧
    (st = 3 → exec (.ringEnableWrite w n t true) s = .next (reportFld u (dockPage n.val) w Reg.DOCK_RING_ENABLE t.val 2 1 0)) ∧
    Yields (.ringEnableWrite w n t false) s (fun x =>
      rget x Reg.DOCK_RING_ENABLE n.val t.val = 0 ∧ rget x Reg.DOCK_RING_STATE n.val t.val = (if 3 ≤ st then st else 0) ∧
        (ringOf x n.val t.val).fetched = [] ∧ (ringOf x n.val t.val).acc = (ringOf u n.val t.val).acc ∧
        x = { u with regs := x.regs, rings := x.rings }))

/-- Of R127, R128, R129: A ring that runs takes the next slot ahead of ACCEPT, rereads one whose SEQ does not match, and stalls after its last
try. A fetched docket whose SEQ matches is accepted: ACCEPT and INFLIGHT advance, and its record is awaited; one with an illegal field
completes PARAM_ERROR at once and joins no queue. Neither is accepted while its queue has no entry free. The model's own choices in it: log entry 41. -/
def Obligations.SlotsAndAcceptance : Prop :=
  ((∀ (s : State) (n : CDie) (t : TenantId) (d : Docket), Clocked s → ringRuns s n.val t.val = true →
    (ringOf s n.val t.val).fetched.length < 16 → rget s Reg.DOCK_RING_RING_LOC n.val t.val = 0 → hostUp s = true →
    ahead (ringIdx s Reg.DOCK_RING_TAIL n.val t.val)
      (ringIdx s Reg.DOCK_RING_ACCEPT n.val t.val + BitVec.ofNat 32 (ringOf s n.val t.val).fetched.length) = true →
      Yields (.slotReadReturn n t d) s (fun x =>
        (ringOf x n.val t.val).fetched = (ringOf s n.val t.val).fetched ++ [d] ∧ x.regs = s.regs ∧
          x = { s with rings := x.rings, out := x.out })) ∧
  (∀ (s : State) (n : CDie) (t : TenantId) (d old : Docket), Clocked s → ringRuns s n.val t.val = true →
    (ringOf s n.val t.val).fetched = [old] → dkSeq old ≠ ringIdx s Reg.DOCK_RING_ACCEPT n.val t.val →
    rget s Reg.DOCK_RING_RING_LOC n.val t.val = 0 → hostUp s = true → dkSeq d = ringIdx s Reg.DOCK_RING_ACCEPT n.val t.val →
      Yields (.seqRetry n t d) s (fun x =>
        (ringOf x n.val t.val).fetched = [d] ∧ (ringOf x n.val t.val).retries = 0 ∧ x.regs = s.regs ∧ x.mem = s.mem)) ∧
  (∀ (s : State) (n : CDie) (t : TenantId) (d old : Docket), Clocked s → ringRuns s n.val t.val = true →
    (ringOf s n.val t.val).fetched = [old] → dkSeq old ≠ ringIdx s Reg.DOCK_RING_ACCEPT n.val t.val →
    rget s Reg.DOCK_RING_RING_LOC n.val t.val = 0 → hostUp s = true → dkSeq d ≠ ringIdx s Reg.DOCK_RING_ACCEPT n.val t.val →
    rget s Reg.DOCK_SEQ_RETRY_LIMIT n.val ≤ (ringOf s n.val t.val).retries + 1 → rget s Reg.DOCK_RING_ENABLE n.val t.val = 1 →
      Yields (.seqRetry n t d) s (fun x =>
        (ringOf x n.val t.val).stalled = true ∧ rget x Reg.DOCK_RING_STATE n.val t.val = 2 ∧ x.mem = s.mem))) ∧
  (∀ (s : State) (n : CDie) (t : TenantId) (d : Docket) (rest : List Docket), Clocked s → ringRuns s n.val t.val = true →
    (ringOf s n.val t.val).fetched = d :: rest → dkSeq d = ringIdx s Reg.DOCK_RING_ACCEPT n.val t.val →
    rget s Reg.DOCK_RING_INFLIGHT n.val t.val < 1024 →
    (docketError s n.val t.val d = true → (8 < dkEngine d ∨ queueRoom s (queueOf n.val d) t.val = true) →
      Yields (.docketAccept n t) s (fun x =>
      x.queues = s.queues ∧ x.mem = s.mem ∧ (ringOf x n.val t.val).fetched = rest ∧
        rget x Reg.DOCK_RING_ACCEPT n.val t.val = (dkSeq d + 1).toNat)) ∧
    (docketError s n.val t.val d = false → queueRoom s (queueOf n.val d) t.val = true → Yields (.docketAccept n t) s (fun x =>
      x.mem = s.mem ∧ (ringOf x n.val t.val).fetched = rest ∧
        (ringOf x n.val t.val).acc = (ringOf s n.val t.val).acc ++ [{ seq := dkSeq d, done := none }] ∧
        rget x Reg.DOCK_RING_ACCEPT n.val t.val = (dkSeq d + 1).toNat ∧
        (queue x (queueOf n.val d)).length = (queue s (queueOf n.val d)).length + 1)) ∧
    (dkEngine d ≤ 8 → queueRoom s (queueOf n.val d) t.val = false → exec (.docketAccept n t) s = .next s))

/-- Of R119, R140, R141: Releases and counter updates make the heads of a queue eligible, and the docket that R141 chooses starts to run. The
model's own choices in it: log entry 41. -/
def Obligations.QueueEvents : Prop :=
  (∀ (s : State) (q : QueueId), Clocked s → ftInvalid s (queueDie q.val) = false → soonest s (queue s q.val) = none →
    exec (.releaseReached q) s = .next (evalHeads s q.val)) ∧
  (∀ (s : State) (q : QueueId) (ns : Nat), Clocked s → ftInvalid s (queueDie q.val) = false → soonest s (queue s q.val) = some ns →
    exec (.releaseReached q) s = .next (evalHeads (advanceFt s (BitVec.ofNat 64 ((s.time.ft.toNat / 16 + ns / 16) * 16))) q.val)) ∧
  (∀ (s : State) (q : QueueId), (queue s q.val).length = 1 → ∀ e ∈ queue s q.val, e.running = false → e.eligible = false →
    dkReleaseEn e.dk = false → dkNwait e.dk = 0 → dkEngine e.dk = 0 → ∀ x ∈ queue (evalHeads s q.val) q.val, x.eligible = true) ∧
  (∀ (s : State) (c : ClusterId), Clocked s → exec (.counterUpdateVisible c) s =
    .next ((queuesOn s c.val).foldl evalHeads s)) ∧
  (∀ (s t : State) (q : QueueId) (e : QEntry), Clocked s → engineFree (evalHeads (rouseQueue s q.val) q.val) q.val = true →
    choose (evalHeads (rouseQueue s q.val) q.val) q.val = some (e, t) → exec (.docketDispatch q) s = .next (dispatch t q.val e)) ∧
  (∀ (s : State) (q : Nat) (e : QEntry) (t : State), choose s q = some (e, t) → e ∈ queue s q ∧ e.running = false ∧ e.eligible = true) ∧
  (∀ (s : State) (q : Nat) (e : QEntry), q < 2048 → q % 4 ≠ 3 → queue s q = [e] → dkNwait e.dk = 0 → dkEngine e.dk < 3 →
    queue (dispatch s q e) q = [{ e with running := true, ran := 0, waitFrom := none, startStamp := stamp s }])

/-- Of R117, R118, R143: CNOP and a CWAIT whose conditions hold complete with the status they have; a CSIGNAL on this device adds to its
counter and completes. A counter that is added to holds the sum modulo 2^64, and no byte outside it changes. -/
def Obligations.ClerkOperations : Prop :=
  (∀ (s : State) (core : CoreId) (e : QEntry), Clocked s → e.done = false →
    (runningOp s (4 * core.val + 3) 3 0 = some e → dkOp e.dk = 0 →
      exec (.cnop core) s = .next (completeDocket s (4 * core.val + 3) e e.status)) ∧
    (runningOp s (4 * core.val + 3) 3 1 = some e → dkOp e.dk = 1 →
      exec (.cwait core) s = .next (completeDocket s (4 * core.val + 3) e e.status)) ∧
    (runningOp s (4 * core.val + 3) 3 2 = some e → dkOp e.dk = 2 → ckRemote e.dk = false →
      ((e.access s).counterAdd (ckCluster e.dk) e.tenant.val (ckCtr e.dk) (ckAdd e.dk)).stalled = false →
      exec (.csignal core) s = .next (startSignal (completeDocket
        ((e.access s).counterAdd (ckCluster e.dk) e.tenant.val (ckCtr e.dk) (ckAdd e.dk)).s (4 * core.val + 3) e
        (worst (e.status :: ((e.access s).counterAdd (ckCluster e.dk) e.tenant.val (ckCtr e.dk) (ckAdd e.dk)).faults))) core.val))) ∧
  (∀ (x : Access) (c t i n a : Nat), counterAddr x.s c t i = some a → x.s.poison.contains (a / 64) = false →
    mapFind x.s.fills.flaws (a / 64) = none →
    counterVal (x.counterAdd c t i n).s c t i = (counterVal x.s c t i + n) % 2 ^ 64 ∧
      SameOutside x.s (x.counterAdd c t i n).s a 8 ∧ (x.counterAdd c t i n).faults = x.faults)

/-- Of R139, R145, R146, R126: A running docket whose work is done completes; one that waited its limit ends with status 6; one that ran its
limit ends with status 5 and resets its engine. Completion frees the queue's entry and leaves the record, with its status, at the docket's
slot, where no signal is asked for. Records leave in ring order: the oldest accepted docket's record is written to its slot, RECORDED
moves to the SEQ after it, and its IRQ sends the ring's message. -/
def Obligations.DocketsEnd : Prop :=
  ((∀ (s : State) (q : QueueId) (r : DocketRef) (e : QEntry) (st : Nat), Clocked s → entryOf s q.val r = some e → e.running = true →
    e.cut = false → readyStatus s e = some st → exec (.docketCompletion q r) s = .next (completeDocket s q.val e st)) ∧
  (∀ (s : State) (q : QueueId) (r : DocketRef) (e : QEntry), Clocked s → entryOf s q.val r = some e → e.running = true →
    e.cut = true → s.resets.tenants.contains e.tenant.val = true →
    exec (.docketCompletion q r) s = .next (completeDocket s q.val e 7)) ∧
  (∀ (s u : State) (q : QueueId) (r : DocketRef) (e e' : QEntry) (c : Nat), Clocked s →
    entryOf (evalHeads s q.val) q.val r = some e → e.waitFrom = some c → e.eligible = false → e.running = false →
    u = evalHeads (advanceTo (evalHeads s q.val) (c + waitLimit (evalHeads s q.val) q.val e)) q.val →
    entryOf u q.val r = some e' → e'.eligible = false →
      exec (.waitTimeout q r) s = .next (completeDocket (countTimeout u e') q.val e' 6)) ∧
  (∀ (s : State) (q : QueueId) (r : DocketRef) (e : QEntry), Clocked s → entryOf s q.val r = some e → e.running = true →
    e.done = false → e.cut = false → exec (.runTimeout q r) s = .next (hang (advance s (runLeft s q.val e)) q.val e))) ∧
  (∀ (s : State) (q : Nat) (e : QEntry) (status : Nat), dkSignalEn e.dk = false → status ≠ 4 → status ≠ 7 → e.nonfinite = 0 →
    ∀ a, (ringOf s e.die.val e.tenant.val).acc = [a] → a.seq = e.seq →
      (ringOf (complete s q e status) e.die.val e.tenant.val).acc = [⟨e.seq, some
        (recordOf { e with status := status } status (stamp s) (if dkDigestEn e.dk then e.digest else 0), dkIrq e.dk)⟩] ∧
      queue (complete s q e status) q = dropFirst (queue s q) (·.is e.toRef) ∧ (complete s q e status).mem = s.mem) ∧
  (∀ (s : State) (n : CDie) (t : TenantId) (a : RecSlot) (rest : List RecSlot) (r : Record), Clocked s →
    (ringOf s n.val t.val).acc = a :: rest → a.done = some (r, false) →
    (ringIdx s Reg.DOCK_RING_RECORDED n.val t.val - ringIdx s Reg.DOCK_RING_COMP_HEAD n.val t.val).toNat < ringSlots s n.val t.val →
    rget s Reg.DOCK_RING_COMP_LOC n.val t.val = 0 → hostUp s = true → rget s Reg.HEALTH_MIRROR_EN = 0 →
      Yields (.completionRecordWrite n t) s (fun x =>
        (ringOf x n.val t.val).acc = rest ∧ rget x Reg.DOCK_RING_RECORDED n.val t.val = (a.seq + 1).toNat ∧ x.mem = s.mem ∧
          x.out = .hostWrite (ringBase s true n.val t.val + 32 * (a.seq.toNat % ringSlots s n.val t.val)) (natLe r.toNat 32) :: s.out ∧
          x = { s with regs := x.regs, rings := x.rings, out := x.out }))

/-- Of R137, R138: A record holds its docket's SEQ, STATUS, ENGINE, TENANT, CORE, TAG and DIGEST at their places. -/
def Obligations.RecordFieldsReadBack : Prop :=
  ∀ (e : QEntry) (status digest : Nat) (fin' : W32), status < 256 →
    bitsAt (recordOf e status fin' digest).toNat 0 32 = e.seq.toNat ∧ recStatus (recordOf e status fin' digest) = status ∧
    bitsAt (recordOf e status fin' digest).toNat 40 4 = dkEngine e.dk ∧ bitsAt (recordOf e status fin' digest).toNat 44 4 = dkTenant e.dk ∧
    bitsAt (recordOf e status fin' digest).toNat 48 6 = dkCore e.dk ∧ bitsAt (recordOf e status fin' digest).toNat 54 1 = b2n e.late ∧
    bitsAt (recordOf e status fin' digest).toNat 64 32 = dkTag e.dk ∧ bitsAt (recordOf e status fin' digest).toNat 96 32 = fin'.toNat ∧
    recDigest (recordOf e status fin' digest) = digest % 2 ^ 64

/-- Of R15, R428, R432: A word written by one who may write it sets the field that lies in it to the legal value nearest to the bits written,
on the pages whose fields have no rule of their own; the unmapped space only counts its words. The model's own choices in it: log entry
41. -/
def Obligations.RegisterWritesLand : Prop :=
  (∀ (s : State) (w : Writer) (off : Nat) (d : W32) (p : Page) (f : Fld) (idx : Nat), BusFree s w → pageAt off = some p → off % 4 = 0 →
    p.blk ∈ [Blk.cstore, .msf, .update, .sbus, .pcie, .eth] → fieldsAt p (off % 4096) = [(f, idx)] → f.blk ≠ .hdr → f.acc = .rw →
    f.off < 0x800 → permitted f idx w = true → pairOf f = none → isOwnerField f = false →
      Yields (.registerWrite w [{ off := off, data := d, be := 15 }] [] plainBus) s (fun t =>
        rget t f p.inst idx = clampRng f.rng p.inst (bitsAt d.toNat f.lsb f.width) % 2 ^ f.width ∧ t.mem = s.mem ∧
          t.queues = s.queues ∧ t.links = s.links ∧ t.msf = s.msf)) ∧
  (∀ (s : State) (w : Writer) (words : List WordWrite), BusFree s w → transactions words = [words] →
    pageAt (words.headD { off := 0, data := 0, be := 0 }).off = none → exec (.unmappedWrite w words) s =
      .next (rinc (busBeats s w.input (1 + words.length) plainBus) Reg.SBUS_UNMAPPED 0 0 words.length)) ∧
  (∀ (s : State) (w : Writer) (off : Nat), BusFree s w → w.tenant = 15 → (∃ p, pageAt off = some p ∧ p.blk ≠ .dimtab) →
    Yields (.ctrlLock w off) s (fun t => t.mem = s.mem ∧ t.queues = s.queues ∧ t.links = s.links ∧ t.msf = s.msf ∧
      ∀ p, pageAt off = some p → rget t Reg.HDR_CTRL_LOCK p.num = rget s Reg.HDR_CTRL_LOCK p.num))

/-- Of R15, R17, R60, R428, R436, R439, R440: A read of a word with RC counters returns it as it stood and leaves the increment of the same
cycle in each. A read of the low word of Fabric Time, of a draw count or of any other 64-bit RO field returns it and takes the snapshot
that the upper word then returns; nothing else changes but the bus, which takes one beat. An input that another input's locked sequence
keeps out waits (R439), and one that a bite ignores waits until it is ignored no longer (R440). The model's own choices in it: log entry
41. -/
def Obligations.RegisterReads : Prop :=
  (∀ (s : State) (w : Writer), mapFind s.sbus.ignored w.input.val = none →
    busRow s w = { s with regs := (busRow s w).regs, sbus := (busRow s w).sbus } ∧
      ∀ (f : Fld) (i j : Nat), i < 16384 → j < 1024 → f.code ∉ Reg.sbusFields.map (·.code) →
        rget (busRow s w) f i j = rget s f i j) ∧
  (∀ (s : State) (w : Writer), frozen s = false → lockedOut (awaitInput s w.input.val) w.input.val = false →
    (∀ (off : Nat) (inc : W32) (p : Page) (f : Fld) (i : Nat), off < 0x3FF0000 → pageAt off = some p → f.acc = .rc → f.blk ≠ .hdr →
      (f, i) ∈ fieldsAt p (off % 4096) →
      Yields (.rcCounterRead w off inc) s (fun t => ∃ u, u = busRow s w ∧
        t.out = .readData (BitVec.ofNat 32 (pageWord u (busField u p) p (off % 4096))) :: u.out ∧
        rget t f p.inst i = bitsAt inc.toNat f.lsb f.width ∧
        (f ≠ Reg.HOPPER_STARVE_CYCLES → busField u p f i = rget u f p.inst i) ∧
        (fieldsAt p (off % 4096) = [(f, i)] → t.out.head? = some (.readData (BitVec.ofNat 32 ((busField u p f i % 2 ^ f.width) <<< f.lsb)))) ∧
        (∀ k, (∀ g j, (g, j) ∈ fieldsAt p (off % 4096) → k ≠ regKey g p.inst j) → mapFind t.regs k = mapFind u.regs k) ∧
        t = { u with regs := t.regs, snaps := t.snaps, time := { u.time with snap := t.time.snap }, hopper := t.hopper, out := t.out })) ∧
    Yields (.nowLoRead w) s (fun t => ∃ u, u = busRow s w ∧
      t = { u with time := { u.time with snap := u.time.ft }, out := .readData (BitVec.ofNat 32 u.time.ft.toNat) :: u.out } ∧
      fieldRead t ftimePage Reg.FTIME_NOW_HI 0 = u.time.ft.toNat / 2 ^ 32) ∧
    (∀ h : HopperId, Yields (.drawnLoRead w h) s (fun t => ∃ u, u = busRow s w ∧
      t = { u with snaps := t.snaps, out := .readData (BitVec.ofNat 32 (rget u Reg.HOPPER_HOP_DRAWN_LO (h.val % 2) (h.val / 2))) :: u.out } ∧
      busField t (hopPage h.val) Reg.HOPPER_HOP_DRAWN_HI (h.val / 2) = rget u Reg.HOPPER_HOP_DRAWN_HI (h.val % 2) (h.val / 2))) ∧
    (∀ (lo hi : Fld) (off : Nat) (p : Page) (i : Nat), (lo, hi) ∈ ro64 → pageAt off = some p → p.blk = lo.blk →
      off % 4096 = lo.off + lo.stride * i → i < max 1 lo.count → Yields (.ro64LowWordRead w off) s (fun t => ∃ u, u = busRow s w ∧
        t = { u with snaps := t.snaps, out := .readData (BitVec.ofNat 32 (fieldRead u p lo i)) :: u.out } ∧
        busField t p hi i = fieldRead u p hi i))) ∧
  (∀ (s : State) (w : Writer) (c : Instr) (off : Nat) (inc : W32) (h : HopperId), frozen s = false →
    lockedOut (awaitInput s w.input.val) w.input.val = true →
    c ∈ [Instr.rcCounterRead w off inc, .nowLoRead w, .drawnLoRead w h, .ro64LowWordRead w off] →
      exec c s = .next (awaitInput s w.input.val))

/-- Of R440: A bite frees the bus, counts, names the input, drops its posted writes and ignores it for 64 FCLK cycles. The model's own choices
in it: log entry 41. -/
def Obligations.WatchdogBite : Prop :=
  ∀ (s : State) (i : Fin 16), Clocked s → rget s Reg.SBUS_OWNER_VALID = 1 → rget s Reg.SBUS_OWNER = i.val →
    Yields (.sbusWatchdogBite i) s (fun t =>
      rget t Reg.SBUS_OWNER_VALID = 0 ∧ rget t Reg.SBUS_LOCKED = 0 ∧ rget t Reg.SBUS_LAST_BITE = i.val ∧
        (mapFind t.sbus.ignored i.val).isSome = true ∧ (∀ x ∈ t.sbus.posted, x.1.input ≠ i) ∧ t.queues = s.queues ∧ t.msf = s.msf)

/-- Of R93, R165, R167, R169 to R172: A change of the ownership of a part that is not being filled fills it with zeros, shows its fill, and
blocks it; the end of the fill opens it. A patrol read of a good line changes nothing, one of a line with an uncorrectable error poisons
it; a refresh window passes; a stack turns HOT above 85 °C and cools at 80 °C. The model's own choices in it: log entries 29, 41. -/
def Obligations.OwnershipAndMemoryUpkeep : Prop :=
  ((∀ (s u : State) (w : Writer) (r : Region) (valid : Bool) (t : TenantId) (c : Instr),
    ((∃ p : StorePart, r = storeRegion p ∧ c = .ownershipWrite w p valid t) ∨
      (∃ p : MemPart, r = memRegion p ∧ c = .setOwnershipWrite w p valid t)) →
    Lands s w (ownerField s r valid).1 (ownerField s r valid).2.1 (ownerField s r valid).2.2.1 u → OwnersFit u →
    (pendingOwner u r ≠ (valid, t.val) → u.fills.busy.contains r.key = false → Yields c s (fun x =>
      owner x r = (valid, t.val) ∧ r.key ∈ x.fills.busy ∧ (∀ b, (partRange r).1 ≤ b → b < (partRange r).1 + (partRange r).2 → memGet x.mem b = 0) ∧
        x.queues = u.queues ∧ x.links = u.links)) ∧
    (pendingOwner u r ≠ (valid, t.val) → u.fills.busy.contains r.key = true → Yields c s (fun x =>
      (mapGet x.fills.queued r.key []) = mapGet u.fills.queued r.key [] ++ [(valid, t)] ∧ owner x r = owner u r ∧ x.queues = u.queues)) ∧
    (pendingOwner u r = (valid, t.val) → r.key ∉ u.fills.busy → Yields c s (fun x =>
      owner x r = owner u r ∧ x.queues = u.queues ∧ x.fills.busy = u.fills.busy))) ∧
  (∀ (s : State) (r : Region) (c : Instr), Clocked s →
    ((∃ p : StorePart, r = storeRegion p ∧ c = .storeFillDone p) ∨ (∃ p : MemPart, r = memRegion p ∧ c = .memoryFillDone p)) →
    r.key ∈ s.fills.busy → mapFind s.fills.queued r.key = none → Yields c s (fun t =>
      r.key ∉ t.fills.busy ∧ t.mem = s.mem ∧ t.queues = s.queues ∧ owner t r = owner s r))) ∧
  (∀ s : State, Clocked s →
    (∀ (line : Nat) (found : Ecc) (raced : Bool), regionOf (64 * line) = .hole ∨ regionOf (64 * line) = .reg →
      exec (.patrolScrub line found raced) s = .next s) ∧
    (∀ (line : Nat) (raced : Bool), mapFind s.fills.flaws line = none → exec (.patrolScrub line .clean raced) s = .next s) ∧
    (∀ (line : Nat) (raced : Bool), regionOf (64 * line) ≠ .hole → regionOf (64 * line) ≠ .reg →
      (mapFind s.fills.flaws line = some 1 → exec (.patrolScrub line .clean raced) s = .next (correctedLine (setFlaw s line 0) line)) ∧
      (mapFind s.fills.flaws line = some 2 → exec (.patrolScrub line .clean raced) s = .next (poisonLine (setFlaw s line 0) line))) ∧
    (∀ (line : Nat) (raced : Bool), regionOf (64 * line) ≠ .hole → regionOf (64 * line) ≠ .reg → mapFind s.fills.flaws line = none →
      exec (.patrolScrub line .corrected raced) s = .next (correctedLine s line) ∧ (correctedLine s line).mem = s.mem ∧
        (correctedLine s line).poison = s.poison) ∧
    (∀ line : Nat, regionOf (64 * line) ≠ .hole → regionOf (64 * line) ≠ .reg → mapFind s.fills.flaws line = none → line ∉ s.poison →
      Yields (.patrolScrub line .uncorrectable false) s (fun t => t.poison = line :: s.poison ∧ t.mem = s.mem ∧ t.queues = s.queues ∧
        (let p := faultPage (64 * line);
          rget s (ueField p.blk) p.inst + 1 < 2 ^ (ueField p.blk).width → rget t (ueField p.blk) p.inst = rget s (ueField p.blk) p.inst + 1))) ∧
    (∀ u : RefreshUnit, exec (.refreshWindow u) s = .next (if (refreshOf s u).2.2.2 then
      advance (advanceFt s (nextWindow s.time.ft (refreshOf s u).1 (refreshOf s u).2.2.1)) (refreshOf s u).2.1 else s)) ∧
    (∀ (k : StackId) (celsius : Nat), 85 < celsius → Yields (.stackTemperatureReport k celsius) s (fun t =>
      bitAt (rget t Reg.HBMC_HOT (k.val / 2)) (k.val % 2) = true ∧ t.mem = s.mem ∧ t.queues = s.queues)) ∧
    (∀ (k : StackId) (celsius : Nat), celsius ≤ 80 → Yields (.stackTemperatureReport k celsius) s (fun t =>
      bitAt (rget t Reg.HBMC_HOT (k.val / 2)) (k.val % 2) = false ∧ t.mem = s.mem ∧ t.queues = s.queues ∧
        OnlyField s t Reg.HBMC_HOT (k.val / 2) 0)))

/-- Of R92, R164: A tenant neither changes nor reads a byte of a part that it does not own. -/
def Obligations.UnownedMemoryIsIsolated : Prop :=
  ∀ (x : Access) (a b : Nat) (data : List Byte), mayAccess x.s x.tenant (regionOf (64 * (b / 64))) = false →
    memGet (x.wr a data).s.mem b = memGet x.s.mem b ∧
      (∀ n, a ≤ b → b < a + n → (x.rd a n).1.getD (b - a) 0 = 0)

/-- Of R92, R168: A write changes no byte outside its range, and one that a tenant may make, to lines in service with no poison, reads back. -/
def Obligations.WritesLandInRange : Prop :=
  ∀ (x : Access) (a : Nat) (data : List Byte),
    SameOutside x.s (x.wr a data).s a data.length ∧
      (data ≠ [] → hasHole a data.length = false → (∀ d : DieId, rget x.s Reg.PERTURB_DEBUG_EN d.val = 0) →
        (∀ l ∈ linesOf a data.length, mayAccess x.s x.tenant (regionOf (64 * l)) = true ∧ outOfService x.s (64 * l) = false ∧
          l ∉ x.s.poison ∧ mapFind x.s.fills.flaws l = none) →
        memRead (x.wr a data).s.mem a data.length = data ∧ (x.wr a data).faults = x.faults ∧ (x.wr a data).s.poison = x.s.poison ∧
          ((x.wr a data).rd a data.length).1 = data)

/-- R73: FP6 elements lie four to three bytes, element j of a group in bits [6j + 5:6j]; FP4 elements lie two to a byte, the even one in bits
[3:0]; packing and unpacking undo each other. -/
def Obligations.SmallElementsArePacked : Prop :=
  (∀ (l : List Byte) (n g j : Nat), j < 4 → 4 * g + j < n → 3 * g + 3 ≤ l.length →
    (unpack 6 l n).getD (4 * g + j) 0 = bitsAt (leNat ((l.drop (3 * g)).take 3)) (6 * j) 6) ∧
  (∀ (l : List Byte) (n b i : Nat), i < 2 → 2 * b + i < n → b < l.length →
    (unpack 4 l n).getD (2 * b + i) 0 = bitsAt (l.getD b 0).toNat (4 * i) 4) ∧
  (∀ (w : Nat) (l : List Nat), w = 4 ∨ w = 6 → (∀ x ∈ l, x < 2 ^ w) → unpack w (pack w l) l.length = l)

/-- R67: Every NaN that a conversion produces is the canonical quiet NaN of its format, whatever NaN came in; arithmetic on a NaN gives NaN. -/
def Obligations.NansAreCanonical : Prop :=
  (∀ (fmt special : Nat) (sat : Bool) (v : FVal), (fmt, special) ∈ [(0, 0), (1, 0), (2, 0), (3, 1), (4, 0)] →
    decodeIeee (floatOf fmt) special (encodeFloat fmt sat v) = .nan →
      (fmt, encodeFloat fmt sat v) ∈ [(0, 0x7FC00000), (1, 0x7E00), (2, 0x7FC0), (3, 0x7F), (4, 0x7E)]) ∧
  (∀ (fmt special : Nat) (sat : Bool) (x : Nat), (fmt, special) ∈ [(0, 0), (1, 0), (2, 0), (3, 1), (4, 0)] →
    decodeIeee (floatOf fmt) special x = .nan →
      encodeFloat fmt sat (decodeIeee (floatOf fmt) special x) = encodeFloat fmt sat .nan) ∧
  (∀ v : FVal, FVal.add .nan v = .nan ∧ FVal.add v .nan = .nan ∧ FVal.mul .nan v = .nan ∧ FVal.mul v .nan = .nan)

/-- Of R78, R81, R82: The sum of bounded tally words does not depend on their order, for any number of words that the headroom allows. -/
def Obligations.TallySumsInAnyOrder : Prop :=
  ∀ (w h : Nat) (xs ys : List Int), (w = 32 ∨ w = 64) → 1 ≤ h → h ≤ fracBits w + 1 → xs.length ≤ 2 ^ (h - 1) →
    (∀ q ∈ xs, -(2 ^ (w - 1)) ≤ q ∧ q < 2 ^ (w - 1)) → xs.Perm ys →
      xs.foldl (fun acc q => tallyAdd w acc (boundWord w h q).1) 0 = ys.foldl (fun acc q => tallyAdd w acc (boundWord w h q).1) 0

/-- Of R100 to R104, R80 to R82, R105 to R109, R79, R108: A running LMMA or LTALLY writes its outputs, ends with the faults it met, and leaves
its accumulators for carry-over. A running vector operation writes its outputs and counts its elements. VAMAX writes, for every pair of
codes, the greater by signed comparison. The model's own choices in it: log entries 18, 19, 23. -/
def Obligations.LatheAndVectorOperations : Prop :=
  (∀ (s : State) (core : CoreId) (e : QEntry), Clocked s → entryOf s (4 * core.val) e.toRef = some e →
    (∀ r : OpOut, runningOp s (4 * core.val) 0 0 = some e →
      r = (if laTally e.dk then latheTally (e.access s) (coreBase core.val) e.dk
        else latheProduct (e.access s) (coreBase core.val) e.dk (carriesOver s core.val e)) →
      (writeAll r.x r.outs).stalled = false → Yields (.lmma core) s (fun t =>
        t.mem = (writeAll r.x r.outs).s.mem ∧ mapFind t.carry core.val = some (bankAfter e r) ∧
          ∃ f, entryOf t (4 * core.val) e.toRef = some f ∧ f.done = true ∧
            f.status = worst (e.status :: (writeAll r.x r.outs).faults) ∧ f.nonfinite = e.nonfinite + r.nonfinite)) ∧
    (∀ r : OpOut, runningOp s (4 * core.val) 0 1 = some e → r = latheExponent (e.access s) (coreBase core.val) e.dk →
      (writeAll r.x r.outs).stalled = false → Yields (.ltally core) s (fun t =>
        t.mem = (writeAll r.x r.outs).s.mem ∧ ∃ f, entryOf t (4 * core.val) e.toRef = some f ∧ f.done = true ∧
          f.status = worst (e.status :: (writeAll r.x r.outs).faults) ∧ f.flushed = e.flushed + r.flushed))) ∧
  (∀ (s : State) (core : CoreId) (e : QEntry) (c : Instr) (op : Nat) (f : Access → Nat → Docket → OpOut) (n : Docket → Nat), Clocked s →
    (c, op, f, n) ∈ [(Instr.vmap core, 0, veMap, veCount),
      (.vrow core, 1, veRowOp, fun d => veRows d + (if veElemOut d then veCount d else 0)), (.vtto core, 2, veTto, veCount),
      (.vtadd core, 3, veTadd, veCount), (.vtround core, 4, veTround, veCount), (.vamax core, 5, veAmax, veCount)] →
    runningOp s (4 * core.val + 1) 1 op = some e → entryOf s (4 * core.val + 1) e.toRef = some e →
    (writeAll (f (e.access s) (coreBase core.val) e.dk).x (f (e.access s) (coreBase core.val) e.dk).outs).stalled = false →
      let r := f (e.access s) (coreBase core.val) e.dk
      Yields c s (fun t => t.mem = (writeAll r.x r.outs).s.mem ∧ t.links = s.links ∧
        (∃ g, entryOf t (4 * core.val + 1) e.toRef = some g ∧ g.done = true ∧
          g.status = worst (e.status :: (writeAll r.x r.outs).faults) ∧ g.nonfinite = e.nonfinite + r.nonfinite) ∧
        (rget s Reg.VEC_ELEMENTS core.val + n e.dk < 2 ^ 32 →
          rget t Reg.VEC_ELEMENTS core.val = rget s Reg.VEC_ELEMENTS core.val + n e.dk))) ∧
  (∀ (x : Access) (base : Nat) (d : Docket) (i : Nat), x.tenant = 15 → x.s.poison = [] → x.s.fills.flaws = [] → x.s.boot.outOf = [] →
    hasHole (base + veIn d 0) (2 * veCount d) = false → hasHole (base + veIn d 1) (2 * veCount d) = false → i < veCount d →
    ∃ bytes, (veAmax x base d).outs = [(base + veOut d, bytes)] ∧ bytes.length = 2 * veCount d ∧
      sext 16 (leNat ((bytes.drop (2 * i)).take 2)) =
        max (sext 16 (memNat x.s (base + veIn d 0 + 2 * i) 2)) (sext 16 (memNat x.s (base + veIn d 1 + 2 * i) 2)))

/-- Of R113, R114, R468, R135, R96: A local copy, conversion, layout, gather, scatter or fill starts with all its chunks to land. The bytes of
a chunk of a local copy or fill stand at its destination once it has landed, and no other byte changes. A chunk of a PLAYOUT is the matrix in
the other layout. The model's own choices in it: log entries 21, 22. -/
def Obligations.PorterCommands : Prop :=
  (∀ (s : State) (core : CoreId) (e : QEntry) (c : Instr) (op : Nat), Clocked s → s.sbus.posted = [] →
    (c, op) ∈ [(Instr.pcopy core, 0), (.pconv core, 1), (.playout core, 2), (.pgather core, 3), (.pscatter core, 4), (.pfill core, 5)] →
    (queue s (4 * core.val + 2)).find? (fun e => e.running && !e.started && !e.done && !e.cut && dkEngine e.dk == 2 && dkOp e.dk == op)
      = some e → badDevice e.dk = none → poRemoteSrc s e.dk = false → poRemoteDst s e.dk = false → poArriveEn e.dk = false →
    (readList (e.access s) e).2.stalled = false →
      let l := readList (e.access s) e
      exec c s = .next (updEntry l.2.s (4 * core.val + 2) e.toRef (fun e => { e with
        started := true, idx := l.1, todo := List.range (chunkCount e.dk), done := chunkCount e.dk == 0
        status := worst (e.status :: l.2.faults), badAddr := l.2.bad.getD e.badAddr
        digest := digestStart (poOutLength e.dk) }))) ∧
  (∀ (s : State) (core : CoreId) (e : QEntry) (i : Nat), Clocked s → s.sbus.posted = [] →
    (queue s (4 * core.val + 2)).find? (fun e => e.running && e.started && !e.done && !e.cut && e.todo.contains i) = some e →
    (dkOp e.dk = 0 ∨ dkOp e.dk = 5) → poConverts e.dk = false → poArriveEn e.dk = false → e.seqs = [] →
    let a := gLoc (chunkTo e.dk e.idx i)
    let src := gLoc (chunkFrom e.dk e.idx i)
    let n := chunkLen e.dk i
    n ≠ 0 → hasHole a n = false → (dkOp e.dk = 0 → hasHole src n = false) → e.tenant = 15 → s.poison = [] → s.boot.outOf = [] → s.fills.busy = [] →
    s.fills.flaws = [] → s.resets.active = [] → (∀ d : DieId, rget s Reg.PERTURB_DEBUG_EN d.val = 0) →
      Yields (.chunkLanded core i) s (fun t =>
        (∀ j, j < n → memGet t.mem (a + j) = if dkOp e.dk = 5 then BitVec.ofNat 8 (bitsAt (dkf e.dk 0x58 0 32) (8 * (j % 4)) 8)
          else memGet s.mem (src + j)) ∧ SameOutside s t a n)) ∧
  (∀ (s : State) (core : CoreId) (e : QEntry) (i : Nat), Clocked s → s.sbus.posted = [] →
    (queue s (4 * core.val + 2)).find? (fun e => e.running && e.started && !e.done && !e.cut && e.todo.contains i) = some e →
    dkOp e.dk = 2 → e.seqs = [] → poArriveEn e.dk = false → chunkStuck s e core i = false →
    let r := layoutRead (e.access s) core.val e
    let a := gLoc (chunkTo e.dk e.idx i)
    let out := layoutChunk e.dk r.1 (freeVal r.2.s).1 i
    let y := ({ r.2 with s := (freeVal r.2.s).2 } : Access).wr a out
    inRegs a out.length = false → y.stalled = false → Yields (.chunkLanded core i) s (fun t => t.mem = y.s.mem ∧ t.links = y.s.links ∧
      t.queues = (noteChunk y.s (4 * core.val + 2) e y i out 0 0 |> fun u => updEntry u (4 * core.val + 2) e.toRef (fun e => { e with
        todo := dropAll e.todo i, done := dropAll e.todo i == [] })).queues))

/-- Of R261, R270, R281: A WRITE that arrives stores its bytes and is answered; a READ is answered with the bytes and changes none. The
model's own choices in it: log entry 20. -/
def Obligations.RemoteAccessesAtTheirTarget : Prop :=
  (∀ (s u : State) (l : Option LinkId) (p : Packet), Passed s l p 0 u → pArrive p = false → pWiden p = false → s.sbus.posted = [] →
    Plain (arriveAt u (pAddr p)) (pTenant p) (pAddr p) p.data.length → Yields (.write l p) s (fun t =>
      (∀ j, j < p.data.length → memGet t.mem (pAddr p + j) = p.data.getD j 0) ∧ SameOutside s t (pAddr p) p.data.length ∧
        t.queues = (awaitRefresh (arriveAt u (pAddr p)) (linesOf (pAddr p) p.data.length)).queues)) ∧
  (∀ (s u : State) (l : Option LinkId) (p : Packet), Passed s l p 1 u → p.side ≠ 0 → inRegs (pAddr p) p.side = false →
    Plain (arriveAt u (pAddr p)) (pTenant p) (pAddr p) p.side → Yields (.read l p) s (fun t => t.mem = s.mem ∧
      t = answerPacket (awaitRefresh (arriveAt u (pAddr p)) (linesOf (pAddr p) p.side)) p 2 0 (if allParam (arriveAt u (pAddr p)) (pAddr p) p.side then 2 ^ 12 else 0)
        (memRead s.mem (pAddr p) p.side)))

/-- Of R269, R277, R278: An atomic returns the old word and leaves the new one, and no byte outside the word changes. An atomic is applied
once: its receipt answers every later copy of it, and memory stays as it is. -/
def Obligations.AtomicsApplyOnce : Prop :=
  (∀ (x : Access) (a aop w operand compare : Nat), (w = 32 ∨ w = 64) → atomicTarget a = true → a % (w / 8) = 0 →
    Plain x.s x.tenant a (w / 8) →
      (x.atomic a aop w operand compare).1 = memNat x.s a (w / 8) ∧
        memNat (x.atomic a aop w operand compare).2.s a (w / 8) = atomicNew aop w (memNat x.s a (w / 8)) operand compare ∧
        SameOutside x.s (x.atomic a aop w operand compare).2.s a (w / 8) ∧
        (aop = 0 → atomicNew aop w (memNat x.s a (w / 8)) operand compare = (memNat x.s a (w / 8) + operand) % 2 ^ w) ∧
        (aop = 1 → atomicNew aop w (memNat x.s a (w / 8)) operand compare = operand % 2 ^ w) ∧
        (aop = 2 → memNat x.s a (w / 8) ≠ compare % 2 ^ w →
          atomicNew aop w (memNat x.s a (w / 8)) operand compare = memNat x.s a (w / 8))) ∧
  (∀ (s u v : State) (l : Option LinkId) (p : Packet), Passed s l p 4 u → windowFor u (pSrc p) (pTenant p) = (v, true) →
    (∀ t, (slotOf v (pSrc p) (pTenant p) (pSeq p)).kind = 0 → pRetry p = false → storeAtomic v p = some t →
      exec (.atomic l p) s = .next t ∧ (slotOf t (pSrc p) (pTenant p) (pSeq p)).seq = pSeq p ∧
        (slotOf t (pSrc p) (pTenant p) (pSeq p)).kind = 1 ∧
        (slotOf t (pSrc p) (pTenant p) (pSeq p)).result = (applyAtomic (arriveAt v (pAddr p)) p).1) ∧
    ((slotOf v (pSrc p) (pTenant p) (pSeq p)).kind ≠ 0 → (slotOf v (pSrc p) (pTenant p) (pSeq p)).seq = pSeq p →
      Yields (.atomic l p) s (fun t => t.mem = s.mem ∧ t = answerPacket (rinc v Reg.MSF_DUP_ATOMICS) p 5
        (slotOf v (pSrc p) (pTenant p) (pSeq p)).status 0 (natLe (slotOf v (pSrc p) (pTenant p) (pSeq p)).result 8))) ∧
    ((slotOf v (pSrc p) (pTenant p) (pSeq p)).kind = 0 → pRetry p = true → Yields (.atomic l p) s (fun t => t.mem = s.mem ∧
      t = answerPacket v p 5 9 0 (natLe 0 8))))

/-- Of R273, R271 to R273, R277, R279: A chunk counts when it first lands within the window of its slot, and never again once its bit is
marked. An answer reaches the docket of its operation; one of a resolved operation is dropped and counted. The model's own choices in it:
log entry 41. -/
def Obligations.RemoteAnswers : Prop :=
  (∀ (low c d : BitVec 16) (map : W64), let m := map ||| (1#64 <<< (c - low).toNat)
    (c - low).toNat < 64 → (d - low).toNat < 64 →
      let x := shiftMap low m 64
      let r : Receipt := { seq := 0, kind := 2, status := 0, result := 0, low := low, map := map }
      chunkAt { r with low := x.1, map := x.2 } c = .dup ∧
        (d ≠ c → chunkAt { r with low := x.1, map := x.2 } d = chunkAt r d)) ∧
  ((∀ (s u : State) (l : Option LinkId) (p : Packet) (c : Instr) (n : Nat),
    (c, n) ∈ [(Instr.readData l p, 2), (.writeAck l p, 3), (.atomicResult l p, 5)] → Passed s l p n u → opFor u p = none →
      exec c s = .next (rinc u Reg.TENANT_DROPPED 0 (pTenant p))) ∧
  (∀ (s u t : State) (l : Option LinkId) (p : Packet) (e : QEntry) (o : ROp) (i : Nat), Passed s l p 2 u → Answers u p e o →
    o.kind = 1 → o.queue < 2048 → chunkOfFlow o (pFlow p) = some i → readLands u p e o i = some t →
      exec (.readData l p) s = .next t) ∧
  (∀ (s u : State) (l : Option LinkId) (p : Packet) (e : QEntry) (o : ROp) (i : Nat), Passed s l p 3 u → Answers u p e o →
    o.kind = 0 → o.queue < 2048 → chunkOfFlow o (pFlow p) = some i → pStatus p ≠ 15 →
      exec (.writeAck l p) s = .next (writeAcked u e o i (pStatus p))) ∧
  (∀ (s u t : State) (l : Option LinkId) (p : Packet) (e : QEntry) (o : ROp), Passed s l p 5 u → Answers u p e o →
    o.kind = 2 → o.unacked ≠ [] → pStatus p ≠ 15 →
    atomicEnd (arriveAt u (atomicDst e)) o.queue e (pStatus p) (leNat (p.data.take 8)) = some t →
      exec (.atomicResult l p) s = .next (fenceAck (updRop t o (fun o => { o with unacked := [], again := [] })) o 0)) ∧
  (∀ (s u : State) (l : Option LinkId) (p : Packet) (e : QEntry) (o : ROp) (n : Nat), n = 3 ∨ n = 5 → Passed s l p n u →
    Answers u p e o → pStatus p = 15 → exec (.busyReply l p) s = .next (busyAnswer u e o (pFlow p))) ∧
  (∀ (s : State) (q : QueueId) (o : ROp), Clocked s → s.msf.ops.find? (fun o => o.queue == q.val && o.again != []) = some o →
    let v := advanceTo s (o.sentAt + 1000 * rget s Reg.MSF_BUSY_BACKOFF_US)
    let w := updRop v o (fun o => { o with again := [], sentAt := v.time.cyc })
    (o.dev.toNat = ownDev v ∨ peerEnds w o = none →
      exec (.busyBackoff q) s = .next (o.again.foldl (fun s p => send s (some q.val) p) w)) ∧
    (∀ t, o.dev.toNat ≠ ownDev v → peerEnds w o = some t → exec (.busyBackoff q) s = .next t)))

/-- Of R268, R271, R279, R283, R285: An atomic docket to another device leaves as one packet that awaits its answer, and goes again when none
comes. A fence that awaits no packet ends at once, one that does waits for them; RINVAL empties its range from its caches. The model's own
choices in it: log entry 41. -/
def Obligations.RemoteAtomicsAndFences : Prop :=
  ((∀ (s v : State) (core : CoreId) (e : QEntry) (seq : W32), Clocked s → queue s (4 * core.val + 3) = [] →
    unstarted s (4 * core.val + 2) (fun e => dkEngine e.dk == 2 && dkOp e.dk == 6) = some e →
    gDev (atomicReq e).addr % 4 = 0 → gDev (atomicReq e).addr ≠ ownDev s → gLoc (atomicReq e).addr < 2 ^ 43 → peerFault s (gDev (atomicReq e).addr) = 0 →
    seqFor s (4 * core.val + 2) e = (some seq, v) → ropOf v e.tenant.val seq = none → Yields (.ratomic core) s (fun t =>
      (∃ o, ropOf t e.tenant.val seq = some o ∧ o.kind = 2 ∧ o.unacked = [0] ∧ o.queue = 4 * core.val + 2) ∧
        (∃ f, entryOf t (4 * core.val + 2) e.toRef = some f ∧ f.started = true) ∧ t.mem = s.mem)) ∧
  (∀ (s v : State) (core : CoreId) (e : QEntry) (o : ROp), Clocked s → dueAtomic s core.val = some o → entryOf s o.queue o.ref = some e →
    e.done = false → e.cut = false →
    v = advanceTo s (o.sentAt + 1000 * rget s Reg.MSF_ATOMIC_RESEND_US / resendShift s (queueDie o.queue)) →
    peerFenced (peerOut v o.dev.toNat) = false → peerValid (peerOut v o.dev.toNat) = true → peerGen (peerOut v o.dev.toNat) = o.gen.toNat →
      let o' := { o with retry := true, sentAt := v.time.cyc }
      exec (.atomicResend core) s = .next (send (rinc (updRop v o (fun _ => o')) Reg.MSF_ATOMIC_RESENDS) (some o.queue) (atomicPacket v e o')))) ∧
  (∀ (s : State) (core : CoreId) (e : QEntry), Clocked s →
    (unstarted s (4 * core.val + 2) (fun e => dkEngine e.dk == 2 && dkOp e.dk == 7) = some e → awaitedOf s core.val e = [] →
      exec (.rfence core) s = .next (updEntry s (4 * core.val + 2) e.toRef (fun e => { e with started := true, done := true }))) ∧
    (unstarted s (4 * core.val + 2) (fun e => dkEngine e.dk == 2 && dkOp e.dk == 7) = some e → awaitedOf s core.val e ≠ [] →
      Yields (.rfence core) s (fun t => mapFind t.msf.fences (4 * core.val + 2) = some (awaitedOf s core.val e) ∧
        t = { updEntry s (4 * core.val + 2) e.toRef (fun e => { e with started := true, done := false }) with msf := t.msf } ∧
        t.msf.cache = s.msf.cache ∧ t.msf.windows = s.msf.windows ∧ t.msf.ops = s.msf.ops)) ∧
    (unstarted s (4 * core.val + 2) (fun e => dkEngine e.dk == 2 && dkOp e.dk == 8) = some e → gDev (dkf e.dk 0x38 0 64) % 4 ≠ 0 →
      exec (.rinval core) s = .next (endCopy s (4 * core.val + 2) e 4 (dkf e.dk 0x38 0 64))) ∧
    (unstarted s (4 * core.val + 2) (fun e => dkEngine e.dk == 2 && dkOp e.dk == 8) = some e → gDev (dkf e.dk 0x38 0 64) % 4 = 0 →
      Yields (.rinval core) s (fun t => t.mem = s.mem ∧ t.msf.windows = s.msf.windows ∧
        (∃ f, entryOf t (4 * core.val + 2) e.toRef = some f ∧ f.started = true ∧ f.done = true) ∧
        ∀ c ∈ t.msf.cache, (c.1 / 2 ^ 60 = core.val / 64 ∨ (dkf e.dk 0x30 0 1 = 1 ∧ c.1 / 2 ^ 60 < 8)) →
          inRange (dkf e.dk 0x38 0 64) (dkf e.dk 0x40 0 40) (c.1 % 2 ^ 60) = false)))

/-- Of R253, R256, R257, R261, R263, R258, R260, R277, R373: A packet for this module is kept, another goes on; one of a wrong generation is
dropped and counted; a multicast packet is replicated once every branch has room. A REJECT of this module's generation and a FENCE_NOTICE
fence it off: every waiting packet of TC0 to TC14 is discarded. Writes of the peer table, of multicast groups and of the module's own
generation. The model's own choices in it: log entries 15, 17. -/
def Obligations.PacketsAndPeers : Prop :=
  ((∀ (s u : State) (l : LinkId) (p : Packet), Clocked s → pMcast p = false → checkArrival (takeRx s l p) l p = (u, true) →
    exec (.packetForward (some l) p) s = .next (if pDst p = ownDev s then keepPacket u p else passOn u (some l) p)) ∧
  (∀ (s : State) (l : LinkId) (p : Packet), Clocked s → pMcast p = false →
    peerGen (peerEntry s (l.val % 2) (pSrc p)) ≠ pSrcGen p → rget s Reg.ROUTE_GEN_DROPS < 2 ^ 32 - 1 →
      Yields (.packetForward (some l) p) s (fun t => rget t Reg.ROUTE_GEN_DROPS = rget s Reg.ROUTE_GEN_DROPS + 1 ∧
        t.route.inbox = s.route.inbox ∧ t.mem = s.mem ∧ t.queues = s.queues)) ∧
  (∀ (s u : State) (from' : Option LinkId) (p : Packet), Clocked s → pMcast p = true →
    let m := groupOf s (pDst p % 4096)
    (m.valid = false ∨ mcastFenced s p = true ∨ branchesReady s m from' p = true) →
    (match from' with
      | none => u = { s with route := { s.route with mwait := dropFirst s.route.mwait (· == p) } }
      | some l => checkArrival (takeRx s l p) l p = (u, true)) →
      exec (.mcastReplicate from' p) s = .next (
        if m.valid = false then rinc u Reg.ROUTE_MCAST_DROPS
        else if mcastFenced u p = true then
          (if m.loc then keepPacket (rinc u Reg.ROUTE_FENCED_DROPS) p else rinc u Reg.ROUTE_FENCED_DROPS)
        else replicate u from' m p))) ∧
  ((∀ (s : State) (p : Packet) (c : Instr), Clocked s → pDst p = ownDev s → rget s Reg.ROUTE_FENCED_SELF = 0 →
    (c = .reject p ∧ pOpc p = 6 ∧ pf p 132 4 = 0) ∨ (c = .fenceNotice p ∧ pOpc p = 7) → Yields c s (fun t =>
      rget t Reg.ROUTE_FENCED_SELF = 1 ∧ (∀ l : LinkId, ∀ q ∈ (linkOf t l.val).tx, pTenant q = 15) ∧ t.route.held = [] ∧
        (∀ q ∈ t.route.mwait, pTenant q = 15) ∧ t.mem = s.mem ∧ t.queues = s.queues)) ∧
  (∀ (s u : State) (w : Writer), Lands s w routePage Reg.ROUTE_FENCED_SELF 0 u →
    exec (.fencedSelfClear w) s = .next (rset u Reg.ROUTE_FENCED_SELF 0 0 0))) ∧
  ((∀ (s u : State) (w : Writer) (v : W32), Lands s w routePage Reg.ROUTE_PEER_DATA 0 u → exec (.peerDataWrite w v) s =
    .next { u with route := { u.route with
      pend := u.route.pend ++ [(0, rget u Reg.ROUTE_PEER_INDEX, v &&& 0xF3FF), (1, rget u Reg.ROUTE_PEER_INDEX, v &&& 0xF3FF)] } }) ∧
  (∀ (s : State) (f : FDie) (i : Nat) (e : W32), Clocked s → s.route.pend.find? (fun x => x.1 == f) = some (f, i, e) →
    Yields (.peerEntryApplied f) s (fun t => mapFind (if f.val = 0 then t.route.peer0 else t.route.peer1) i = some e ∧
      (if f.val = 0 then t.route.peer1 = s.route.peer1 else t.route.peer0 = s.route.peer0) ∧
      t.route.pend = dropFirst s.route.pend (fun x => x.1 == f))) ∧
  (∀ (s u : State) (w : Writer) (g : Fin 4096), Lands s w routePage Reg.ROUTE_GROUP_INDEX 0 u → exec (.groupIndex w g) s =
    .next { u with route := { u.route with groups := mapSet u.route.groups g.val {
      valid := bitAt (rget u Reg.ROUTE_GROUP_CTRL) 0
      loc := bitAt (rget u Reg.ROUTE_GROUP_CTRL) 1
      mask := BitVec.ofNat 64 (rget64 u Reg.ROUTE_GROUP_MASK_LO Reg.ROUTE_GROUP_MASK_HI) } } }) ∧
  (∀ (s u : State) (w : Writer) (g : Fin 4096), Lands s w routePage Reg.ROUTE_GROUP_INDEX_LOAD 0 u → Yields (.groupIndexLoad w g) s (fun t =>
    rget64 t Reg.ROUTE_GROUP_MASK_LO Reg.ROUTE_GROUP_MASK_HI = (groupOf u g.val).mask.toNat ∧
      rget t Reg.ROUTE_GROUP_CTRL = b2n (groupOf u g.val).valid + 2 * b2n (groupOf u g.val).loc ∧ t = { u with regs := t.regs })) ∧
  (∀ (s u : State) (w : Writer) (v : Byte), Lands s w routePage Reg.ROUTE_OWN_GEN 0 u →
    (rget u Reg.ROUTE_OWN_GEN < v.toNat → Yields (.ownGenWrite w v) s (fun t => rget t Reg.ROUTE_OWN_GEN = v.toNat ∧
      t.msf.windows = [] ∧ rget t Reg.MSF_WINDOWS_USED = 0 ∧ t.resets = u.resets ∧ t.mem = u.mem)) ∧
    (v.toNat ≤ rget u Reg.ROUTE_OWN_GEN → Yields (.ownGenWrite w v) s (fun t => t.resets.ownGen = some v ∧
      rget t Reg.ROUTE_OWN_GEN = rget u Reg.ROUTE_OWN_GEN ∧ t.msf = u.msf ∧ t.mem = u.mem))))

/-- Of R251: The fields of a packet of this module stand at their places in its header. -/
def Obligations.PacketHeaderFields : Prop :=
  ∀ (s : State) (dst dgen tenant cls flow op : Nat) (mcast : Bool) (data : List Byte), tenant < 16 → cls < 4 → data.length ≤ 4096 →
    rget s Reg.ROUTE_OWN_DEV < 2 ^ 16 → rget s Reg.ROUTE_OWN_GEN < 256 →
      let p := mkPacket s dst dgen tenant mcast cls flow op data
      pDst p = dst % 2 ^ 16 ∧ pSrc p = rget s Reg.ROUTE_OWN_DEV ∧ pDstGen p = dgen % 256 ∧ pSrcGen p = rget s Reg.ROUTE_OWN_GEN ∧
        pTenant p = tenant ∧ pMcast p = mcast ∧ pClass p = cls ∧ pLayer p = 0 ∧ pHops p = 0 ∧ pLen p = ceilDiv data.length 32 ∧
        pFlow p = flow % 2 ^ 16 ∧ pOpc p = op % 16

/-- Of R248, R264, R265, R240, R241: A link comes up phase by phase, goes DOWN when its time runs out, retrains when it is asked to, and loses
what it holds when it is disabled. A lane locks at its fourth marker on its period, the link aligns once four lanes are locked, and lost
markers unlock. The model's own choices in it: log entry 17. -/
def Obligations.LinksComeUp : Prop :=
  ((∀ (s u : State) (w : Writer) (l : LinkId), Lands s w (linkPage l.val) Reg.ZLINK_ENABLE 0 u → linkState u l.val = 0 →
    Yields (.linkEnableWrite w l true) s (fun t => linkState t l.val = 1 ∧ rget t Reg.ZLINK_ENABLE l.val = 1 ∧
      (linkOf t l.val).bringing = true ∧ (linkOf t l.val).since = u.time.cyc ∧ t.mem = u.mem ∧ t.queues = u.queues)) ∧
  (∀ (s u : State) (w : Writer) (l : LinkId), Lands s w (linkPage l.val) Reg.ZLINK_ENABLE 0 u → linkState u l.val ≠ 0 →
    Yields (.linkEnableWrite w l false) s (fun t => linkState t l.val = 0 ∧ rget t Reg.ZLINK_ENABLE l.val = 0 ∧
      (linkOf t l.val).replay = [] ∧ (linkOf t l.val).tx = (linkOf u l.val).tx.filter pMcast ∧ (linkOf t l.val).rx = [] ∧ t.mem = u.mem ∧ t.queues = u.queues)) ∧
  (∀ (s : State) (l : LinkId) (dev : BitVec 16) (far : Fin 64) (turn : W32) (trips : List Nat), Clocked s →
    (linkOf s l.val).bringing = true → let c := Instr.linkPhaseDone l dev far ⟨turn, trips⟩
    (linkState s l.val = 2 ∨ (linkState s l.val = 1 ∧ domainOn s (quadDomain l.val) = true) →
      Yields c s (fun t => linkState t l.val = linkState s l.val + 1 ∧ t = { s with regs := t.regs })) ∧
    (linkState s l.val = 3 → (∀ n : Fin 4, (laneOf (linkOf s l.val) n.val).locked = true) → Yields c s (fun t => linkState t l.val = 4 ∧
      (linkOf t l.val).good = 0 ∧ t = { s with regs := t.regs, links := t.links })) ∧
    (linkState s l.val = 3 → (∃ n : Fin 4, (laneOf (linkOf s l.val) n.val).locked = false) → exec c s = .next s) ∧
    (linkState s l.val = 4 → 64 ≤ (linkOf s l.val).good → Yields c s (fun t => linkState t l.val = 5 ∧
      (∃ f, Out.flit l f ∈ t.out ∧ ff f 26 2 = 2) ∧ t.mem = s.mem ∧ t.queues = s.queues)) ∧
    (linkState s l.val = 4 → (linkOf s l.val).good < 64 → exec c s = .next s) ∧
    (linkState s l.val = 5 → Yields c s (fun t => linkState t l.val = 6 ∧ rget t Reg.ZLINK_PEER_DEV l.val = dev.toNat ∧
      rget t Reg.ZLINK_PEER_LINK l.val = far.val ∧ (linkOf t l.val).farTurn = turn.toNat ∧ t = { s with regs := t.regs, links := t.links })) ∧
    (linkState s l.val = 6 → trips.length = 64 → linkHeld s l.val = false → Yields c s (fun t => linkState t l.val = 7 ∧
      rget t Reg.FTIME_LINK_DELAY 0 l.val = (trips.sum - 64 * (linkOf s l.val).farTurn) / 128 % 2 ^ 32 ∧
      (linkOf t l.val).bringing = false ∧ (linkOf t l.val).failed = 0 ∧ t.mem = s.mem ∧ t.queues = s.queues))) ∧
  (∀ (s : State) (l : LinkId), Clocked s → (linkOf s l.val).bringing = true → Yields (.bringupTimeout l) s (fun t =>
    linkState t l.val = 1 ∧ (linkOf t l.val).bringing = false ∧ (linkOf t l.val).failed = (linkOf s l.val).failed + 1 ∧
      (linkOf t l.val).tx = (linkOf s l.val).tx.filter pMcast ∧ t.mem = s.mem)) ∧
  (∀ (s : State) (l : LinkId), Clocked s → linkState s l.val = 7 → Yields (.retrain l none) s (fun t =>
    linkState t l.val = (if 2 ≤ (linkOf s l.val).failed then 2 else 3) ∧ (linkOf t l.val).bringing = true ∧
      (linkOf t l.val).replay = (linkOf s l.val).replay ∧ t.mem = s.mem ∧ t.queues = s.queues)) ∧
  (∀ (s u : State) (w : Writer) (l : LinkId), Lands s w (linkPage l.val) Reg.ZLINK_RETRAIN 0 u → linkState u l.val ∉ [1, 7] →
    exec (.retrain l (some w)) s = .next u) ∧
  (∀ (s : State) (l : LinkId), Clocked s → 6 ≤ linkState s l.val → rget s Reg.FTIME_SYNC_STATE ≠ 4 →
    ((linkOf s l.val).timeAt < s.time.ft.toNat / 4096 → Yields (.timeWordSend l) s (fun t =>
      Out.timeWord l s.time.ft ∈ t.out ∧ t.time = s.time ∧ t.mem = s.mem ∧ t.queues = s.queues)) ∧
    ((linkOf s l.val).timeAt = s.time.ft.toNat / 4096 → s.time.ft.toNat + 4096 < 2 ^ 64 → Yields (.timeWordSend l) s (fun t =>
      (∃ v, Out.timeWord l v ∈ t.out ∧ (s.time.ft.toNat / 4096 + 1) * 4096 ≤ v.toNat) ∧ t.mem = s.mem)))) ∧
  (∀ (s : State) (l : LinkId) (lane : Fin 4), Clocked s →
    let a := laneOf (linkOf s l.val) lane.val
    (∀ (n : Nat) (inv on : Bool) (lg : Fin 4) (c : BitVec 16), 8 < n → exec (.markerSlotReceived l lane n inv lg c on) s = .next s) ∧
    (∀ (n : Nat) (inv : Bool) (lg : Fin 4) (c : BitVec 16), n ≤ 8 → linkState s l.val = 3 → a.locked = false →
      Yields (.markerSlotReceived l lane n inv lg c true) s (fun t =>
        laneOf (linkOf t l.val) lane.val = ⟨a.hits + 1, decide (4 ≤ a.hits + 1), inv, lg.val, c, 0⟩ ∧
          (∀ k : Fin 4, k ≠ lane → laneOf (linkOf t l.val) k.val = laneOf (linkOf s l.val) k.val) ∧
          linkState t l.val = (if 3 ≤ a.hits ∧ ∀ k : Fin 4, k ≠ lane → (laneOf (linkOf s l.val) k.val).locked = true then 4 else 3) ∧
          t.mem = s.mem ∧ t.queues = s.queues)) ∧
    (linkState s l.val = 7 → a.missed < 3 → Yields (.laneMarkerMissed l lane) s (fun t =>
      laneOf (linkOf t l.val) lane.val = { a with missed := a.missed + 1 } ∧ linkState t l.val = 7 ∧ t.mem = s.mem)) ∧
    (linkState s l.val = 7 → 3 ≤ a.missed → exec (.laneMarkerMissed l lane) s = .next (startRetrain s l.val true)) ∧
    (4 ≤ linkState s l.val → linkState s l.val < 7 → Yields (.laneMarkerMissed l lane) s (fun t =>
      linkState t l.val = 3 ∧ (linkOf t l.val).lanes = [] ∧ t.mem = s.mem ∧ t.queues = s.queues)))

/-- Of R242, R245, R265, R246, R248: An UP link accepts the DATA flit that it expects, ignores one that it has had, and answers any other with
NAK. A flit that fails its check is refused with NAK and counted; a codeword before the link aligns is no flit. Unacknowledged flits go
again, all of them, when their time runs out; after RETRY_LIMIT resends the link retrains. The model's own choices in it: log entry 17. -/
def Obligations.FlitsAndResends : Prop :=
  (∀ (s : State) (l : LinkId) (f : Flit), Clocked s → linkState s l.val = 7 → flitCrcOk f = true → ff f 26 2 = 0 → ff f 24 1 = 0 →
    let q := BitVec.ofNat 12 (ff f 0 12)
    let k := linkOf s l.val
    (q = k.expect → Yields (.flitReceived l .clean f) s (fun t =>
      (linkOf t l.val).expect = k.expect + 1 ∧ (linkOf t l.val).nak = false ∧ t.mem = s.mem ∧ t.queues = s.queues)) ∧
    (q ≠ k.expect → (k.expect - q).toNat ≤ 2048 → Yields (.flitReceived l .clean f) s (fun t =>
      (linkOf t l.val).expect = k.expect ∧ (linkOf t l.val).rx = k.rx ∧ (linkOf t l.val).part = k.part ∧
        (linkOf t l.val).nak = k.nak ∧ t.mem = s.mem)) ∧
    (2048 < (k.expect - q).toNat → Yields (.flitReceived l .clean f) s (fun t =>
      (linkOf t l.val).expect = k.expect ∧ (linkOf t l.val).rx = k.rx ∧ (linkOf t l.val).nak = true ∧ t.mem = s.mem))) ∧
  (∀ (s : State) (l : LinkId) (f : Flit), Clocked s →
    (linkState s l.val = 7 → flitCrcOk f = false → rget s Reg.ZLINK_CRC_ERRORS l.val < 2 ^ 32 - 1 →
      Yields (.flitReceived l .clean f) s (fun t => (linkOf t l.val).nak = true ∧ (linkOf t l.val).expect = (linkOf s l.val).expect ∧
        (linkOf t l.val).rx = (linkOf s l.val).rx ∧ rget t Reg.ZLINK_CRC_ERRORS l.val = rget s Reg.ZLINK_CRC_ERRORS l.val + 1 ∧
        t.mem = s.mem ∧ t.queues = s.queues)) ∧
    (linkState s l.val = 7 → (linkOf s l.val).winBad + 1 < rget s Reg.ZLINK_UNCORR_RETRAIN l.val → (linkOf s l.val).winCws < 1048576 →
      Yields (.flitReceived l .uncorrectable f) s (fun t => (linkOf t l.val).nak = true ∧ linkState t l.val = 7 ∧
        (linkOf t l.val).expect = (linkOf s l.val).expect ∧ (linkOf t l.val).winBad = (linkOf s l.val).winBad + 1 ∧ t.mem = s.mem)) ∧
    (∀ fec : Fec, linkState s l.val < 4 → exec (.flitReceived l fec f) s = .next s)) ∧
  (∀ (s : State) (l : LinkId), Clocked s → linkState s l.val = 7 → (linkOf s l.val).replay ≠ [] →
    ((linkOf s l.val).resends < rget s Reg.ZLINK_RETRY_LIMIT l.val → Yields (.replayTimeout l) s (fun t =>
      (linkOf t l.val).resends = (linkOf s l.val).resends + 1 ∧ (linkOf t l.val).replay = (linkOf s l.val).replay ∧
        (linkOf t l.val).next = (linkOf s l.val).next ∧ linkState t l.val = 7 ∧ t.mem = s.mem)) ∧
    (rget s Reg.ZLINK_RETRY_LIMIT l.val ≤ (linkOf s l.val).resends → exec (.replayTimeout l) s =
      .next (startRetrain (advanceTo s ((linkOf s l.val).ackAt + replayNs s l.val)) l.val true)))

/-- Of R249: Units sent on a virtual channel take as many credits, the reserved share first, and units returned give them back. -/
def Obligations.CreditsAreSpentAndReturned : Prop :=
  ∀ (s : State) (l v n : Nat),
    (n ≤ credits s l v → credits (takeCredits s l v n) l v + n = credits s l v) ∧
    (∀ k : LinkSt, k = linkOf s l → mapGet k.used v 0 ≤ vcShare s l v → k.pool ≤ poolSize s l → n ≤ mapGet k.used v 0 + k.pool →
      credits (setLink s l (giveCredits k v n)) l v = credits s l v + n)

/-- Of R182 to R186: A running INGEST docket whose plan reads well becomes a job of its die. The model's own choices in it: log entry 24. -/
def Obligations.IngestTakesItsPlan : Prop :=
  ∀ (s : State) (m : MDie) (r : DocketRef) (e : QEntry), Clocked s → entryOf s (2060 + m.val) r = some e → e.running = true →
    e.started = false → e.done = false → e.cut = false →
    (∀ f, ingestFault s e = f → f ≠ 0 → exec (.ingest m r) s = .next (endIngest s m.val r f)) ∧
    (∀ (x : Access) (spans : List MSpan), ingestFault s e = 0 →
      readPlan (e.access s) (ingPlan e.dk) (ingEntries e.dk) = (spans, x) → x.stalled = false → x.faults = [] →
      (spans.map (fun sp => (targetIdx sp).length)).sum ∈ List.range' 1 64 →
      128 + (spans.map (fun sp => (outputs sp).length)).sum * frameBytes (profileIn x.s m.val (ingProfile e.dk)) ≤
        (if ingToHopper e.dk then min (ingOutMax e.dk) (hopSlotBytes x.s (ingHopper e.dk)) else ingOutMax e.dk) →
        exec (.ingest m r) s = .next (updEntry (setMill x.s m.val { millOf x.s m.val with
          jobs := (millOf x.s m.val).jobs ++ [{ ref := r, spans := spans, frames := [], captions := [], audio := [] }] })
          (2060 + m.val) r (fun e => { e with started := true })))

/-- Of R179, R181, R184, R187, R190, R196, R405, R195: The first waiting video span takes a free pipe and its reservation, and its fetch
starts once its decode group has power; one whose target its tenant may not read ends its docket, one in error or unsupported is mid-grey.
The first waiting audio span goes to the audio unit, in an order of its own. A pipe that has decoded its span hands it on; a decode group
powers up for a waiting span, and off when idle. The model's own choices in it: log entry 24. -/
def Obligations.SpansAndPipes : Prop :=
  (∀ (s : State) (m : MDie) (r : DocketRef) (i p : Nat) (sp : MSpan) (e : QEntry), Clocked s →
    nextSpan (millOf s m.val) false = some (r, i, sp) → sp.audio = false → entryOf s (2060 + m.val) r = some e →
    let starts (w : State) : Prop := audioBusy (millOf w m.val) = true ∨ nextSpan (millOf w m.val) true = none →
      exec (.spanStart m) s = .next w
    let read := spanCause sp = 0 ∨ readsCaptions e sp = true
    let need := if spanCause sp = 0 then reservation sp.source else 0
    let k := millOf s m.val
    let took := setMill s m.val { k with
      pipes := mapSet k.pipes p (r, i), reserved := mapSet k.reserved p need
      waiting := k.waiting.filter (· != (r, i)), idleFrom := mapErase k.idleFrom (p / 4) }
    (targetRefused s m.val e sp = true → starts (endIngest s m.val r 2)) ∧
    (targetRefused s m.val e sp = false → spanCause sp ≠ 0 → readsCaptions e sp = false →
      starts (greySpan s m.val e r i sp (spanCause sp))) ∧
    (targetRefused s m.val e sp = false → read → rget s Reg.MILL_STATE m.val (targetOf sp.source) = 3 →
      starts (failFetch s m.val r sp.addr)) ∧
    (targetRefused s m.val e sp = false → read → rget s Reg.MILL_STATE m.val (targetOf sp.source) = 2 → freePipe s m.val = some p →
      (∀ a, workRefused s m.val = some a → starts (endIngest ((e.access s).refused a).s m.val r 2)) ∧
      (workRefused s m.val = none → (k.reserved.map (·.2)).sum + need ≤ rget s Reg.MILL_WORK_SETS m.val * 0x180000000 →
        (domainOn s (groupDomain m.val (p / 4)) = true → starts (startFetch took m e r i sp)) ∧
        (domainOn s (groupDomain m.val (p / 4)) = false →
          starts (updSpan took m.val r i (fun x => { x with stage := 1 })))))) ∧
  (∀ (s : State) (m : MDie) (r : DocketRef) (i : Nat) (sp : MSpan) (e : QEntry), Clocked s → nextSpan (millOf s m.val) false = none →
    audioBusy (millOf s m.val) = false → nextSpan (millOf s m.val) true = some (r, i, sp) → sp.audio = true →
    entryOf s (2060 + m.val) r = some e →
    (targetRefused s m.val e sp = true → exec (.spanStart m) s = .next (endIngest s m.val r 2)) ∧
    (targetRefused s m.val e sp = false → rget s Reg.MILL_STATE m.val (targetOf sp.source) = 2 → sp.len ≠ 0 →
      exec (.spanStart m) s = .next (startFetch s m e r i sp))) ∧
  (∀ (s : State) (m : MDie), Clocked s →
    (∀ (p : Fin 32) (r : DocketRef) (i : Nat) (e : QEntry) (j : MillJob) (sp : MSpan), mapFind (millOf s m.val).pipes p.val = some (r, i) →
      entryOf s (2060 + m.val) r = some e → (millOf s m.val).jobs.find? (fun j => j.ref == r) = some j → j.spans[i]? = some sp →
      sp.stage = 3 → exec (.spanComplete m p) s = .next (spanDone s m.val p.val e r i sp)) ∧
    (∀ g : Fin 8, (∃ p ∈ (millOf s m.val).pipes, p.1 / 4 = g.val ∧ pipeStage (millOf s m.val) p.2 = 1) →
      Yields (.decodeGroupPowered m g) s (fun t => domainOn t (groupDomain m.val g.val) = true ∧ t.mem = s.mem ∧ t.queues = s.queues)) ∧
    (∀ g : Fin 8, (∀ p ∈ (millOf s m.val).pipes, p.1 / 4 ≠ g.val) → domainOn s (groupDomain m.val g.val) = true →
      Yields (.decodeGroupIdleOff m g) s (fun t => domainOn t (groupDomain m.val g.val) = false ∧
        (∀ i, i ≠ groupDomain m.val g.val → domainOn t i = domainOn s i) ∧ t.mem = s.mem ∧ t.regs = s.regs)))

/-- Of R188, R189, R191, R190, R187: The Reads of a range are whole blocks, none longer than the target takes, and serve every byte of the
range. The completion of a Read brings its bytes, a failed one goes again until its retries are spent, and one of no command in flight is
discarded. Storage targets connect, are kept alive, and are lost. The model's own choices in it: log entry 24. -/
def Obligations.StorageReads : Prop :=
  (∀ lo hi base blk xfer : Nat, 0 < blk → blk ∣ xfer → 0 < xfer → lo < hi →
    (∀ c ∈ splitRange lo hi base blk xfer, c.1 % blk = 0 ∧ c.2.1 % blk = 0 ∧ 0 < c.2.1 ∧ c.2.1 ≤ xfer) ∧
    (∀ b, lo ≤ b → b < hi → ∃ c ∈ splitRange lo hi base blk xfer, c.2.2.1 ≤ b ∧ b < c.2.2.2 ∧ c.1 ≤ base + b ∧ base + b < c.1 + c.2.1)) ∧
  (∀ (s : State) (m : MDie) (cid : Nat) (data : List Byte), Clocked s →
    (cmdOf s m.val cid = none → ∀ st, exec (.nvmeCompletion m cid st data) s = .next s) ∧
    (∀ (c : MillCmd) (sp : MSpan), cmdOf s m.val cid = some c → c.span < loadSpan → spanOf s m.val c = some sp →
      exec (.nvmeCompletion m cid .ok data) s = .next (readDone s m.val c (rf sp.source 8 0 64 + sp.offset) data) ∧
      exec (.rdmaCompletion m cid true data) s = .next (readDone s m.val c (rf sp.source 8 0 64 + sp.offset) data)) ∧
    (∀ c : MillCmd, cmdOf s m.val cid = some c → c.tries < rget s Reg.MILL_FETCH_RETRY_LIMIT m.val →
      ∀ o ∈ [Instr.nvmeCompletion m cid .retryable data, .rdmaCompletion m cid false data], Yields o s (fun t =>
        (∃ d ∈ (millOf t m.val).cmds, d.tries = c.tries + 1 ∧ d.off = c.off ∧ d.len = c.len ∧ d.ref = c.ref ∧ d.span = c.span) ∧
          (millOf t m.val).cmds.length ≤ (millOf s m.val).cmds.length ∧ t.mem = s.mem ∧ t.queues = s.queues)) ∧
    (∀ c : MillCmd, cmdOf s m.val cid = some c → exec (.nvmeTimeout m cid) s = .next (retryRead (advanceTo s
      (c.sentAt + 1000000 * rget s Reg.MILL_NVME_TIMEOUT_MS m.val / resendShift s (10 + m.val))) m c))) ∧
  (∀ (s : State) (m : MDie) (t : Fin 16), Clocked s →
    (∀ n : BitVec 16, rget s Reg.MILL_STATE m.val t.val = 1 → Yields (.targetConnectionReady m t n) s (fun x =>
      rget x Reg.MILL_STATE m.val t.val = 2 ∧ rget x Reg.MILL_MAX_XFER_KIB m.val t.val = min n.toNat 1024 ∧ x = { s with regs := x.regs })) ∧
    (rget s Reg.MILL_STATE m.val t.val = 2 → rget s Reg.MILL_KIND m.val t.val = 0 →
      exec (.keepAlive m t) s = .next (emit s (.ethernet m 1 t.val))) ∧
    (rget s Reg.MILL_STATE m.val t.val ≠ 0 → (∀ c ∈ (millOf s m.val).cmds ++ (millOf s m.val).backlog, c.target ≠ t.val) →
      Yields (.targetConnectionLost m t) s (fun x => rget x Reg.MILL_STATE m.val t.val = 3 ∧ x = { s with regs := x.regs } ∧
        OnlyField s x Reg.MILL_STATE m.val t.val)) ∧
    (rget s Reg.MILL_STATE m.val t.val = 0 → exec (.targetConnectionLost m t) s = .next s))

/-- Of R217 to R219, R219, R221: A Hopper is enabled over regions of its owner, and disabled while no docket names it. INIT writes the seed,
no draw, and every slot EMPTY and expecting its own number; the Hopper is READY. The model's own choices in it: log entry 25. -/
def Obligations.HopperEnableAndInit : Prop :=
  (∀ (s u : State) (w : Writer) (h : HopperId), Lands s w (hopPage h.val) Reg.HOPPER_HOP_ENABLE (h.val / 2) u →
    (hopF u Reg.HOPPER_HOP_ENABLE h.val = 0 → 2 ≤ hopRoom u h.val → hopOwned u h.val = true →
      exec (.hopperEnableWrite w h true) s =
        .next (hopSet (hopSet u Reg.HOPPER_HOP_ENABLE h.val 1) Reg.HOPPER_HOP_STATE h.val 1)) ∧
    (hopF u Reg.HOPPER_HOP_ENABLE h.val = 0 → (hopRoom u h.val < 2 ∨ hopOwned u h.val = false) →
      exec (.hopperEnableWrite w h true) s =
        .next (reportFld u (hopPage h.val) w Reg.HOPPER_HOP_ENABLE (h.val / 2) 2 1 0)) ∧
    (hopF u Reg.HOPPER_HOP_ENABLE h.val = 1 → hopInUse u h.val = false → exec (.hopperEnableWrite w h false) s =
      .next (hopSet (hopSet u Reg.HOPPER_HOP_ENABLE h.val 0) Reg.HOPPER_HOP_STATE h.val 0)) ∧
    (hopF u Reg.HOPPER_HOP_ENABLE h.val = 1 → hopInUse u h.val = true → exec (.hopperEnableWrite w h false) s =
      .next (reportFld u (hopPage h.val) w Reg.HOPPER_HOP_ENABLE (h.val / 2) 2 0 1))) ∧
  (∀ (s : State) (h : HopperId) (e : QEntry), Clocked s → hopRunning s h.val 0 = some e → hopRefuse s h.val e = 0 →
    hopW s h.val ≤ 2 ^ 24 → Plain s e.tenant.val (hopBase s h.val) (64 + 8 * hopW s h.val) → Yields (.init h) s (fun t =>
      hopF t Reg.HOPPER_HOP_STATE h.val = 2 ∧ hopSeed t h.val = hdArg e.dk ∧ hopDrawn t h.val = 0 ∧
        (∀ i, i < hopW s h.val → hopExpect t h.val i = i ∧ hopState t h.val i = 0) ∧
        SameOutside s t (hopBase s h.val) (64 + 8 * hopW s h.val) ∧ t.links = s.links))

/-- R225: Draw j takes slot draw_slot(SEED, W, j), which depends on nothing else; the mixing function is one to one, and each slot has within
one of 2^32 / W of the 2^32 upper words. -/
def Obligations.DrawSlotsAreEven : Prop :=
  (∀ seed w j : Nat, 0 < w → w < 2 ^ 32 →
    drawSlot seed w j = (((mix ((seed + (j + 1) * 0x9E3779B97F4A7C15) % 2 ^ 64) >>> 32) * w) % 2 ^ 64) >>> 32 ∧ drawSlot seed w j < w) ∧
  (∀ (s t : State) (h g j : Nat), hopSeed s h = hopSeed t g → hopW s h = hopW t g → hopDrawSlot s h j = hopDrawSlot t g j) ∧
  (∀ x y : Nat, x < 2 ^ 64 → y < 2 ^ 64 → mix x = mix y → x = y) ∧ (∀ x : Nat, mix x < 2 ^ 64) ∧
  (∀ w slot : Nat, 0 < w → w < 2 ^ 32 → slot < w →
    let n := (List.range (2 ^ 32)).countP (fun x => x * w / 2 ^ 32 == slot)
    n * w < 2 ^ 32 + w ∧ 2 ^ 32 < n * w + w)

/-- Of R225, R227, R228: A draw waits until its slot is FULL or VOID, copies what it holds, and then counts: the slot is EMPTY again, expects the
number W further on, and DRAWN has moved on by one. A draw that meets a fault ends its docket uncounted. The model's own choices in it: log
entry 25. -/
def Obligations.DrawsTakeTheirSlots : Prop :=
  (∀ (s : State) (h : HopperId) (e : QEntry), Clocked s → hopRunning s h.val 1 = some e → entryOf s (hopQueue h.val) e.toRef = some e →
    e.started = false → e.seqs = [] → hopRefuse s h.val e = 0 → hopFilling s h.val = false →
    hdFirst e.dk ≤ hopDrawn s h.val → hopDrawn s h.val < hdFirst e.dk + hdCount e.dk → hopDrawn s h.val < 2 ^ 48 - 1 →
    let j := hopDrawn s h.val
    let i := hopDrawSlot s h.val j
    let en := hopEntryAt s h.val i
    let a := hopSlot s h.val i
    let n := ceilDiv (memNat s (a + 0x10) 4) 64 * 64
    let here := hdArriveEn e.dk = false ∧ ownDev s % 4 = 0 ∧ ∀ ga ∈ drawDests e j, gDev ga = ownDev s
    (hopState s h.val i < 2 → Yields (.draw h) s (fun t => mapFind t.hopper h.val = some { ref := e.toRef, j := j, copying := false
                                                                                           waitFrom := s.time.cyc, starved := 0
                                                                                           src := 0, data := [] } ∧ t.mem = s.mem)) ∧
    (hopState s h.val i = 2 → here → Plain s e.tenant.val en 8 → Plain s e.tenant.val (a + 0x10) 4 → Plain s e.tenant.val a n →
      Yields (.draw h) s (fun t => mapFind t.hopper h.val = some { ref := e.toRef, j := j, copying := true, waitFrom := s.time.cyc
                                                                   starved := 0, src := a, data := memRead s.mem a n } ∧
        t.mem = s.mem)) ∧
    (hopState s h.val i = 3 → here → Plain s e.tenant.val en 8 →
      Yields (.draw h) s (fun t => mapFind t.hopper h.val = some { ref := e.toRef, j := j, copying := true, waitFrom := s.time.cyc
                                                                   starved := 0, src := 0
                                                                   data := voidHeader (memNat s en 8 % 2 ^ 48) } ∧
        t.mem = s.mem))) ∧
  (∀ (s : State) (h : HopperId) (e : QEntry) (d : HopDraw), Clocked s → hopRunning s h.val 1 = some e → mapFind s.hopper h.val = some d →
    e.is d.ref = true → exec (.drawSlotReady h) s = .next (evalDraw s h.val e d)) ∧
  (∀ (s : State) (h : HopperId) (e : QEntry) (d : HopDraw), Clocked s → hopRunning s h.val 1 = some e → mapFind s.hopper h.val = some d →
    e.is d.ref = true → d.copying = true → drawAcked s e = true → hopFilling s h.val = false →
    let l := landDraw s e d
    let f := worst (e.status :: l.x.faults)
    l.x.stalled = false → l.all = true →
      (f = 0 → (countStores h.val e d l.x).stalled = false → exec (.drawLanded h) s = .next (drainPosted (countDraw h.val e d l.x))) ∧
      (f ≠ 0 → exec (.drawLanded h) s = .next (drainPosted (endDraw l.x.s h.val e f
        (if e.status = 4 then e.badAddr else l.x.bad.getD e.badAddr))))) ∧
  (∀ (h : HopperId) (e : QEntry) (d : HopDraw) (x : Access), hdList e.dk = 0 → x.faults = [] →
    let t := countDraw h.val e d x
    let i := hopDrawSlot x.s h.val d.j
    Plain x.s x.tenant (hopEntryAt x.s h.val i) 8 → Plain x.s x.tenant (hopBase x.s h.val + 16) 8 →
    hopDrawn t h.val = (d.j + 1) % 2 ^ 48 ∧ hopExpect t h.val i = (hopW x.s h.val + d.j) % 2 ^ 48 ∧ hopState t h.val i = 0 ∧
      (∀ a, (a < hopBase x.s h.val + 16 ∨ hopBase x.s h.val + 24 ≤ a) → (a < hopEntryAt x.s h.val i ∨ hopEntryAt x.s h.val i + 8 ≤ a) →
        memGet t.mem a = memGet x.s.mem a))

/-- Of R231, R232: A SAVE to this device leaves the control block as it stands with its mark and version, and a state block restored sets the
seed, the draws and every slot's number again. The model's own choices in it: log entry 25. -/
def Obligations.SaveAndRestoreAHopper : Prop :=
  (∀ (s : State) (h : HopperId) (e : QEntry), Clocked s → hopRunning s h.val 2 = some e → e.started = false → hopRefuse s h.val e = 0 →
    gDev (hdDst e.dk) = ownDev s → ownDev s % 4 = 0 → hopW s h.val ≤ 2 ^ 24 →
    let n := 64 + 8 * hopW s h.val
    let b := memRead s.mem (hopBase s h.val) n
    Plain s e.tenant.val (gLoc (hdDst e.dk)) n → Plain s e.tenant.val (hopBase s h.val) n → Yields (.hopperSave h) s (fun t =>
      memRead t.mem (gLoc (hdDst e.dk)) n = b.take 24 ++ stateMagic ++ List.replicate 32 0 ++ b.drop 64 ∧
        SameOutside s t (gLoc (hdDst e.dk)) n)) ∧
  (∀ (s : State) (h : HopperId) (e : QEntry), Clocked s → hopRunning s h.val 3 = some e → e.started = false →
    hopRefuse s h.val e = 0 → gDev (hdDst e.dk) = ownDev s → ownDev s % 4 = 0 → hopW s h.val ≤ 2 ^ 24 →
    let n := 64 + 8 * hopW s h.val
    let b := memRead s.mem (gLoc (hdDst e.dk)) n
    Plain s e.tenant.val (gLoc (hdDst e.dk)) n → Plain s e.tenant.val (hopBase s h.val) n →
    leNat ((b.drop 24).take 4) = 0x52504F48 → leNat ((b.drop 28).take 2) = 1 → leNat ((b.drop 8).take 4) = hopW s h.val →
    Yields (.hopperRestore h) s (fun t =>
      hopF t Reg.HOPPER_HOP_STATE h.val = 2 ∧ hopSeed t h.val = leNat (b.take 8) ∧ hopDrawn t h.val = leNat ((b.drop 16).take 6) ∧
        (∀ i, i < hopW s h.val → hopExpect t h.val i = leNat ((b.drop (64 + 8 * i)).take 6) ∧ hopState t h.val i = 0) ∧
        SameOutside s t (hopBase s h.val) n))

/-- Of R287 to R298, R306: A running collective docket with its partitions and a sound group becomes a collective of the group's members. The
model's own choices in it: log entry 26. -/
def Obligations.CollectivesStart : Prop :=
  ∀ (s : State) (c : Instr) (op : Nat) (r : DocketRef) (e : QEntry), Clocked s →
    (c, op) ∈ [(Instr.reduceScatter r, 0), (.allGather r, 1), (.allReduce r, 2), (.broadcast r, 3), (.anchorMax r, 4)] →
    entryOf s 2056 r = some e → e.running = true → e.started = false → e.done = false → e.cut = false → dkOp e.dk = op →
    (rget s Reg.TALLY_PART_MIB 0 e.tenant.val < 4 ∨ rget s Reg.TALLY_PART_MIB 1 e.tenant.val < 4 → exec c s = .next (endColl s r 2)) ∧
    (4 ≤ rget s Reg.TALLY_PART_MIB 0 e.tenant.val → 4 ≤ rget s Reg.TALLY_PART_MIB 1 e.tenant.val →
      let gr := (e.access s).rdNat (coGroup e.dk) 128
      let devs := groupDevs (readGroup gr.1)
      let rank := firstIdx devs (· == ownDev s)
      let v := firstVec gr.2 e.dk devs.length rank
      gr.2.stalled = false → gr.2.faults = [] → groupBad (readGroup gr.1) = false → rank < devs.length →
      countBad e.dk (readGroup gr.1) = false → (op = 3 → coRoot e.dk < devs.length) →
      (∀ d ∈ devs, d ≠ ownDev s → peerFault s d = 0) → v.2.stalled = false →
        Yields c s (fun t => ∃ (x : State) (k : Coll), t = goOn (setColls x (x.colls ++ [k])) r true collFuel ∧ k.ref = r ∧
          k.devs = devs ∧ k.rank = rank ∧ k.stages = stagesOf e.dk (readGroup gr.1) rank ∧ k.vec = v.1 ∧ x.mem = s.mem ∧
            x.colls = s.colls ∧ ∃ f, entryOf x 2056 r = some f ∧ f.started = true))

/-- Of R299, R300, R308, R298 to R300, R305, R312: A chunk of the present stage is taken, one that fails its check is refused, one of no
collective is dropped and counted, and one already taken is answered and not added again. Grants, acknowledgements and refusals of a
collective's chunks. Base and size of a partition are taken together where it fits, its size is 0 where it does not, and neither changes
while the tenant has a collective in progress. The model's own choices in it: log entry 26. -/
def Obligations.TallyChunks : Prop :=
  ((∀ (s u : State) (l : LinkId) (p : Packet) (c : Instr) (anchor : Bool), Clocked s →
    (c = .tallyData l p ∧ pOpc p = 8 ∧ anchor = false) ∨ (c = .tallyAnchor l p ∧ pOpc p = 9 ∧ anchor = true) →
    admitPacket s (some l) p = (u, true) →
    (collFor u p = none → exec c s = .next (staleChunk u (tpChunk p))) ∧
    (∀ (k : Coll) (e : QEntry), collFor u p = some (k, e) → inStage p (stageOf k) anchor = true →
      firstIdx (stageOf k).members (· == tpRank p) < (stageOf k).members.length → (mapFind k.slots (tpChunk p)).isSome = true →
      exec c s = .next (if crc32c (natLe (pf p 128 96) 12 ++ p.data) = tpCrc p then
        takeChunk u k e (stageOf k) (firstIdx (stageOf k).members (· == tpRank p)) (tpChunk p) p.data
        else crcFail u l k e (stageOf k) (firstIdx (stageOf k).members (· == tpRank p)) (tpChunk p)))) ∧
  (∀ (s : State) (k : Coll) (e : QEntry) (g : CStage) (place c : Nat) (data : List Byte) (sl : CSlot), mapFind k.slots c = some sl →
    (∃ x ∈ sl.got, x.1 = place) → (takeChunk s k e g place c data).colls = s.colls ∧ (takeChunk s k e g place c data).mem = s.mem ∧
      (takeChunk s k e g place c data).queues = s.queues)) ∧
  ((∀ (s u : State) (p : Packet) (k : Coll) (e : QEntry) (n : Nat) (c : Instr), Clocked s →
    (c, n) ∈ [(Instr.tallyGrant p, 10), (.tallyAck p, 11), (.tallyNak p, 12)] → pOpc p = n → admitPacket s none p = (u, true) →
    pertResponse u 8 n (pTenant p) = (false, u) → collFor u p = some (k, e) →
    (n = 10 → inStage p (stageOf k) (p.side == 1) = true → exec c s = .next (serveGrant u e.dk k (stageOf k)
      (firstIdx (stageOf k).members (· == tpRank p)) (tpChunk p) (tpCrc p))) ∧
    (∀ x, n = 11 → sentTo k (stageOf k) p = some x → exec c s = .next (collsGo (updColl u k.ref (fun k => { k with
      sent := k.sent.filter (· != x), acked := k.acked + 1 })) k.ref)) ∧
    (∀ x, n = 12 → sentTo k (stageOf k) p = some x → exec c s = .next (sendTallyChunk u e.dk k (stageOf k) x.1 x.2.1 true))) ∧
  (∀ (s : State) (r : DocketRef) (peer chunk : Nat) (k : Coll) (e : QEntry) (x : Nat × Nat × Nat), Clocked s → collOf s r = some k →
    entryOf s 2056 r = some e → k.sent.find? (fun x => x.1 == firstIdx (stageOf k).members (· == peer) && x.2.1 == chunk) = some x →
      exec (.tallyChunkResend r peer chunk) s = .next (sendTallyChunk (rinc (advanceTo s
        (x.2.2 + 1000 * rget s Reg.TALLY_CHUNK_RESEND_US (chunk % 2) / resendShift s (8 + chunk % 2)))
        Reg.TALLY_CHUNK_RESENDS (chunk % 2)) e.dk k (stageOf k) (firstIdx (stageOf k).members (· == peer)) chunk true))) ∧
  (∀ (s u : State) (w : Writer) (f : FDie) (t : TenantId) (b : BitVec 11) (m : BitVec 7),
    Lands s w (tallyPage f.val) Reg.TALLY_PART_BASE t.val u → b.toNat ≤ 1535 → (m = 0 ∨ 4 ≤ m.toNat ∧ m.toNat ≤ 96) →
    ((∀ e ∈ queue u 2056, e.running = true → e.tenant ≠ t) → partitionFits u f.val t.val b.toNat m.toNat = true →
      exec (.tallyPartitionWrite w f t b m) s =
        .next (rset (rset u Reg.TALLY_PART_BASE f.val t.val b.toNat) Reg.TALLY_PART_MIB f.val t.val m.toNat)) ∧
    ((∀ e ∈ queue u 2056, e.running = true → e.tenant ≠ t) → partitionFits u f.val t.val b.toNat m.toNat = false →
      Yields (.tallyPartitionWrite w f t b m) s (fun x => rget x Reg.TALLY_PART_MIB f.val t.val = 0 ∧ x.colls = u.colls ∧ x.mem = u.mem)) ∧
    ((∃ e ∈ queue u 2056, e.running = true ∧ e.tenant = t) → Yields (.tallyPartitionWrite w f t b m) s (fun x =>
      rget x Reg.TALLY_PART_BASE f.val t.val = rget u Reg.TALLY_PART_BASE f.val t.val ∧
        rget x Reg.TALLY_PART_MIB f.val t.val = rget u Reg.TALLY_PART_MIB f.val t.val ∧ x.colls = u.colls ∧ x.mem = u.mem)))

/-- Of R314, R317, R318, R319, R320: An APPLY that reads sound descriptors lists the pages that its step has not committed. The next page of
an APPLY is written as it is computed, and is no longer to do; one whose reads fail writes nothing. The model's own choices in it: log entry
27. -/
def Obligations.ApplyCommitsItsPages : Prop :=
  (∀ (s : State) (n : CDie) (e : QEntry), Clocked s → updateEntry s n.val 0 = some e → entryOf s (2048 + n.val) e.toRef = some e →
    let dr := (e.access s).rdNat (upShard e.dk) 128
    let d := dr.1
    let hr := dr.2.rdNat (sdHyper d) 320
    let cr := if hyClip hr.1 then hr.2.rdNat (upClip e.dk) 8 else (0x3F800000 * 2 ^ 32, hr.2)
    let st := readTable cr.2 (sdTable d) (sdPages d)
    let hd := if sdHold d = 0 then ([], st.2) else readTable st.2 (sdHold d) (sdPages d)
    let ac := if sdDelay d < 2 then ([], hd.2) else readTable hd.2 (sdAccTable d) (sdPages d)
    let free := freeSlots (sdCount d) (st.1.map ptSlot ++ hd.1.map ptSlot)
    let todo := (List.range (sdPages d)).filter (fun i => !pageDone d (upStep e.dk) i (st.1.getD i 0) (ac.1.getD i 0))
    dr.2.stalled = false → dr.2.faults = [] → descBad d = false → ac.2.stalled = false → ac.2.faults = [] → hyperBad hr.1 = false →
    free ≠ [] → (sdDelay d < 2 ∨ freeSlots (sdAccCount d) (ac.1.map ptSlot) ≠ []) →
    (sdHold d = 0 ∨ todo.countP (fun i => isDue d (upStep e.dk) i && ptTag (st.1.getD i 0) != upStep e.dk) ≤ free.length) → todo ≠ [] →
      Yields (.apply n) s (fun t => t.mem = s.mem ∧ (∃ u, mapFind t.upd n.val = some u ∧ u.desc = d ∧ u.hyper = hr.1 ∧ u.free = free) ∧
        ∃ f, entryOf t (2048 + n.val) e.toRef = some f ∧ f.started = true ∧ f.todo = todo)) ∧
  (∀ (s : State) (n : CDie) (u : UpdSt) (e : QEntry) (i : Nat) (rest : List Nat), Clocked s → mapFind s.upd n.val = some u →
    entryOf s (2048 + n.val) u.ref = some e → e.running = true → e.done = false → e.cut = false → e.todo = i :: rest →
    let p := pageOut (e.access s) u (upStep e.dk) i
    let x := p.writes.foldl (fun x w => x.wr w.1 w.2) p.x
    (p.x.stalled = false → p.x.faults = [] → x.stalled = false → x.faults = [] → Yields (.pageCommit n) s (fun t =>
      t.mem = x.s.mem ∧ ∃ f, entryOf t (2048 + n.val) u.ref = some f ∧ f.todo = dropAll e.todo i ∧ f.nonfinite = e.nonfinite + p.nonfinite ∧
        (dropAll e.todo i ≠ [] → mapFind t.upd n.val = some { u with free := p.free, freeAcc := p.freeAcc, since := x.s.time.cyc }))) ∧
    (p.x.stalled = false → p.x.faults ≠ [] → Yields (.pageCommit n) s (fun t => t.mem = s.mem ∧
      ∃ f, entryOf t (2048 + n.val) u.ref = some f ∧ i ∉ f.todo ∧
        (u.failed = none → f.todo.length ≤ rget s Reg.UPDATE_PAGES_IN_FLIGHT n.val - 1))))

/-- Of R322, R324: NORM_PARTIAL writes the exact sum of the squares of its gradient, rounded once, at its shard's place of the norm vector.
NORM_FINISH writes the sum of the norm vector as a tally block gives it, rounded once, and the clip factor. The model's own choices in it:
log entries 23, 27. -/
def Obligations.NormsAndClipFactor : Prop :=
  (∀ (s : State) (n : CDie) (e : QEntry), Clocked s → updateEntry s n.val 1 = some e → entryOf s (2048 + n.val) e.toRef = some e →
    let d := memNat s (upShard e.dk) 128
    let a := upVec e.dk + 4 * sdLogical d
    let g := (unpack 32 (memRead s.mem (sdGrad d) (4 * sdElements d)) (sdElements d)).map (decodeIeee (floatOf 0) 0)
    descBad d = false → Plain s e.tenant.val (upShard e.dk) 128 → Plain s e.tenant.val (sdGrad d) (4 * sdElements d) →
    Plain s e.tenant.val a 4 → Yields (.normPartial n) s (fun t =>
      memRead t.mem a 4 = natLe (encodeFloat 0 false (g.foldl (fun acc v => acc.add (v.mul v)) FVal.zero)) 4 ∧ SameOutside s t a 4 ∧
        ∃ f, entryOf t (2048 + n.val) e.toRef = some f ∧ f.done = true ∧ f.nonfinite = e.nonfinite + g.countP FVal.nonfinite)) ∧
  (∀ (s : State) (n : CDie) (e : QEntry), Clocked s → updateEntry s n.val 2 = some e → entryOf s (2048 + n.val) e.toRef = some e →
    let d := memNat s (upShard e.dk) 128
    let h := memNat s (sdHyper d) 320
    let v := (unpack 32 (memRead s.mem (upVec e.dk) (4 * upCount e.dk)) (upCount e.dk)).map (decodeIeee (floatOf 0) 0)
    let a := anchorOf (localCode v) (headroom (upCount e.dk))
    let words := v.map (fun x => (boundWord 64 (headroom (upCount e.dk)) (toTally 64 a x).1).1)
    let sum := f32 (tallyVal 64 a (tallySum 64 words).1)
    hyperBad h = false → Plain s e.tenant.val (upShard e.dk) 128 → Plain s e.tenant.val (sdHyper d) 320 →
    Plain s e.tenant.val (upVec e.dk) (4 * upCount e.dk) → Plain s e.tenant.val (upClip e.dk) 8 → Yields (.normFinish n) s (fun t =>
      memRead t.mem (upClip e.dk) 8 = natLe (encodeFloat 0 false sum) 4 ++ natLe (encodeFloat 0 false (clipFactor h sum)) 4 ∧
        SameOutside s t (upClip e.dk) 8 ∧ ∃ f, entryOf t (2048 + n.val) e.toRef = some f ∧ f.done = true))

/-- Of R336, R337, R340, R344, R347, R349, R352: SAVE, RESTORE and SCAN start as jobs once what they read is sound, go on where they were
held, and a conditional SAVE that nobody asked for is skipped. The model's own choices in it: log entry 28. -/
def Obligations.CheckpointsStart : Prop :=
  (∀ (s : State) (r : DocketRef) (e : QEntry) (c : Instr) (op : Nat), Clocked s →
    (c, op) ∈ [(Instr.save r, 0), (.restore r, 1), (.scan r, 3)] → chestEntry s op r = some e →
    let l := if op = 3 then ([], e.access s) else readEntries (e.access s) (chList e.dk) (chEntries e.dk)
    let q := if op = 1 then readEntries l.2 (chSources e.dk) (chNsources e.dk) else ([], l.2)
    let srcs : List CSource := q.1.map (fun x =>
      { desc := x, used := 0, bits := 0, base := 0, recs := [], altKnown := false, altBase := 0, altRecs := [] })
    let dev := gDev (chChest e.dk)
    ((jobOf s r).isSome = true → exec c s = .next (chestGo s r chestFuel)) ∧
    (jobOf s r = none → op = 0 → chCond e.dk = true →
      e.tenant.val ≠ rget s Reg.CHEST_ACT_TENANT ∨ rget s Reg.CHEST_ACT_REQS = rget s Reg.CHEST_ACT_DONE →
      exec c s = .next (endChest (rinc s Reg.CHEST_SAVES_SKIPPED) r 0)) ∧
    (jobOf s r = none → op ≠ 0 ∨ chCond e.dk = false ∨
        e.tenant.val = rget s Reg.CHEST_ACT_TENANT ∧ rget s Reg.CHEST_ACT_REQS ≠ rget s Reg.CHEST_ACT_DONE →
      (op = 0 → chestPlaceBad e.dk = true → exec c s = .next (endChest s r 1)) ∧
      ((op = 0 → chestPlaceBad e.dk = false) → q.2.stalled = false → q.2.faults = [] → listBad q.2 e.dk l.1 = false →
        (∀ a, (q.1.flatMap srcChests).find? (fun a => gDev a % 4 != 0) = some a → op = 1 →
          exec c s = .next (endChest (updEntry q.2.s 2058 r (fun e => { e with badAddr := a })) r 4)) ∧
        (op = 1 ∨ dev = ownDev s → chestRemote s e.dk q.1 = false → (∀ a ∈ q.1.flatMap srcChests, gDev a % 4 = 0) →
          exec c s = .next (startJob q.2.s { newJob q.2.s r with devs := [], list := l.1, srcs := srcs })) ∧
        (∀ (v : State) (seq : W32), op ≠ 1 → dev ≠ ownDev s → dev % 4 = 0 → peerFault s dev = 0 → seqFor q.2.s 2058 e = (some seq, v) →
          let d := (dev, peerGen (peerOut v dev))
          let x := startRemote v 2058 e 3 dev 0 seq
          exec c s = .next (startJob x { newJob x r with devs := [d], list := l.1, srcs := srcs })) ∧
        (∀ (v : State) (seq : W32), op = 1 → chestRemote s e.dk q.1 = true → (∀ a ∈ q.1.flatMap srcChests, gDev a % 4 = 0) → seqFor q.2.s 2058 e = (some seq, v) →
          let x := startRemote v 2058 e 3 dev 0 seq
          exec c s = .next (startJob x { newJob x r with devs := [], list := l.1, srcs := srcs }))))) ∧
  (∀ (s u : State) (w : Writer), Lands s w chestPage Reg.CHEST_REQUEST 0 u →
    exec (.chestRequest w) s = .next (rinc u Reg.CHEST_ACT_REQS))

/-- Of R354 to R358, R300: A LOAD starts on its root by reading the image and on another member by waiting for it; image chunks are checked,
kept and acknowledged; the root takes the acknowledgements, and a chunk that falls due goes again. The model's own choices in it: log
entry 28. -/
def Obligations.LoadsAndImageChunks : Prop :=
  (∀ (s : State) (r : DocketRef) (e : QEntry), Clocked s → chestEntry s 2 r = some e →
    ((jobOf s r).isSome = true → exec (.load r) s = .next (loadIssue s r chestFuel)) ∧
    (let gr := (e.access s).rdNat (chChest e.dk) 128
     let devs := groupDevs (readGroup gr.1)
     let rank := firstIdx devs (· == ownDev s)
     let root := chNsources e.dk
     let need := if rank = root then devs.filter (· != ownDev s) else [devs.getD root 0]
     let v := updEntry gr.2.s 2058 r (fun e => { e with started := true })
     let j := { newJob v r with members := devs, rank := rank, devs := need.map (fun d => (d, peerGen (peerOut v d))) }
     let x : State := { v with chest := v.chest ++ [j] }
     jobOf s r = none → gr.2.stalled = false → gr.2.faults = [] → groupBad (readGroup gr.1) = false → rank < devs.length →
     root < devs.length → (∀ d ∈ need, peerFault s d = 0 ∧ peerFault v d = 0) →
      (rank ≠ root → e.reexec = false → exec (.load r) s = .next x) ∧
      (rank ≠ root → e.reexec = true → exec (.load r) s = .next (ackImage x e (devs.getD root 0) 0 15 false)) ∧
      (rank = root → loadRefused x e = false → exec (.load r) s = .next (loadRead x r 51 0 128)))) ∧
  (∀ (s u : State) (l : LinkId) (p : Packet), Clocked s → pOpc p = 13 → admitPacket s (some l) p = (u, true) →
    (loadFor u p = none → exec (.imageData l p) s = .next (rinc u Reg.CHEST_STALE_CHUNKS)) ∧
    (∀ (j : ChestJob) (e : QEntry), loadFor u p = some (j, e) → j.rank ≠ chNsources e.dk → exec (.imageData l p) s =
      .next (if crc32c (natLe (pf p 128 96) 12 ++ p.data) = pf p 224 32 then takeImage u j e p else rinc u Reg.CHEST_IMAGE_CRC_ERRORS))) ∧
  (∀ (s u : State) (p : Packet) (j : ChestJob) (e : QEntry), Clocked s → pOpc p = 14 → admitPacket s none p = (u, true) →
    pertResponse u (8 + pf p 192 32 % 2) 14 (pTenant p) = (false, u) → loadFor u p = some (j, e) → j.rank = chNsources e.dk →
    let rank := firstIdx j.members (· == pSrc p)
    (pf p 136 4 = 15 → exec (.imageAck p) s = .next (restartMember u j e rank)) ∧
    (pf p 136 4 ≠ 15 →
      let v := updChest u j.ref (fun j => { j with sent := j.sent.filter (fun x => !(x.1 == rank && x.2.1 == pf p 192 32)) })
      exec (.imageAck p) s = .next (rootEnd (rootPump v j.ref chestFuel) j.ref))) ∧
  (∀ (s : State) (r : DocketRef) (chunk : Nat) (j : ChestJob) (e : QEntry), Clocked s → jobOf s r = some j → entryOf s 2058 r = some e →
    e.running = true → e.done = false → e.cut = false → exec (.chestChunkResend r chunk) s = .next (chunkResend s j e chunk))

/-- Of R361, R364 to R369: A reset of a domain takes in those inside it and is noted; at its end its pages' generations advance and its cut
dockets return; past its bound the enclosing domain resets. The model's own choices in it: log entries 34, 35. -/
def Obligations.DomainResets : Prop :=
  (∀ (s u : State) (w : Writer), Lands s w resetPage Reg.RESET_REQ_GO 0 u → exec (.resetReqGo w) s =
    .next (if rget u Reg.RESET_REQ_DOMAIN = 8 then packageReset u
      else startReset u (rget u Reg.RESET_REQ_DOMAIN) (rget u Reg.RESET_REQ_INDEX) 0 false)) ∧
  (∀ (s : State) (code i cause : Nat) (done : Bool), code < 8 → i ≤ maxIndex code → cause < 4 → resetting s code i = false →
    let t := startReset s code i cause done
    (∃ c, (domKey code i, cause, c) ∈ t.resets.active) ∧ (∀ a ∈ t.resets.active, keyInside a.1 code i = true → a.1 = domKey code i) ∧
      rget t Reg.RESET_LAST_DOMAIN = code ∧ rget t Reg.RESET_LAST_INDEX = i ∧ rget t Reg.RESET_LAST_CAUSE = cause) ∧
  (∀ (s : State) (d : Domain) (trained : Bool), Clocked s → (∃ a ∈ s.resets.active, a.1 = domKey d.code.val d.index) →
    drainsIn s d.code.val d.index = false →
    let r := s.resets
    let v : State := { s with resets := { r with active := r.active.filter (fun a => a.1 != domKey d.code.val d.index) } }
    let x := (domPages d.code.val d.index).foldl pageGenUp v
    let y := if trained then x else charge (untrained x d.code.val d.index) 10 (domPart d.code.val d.index)
    exec (.domainResetDone d trained) s = .next ((queuesIn d.code.val d.index).foldl returnQueue y)) ∧
  (∀ (s : State) (d : Domain) (a : Nat × Nat × Nat), Clocked s →
    s.resets.active.find? (fun a => a.1 == domKey d.code.val d.index) = some a → exec (.resetBoundExceeded d) s =
      .next (escalate (charge (advanceTo s (a.2.2 + resetBound d.code.val)) 10 (domPart d.code.val d.index)) d.code.val d.index))

/-- Of R151, R371 to R373: A tenant reset stops the tenant's rings and purges its queues, and ends with the next generation and stopped rings;
a wrapped generation enters 0 once what was sent under it is resolved. The model's own choices in it: log entry 36. -/
def Obligations.TenantResetsAndWraps : Prop :=
  (∀ (s u : State) (w : Writer) (t : TenantId), Lands s w tenantPage Reg.TENANT_RESET_CTL_RESET t.val u → t.val ∉ u.resets.tenants →
    let v := (List.range 8).foldl (fun x n => stopRing x n t.val) u
    let x : State := { v with resets := { v.resets with tenants := v.resets.tenants ++ [t.val] } }
    let y := (x.queues.map (·.1)).foldl (purgeQueue t.val) x
    (∀ n, n < 8 → rget v Reg.DOCK_RING_ENABLE n t.val = 0 ∧ rget v Reg.DOCK_RING_STATE n t.val = 3 ∧ (ringOf v n t.val).fetched = []) ∧
      (rget y Reg.TENANT_GEN 0 t.val ≠ 255 → exec (.tenantReset w t) s = .next y) ∧
      (rget y Reg.TENANT_GEN 0 t.val = 255 → Yields (.tenantReset w t) s (fun z =>
        (65536 + t.val, 0) ∈ z.resets.drains ∧ z.queues = y.queues ∧ z.mem = y.mem))) ∧
  (∀ (s : State) (t : TenantId), Clocked s → t.val ∈ s.resets.tenants →
    let v := (s.queues.map (·.1)).foldl (endQueue t.val) s
    (∀ d ∈ v.resets.drains, d.1 ≠ 65536 + t.val) → (∀ n, n < 8 → (ringOf v n t.val).acc = []) →
      Yields (.tenantResetDone t) s (fun z => rget z Reg.TENANT_GEN 0 t.val = (rget v Reg.TENANT_GEN 0 t.val + 1) % 256 ∧
        t.val ∉ z.resets.tenants ∧ z.queues = v.queues ∧ z.mem = v.mem ∧
        ∀ n, n < 8 → rget z Reg.DOCK_RING_STATE n t.val = 4 ∧ rget z Reg.DOCK_RING_ACCEPT n t.val = rget v Reg.DOCK_RING_TAIL n t.val % 2 ^ 32)) ∧
  (∀ (s : State) (d : Drain), Clocked s →
    (∀ q x, d = .engine q → s.resets.drains.find? (fun x => x.1 == q.val) = some x → Yields (.wrapDrainEnd d) s (fun t =>
      mapFind t.resets.gens q.val = some 0 ∧ (∀ y ∈ t.resets.drains, y.1 ≠ q.val) ∧ t.mem = s.mem ∧ t.regs = s.regs)) ∧
    (∀ t, d = .tenant t → Yields (.wrapDrainEnd d) s (fun x => (∀ y ∈ x.resets.drains, y.1 ≠ 65536 + t.val) ∧ x.mem = s.mem ∧
      x.regs = s.regs)) ∧
    (∀ v, d = .ownGen → s.resets.ownGen = some v → s.route.held = [] → Yields (.wrapDrainEnd d) s (fun t =>
      rget t Reg.ROUTE_OWN_GEN = v.toNat ∧ t.resets.ownGen = none ∧ t.msf.windows = [] ∧ t.mem = s.mem)))

/-- Of R376: Every score loses 1/256 of itself at the end of a decay period, and the next period follows. -/
def Obligations.HealthScoresDecay : Prop :=
  ∀ s : State, Clocked s → (s.health.score.map (·.1)).Nodup → Yields .healthDecay s (fun t =>
    (∀ e ∈ s.health.score, mapGet t.health.score e.1 0 = e.2 - e.2 / 256) ∧ t.mem = s.mem ∧
      t.queues = (advanceTo s s.health.decayAt).queues ∧
      t.health.decayAt = s.health.decayAt + 1000000 * rget s Reg.HEALTH_DECAY_MS)
end

