-- ==== Sys2Proof/Laws/Map.lean ====
section
/-! SUPPORT. Sys2Proof/Laws/Map.lean: what the operations on sparse tables do: a value set is read, every other key is as before, and
keys stay rising. -/

namespace Sys2Proof.Machine

variable {α : Type}

@[simp] theorem mapFind_nil (k : Nat) : mapFind ([] : SMap α) k = none := rfl

theorem mapFind_mapSet (m : SMap α) (k j : Nat) (v : α) :
    mapFind (mapSet m k v) j = if j = k then some v else mapFind m j := by
  induction m with
  | nil =>
    by_cases h : j = k
    · simp [mapSet, mapFind, h]
    · simp [mapSet, mapFind, h, Ne.symm h]
  | cons e r ih =>
    obtain ⟨i, w⟩ := e
    simp only [mapSet]
    split
    · rename_i h; subst h
      simp only [mapFind]
      by_cases hj : j = i
      · simp [hj]
      · simp [hj, Ne.symm hj]
    · split
      · simp only [mapFind]
        by_cases hj : j = k
        · simp [hj]
        · simp [hj, Ne.symm hj]
      · simp only [mapFind, ih]
        rename_i h1 h2
        by_cases hi : i = j
        · subst hi; simp [h1]
        · simp [hi]

@[simp] theorem mapFind_mapSet_same (m : SMap α) (k : Nat) (v : α) : mapFind (mapSet m k v) k = some v := by
  simp [mapFind_mapSet]

theorem mapFind_mapSet_ne (m : SMap α) {k j : Nat} (v : α) (h : j ≠ k) : mapFind (mapSet m k v) j = mapFind m j := by
  simp [mapFind_mapSet, h]

@[simp] theorem mapGet_mapSet_same (m : SMap α) (k : Nat) (v d : α) : mapGet (mapSet m k v) k d = v := by
  simp [mapGet]

theorem mapGet_mapSet_ne (m : SMap α) {k j : Nat} (v d : α) (h : j ≠ k) : mapGet (mapSet m k v) j d = mapGet m j d := by
  simp [mapGet, mapFind_mapSet_ne m v h]

theorem mapFind_mapErase (m : SMap α) (k j : Nat) : mapFind (mapErase m k) j = if j = k then none else mapFind m j := by
  induction m with
  | nil => simp [mapErase, mapFind]
  | cons e r ih =>
    obtain ⟨i, w⟩ := e
    unfold mapErase at ih
    simp only [mapErase, List.filter_cons, bne_iff_ne, ne_eq, ite_not]
    split
    · rename_i h; subst h
      rw [ih]; simp only [mapFind]
      by_cases hj : j = i
      · simp [hj]
      · simp [hj, Ne.symm hj]
    · simp only [mapFind, ih]
      rename_i h
      by_cases hi : i = j
      · subst hi; simp [h]
      · simp [hi]

/-- The keys of a table rise strictly. -/
def Rising (m : SMap α) : Prop := m.Pairwise (fun a b => a.1 < b.1)

theorem rising_mapErase {m : SMap α} (k : Nat) (h : Rising m) : Rising (mapErase m k) := List.Pairwise.filter _ h

theorem mem_mapSet {m : SMap α} {k : Nat} {v : α} {e : Nat × α} (h : e ∈ mapSet m k v) : e = (k, v) ∨ e ∈ m := by
  induction m with
  | nil => simpa [mapSet] using h
  | cons x r ih =>
    obtain ⟨i, w⟩ := x
    simp only [mapSet] at h
    split at h
    · rcases List.mem_cons.mp h with h | h
      · exact .inl h
      · exact .inr (List.mem_cons_of_mem _ h)
    · split at h
      · rcases List.mem_cons.mp h with h | h
        · exact .inl h
        · exact .inr h
      · rcases List.mem_cons.mp h with h | h
        · exact .inr (h ▸ List.mem_cons_self)
        · rcases ih h with h | h
          · exact .inl h
          · exact .inr (List.mem_cons_of_mem _ h)

theorem rising_mapSet {m : SMap α} (k : Nat) (v : α) (h : Rising m) : Rising (mapSet m k v) := by
  induction m with
  | nil => simp [mapSet, Rising]
  | cons x r ih =>
    obtain ⟨i, w⟩ := x
    have hr : Rising r := (List.pairwise_cons.mp h).2
    have hi := (List.pairwise_cons.mp h).1
    simp only [mapSet]
    split
    · rename_i hk; subst hk
      exact List.pairwise_cons.mpr ⟨fun e he => hi e he, hr⟩
    · split
      · rename_i hk
        refine List.pairwise_cons.mpr ⟨fun e he => ?_, h⟩
        rcases List.mem_cons.mp he with he | he
        · rw [he]; exact hk
        · exact Nat.lt_trans hk (hi e he)
      · rename_i h1 h2
        refine List.pairwise_cons.mpr ⟨fun e he => ?_, ih hr⟩
        rcases mem_mapSet he with he | he
        · rw [he]; show i < k; omega
        · exact hi e he

end Sys2Proof.Machine
end

