-- ==== Sys2Proof/Laws/State.lean ====
section
/-! SUPPORT. Sys2Proof/Laws/State.lean: which fields of the state each named operation leaves alone. -/

namespace Sys2Proof.Machine

variable (s : State)

@[simp] theorem rset_pending (f : Fld) (i j v : Nat) : (rset s f i j v).pending = s.pending := rfl
@[simp] theorem rset_out (f : Fld) (i j v : Nat) : (rset s f i j v).out = s.out := rfl
@[simp] theorem rset_free (f : Fld) (i j v : Nat) : (rset s f i j v).free = s.free := rfl
@[simp] theorem rset_snaps (f : Fld) (i j v : Nat) : (rset s f i j v).snaps = s.snaps := rfl
@[simp] theorem rset_held (f : Fld) (i j v : Nat) : (rset s f i j v).held = s.held := rfl
@[simp] theorem rset_mem (f : Fld) (i j v : Nat) : (rset s f i j v).mem = s.mem := rfl
@[simp] theorem rset_poison (f : Fld) (i j v : Nat) : (rset s f i j v).poison = s.poison := rfl
@[simp] theorem rset_fills (f : Fld) (i j v : Nat) : (rset s f i j v).fills = s.fills := rfl
@[simp] theorem rset_time (f : Fld) (i j v : Nat) : (rset s f i j v).time = s.time := rfl
@[simp] theorem rset_clocks (f : Fld) (i j v : Nat) : (rset s f i j v).clocks = s.clocks := rfl
@[simp] theorem rset_rings (f : Fld) (i j v : Nat) : (rset s f i j v).rings = s.rings := rfl
@[simp] theorem rset_queues (f : Fld) (i j v : Nat) : (rset s f i j v).queues = s.queues := rfl
@[simp] theorem rset_vtime (f : Fld) (i j v : Nat) : (rset s f i j v).vtime = s.vtime := rfl
@[simp] theorem rset_filler (f : Fld) (i j v : Nat) : (rset s f i j v).filler = s.filler := rfl
@[simp] theorem rset_carry (f : Fld) (i j v : Nat) : (rset s f i j v).carry = s.carry := rfl
@[simp] theorem rset_links (f : Fld) (i j v : Nat) : (rset s f i j v).links = s.links := rfl
@[simp] theorem rset_route (f : Fld) (i j v : Nat) : (rset s f i j v).route = s.route := rfl
@[simp] theorem rset_msf (f : Fld) (i j v : Nat) : (rset s f i j v).msf = s.msf := rfl
@[simp] theorem rset_sbus (f : Fld) (i j v : Nat) : (rset s f i j v).sbus = s.sbus := rfl
@[simp] theorem rset_ledger (f : Fld) (i j v : Nat) : (rset s f i j v).ledger = s.ledger := rfl
@[simp] theorem rset_freeze (f : Fld) (i j v : Nat) : (rset s f i j v).freeze = s.freeze := rfl
@[simp] theorem rset_perturb (f : Fld) (i j v : Nat) : (rset s f i j v).perturb = s.perturb := rfl
@[simp] theorem rset_resets (f : Fld) (i j v : Nat) : (rset s f i j v).resets = s.resets := rfl
@[simp] theorem rset_health (f : Fld) (i j v : Nat) : (rset s f i j v).health = s.health := rfl
@[simp] theorem rset_power (f : Fld) (i j v : Nat) : (rset s f i j v).power = s.power := rfl
@[simp] theorem rset_boot (f : Fld) (i j v : Nat) : (rset s f i j v).boot = s.boot := rfl
@[simp] theorem rset_pins (f : Fld) (i j v : Nat) : (rset s f i j v).pins = s.pins := rfl
@[simp] theorem rset_pcie (f : Fld) (i j v : Nat) : (rset s f i j v).pcie = s.pcie := rfl
@[simp] theorem rset_flash (f : Fld) (i j v : Nat) : (rset s f i j v).flash = s.flash := rfl
@[simp] theorem rset_smbus (f : Fld) (i j v : Nat) : (rset s f i j v).smbus = s.smbus := rfl
@[simp] theorem rset_eth (f : Fld) (i j v : Nat) : (rset s f i j v).eth = s.eth := rfl
@[simp] theorem rset_mill (f : Fld) (i j v : Nat) : (rset s f i j v).mill = s.mill := rfl
@[simp] theorem rset_hopper (f : Fld) (i j v : Nat) : (rset s f i j v).hopper = s.hopper := rfl
@[simp] theorem rset_colls (f : Fld) (i j v : Nat) : (rset s f i j v).colls = s.colls := rfl
@[simp] theorem rset_upd (f : Fld) (i j v : Nat) : (rset s f i j v).upd = s.upd := rfl
@[simp] theorem rset_chest (f : Fld) (i j v : Nat) : (rset s f i j v).chest = s.chest := rfl

@[simp] theorem rset64_pending (lo hi : Fld) (i j v : Nat) : (rset64 s lo hi i j v).pending = s.pending := rfl
@[simp] theorem rset64_out (lo hi : Fld) (i j v : Nat) : (rset64 s lo hi i j v).out = s.out := rfl
@[simp] theorem rset64_free (lo hi : Fld) (i j v : Nat) : (rset64 s lo hi i j v).free = s.free := rfl
@[simp] theorem rset64_snaps (lo hi : Fld) (i j v : Nat) : (rset64 s lo hi i j v).snaps = s.snaps := rfl
@[simp] theorem rset64_held (lo hi : Fld) (i j v : Nat) : (rset64 s lo hi i j v).held = s.held := rfl
@[simp] theorem rset64_mem (lo hi : Fld) (i j v : Nat) : (rset64 s lo hi i j v).mem = s.mem := rfl
@[simp] theorem rset64_poison (lo hi : Fld) (i j v : Nat) : (rset64 s lo hi i j v).poison = s.poison := rfl
@[simp] theorem rset64_fills (lo hi : Fld) (i j v : Nat) : (rset64 s lo hi i j v).fills = s.fills := rfl
@[simp] theorem rset64_time (lo hi : Fld) (i j v : Nat) : (rset64 s lo hi i j v).time = s.time := rfl
@[simp] theorem rset64_clocks (lo hi : Fld) (i j v : Nat) : (rset64 s lo hi i j v).clocks = s.clocks := rfl
@[simp] theorem rset64_rings (lo hi : Fld) (i j v : Nat) : (rset64 s lo hi i j v).rings = s.rings := rfl
@[simp] theorem rset64_queues (lo hi : Fld) (i j v : Nat) : (rset64 s lo hi i j v).queues = s.queues := rfl
@[simp] theorem rset64_vtime (lo hi : Fld) (i j v : Nat) : (rset64 s lo hi i j v).vtime = s.vtime := rfl
@[simp] theorem rset64_filler (lo hi : Fld) (i j v : Nat) : (rset64 s lo hi i j v).filler = s.filler := rfl
@[simp] theorem rset64_carry (lo hi : Fld) (i j v : Nat) : (rset64 s lo hi i j v).carry = s.carry := rfl
@[simp] theorem rset64_links (lo hi : Fld) (i j v : Nat) : (rset64 s lo hi i j v).links = s.links := rfl
@[simp] theorem rset64_route (lo hi : Fld) (i j v : Nat) : (rset64 s lo hi i j v).route = s.route := rfl
@[simp] theorem rset64_msf (lo hi : Fld) (i j v : Nat) : (rset64 s lo hi i j v).msf = s.msf := rfl
@[simp] theorem rset64_sbus (lo hi : Fld) (i j v : Nat) : (rset64 s lo hi i j v).sbus = s.sbus := rfl
@[simp] theorem rset64_ledger (lo hi : Fld) (i j v : Nat) : (rset64 s lo hi i j v).ledger = s.ledger := rfl
@[simp] theorem rset64_freeze (lo hi : Fld) (i j v : Nat) : (rset64 s lo hi i j v).freeze = s.freeze := rfl
@[simp] theorem rset64_perturb (lo hi : Fld) (i j v : Nat) : (rset64 s lo hi i j v).perturb = s.perturb := rfl
@[simp] theorem rset64_resets (lo hi : Fld) (i j v : Nat) : (rset64 s lo hi i j v).resets = s.resets := rfl
@[simp] theorem rset64_health (lo hi : Fld) (i j v : Nat) : (rset64 s lo hi i j v).health = s.health := rfl
@[simp] theorem rset64_power (lo hi : Fld) (i j v : Nat) : (rset64 s lo hi i j v).power = s.power := rfl
@[simp] theorem rset64_boot (lo hi : Fld) (i j v : Nat) : (rset64 s lo hi i j v).boot = s.boot := rfl
@[simp] theorem rset64_pins (lo hi : Fld) (i j v : Nat) : (rset64 s lo hi i j v).pins = s.pins := rfl
@[simp] theorem rset64_pcie (lo hi : Fld) (i j v : Nat) : (rset64 s lo hi i j v).pcie = s.pcie := rfl
@[simp] theorem rset64_flash (lo hi : Fld) (i j v : Nat) : (rset64 s lo hi i j v).flash = s.flash := rfl
@[simp] theorem rset64_smbus (lo hi : Fld) (i j v : Nat) : (rset64 s lo hi i j v).smbus = s.smbus := rfl
@[simp] theorem rset64_eth (lo hi : Fld) (i j v : Nat) : (rset64 s lo hi i j v).eth = s.eth := rfl
@[simp] theorem rset64_mill (lo hi : Fld) (i j v : Nat) : (rset64 s lo hi i j v).mill = s.mill := rfl
@[simp] theorem rset64_hopper (lo hi : Fld) (i j v : Nat) : (rset64 s lo hi i j v).hopper = s.hopper := rfl
@[simp] theorem rset64_colls (lo hi : Fld) (i j v : Nat) : (rset64 s lo hi i j v).colls = s.colls := rfl
@[simp] theorem rset64_upd (lo hi : Fld) (i j v : Nat) : (rset64 s lo hi i j v).upd = s.upd := rfl
@[simp] theorem rset64_chest (lo hi : Fld) (i j v : Nat) : (rset64 s lo hi i j v).chest = s.chest := rfl

@[simp] theorem rbit_pending (f : Fld) (i j k : Nat) (b : Bool) : (rbit s f i j k b).pending = s.pending := rfl
@[simp] theorem rbit_out (f : Fld) (i j k : Nat) (b : Bool) : (rbit s f i j k b).out = s.out := rfl
@[simp] theorem rbit_free (f : Fld) (i j k : Nat) (b : Bool) : (rbit s f i j k b).free = s.free := rfl
@[simp] theorem rbit_snaps (f : Fld) (i j k : Nat) (b : Bool) : (rbit s f i j k b).snaps = s.snaps := rfl
@[simp] theorem rbit_held (f : Fld) (i j k : Nat) (b : Bool) : (rbit s f i j k b).held = s.held := rfl
@[simp] theorem rbit_mem (f : Fld) (i j k : Nat) (b : Bool) : (rbit s f i j k b).mem = s.mem := rfl
@[simp] theorem rbit_poison (f : Fld) (i j k : Nat) (b : Bool) : (rbit s f i j k b).poison = s.poison := rfl
@[simp] theorem rbit_fills (f : Fld) (i j k : Nat) (b : Bool) : (rbit s f i j k b).fills = s.fills := rfl
@[simp] theorem rbit_time (f : Fld) (i j k : Nat) (b : Bool) : (rbit s f i j k b).time = s.time := rfl
@[simp] theorem rbit_clocks (f : Fld) (i j k : Nat) (b : Bool) : (rbit s f i j k b).clocks = s.clocks := rfl
@[simp] theorem rbit_rings (f : Fld) (i j k : Nat) (b : Bool) : (rbit s f i j k b).rings = s.rings := rfl
@[simp] theorem rbit_queues (f : Fld) (i j k : Nat) (b : Bool) : (rbit s f i j k b).queues = s.queues := rfl
@[simp] theorem rbit_vtime (f : Fld) (i j k : Nat) (b : Bool) : (rbit s f i j k b).vtime = s.vtime := rfl
@[simp] theorem rbit_filler (f : Fld) (i j k : Nat) (b : Bool) : (rbit s f i j k b).filler = s.filler := rfl
@[simp] theorem rbit_carry (f : Fld) (i j k : Nat) (b : Bool) : (rbit s f i j k b).carry = s.carry := rfl
@[simp] theorem rbit_links (f : Fld) (i j k : Nat) (b : Bool) : (rbit s f i j k b).links = s.links := rfl
@[simp] theorem rbit_route (f : Fld) (i j k : Nat) (b : Bool) : (rbit s f i j k b).route = s.route := rfl
@[simp] theorem rbit_msf (f : Fld) (i j k : Nat) (b : Bool) : (rbit s f i j k b).msf = s.msf := rfl
@[simp] theorem rbit_sbus (f : Fld) (i j k : Nat) (b : Bool) : (rbit s f i j k b).sbus = s.sbus := rfl
@[simp] theorem rbit_ledger (f : Fld) (i j k : Nat) (b : Bool) : (rbit s f i j k b).ledger = s.ledger := rfl
@[simp] theorem rbit_freeze (f : Fld) (i j k : Nat) (b : Bool) : (rbit s f i j k b).freeze = s.freeze := rfl
@[simp] theorem rbit_perturb (f : Fld) (i j k : Nat) (b : Bool) : (rbit s f i j k b).perturb = s.perturb := rfl
@[simp] theorem rbit_resets (f : Fld) (i j k : Nat) (b : Bool) : (rbit s f i j k b).resets = s.resets := rfl
@[simp] theorem rbit_health (f : Fld) (i j k : Nat) (b : Bool) : (rbit s f i j k b).health = s.health := rfl
@[simp] theorem rbit_power (f : Fld) (i j k : Nat) (b : Bool) : (rbit s f i j k b).power = s.power := rfl
@[simp] theorem rbit_boot (f : Fld) (i j k : Nat) (b : Bool) : (rbit s f i j k b).boot = s.boot := rfl
@[simp] theorem rbit_pins (f : Fld) (i j k : Nat) (b : Bool) : (rbit s f i j k b).pins = s.pins := rfl
@[simp] theorem rbit_pcie (f : Fld) (i j k : Nat) (b : Bool) : (rbit s f i j k b).pcie = s.pcie := rfl
@[simp] theorem rbit_flash (f : Fld) (i j k : Nat) (b : Bool) : (rbit s f i j k b).flash = s.flash := rfl
@[simp] theorem rbit_smbus (f : Fld) (i j k : Nat) (b : Bool) : (rbit s f i j k b).smbus = s.smbus := rfl
@[simp] theorem rbit_eth (f : Fld) (i j k : Nat) (b : Bool) : (rbit s f i j k b).eth = s.eth := rfl
@[simp] theorem rbit_mill (f : Fld) (i j k : Nat) (b : Bool) : (rbit s f i j k b).mill = s.mill := rfl
@[simp] theorem rbit_hopper (f : Fld) (i j k : Nat) (b : Bool) : (rbit s f i j k b).hopper = s.hopper := rfl
@[simp] theorem rbit_colls (f : Fld) (i j k : Nat) (b : Bool) : (rbit s f i j k b).colls = s.colls := rfl
@[simp] theorem rbit_upd (f : Fld) (i j k : Nat) (b : Bool) : (rbit s f i j k b).upd = s.upd := rfl
@[simp] theorem rbit_chest (f : Fld) (i j k : Nat) (b : Bool) : (rbit s f i j k b).chest = s.chest := rfl

@[simp] theorem rsat_pending (f : Fld) (i j n : Nat) : (rsat s f i j n).pending = s.pending := rfl
@[simp] theorem rsat_out (f : Fld) (i j n : Nat) : (rsat s f i j n).out = s.out := rfl
@[simp] theorem rsat_free (f : Fld) (i j n : Nat) : (rsat s f i j n).free = s.free := rfl
@[simp] theorem rsat_snaps (f : Fld) (i j n : Nat) : (rsat s f i j n).snaps = s.snaps := rfl
@[simp] theorem rsat_held (f : Fld) (i j n : Nat) : (rsat s f i j n).held = s.held := rfl
@[simp] theorem rsat_mem (f : Fld) (i j n : Nat) : (rsat s f i j n).mem = s.mem := rfl
@[simp] theorem rsat_poison (f : Fld) (i j n : Nat) : (rsat s f i j n).poison = s.poison := rfl
@[simp] theorem rsat_fills (f : Fld) (i j n : Nat) : (rsat s f i j n).fills = s.fills := rfl
@[simp] theorem rsat_time (f : Fld) (i j n : Nat) : (rsat s f i j n).time = s.time := rfl
@[simp] theorem rsat_clocks (f : Fld) (i j n : Nat) : (rsat s f i j n).clocks = s.clocks := rfl
@[simp] theorem rsat_rings (f : Fld) (i j n : Nat) : (rsat s f i j n).rings = s.rings := rfl
@[simp] theorem rsat_queues (f : Fld) (i j n : Nat) : (rsat s f i j n).queues = s.queues := rfl
@[simp] theorem rsat_vtime (f : Fld) (i j n : Nat) : (rsat s f i j n).vtime = s.vtime := rfl
@[simp] theorem rsat_filler (f : Fld) (i j n : Nat) : (rsat s f i j n).filler = s.filler := rfl
@[simp] theorem rsat_carry (f : Fld) (i j n : Nat) : (rsat s f i j n).carry = s.carry := rfl
@[simp] theorem rsat_links (f : Fld) (i j n : Nat) : (rsat s f i j n).links = s.links := rfl
@[simp] theorem rsat_route (f : Fld) (i j n : Nat) : (rsat s f i j n).route = s.route := rfl
@[simp] theorem rsat_msf (f : Fld) (i j n : Nat) : (rsat s f i j n).msf = s.msf := rfl
@[simp] theorem rsat_sbus (f : Fld) (i j n : Nat) : (rsat s f i j n).sbus = s.sbus := rfl
@[simp] theorem rsat_ledger (f : Fld) (i j n : Nat) : (rsat s f i j n).ledger = s.ledger := rfl
@[simp] theorem rsat_freeze (f : Fld) (i j n : Nat) : (rsat s f i j n).freeze = s.freeze := rfl
@[simp] theorem rsat_perturb (f : Fld) (i j n : Nat) : (rsat s f i j n).perturb = s.perturb := rfl
@[simp] theorem rsat_resets (f : Fld) (i j n : Nat) : (rsat s f i j n).resets = s.resets := rfl
@[simp] theorem rsat_health (f : Fld) (i j n : Nat) : (rsat s f i j n).health = s.health := rfl
@[simp] theorem rsat_power (f : Fld) (i j n : Nat) : (rsat s f i j n).power = s.power := rfl
@[simp] theorem rsat_boot (f : Fld) (i j n : Nat) : (rsat s f i j n).boot = s.boot := rfl
@[simp] theorem rsat_pins (f : Fld) (i j n : Nat) : (rsat s f i j n).pins = s.pins := rfl
@[simp] theorem rsat_pcie (f : Fld) (i j n : Nat) : (rsat s f i j n).pcie = s.pcie := rfl
@[simp] theorem rsat_flash (f : Fld) (i j n : Nat) : (rsat s f i j n).flash = s.flash := rfl
@[simp] theorem rsat_smbus (f : Fld) (i j n : Nat) : (rsat s f i j n).smbus = s.smbus := rfl
@[simp] theorem rsat_eth (f : Fld) (i j n : Nat) : (rsat s f i j n).eth = s.eth := rfl
@[simp] theorem rsat_mill (f : Fld) (i j n : Nat) : (rsat s f i j n).mill = s.mill := rfl
@[simp] theorem rsat_hopper (f : Fld) (i j n : Nat) : (rsat s f i j n).hopper = s.hopper := rfl
@[simp] theorem rsat_colls (f : Fld) (i j n : Nat) : (rsat s f i j n).colls = s.colls := rfl
@[simp] theorem rsat_upd (f : Fld) (i j n : Nat) : (rsat s f i j n).upd = s.upd := rfl
@[simp] theorem rsat_chest (f : Fld) (i j n : Nat) : (rsat s f i j n).chest = s.chest := rfl

@[simp] theorem rinc_pending (f : Fld) (i j n : Nat) : (rinc s f i j n).pending = s.pending := by unfold rinc; dsimp only; split <;> [rfl; split <;> rfl]
@[simp] theorem rinc_out (f : Fld) (i j n : Nat) : (rinc s f i j n).out = s.out := by unfold rinc; dsimp only; split <;> [rfl; split <;> rfl]
@[simp] theorem rinc_free (f : Fld) (i j n : Nat) : (rinc s f i j n).free = s.free := by unfold rinc; dsimp only; split <;> [rfl; split <;> rfl]
@[simp] theorem rinc_snaps (f : Fld) (i j n : Nat) : (rinc s f i j n).snaps = s.snaps := by unfold rinc; dsimp only; split <;> [rfl; split <;> rfl]
@[simp] theorem rinc_held (f : Fld) (i j n : Nat) : (rinc s f i j n).held = s.held := by unfold rinc; dsimp only; split <;> [rfl; split <;> rfl]
@[simp] theorem rinc_mem (f : Fld) (i j n : Nat) : (rinc s f i j n).mem = s.mem := by unfold rinc; dsimp only; split <;> [rfl; split <;> rfl]
@[simp] theorem rinc_poison (f : Fld) (i j n : Nat) : (rinc s f i j n).poison = s.poison := by unfold rinc; dsimp only; split <;> [rfl; split <;> rfl]
@[simp] theorem rinc_fills (f : Fld) (i j n : Nat) : (rinc s f i j n).fills = s.fills := by unfold rinc; dsimp only; split <;> [rfl; split <;> rfl]
@[simp] theorem rinc_time (f : Fld) (i j n : Nat) : (rinc s f i j n).time = s.time := by unfold rinc; dsimp only; split <;> [rfl; split <;> rfl]
@[simp] theorem rinc_clocks (f : Fld) (i j n : Nat) : (rinc s f i j n).clocks = s.clocks := by unfold rinc; dsimp only; split <;> [rfl; split <;> rfl]
@[simp] theorem rinc_rings (f : Fld) (i j n : Nat) : (rinc s f i j n).rings = s.rings := by unfold rinc; dsimp only; split <;> [rfl; split <;> rfl]
@[simp] theorem rinc_queues (f : Fld) (i j n : Nat) : (rinc s f i j n).queues = s.queues := by unfold rinc; dsimp only; split <;> [rfl; split <;> rfl]
@[simp] theorem rinc_vtime (f : Fld) (i j n : Nat) : (rinc s f i j n).vtime = s.vtime := by unfold rinc; dsimp only; split <;> [rfl; split <;> rfl]
@[simp] theorem rinc_filler (f : Fld) (i j n : Nat) : (rinc s f i j n).filler = s.filler := by unfold rinc; dsimp only; split <;> [rfl; split <;> rfl]
@[simp] theorem rinc_carry (f : Fld) (i j n : Nat) : (rinc s f i j n).carry = s.carry := by unfold rinc; dsimp only; split <;> [rfl; split <;> rfl]
@[simp] theorem rinc_links (f : Fld) (i j n : Nat) : (rinc s f i j n).links = s.links := by unfold rinc; dsimp only; split <;> [rfl; split <;> rfl]
@[simp] theorem rinc_route (f : Fld) (i j n : Nat) : (rinc s f i j n).route = s.route := by unfold rinc; dsimp only; split <;> [rfl; split <;> rfl]
@[simp] theorem rinc_msf (f : Fld) (i j n : Nat) : (rinc s f i j n).msf = s.msf := by unfold rinc; dsimp only; split <;> [rfl; split <;> rfl]
@[simp] theorem rinc_sbus (f : Fld) (i j n : Nat) : (rinc s f i j n).sbus = s.sbus := by unfold rinc; dsimp only; split <;> [rfl; split <;> rfl]
@[simp] theorem rinc_ledger (f : Fld) (i j n : Nat) : (rinc s f i j n).ledger = s.ledger := by unfold rinc; dsimp only; split <;> [rfl; split <;> rfl]
@[simp] theorem rinc_freeze (f : Fld) (i j n : Nat) : (rinc s f i j n).freeze = s.freeze := by unfold rinc; dsimp only; split <;> [rfl; split <;> rfl]
@[simp] theorem rinc_perturb (f : Fld) (i j n : Nat) : (rinc s f i j n).perturb = s.perturb := by unfold rinc; dsimp only; split <;> [rfl; split <;> rfl]
@[simp] theorem rinc_resets (f : Fld) (i j n : Nat) : (rinc s f i j n).resets = s.resets := by unfold rinc; dsimp only; split <;> [rfl; split <;> rfl]
@[simp] theorem rinc_health (f : Fld) (i j n : Nat) : (rinc s f i j n).health = s.health := by unfold rinc; dsimp only; split <;> [rfl; split <;> rfl]
@[simp] theorem rinc_power (f : Fld) (i j n : Nat) : (rinc s f i j n).power = s.power := by unfold rinc; dsimp only; split <;> [rfl; split <;> rfl]
@[simp] theorem rinc_boot (f : Fld) (i j n : Nat) : (rinc s f i j n).boot = s.boot := by unfold rinc; dsimp only; split <;> [rfl; split <;> rfl]
@[simp] theorem rinc_pins (f : Fld) (i j n : Nat) : (rinc s f i j n).pins = s.pins := by unfold rinc; dsimp only; split <;> [rfl; split <;> rfl]
@[simp] theorem rinc_pcie (f : Fld) (i j n : Nat) : (rinc s f i j n).pcie = s.pcie := by unfold rinc; dsimp only; split <;> [rfl; split <;> rfl]
@[simp] theorem rinc_flash (f : Fld) (i j n : Nat) : (rinc s f i j n).flash = s.flash := by unfold rinc; dsimp only; split <;> [rfl; split <;> rfl]
@[simp] theorem rinc_smbus (f : Fld) (i j n : Nat) : (rinc s f i j n).smbus = s.smbus := by unfold rinc; dsimp only; split <;> [rfl; split <;> rfl]
@[simp] theorem rinc_eth (f : Fld) (i j n : Nat) : (rinc s f i j n).eth = s.eth := by unfold rinc; dsimp only; split <;> [rfl; split <;> rfl]
@[simp] theorem rinc_mill (f : Fld) (i j n : Nat) : (rinc s f i j n).mill = s.mill := by unfold rinc; dsimp only; split <;> [rfl; split <;> rfl]
@[simp] theorem rinc_hopper (f : Fld) (i j n : Nat) : (rinc s f i j n).hopper = s.hopper := by unfold rinc; dsimp only; split <;> [rfl; split <;> rfl]
@[simp] theorem rinc_colls (f : Fld) (i j n : Nat) : (rinc s f i j n).colls = s.colls := by unfold rinc; dsimp only; split <;> [rfl; split <;> rfl]
@[simp] theorem rinc_upd (f : Fld) (i j n : Nat) : (rinc s f i j n).upd = s.upd := by unfold rinc; dsimp only; split <;> [rfl; split <;> rfl]
@[simp] theorem rinc_chest (f : Fld) (i j n : Nat) : (rinc s f i j n).chest = s.chest := by unfold rinc; dsimp only; split <;> [rfl; split <;> rfl]

@[simp] theorem emit_pending (o : Out) : (emit s o).pending = s.pending := rfl
@[simp] theorem emit_free (o : Out) : (emit s o).free = s.free := rfl
@[simp] theorem emit_regs (o : Out) : (emit s o).regs = s.regs := rfl
@[simp] theorem emit_snaps (o : Out) : (emit s o).snaps = s.snaps := rfl
@[simp] theorem emit_held (o : Out) : (emit s o).held = s.held := rfl
@[simp] theorem emit_mem (o : Out) : (emit s o).mem = s.mem := rfl
@[simp] theorem emit_poison (o : Out) : (emit s o).poison = s.poison := rfl
@[simp] theorem emit_fills (o : Out) : (emit s o).fills = s.fills := rfl
@[simp] theorem emit_time (o : Out) : (emit s o).time = s.time := rfl
@[simp] theorem emit_clocks (o : Out) : (emit s o).clocks = s.clocks := rfl
@[simp] theorem emit_rings (o : Out) : (emit s o).rings = s.rings := rfl
@[simp] theorem emit_queues (o : Out) : (emit s o).queues = s.queues := rfl
@[simp] theorem emit_vtime (o : Out) : (emit s o).vtime = s.vtime := rfl
@[simp] theorem emit_filler (o : Out) : (emit s o).filler = s.filler := rfl
@[simp] theorem emit_carry (o : Out) : (emit s o).carry = s.carry := rfl
@[simp] theorem emit_links (o : Out) : (emit s o).links = s.links := rfl
@[simp] theorem emit_route (o : Out) : (emit s o).route = s.route := rfl
@[simp] theorem emit_msf (o : Out) : (emit s o).msf = s.msf := rfl
@[simp] theorem emit_sbus (o : Out) : (emit s o).sbus = s.sbus := rfl
@[simp] theorem emit_ledger (o : Out) : (emit s o).ledger = s.ledger := rfl
@[simp] theorem emit_freeze (o : Out) : (emit s o).freeze = s.freeze := rfl
@[simp] theorem emit_perturb (o : Out) : (emit s o).perturb = s.perturb := rfl
@[simp] theorem emit_resets (o : Out) : (emit s o).resets = s.resets := rfl
@[simp] theorem emit_health (o : Out) : (emit s o).health = s.health := rfl
@[simp] theorem emit_power (o : Out) : (emit s o).power = s.power := rfl
@[simp] theorem emit_boot (o : Out) : (emit s o).boot = s.boot := rfl
@[simp] theorem emit_pins (o : Out) : (emit s o).pins = s.pins := rfl
@[simp] theorem emit_pcie (o : Out) : (emit s o).pcie = s.pcie := rfl
@[simp] theorem emit_flash (o : Out) : (emit s o).flash = s.flash := rfl
@[simp] theorem emit_smbus (o : Out) : (emit s o).smbus = s.smbus := rfl
@[simp] theorem emit_eth (o : Out) : (emit s o).eth = s.eth := rfl
@[simp] theorem emit_mill (o : Out) : (emit s o).mill = s.mill := rfl
@[simp] theorem emit_hopper (o : Out) : (emit s o).hopper = s.hopper := rfl
@[simp] theorem emit_colls (o : Out) : (emit s o).colls = s.colls := rfl
@[simp] theorem emit_upd (o : Out) : (emit s o).upd = s.upd := rfl
@[simp] theorem emit_chest (o : Out) : (emit s o).chest = s.chest := rfl

@[simp] theorem msix_pending (v : Nat) : (msix s v).pending = s.pending := by unfold msix; split <;> rfl
@[simp] theorem msix_free (v : Nat) : (msix s v).free = s.free := by unfold msix; split <;> rfl
@[simp] theorem msix_regs (v : Nat) : (msix s v).regs = s.regs := by unfold msix; split <;> rfl
@[simp] theorem msix_snaps (v : Nat) : (msix s v).snaps = s.snaps := by unfold msix; split <;> rfl
@[simp] theorem msix_held (v : Nat) : (msix s v).held = s.held := by unfold msix; split <;> rfl
@[simp] theorem msix_mem (v : Nat) : (msix s v).mem = s.mem := by unfold msix; split <;> rfl
@[simp] theorem msix_poison (v : Nat) : (msix s v).poison = s.poison := by unfold msix; split <;> rfl
@[simp] theorem msix_fills (v : Nat) : (msix s v).fills = s.fills := by unfold msix; split <;> rfl
@[simp] theorem msix_time (v : Nat) : (msix s v).time = s.time := by unfold msix; split <;> rfl
@[simp] theorem msix_clocks (v : Nat) : (msix s v).clocks = s.clocks := by unfold msix; split <;> rfl
@[simp] theorem msix_rings (v : Nat) : (msix s v).rings = s.rings := by unfold msix; split <;> rfl
@[simp] theorem msix_queues (v : Nat) : (msix s v).queues = s.queues := by unfold msix; split <;> rfl
@[simp] theorem msix_vtime (v : Nat) : (msix s v).vtime = s.vtime := by unfold msix; split <;> rfl
@[simp] theorem msix_filler (v : Nat) : (msix s v).filler = s.filler := by unfold msix; split <;> rfl
@[simp] theorem msix_carry (v : Nat) : (msix s v).carry = s.carry := by unfold msix; split <;> rfl
@[simp] theorem msix_links (v : Nat) : (msix s v).links = s.links := by unfold msix; split <;> rfl
@[simp] theorem msix_route (v : Nat) : (msix s v).route = s.route := by unfold msix; split <;> rfl
@[simp] theorem msix_msf (v : Nat) : (msix s v).msf = s.msf := by unfold msix; split <;> rfl
@[simp] theorem msix_sbus (v : Nat) : (msix s v).sbus = s.sbus := by unfold msix; split <;> rfl
@[simp] theorem msix_ledger (v : Nat) : (msix s v).ledger = s.ledger := by unfold msix; split <;> rfl
@[simp] theorem msix_freeze (v : Nat) : (msix s v).freeze = s.freeze := by unfold msix; split <;> rfl
@[simp] theorem msix_perturb (v : Nat) : (msix s v).perturb = s.perturb := by unfold msix; split <;> rfl
@[simp] theorem msix_resets (v : Nat) : (msix s v).resets = s.resets := by unfold msix; split <;> rfl
@[simp] theorem msix_health (v : Nat) : (msix s v).health = s.health := by unfold msix; split <;> rfl
@[simp] theorem msix_power (v : Nat) : (msix s v).power = s.power := by unfold msix; split <;> rfl
@[simp] theorem msix_boot (v : Nat) : (msix s v).boot = s.boot := by unfold msix; split <;> rfl
@[simp] theorem msix_pins (v : Nat) : (msix s v).pins = s.pins := by unfold msix; split <;> rfl
@[simp] theorem msix_pcie (v : Nat) : (msix s v).pcie = s.pcie := by unfold msix; split <;> rfl
@[simp] theorem msix_flash (v : Nat) : (msix s v).flash = s.flash := by unfold msix; split <;> rfl
@[simp] theorem msix_smbus (v : Nat) : (msix s v).smbus = s.smbus := by unfold msix; split <;> rfl
@[simp] theorem msix_eth (v : Nat) : (msix s v).eth = s.eth := by unfold msix; split <;> rfl
@[simp] theorem msix_mill (v : Nat) : (msix s v).mill = s.mill := by unfold msix; split <;> rfl
@[simp] theorem msix_hopper (v : Nat) : (msix s v).hopper = s.hopper := by unfold msix; split <;> rfl
@[simp] theorem msix_colls (v : Nat) : (msix s v).colls = s.colls := by unfold msix; split <;> rfl
@[simp] theorem msix_upd (v : Nat) : (msix s v).upd = s.upd := by unfold msix; split <;> rfl
@[simp] theorem msix_chest (v : Nat) : (msix s v).chest = s.chest := by unfold msix; split <;> rfl

@[simp] theorem setQueue_pending (q : Nat) (l : List QEntry) : (setQueue s q l).pending = s.pending := rfl
@[simp] theorem setQueue_out (q : Nat) (l : List QEntry) : (setQueue s q l).out = s.out := rfl
@[simp] theorem setQueue_free (q : Nat) (l : List QEntry) : (setQueue s q l).free = s.free := rfl
@[simp] theorem setQueue_regs (q : Nat) (l : List QEntry) : (setQueue s q l).regs = s.regs := rfl
@[simp] theorem setQueue_snaps (q : Nat) (l : List QEntry) : (setQueue s q l).snaps = s.snaps := rfl
@[simp] theorem setQueue_held (q : Nat) (l : List QEntry) : (setQueue s q l).held = s.held := rfl
@[simp] theorem setQueue_mem (q : Nat) (l : List QEntry) : (setQueue s q l).mem = s.mem := rfl
@[simp] theorem setQueue_poison (q : Nat) (l : List QEntry) : (setQueue s q l).poison = s.poison := rfl
@[simp] theorem setQueue_fills (q : Nat) (l : List QEntry) : (setQueue s q l).fills = s.fills := rfl
@[simp] theorem setQueue_time (q : Nat) (l : List QEntry) : (setQueue s q l).time = s.time := rfl
@[simp] theorem setQueue_clocks (q : Nat) (l : List QEntry) : (setQueue s q l).clocks = s.clocks := rfl
@[simp] theorem setQueue_rings (q : Nat) (l : List QEntry) : (setQueue s q l).rings = s.rings := rfl
@[simp] theorem setQueue_vtime (q : Nat) (l : List QEntry) : (setQueue s q l).vtime = s.vtime := rfl
@[simp] theorem setQueue_filler (q : Nat) (l : List QEntry) : (setQueue s q l).filler = s.filler := rfl
@[simp] theorem setQueue_carry (q : Nat) (l : List QEntry) : (setQueue s q l).carry = s.carry := rfl
@[simp] theorem setQueue_links (q : Nat) (l : List QEntry) : (setQueue s q l).links = s.links := rfl
@[simp] theorem setQueue_route (q : Nat) (l : List QEntry) : (setQueue s q l).route = s.route := rfl
@[simp] theorem setQueue_msf (q : Nat) (l : List QEntry) : (setQueue s q l).msf = s.msf := rfl
@[simp] theorem setQueue_sbus (q : Nat) (l : List QEntry) : (setQueue s q l).sbus = s.sbus := rfl
@[simp] theorem setQueue_ledger (q : Nat) (l : List QEntry) : (setQueue s q l).ledger = s.ledger := rfl
@[simp] theorem setQueue_freeze (q : Nat) (l : List QEntry) : (setQueue s q l).freeze = s.freeze := rfl
@[simp] theorem setQueue_perturb (q : Nat) (l : List QEntry) : (setQueue s q l).perturb = s.perturb := rfl
@[simp] theorem setQueue_resets (q : Nat) (l : List QEntry) : (setQueue s q l).resets = s.resets := rfl
@[simp] theorem setQueue_health (q : Nat) (l : List QEntry) : (setQueue s q l).health = s.health := rfl
@[simp] theorem setQueue_power (q : Nat) (l : List QEntry) : (setQueue s q l).power = s.power := rfl
@[simp] theorem setQueue_boot (q : Nat) (l : List QEntry) : (setQueue s q l).boot = s.boot := rfl
@[simp] theorem setQueue_pins (q : Nat) (l : List QEntry) : (setQueue s q l).pins = s.pins := rfl
@[simp] theorem setQueue_pcie (q : Nat) (l : List QEntry) : (setQueue s q l).pcie = s.pcie := rfl
@[simp] theorem setQueue_flash (q : Nat) (l : List QEntry) : (setQueue s q l).flash = s.flash := rfl
@[simp] theorem setQueue_smbus (q : Nat) (l : List QEntry) : (setQueue s q l).smbus = s.smbus := rfl
@[simp] theorem setQueue_eth (q : Nat) (l : List QEntry) : (setQueue s q l).eth = s.eth := rfl
@[simp] theorem setQueue_mill (q : Nat) (l : List QEntry) : (setQueue s q l).mill = s.mill := rfl
@[simp] theorem setQueue_hopper (q : Nat) (l : List QEntry) : (setQueue s q l).hopper = s.hopper := rfl
@[simp] theorem setQueue_colls (q : Nat) (l : List QEntry) : (setQueue s q l).colls = s.colls := rfl
@[simp] theorem setQueue_upd (q : Nat) (l : List QEntry) : (setQueue s q l).upd = s.upd := rfl
@[simp] theorem setQueue_chest (q : Nat) (l : List QEntry) : (setQueue s q l).chest = s.chest := rfl

@[simp] theorem updEntry_pending (q : Nat) (r : DocketRef) (f : QEntry → QEntry) : (updEntry s q r f).pending = s.pending := rfl
@[simp] theorem updEntry_out (q : Nat) (r : DocketRef) (f : QEntry → QEntry) : (updEntry s q r f).out = s.out := rfl
@[simp] theorem updEntry_free (q : Nat) (r : DocketRef) (f : QEntry → QEntry) : (updEntry s q r f).free = s.free := rfl
@[simp] theorem updEntry_regs (q : Nat) (r : DocketRef) (f : QEntry → QEntry) : (updEntry s q r f).regs = s.regs := rfl
@[simp] theorem updEntry_snaps (q : Nat) (r : DocketRef) (f : QEntry → QEntry) : (updEntry s q r f).snaps = s.snaps := rfl
@[simp] theorem updEntry_held (q : Nat) (r : DocketRef) (f : QEntry → QEntry) : (updEntry s q r f).held = s.held := rfl
@[simp] theorem updEntry_mem (q : Nat) (r : DocketRef) (f : QEntry → QEntry) : (updEntry s q r f).mem = s.mem := rfl
@[simp] theorem updEntry_poison (q : Nat) (r : DocketRef) (f : QEntry → QEntry) : (updEntry s q r f).poison = s.poison := rfl
@[simp] theorem updEntry_fills (q : Nat) (r : DocketRef) (f : QEntry → QEntry) : (updEntry s q r f).fills = s.fills := rfl
@[simp] theorem updEntry_time (q : Nat) (r : DocketRef) (f : QEntry → QEntry) : (updEntry s q r f).time = s.time := rfl
@[simp] theorem updEntry_clocks (q : Nat) (r : DocketRef) (f : QEntry → QEntry) : (updEntry s q r f).clocks = s.clocks := rfl
@[simp] theorem updEntry_rings (q : Nat) (r : DocketRef) (f : QEntry → QEntry) : (updEntry s q r f).rings = s.rings := rfl
@[simp] theorem updEntry_vtime (q : Nat) (r : DocketRef) (f : QEntry → QEntry) : (updEntry s q r f).vtime = s.vtime := rfl
@[simp] theorem updEntry_filler (q : Nat) (r : DocketRef) (f : QEntry → QEntry) : (updEntry s q r f).filler = s.filler := rfl
@[simp] theorem updEntry_carry (q : Nat) (r : DocketRef) (f : QEntry → QEntry) : (updEntry s q r f).carry = s.carry := rfl
@[simp] theorem updEntry_links (q : Nat) (r : DocketRef) (f : QEntry → QEntry) : (updEntry s q r f).links = s.links := rfl
@[simp] theorem updEntry_route (q : Nat) (r : DocketRef) (f : QEntry → QEntry) : (updEntry s q r f).route = s.route := rfl
@[simp] theorem updEntry_msf (q : Nat) (r : DocketRef) (f : QEntry → QEntry) : (updEntry s q r f).msf = s.msf := rfl
@[simp] theorem updEntry_sbus (q : Nat) (r : DocketRef) (f : QEntry → QEntry) : (updEntry s q r f).sbus = s.sbus := rfl
@[simp] theorem updEntry_ledger (q : Nat) (r : DocketRef) (f : QEntry → QEntry) : (updEntry s q r f).ledger = s.ledger := rfl
@[simp] theorem updEntry_freeze (q : Nat) (r : DocketRef) (f : QEntry → QEntry) : (updEntry s q r f).freeze = s.freeze := rfl
@[simp] theorem updEntry_perturb (q : Nat) (r : DocketRef) (f : QEntry → QEntry) : (updEntry s q r f).perturb = s.perturb := rfl
@[simp] theorem updEntry_resets (q : Nat) (r : DocketRef) (f : QEntry → QEntry) : (updEntry s q r f).resets = s.resets := rfl
@[simp] theorem updEntry_health (q : Nat) (r : DocketRef) (f : QEntry → QEntry) : (updEntry s q r f).health = s.health := rfl
@[simp] theorem updEntry_power (q : Nat) (r : DocketRef) (f : QEntry → QEntry) : (updEntry s q r f).power = s.power := rfl
@[simp] theorem updEntry_boot (q : Nat) (r : DocketRef) (f : QEntry → QEntry) : (updEntry s q r f).boot = s.boot := rfl
@[simp] theorem updEntry_pins (q : Nat) (r : DocketRef) (f : QEntry → QEntry) : (updEntry s q r f).pins = s.pins := rfl
@[simp] theorem updEntry_pcie (q : Nat) (r : DocketRef) (f : QEntry → QEntry) : (updEntry s q r f).pcie = s.pcie := rfl
@[simp] theorem updEntry_flash (q : Nat) (r : DocketRef) (f : QEntry → QEntry) : (updEntry s q r f).flash = s.flash := rfl
@[simp] theorem updEntry_smbus (q : Nat) (r : DocketRef) (f : QEntry → QEntry) : (updEntry s q r f).smbus = s.smbus := rfl
@[simp] theorem updEntry_eth (q : Nat) (r : DocketRef) (f : QEntry → QEntry) : (updEntry s q r f).eth = s.eth := rfl
@[simp] theorem updEntry_mill (q : Nat) (r : DocketRef) (f : QEntry → QEntry) : (updEntry s q r f).mill = s.mill := rfl
@[simp] theorem updEntry_hopper (q : Nat) (r : DocketRef) (f : QEntry → QEntry) : (updEntry s q r f).hopper = s.hopper := rfl
@[simp] theorem updEntry_colls (q : Nat) (r : DocketRef) (f : QEntry → QEntry) : (updEntry s q r f).colls = s.colls := rfl
@[simp] theorem updEntry_upd (q : Nat) (r : DocketRef) (f : QEntry → QEntry) : (updEntry s q r f).upd = s.upd := rfl
@[simp] theorem updEntry_chest (q : Nat) (r : DocketRef) (f : QEntry → QEntry) : (updEntry s q r f).chest = s.chest := rfl

@[simp] theorem updRing_pending (n t : Nat) (f : RingSt → RingSt) : (updRing s n t f).pending = s.pending := rfl
@[simp] theorem updRing_out (n t : Nat) (f : RingSt → RingSt) : (updRing s n t f).out = s.out := rfl
@[simp] theorem updRing_free (n t : Nat) (f : RingSt → RingSt) : (updRing s n t f).free = s.free := rfl
@[simp] theorem updRing_regs (n t : Nat) (f : RingSt → RingSt) : (updRing s n t f).regs = s.regs := rfl
@[simp] theorem updRing_snaps (n t : Nat) (f : RingSt → RingSt) : (updRing s n t f).snaps = s.snaps := rfl
@[simp] theorem updRing_held (n t : Nat) (f : RingSt → RingSt) : (updRing s n t f).held = s.held := rfl
@[simp] theorem updRing_mem (n t : Nat) (f : RingSt → RingSt) : (updRing s n t f).mem = s.mem := rfl
@[simp] theorem updRing_poison (n t : Nat) (f : RingSt → RingSt) : (updRing s n t f).poison = s.poison := rfl
@[simp] theorem updRing_fills (n t : Nat) (f : RingSt → RingSt) : (updRing s n t f).fills = s.fills := rfl
@[simp] theorem updRing_time (n t : Nat) (f : RingSt → RingSt) : (updRing s n t f).time = s.time := rfl
@[simp] theorem updRing_clocks (n t : Nat) (f : RingSt → RingSt) : (updRing s n t f).clocks = s.clocks := rfl
@[simp] theorem updRing_queues (n t : Nat) (f : RingSt → RingSt) : (updRing s n t f).queues = s.queues := rfl
@[simp] theorem updRing_vtime (n t : Nat) (f : RingSt → RingSt) : (updRing s n t f).vtime = s.vtime := rfl
@[simp] theorem updRing_filler (n t : Nat) (f : RingSt → RingSt) : (updRing s n t f).filler = s.filler := rfl
@[simp] theorem updRing_carry (n t : Nat) (f : RingSt → RingSt) : (updRing s n t f).carry = s.carry := rfl
@[simp] theorem updRing_links (n t : Nat) (f : RingSt → RingSt) : (updRing s n t f).links = s.links := rfl
@[simp] theorem updRing_route (n t : Nat) (f : RingSt → RingSt) : (updRing s n t f).route = s.route := rfl
@[simp] theorem updRing_msf (n t : Nat) (f : RingSt → RingSt) : (updRing s n t f).msf = s.msf := rfl
@[simp] theorem updRing_sbus (n t : Nat) (f : RingSt → RingSt) : (updRing s n t f).sbus = s.sbus := rfl
@[simp] theorem updRing_ledger (n t : Nat) (f : RingSt → RingSt) : (updRing s n t f).ledger = s.ledger := rfl
@[simp] theorem updRing_freeze (n t : Nat) (f : RingSt → RingSt) : (updRing s n t f).freeze = s.freeze := rfl
@[simp] theorem updRing_perturb (n t : Nat) (f : RingSt → RingSt) : (updRing s n t f).perturb = s.perturb := rfl
@[simp] theorem updRing_resets (n t : Nat) (f : RingSt → RingSt) : (updRing s n t f).resets = s.resets := rfl
@[simp] theorem updRing_health (n t : Nat) (f : RingSt → RingSt) : (updRing s n t f).health = s.health := rfl
@[simp] theorem updRing_power (n t : Nat) (f : RingSt → RingSt) : (updRing s n t f).power = s.power := rfl
@[simp] theorem updRing_boot (n t : Nat) (f : RingSt → RingSt) : (updRing s n t f).boot = s.boot := rfl
@[simp] theorem updRing_pins (n t : Nat) (f : RingSt → RingSt) : (updRing s n t f).pins = s.pins := rfl
@[simp] theorem updRing_pcie (n t : Nat) (f : RingSt → RingSt) : (updRing s n t f).pcie = s.pcie := rfl
@[simp] theorem updRing_flash (n t : Nat) (f : RingSt → RingSt) : (updRing s n t f).flash = s.flash := rfl
@[simp] theorem updRing_smbus (n t : Nat) (f : RingSt → RingSt) : (updRing s n t f).smbus = s.smbus := rfl
@[simp] theorem updRing_eth (n t : Nat) (f : RingSt → RingSt) : (updRing s n t f).eth = s.eth := rfl
@[simp] theorem updRing_mill (n t : Nat) (f : RingSt → RingSt) : (updRing s n t f).mill = s.mill := rfl
@[simp] theorem updRing_hopper (n t : Nat) (f : RingSt → RingSt) : (updRing s n t f).hopper = s.hopper := rfl
@[simp] theorem updRing_colls (n t : Nat) (f : RingSt → RingSt) : (updRing s n t f).colls = s.colls := rfl
@[simp] theorem updRing_upd (n t : Nat) (f : RingSt → RingSt) : (updRing s n t f).upd = s.upd := rfl
@[simp] theorem updRing_chest (n t : Nat) (f : RingSt → RingSt) : (updRing s n t f).chest = s.chest := rfl

@[simp] theorem setClock_pending (d : Nat) (c : ClockSt) : (setClock s d c).pending = s.pending := rfl
@[simp] theorem setClock_out (d : Nat) (c : ClockSt) : (setClock s d c).out = s.out := rfl
@[simp] theorem setClock_free (d : Nat) (c : ClockSt) : (setClock s d c).free = s.free := rfl
@[simp] theorem setClock_regs (d : Nat) (c : ClockSt) : (setClock s d c).regs = s.regs := rfl
@[simp] theorem setClock_snaps (d : Nat) (c : ClockSt) : (setClock s d c).snaps = s.snaps := rfl
@[simp] theorem setClock_held (d : Nat) (c : ClockSt) : (setClock s d c).held = s.held := rfl
@[simp] theorem setClock_mem (d : Nat) (c : ClockSt) : (setClock s d c).mem = s.mem := rfl
@[simp] theorem setClock_poison (d : Nat) (c : ClockSt) : (setClock s d c).poison = s.poison := rfl
@[simp] theorem setClock_fills (d : Nat) (c : ClockSt) : (setClock s d c).fills = s.fills := rfl
@[simp] theorem setClock_time (d : Nat) (c : ClockSt) : (setClock s d c).time = s.time := rfl
@[simp] theorem setClock_rings (d : Nat) (c : ClockSt) : (setClock s d c).rings = s.rings := rfl
@[simp] theorem setClock_queues (d : Nat) (c : ClockSt) : (setClock s d c).queues = s.queues := rfl
@[simp] theorem setClock_vtime (d : Nat) (c : ClockSt) : (setClock s d c).vtime = s.vtime := rfl
@[simp] theorem setClock_filler (d : Nat) (c : ClockSt) : (setClock s d c).filler = s.filler := rfl
@[simp] theorem setClock_carry (d : Nat) (c : ClockSt) : (setClock s d c).carry = s.carry := rfl
@[simp] theorem setClock_links (d : Nat) (c : ClockSt) : (setClock s d c).links = s.links := rfl
@[simp] theorem setClock_route (d : Nat) (c : ClockSt) : (setClock s d c).route = s.route := rfl
@[simp] theorem setClock_msf (d : Nat) (c : ClockSt) : (setClock s d c).msf = s.msf := rfl
@[simp] theorem setClock_sbus (d : Nat) (c : ClockSt) : (setClock s d c).sbus = s.sbus := rfl
@[simp] theorem setClock_ledger (d : Nat) (c : ClockSt) : (setClock s d c).ledger = s.ledger := rfl
@[simp] theorem setClock_freeze (d : Nat) (c : ClockSt) : (setClock s d c).freeze = s.freeze := rfl
@[simp] theorem setClock_perturb (d : Nat) (c : ClockSt) : (setClock s d c).perturb = s.perturb := rfl
@[simp] theorem setClock_resets (d : Nat) (c : ClockSt) : (setClock s d c).resets = s.resets := rfl
@[simp] theorem setClock_health (d : Nat) (c : ClockSt) : (setClock s d c).health = s.health := rfl
@[simp] theorem setClock_power (d : Nat) (c : ClockSt) : (setClock s d c).power = s.power := rfl
@[simp] theorem setClock_boot (d : Nat) (c : ClockSt) : (setClock s d c).boot = s.boot := rfl
@[simp] theorem setClock_pins (d : Nat) (c : ClockSt) : (setClock s d c).pins = s.pins := rfl
@[simp] theorem setClock_pcie (d : Nat) (c : ClockSt) : (setClock s d c).pcie = s.pcie := rfl
@[simp] theorem setClock_flash (d : Nat) (c : ClockSt) : (setClock s d c).flash = s.flash := rfl
@[simp] theorem setClock_smbus (d : Nat) (c : ClockSt) : (setClock s d c).smbus = s.smbus := rfl
@[simp] theorem setClock_eth (d : Nat) (c : ClockSt) : (setClock s d c).eth = s.eth := rfl
@[simp] theorem setClock_mill (d : Nat) (c : ClockSt) : (setClock s d c).mill = s.mill := rfl
@[simp] theorem setClock_hopper (d : Nat) (c : ClockSt) : (setClock s d c).hopper = s.hopper := rfl
@[simp] theorem setClock_colls (d : Nat) (c : ClockSt) : (setClock s d c).colls = s.colls := rfl
@[simp] theorem setClock_upd (d : Nat) (c : ClockSt) : (setClock s d c).upd = s.upd := rfl
@[simp] theorem setClock_chest (d : Nat) (c : ClockSt) : (setClock s d c).chest = s.chest := rfl

@[simp] theorem crossing_pending (p : Page) (f : Fld) (i : Nat) : (crossing s p f i).pending = s.pending := rfl
@[simp] theorem crossing_out (p : Page) (f : Fld) (i : Nat) : (crossing s p f i).out = s.out := rfl
@[simp] theorem crossing_free (p : Page) (f : Fld) (i : Nat) : (crossing s p f i).free = s.free := rfl
@[simp] theorem crossing_regs (p : Page) (f : Fld) (i : Nat) : (crossing s p f i).regs = s.regs := rfl
@[simp] theorem crossing_snaps (p : Page) (f : Fld) (i : Nat) : (crossing s p f i).snaps = s.snaps := rfl
@[simp] theorem crossing_held (p : Page) (f : Fld) (i : Nat) : (crossing s p f i).held = s.held := rfl
@[simp] theorem crossing_mem (p : Page) (f : Fld) (i : Nat) : (crossing s p f i).mem = s.mem := rfl
@[simp] theorem crossing_poison (p : Page) (f : Fld) (i : Nat) : (crossing s p f i).poison = s.poison := rfl
@[simp] theorem crossing_fills (p : Page) (f : Fld) (i : Nat) : (crossing s p f i).fills = s.fills := rfl
@[simp] theorem crossing_time (p : Page) (f : Fld) (i : Nat) : (crossing s p f i).time = s.time := rfl
@[simp] theorem crossing_clocks (p : Page) (f : Fld) (i : Nat) : (crossing s p f i).clocks = s.clocks := rfl
@[simp] theorem crossing_rings (p : Page) (f : Fld) (i : Nat) : (crossing s p f i).rings = s.rings := rfl
@[simp] theorem crossing_queues (p : Page) (f : Fld) (i : Nat) : (crossing s p f i).queues = s.queues := rfl
@[simp] theorem crossing_vtime (p : Page) (f : Fld) (i : Nat) : (crossing s p f i).vtime = s.vtime := rfl
@[simp] theorem crossing_filler (p : Page) (f : Fld) (i : Nat) : (crossing s p f i).filler = s.filler := rfl
@[simp] theorem crossing_carry (p : Page) (f : Fld) (i : Nat) : (crossing s p f i).carry = s.carry := rfl
@[simp] theorem crossing_links (p : Page) (f : Fld) (i : Nat) : (crossing s p f i).links = s.links := rfl
@[simp] theorem crossing_route (p : Page) (f : Fld) (i : Nat) : (crossing s p f i).route = s.route := rfl
@[simp] theorem crossing_msf (p : Page) (f : Fld) (i : Nat) : (crossing s p f i).msf = s.msf := rfl
@[simp] theorem crossing_ledger (p : Page) (f : Fld) (i : Nat) : (crossing s p f i).ledger = s.ledger := rfl
@[simp] theorem crossing_freeze (p : Page) (f : Fld) (i : Nat) : (crossing s p f i).freeze = s.freeze := rfl
@[simp] theorem crossing_perturb (p : Page) (f : Fld) (i : Nat) : (crossing s p f i).perturb = s.perturb := rfl
@[simp] theorem crossing_resets (p : Page) (f : Fld) (i : Nat) : (crossing s p f i).resets = s.resets := rfl
@[simp] theorem crossing_health (p : Page) (f : Fld) (i : Nat) : (crossing s p f i).health = s.health := rfl
@[simp] theorem crossing_power (p : Page) (f : Fld) (i : Nat) : (crossing s p f i).power = s.power := rfl
@[simp] theorem crossing_boot (p : Page) (f : Fld) (i : Nat) : (crossing s p f i).boot = s.boot := rfl
@[simp] theorem crossing_pins (p : Page) (f : Fld) (i : Nat) : (crossing s p f i).pins = s.pins := rfl
@[simp] theorem crossing_pcie (p : Page) (f : Fld) (i : Nat) : (crossing s p f i).pcie = s.pcie := rfl
@[simp] theorem crossing_flash (p : Page) (f : Fld) (i : Nat) : (crossing s p f i).flash = s.flash := rfl
@[simp] theorem crossing_smbus (p : Page) (f : Fld) (i : Nat) : (crossing s p f i).smbus = s.smbus := rfl
@[simp] theorem crossing_eth (p : Page) (f : Fld) (i : Nat) : (crossing s p f i).eth = s.eth := rfl
@[simp] theorem crossing_mill (p : Page) (f : Fld) (i : Nat) : (crossing s p f i).mill = s.mill := rfl
@[simp] theorem crossing_hopper (p : Page) (f : Fld) (i : Nat) : (crossing s p f i).hopper = s.hopper := rfl
@[simp] theorem crossing_colls (p : Page) (f : Fld) (i : Nat) : (crossing s p f i).colls = s.colls := rfl
@[simp] theorem crossing_upd (p : Page) (f : Fld) (i : Nat) : (crossing s p f i).upd = s.upd := rfl
@[simp] theorem crossing_chest (p : Page) (f : Fld) (i : Nat) : (crossing s p f i).chest = s.chest := rfl

@[simp] theorem emit_out (o : Out) : (emit s o).out = o :: s.out := rfl
@[simp] theorem setQueue_queues (q : Nat) (l : List QEntry) : (setQueue s q l).queues = mapSet s.queues q l := rfl
@[simp] theorem updRing_rings (n t : Nat) (f : RingSt → RingSt) :
    (updRing s n t f).rings = mapUpd s.rings (16 * n + t) RingSt.reset f := rfl
@[simp] theorem setClock_clocks (d : Nat) (c : ClockSt) : (setClock s d c).clocks = mapSet s.clocks d c := rfl

end Sys2Proof.Machine
end

