-- ==== Sys2Proof/Laws/Ops.lean ====
section
/-! SUPPORT. Sys2Proof/Laws/Ops.lean: registers, the gate of a stopped clock, the gate of a register write: what each does, once. -/

namespace Sys2Proof.Machine

-- registers -----------------------------------------------------------------------------------------------------------

/-- Two places of the register file are the same only where field, instance and index are. -/
theorem regKey_inj {f g : Fld} {i j a b : Nat} (hi : i < 16384) (hj : j < 16384) (ha : a < 1024) (hb : b < 1024)
    (h : regKey f i a = regKey g j b) : f.code = g.code ∧ i = j ∧ a = b := by
  unfold regKey at h
  omega

/-- A field written reads as the low bits written. -/
@[simp] theorem rget_rset_same (s : State) (f : Fld) (i j v : Nat) : rget (rset s f i j v) f i j = v % 2 ^ f.width := by
  simp [rget, rset]

/-- Another place of the register file reads as before. -/
theorem rget_rset_ne (s : State) (f g : Fld) (i j a b v : Nat) (h : regKey g a b ≠ regKey f i j) :
    rget (rset s f i j v) g a b = rget s g a b := by
  simp only [rget, rset]
  exact mapGet_mapSet_ne s.regs _ _ h

/-- A register reads the same in states with the same registers. -/
theorem rget_congr {s t : State} (h : t.regs = s.regs) (f : Fld) (i j : Nat) : rget t f i j = rget s f i j := by
  simp [rget, h]

/-- A counter below its largest value advances by n. -/
theorem rget_rinc (s : State) (f : Fld) (i j n : Nat) (h : rget s f i j + n < 2 ^ f.width) :
    rget (rinc s f i j n) f i j = rget s f i j + n := by
  unfold rinc
  simp only [h, if_true, rget_rset_same]
  exact Nat.mod_eq_of_lt h

-- clocks --------------------------------------------------------------------------------------------------------------

/-- Work goes on where the clocks run. -/
theorem live_of_clocked {s : State} (h : Clocked s) (k : State → State) : live s k = k s := by
  unfold live; simp [h.1, h.2]

/-- Nothing happens where they stand. -/
theorem live_of_stopped {s : State} (h : Stopped s) (k : State → State) : live s k = s := by
  unfold live; rcases h with h | h <;> simp [h]

-- register writes -----------------------------------------------------------------------------------------------------

/-- A write that its page takes goes on. -/
theorem gated_of_lands {s u : State} {w : Writer} {p : Page} {f : Fld} {idx : Nat} (h : Lands s w p f idx u) (v : Nat)
    (k : State → State) : gated s w p f idx v k = k u := by
  obtain ⟨rfl, h1, h2, h3⟩ := h
  unfold gated
  unfold taken at h2 h3 ⊢
  rcases h2 with h2 | h2 <;> rcases h3 with h3 | h3 <;> simp_all

end Sys2Proof.Machine
end

