-- ==== Sys2Proof/Laws/Ledger.lean ====
section
/-! SUPPORT. Sys2Proof/Laws/Ledger.lean: all that raising a record can do: it writes Ledger fields and the causes of ALERT_N, and sends
messages; nothing else changes. -/

namespace Sys2Proof.Machine

/-- The fields that raising a record writes. -/
def noteFields : List Fld :=
  [Reg.LEDGER_AO_TAIL, Reg.LEDGER_OVERWRITTEN, Reg.LEDGER_AO_HEAD, Reg.LEDGER_NEXT_SEQ, Reg.LEDGER_DROPPED_FULL,
    Reg.LEDGER_SUPPRESSED, Reg.SMB_ALERT_CAUSE]

/-- t differs from s in the Ledger, the outputs, the acknowledged causes and the fields of noteFields only. -/
def Noted (s t : State) : Prop :=
  t = { s with regs := t.regs, ledger := t.ledger, out := t.out, pins := { s.pins with acked := t.pins.acked } } ∧
    ∀ k, (∀ f ∈ noteFields, k ≠ regKey f 0 0) → mapFind t.regs k = mapFind s.regs k

theorem Noted.refl (s : State) : Noted s s := ⟨rfl, fun _ _ => rfl⟩

theorem Noted.trans {s t u : State} (h : Noted s t) (g : Noted t u) : Noted s u := by
  refine ⟨?_, fun k hk => (g.2 k hk).trans (h.2 k hk)⟩
  rw [g.1, h.1]

theorem noted_rset (s : State) {f : Fld} (h : f ∈ noteFields) (v : Nat) : Noted s (rset s f 0 0 v) := by
  refine ⟨rfl, fun k hk => ?_⟩
  exact mapFind_mapSet_ne s.regs _ (hk f h)

theorem noted_rinc (s : State) {f : Fld} (h : f ∈ noteFields) : Noted s (rinc s f) := by
  unfold rinc
  dsimp only
  split
  · exact noted_rset s h _
  · split
    · exact noted_rset s h _
    · exact noted_rset s h _

theorem noted_ledger (s : State) (l : LedgerSt) : Noted s { s with ledger := l } := ⟨rfl, fun _ _ => rfl⟩

theorem noted_msix (s : State) (v : Nat) : Noted s (msix s v) := by
  unfold msix
  split
  · exact ⟨rfl, fun _ _ => rfl⟩
  · exact Noted.refl s

theorem noted_alert (s : State) (b : Nat) : Noted s (alert s b) := by
  refine Noted.trans (noted_rset s (f := Reg.SMB_ALERT_CAUSE) (by decide) _) ⟨rfl, fun _ _ => rfl⟩

theorem noted_overwriteFor (s : State) (n fuel : Nat) : Noted s (overwriteFor s n fuel) := by
  induction fuel generalizing s with
  | zero => exact Noted.refl s
  | succ fuel ih =>
    unfold overwriteFor
    split
    · exact Noted.refl s
    · split
      · exact Noted.refl s
      · refine Noted.trans ?_ (ih _)
        dsimp only
        split
        · exact (noted_ledger s _).trans (noted_rset _ (by decide) _)
        · exact ((noted_ledger s _).trans (noted_rset _ (by decide) _)).trans (noted_rinc _ (by decide))

theorem noted_placeRecord (s : State) (prio code : Nat) (sm : Bool) (ft : W64) (src loc body units : Nat) :
    Noted s (placeRecord s prio code sm ft src loc body units) := by
  unfold placeRecord
  dsimp only
  have h0 : ∀ l : LedgerSt, ∀ a b : Nat,
      Noted s (rset (rset { s with ledger := l } Reg.LEDGER_AO_HEAD 0 0 a) Reg.LEDGER_NEXT_SEQ 0 0 b) := fun l a b =>
    ((noted_ledger s l).trans (noted_rset _ (by decide) _)).trans (noted_rset _ (by decide) _)
  split <;> split
  · exact ((h0 _ _ _).trans (noted_msix _ _)).trans (noted_alert _ _)
  · exact (h0 _ _ _).trans (noted_alert _ _)
  · exact (h0 _ _ _).trans (noted_msix _ _)
  · exact h0 _ _ _

theorem noted_collect (s : State) (prio code : Nat) (sm : Bool) (ft : W64) (src loc body units : Nat) :
    Noted s (collect s prio code sm ft src loc body units) := by
  unfold collect
  dsimp only
  split
  · exact (noted_overwriteFor s _ _).trans (noted_placeRecord _ _ _ _ _ _ _ _ _)
  · split
    · exact noted_placeRecord _ _ _ _ _ _ _ _ _
    · exact (noted_rinc s (by decide)).trans (noted_ledger _ _)

/-- All that raising a record does. -/
theorem noted_raise (s : State) (e : Ev) : Noted s (raise s e) := by
  unfold raise
  dsimp only
  split
  · unfold suppress
    exact (noted_rinc s (by decide)).trans (noted_ledger _ _)
  · exact (noted_ledger s _).trans (noted_collect _ _ _ _ _ _ _ _ _)

/-- A field that no record writes reads as before. -/
theorem Noted.rget {s t : State} (h : Noted s t) (f : Fld) (i j : Nat) (hk : ∀ g ∈ noteFields, regKey f i j ≠ regKey g 0 0) :
    Machine.rget t f i j = Machine.rget s f i j := by
  simp only [Machine.rget, mapGet, h.2 _ hk]

theorem Noted.mem {s t : State} (h : Noted s t) : t.mem = s.mem := by rw [h.1]
theorem Noted.queues {s t : State} (h : Noted s t) : t.queues = s.queues := by rw [h.1]
theorem Noted.time {s t : State} (h : Noted s t) : t.time = s.time := by rw [h.1]
theorem Noted.poison {s t : State} (h : Noted s t) : t.poison = s.poison := by rw [h.1]
theorem Noted.power {s t : State} (h : Noted s t) : t.power = s.power := by rw [h.1]

end Sys2Proof.Machine
end

