-- ==== Sys2Proof/Laws/Memory.lean ====
section
/-! SUPPORT. Sys2Proof/Laws/Memory.lean: bytes of memory: what a write leaves to read, and that every operation keeps the canonical form. -/

namespace Sys2Proof.Machine

/-- The canonical form in terms of its two parts. -/
theorem memory_wf_iff (m : List Host.Cell) : Memory.wf m = true ↔ Rising m ∧ ∀ c ∈ m, c.2 ≠ emptyByte := by
  induction m with
  | nil => simp [Memory.wf, Rising]
  | cons c r ih =>
    cases r with
    | nil => simp [Memory.wf, Rising]
    | cons d r =>
      rw [Memory.wf]
      simp only [Bool.and_eq_true, bne_iff_ne, ne_eq, decide_eq_true_eq, ih]
      constructor
      · rintro ⟨⟨h1, h2⟩, h3, h4⟩
        refine ⟨List.pairwise_cons.mpr ⟨fun e he => ?_, h3⟩, fun e he => ?_⟩
        · rcases List.mem_cons.mp he with he | he
          · rw [he]; exact h2
          · exact Nat.lt_trans h2 ((List.pairwise_cons.mp h3).1 e he)
        · rcases List.mem_cons.mp he with he | he
          · rw [he]; exact h1
          · exact h4 e he
      · rintro ⟨h1, h2⟩
        have hp := List.pairwise_cons.mp h1
        exact ⟨⟨h2 c List.mem_cons_self, hp.1 d List.mem_cons_self⟩, hp.2, fun e he => h2 e (List.mem_cons_of_mem _ he)⟩

theorem mem_cellsOf {l : List Byte} {a : Nat} {c : Host.Cell} (h : c ∈ cellsOf a l) :
    a ≤ c.1 ∧ c.1 < a + l.length ∧ c.2 ≠ emptyByte := by
  induction l generalizing a with
  | nil => simp [cellsOf] at h
  | cons b r ih =>
    rw [cellsOf] at h
    simp only [List.length_cons]
    split at h
    · have := ih h
      exact ⟨by omega, by omega, this.2.2⟩
    · rename_i hb
      rcases List.mem_cons.mp h with h | h
      · subst h
        exact ⟨Nat.le_refl _, by simp only; omega, hb⟩
      · have := ih h
        exact ⟨by omega, by omega, this.2.2⟩

theorem rising_cellsOf (l : List Byte) (a : Nat) : Rising (cellsOf a l) := by
  induction l generalizing a with
  | nil => simp [cellsOf, Rising]
  | cons b r ih =>
    rw [cellsOf]
    split
    · exact ih _
    · exact List.pairwise_cons.mpr ⟨fun c hc => (mem_cellsOf hc).1, ih _⟩

theorem memWrite_wf (l : List Byte) (m : List Host.Cell) (a : Nat) (h : Memory.wf m = true) :
    Memory.wf (memWrite m a l) = true := by
  cases l with
  | nil => exact h
  | cons b r =>
    rw [memory_wf_iff] at h ⊢
    simp only [memWrite]
    refine ⟨List.pairwise_append.mpr ⟨List.Pairwise.filter _ h.1, List.pairwise_append.mpr
      ⟨rising_cellsOf _ _, List.Pairwise.filter _ h.1, fun c hc d hd => ?_⟩, fun c hc d hd => ?_⟩, fun c hc => ?_⟩
    · have h1 := mem_cellsOf hc
      have h2 := of_decide_eq_true (List.mem_filter.mp hd).2
      omega
    · have h1 := of_decide_eq_true (List.mem_filter.mp hc).2
      rcases List.mem_append.mp hd with hd | hd
      · have := mem_cellsOf hd
        omega
      · have := of_decide_eq_true (List.mem_filter.mp hd).2
        omega
    · rcases List.mem_append.mp hc with hc | hc
      · exact h.2 c (List.mem_filter.mp hc).1
      · rcases List.mem_append.mp hc with hc | hc
        · exact (mem_cellsOf hc).2.2
        · exact h.2 c (List.mem_filter.mp hc).1

theorem memZero_wf {m : List Host.Cell} (a n : Nat) (h : Memory.wf m = true) : Memory.wf (memZero m a n) = true := by
  rw [memory_wf_iff] at h ⊢
  exact ⟨List.Pairwise.filter _ h.1, fun c hc => h.2 c (List.mem_filter.mp hc).1⟩

theorem reset_mem_wf : Memory.wf State.reset.mem = true := rfl

theorem mapFind_append {α : Type} (m n : SMap α) (k : Nat) : mapFind (m ++ n) k = (mapFind m k).or (mapFind n k) := by
  induction m with
  | nil => simp
  | cons e r ih =>
    obtain ⟨i, w⟩ := e
    simp only [List.cons_append, mapFind]
    split
    · rfl
    · exact ih

theorem mapFind_filter {α : Type} (m : SMap α) (p : Nat → Bool) (k : Nat) :
    mapFind (m.filter (fun c => p c.1)) k = if p k = true then mapFind m k else none := by
  induction m with
  | nil => simp
  | cons e r ih =>
    obtain ⟨i, w⟩ := e
    simp only [List.filter_cons]
    by_cases hi : i = k
    · subst hi
      by_cases hp : p i = true
      · simp [hp, mapFind]
      · rw [if_neg hp]
        rw [if_neg hp] at ih
        rw [if_neg (by simpa using hp)]
        exact ih
    · by_cases hp : p i = true
      · simp only [hp, if_true, mapFind, if_neg hi, ih]
      · rw [if_neg (by simpa using hp), mapFind, if_neg hi]
        exact ih

theorem mapFind_cellsOf (l : List Byte) (a k : Nat) : (mapFind (cellsOf a l) k).getD emptyByte = if a ≤ k then l.getD (k - a) emptyByte else emptyByte := by
  induction l generalizing a with
  | nil => simp [cellsOf]
  | cons b r ih =>
    rw [cellsOf]
    have hs : a + 1 ≤ k → k - a = k - (a + 1) + 1 := by omega
    split
    · rename_i hb
      rw [ih]
      by_cases h1 : a + 1 ≤ k
      · rw [if_pos h1, if_pos (by omega), hs h1, List.getD_cons_succ]
      · by_cases h2 : a = k
        · subst h2
          simp [hb]
        · rw [if_neg h1, if_neg (by omega)]
    · simp only [mapFind]
      by_cases h2 : a = k
      · subst h2
        simp
      · rw [if_neg h2, ih]
        by_cases h1 : a + 1 ≤ k
        · rw [if_pos h1, if_pos (by omega), hs h1, List.getD_cons_succ]
        · rw [if_neg h1, if_neg (by omega)]

theorem memGet_memWrite (l : List Byte) (m : List Host.Cell) (a j : Nat) :
    memGet (memWrite m a l) j = if a ≤ j ∧ j < a + l.length then l.getD (j - a) emptyByte else memGet m j := by
  cases l with
  | nil => rw [if_neg (by simp only [List.length_nil]; omega)]; rfl
  | cons b r =>
    have hl := mapFind_filter m (fun k => decide (k < a)) j
    have hr := mapFind_filter m (fun k => decide (a + (b :: r).length ≤ k)) j
    have hc := mapFind_cellsOf (b :: r) a j
    have hn : ¬ (a ≤ j ∧ j < a + (b :: r).length) → mapFind (cellsOf a (b :: r)) j = none := by
      intro h
      have key : ∀ (m : SMap Byte), (∀ c ∈ m, c.1 ≠ j) → mapFind m j = none := by
        intro m
        induction m with
        | nil => exact fun _ => rfl
        | cons e t ih =>
          intro he
          obtain ⟨i, w⟩ := e
          rw [mapFind, if_neg (he _ List.mem_cons_self)]
          exact ih (fun c hc => he c (List.mem_cons_of_mem _ hc))
      exact key _ (fun c hc hj => h (by have := mem_cellsOf hc; omega))
    simp only [memWrite, memGet, mapFind_append]
    rw [hl, hr]
    by_cases h : a ≤ j ∧ j < a + (b :: r).length
    · rw [if_pos h, if_neg (by simpa using h.1), if_neg (by simpa using h.2)]
      simp only [Option.none_or, Option.or_none]
      rw [hc, if_pos h.1]
    · rw [if_neg h, hn h]
      by_cases h1 : j < a
      · rw [if_pos (by simpa using h1), if_neg (by simp only [decide_eq_true_eq]; omega)]
        simp
      · rw [if_neg (by simpa using h1), if_pos (by simp only [decide_eq_true_eq]; omega)]
        simp

theorem memGet_memWrite_outside (l : List Byte) (m : List Host.Cell) (a j : Nat) (h : j < a ∨ a + l.length ≤ j) :
    memGet (memWrite m a l) j = memGet m j := by
  rw [memGet_memWrite, if_neg (by omega)]

theorem memGet_memWrite_inside (l : List Byte) (m : List Host.Cell) (a i : Nat) (h : i < l.length) :
    memGet (memWrite m a l) (a + i) = l[i] := by
  rw [memGet_memWrite, if_pos (by omega), Nat.add_sub_cancel_left, List.getD_eq_getElem _ _ h]

/-- A byte of a window is the byte of memory. -/
theorem memGet_memWindow (m : List Host.Cell) (a n i : Nat) (h : i < n) : memGet (memWindow m a n) (a + i) = memGet m (a + i) := by
  have := mapFind_filter m (fun k => decide (a ≤ k) && decide (k < a + n)) (a + i)
  rw [memGet, memWindow, this, if_pos, memGet]
  simp only [Bool.and_eq_true, decide_eq_true_eq]
  omega

/-- A read gives the bytes at its addresses. -/
theorem memRead_eq (m : List Host.Cell) (a n : Nat) : memRead m a n = (List.range n).map (fun i => memGet m (a + i)) := by
  have key : ∀ (w : List Host.Cell) (n b : Nat), memBytes w b n = (List.range n).map (fun i => memGet w (b + i)) := by
    intro w n
    induction n with
    | zero => intro b; rfl
    | succ n ih =>
      intro b
      rw [memBytes, List.range_succ_eq_map, List.map_cons, List.map_map, ih (b + 1)]
      congr 1
      apply List.map_congr_left
      intro i _
      simp only [Function.comp, Nat.succ_eq_add_one]
      congr 1
      omega
  rw [memRead, key]
  exact List.map_congr_left (fun i hi => memGet_memWindow m a n i (List.mem_range.mp hi))

/-- A write is read back whole. -/
theorem memRead_memWrite (l : List Byte) (m : List Host.Cell) (a : Nat) : memRead (memWrite m a l) a l.length = l := by
  rw [memRead_eq]
  apply List.ext_getElem (by simp)
  intro i h1 h2
  simp only [List.getElem_map, List.getElem_range]
  exact memGet_memWrite_inside l m a i h2

end Sys2Proof.Machine
end

