-- ==== Sys2Proof/Laws/Time.lean ====
section
/-! SUPPORT. Sys2Proof/Laws/Time.lean: all that the passing of time can do: it moves Fabric Time, the timers and the run timers of running
dockets; a request that waits for a refresh counts it besides. Nothing else changes. -/

namespace Sys2Proof.Machine

/-- t differs from s in time, the queues' run timers and the fields l of the register file only; no queue gains or loses a docket. -/
def Waited (l : List Fld) (s t : State) : Prop :=
  t = { s with regs := t.regs, time := t.time, queues := t.queues } ∧ t.queues.map (·.1) = s.queues.map (·.1) ∧
    ∀ k, (∀ f ∈ l, ∀ i, k ≠ regKey f i 0) → mapFind t.regs k = mapFind s.regs k

/-- The fields that a wait for a refresh advances. -/
def refreshFields : List Fld := [Reg.HBMC_REFRESH_WAITS, Reg.STORC_REFRESH_WAITS]

theorem Waited.refl (l : List Fld) (s : State) : Waited l s s := ⟨rfl, rfl, fun _ _ => rfl⟩

theorem Waited.trans {l : List Fld} {s t u : State} (h : Waited l s t) (g : Waited l t u) : Waited l s u := by
  refine ⟨?_, g.2.1.trans h.2.1, fun k hk => (g.2.2 k hk).trans (h.2.2 k hk)⟩
  rw [g.1, h.1]

theorem waited_advance (l : List Fld) (s : State) (n : Nat) : Waited l s (advance s n) := by
  unfold advance
  split
  · exact ⟨rfl, rfl, fun _ _ => rfl⟩
  · exact ⟨rfl, by simp [runTimers], fun _ _ => rfl⟩

theorem waited_advanceTo (l : List Fld) (s : State) (c : Nat) : Waited l s (advanceTo s c) := by
  unfold advanceTo
  split
  · exact waited_advance l s _
  · exact Waited.refl l s

theorem waited_advanceFt (l : List Fld) (s : State) (v : W64) : Waited l s (advanceFt s v) := by
  unfold advanceFt
  split
  · have h := waited_advance l s (v.toNat - s.time.ft.toNat)
    dsimp only
    split
    · exact h.trans ⟨rfl, rfl, fun _ _ => rfl⟩
    · exact h
  · exact Waited.refl l s

theorem waited_rinc {l : List Fld} (s : State) {f : Fld} (h : f ∈ l) (i n : Nat) : Waited l s (rinc s f i 0 n) := by
  have key : ∀ v, Waited l s (rset s f i 0 v) := fun v => ⟨rfl, rfl, fun k hk => mapFind_mapSet_ne s.regs _ (hk f h i)⟩
  unfold rinc
  dsimp only
  repeat' split
  all_goals exact key _

/-- A request to memory waits for a refresh at most. -/
theorem waited_awaitRefresh (s : State) (l : List Nat) : Waited refreshFields s (awaitRefresh s l) := by
  unfold awaitRefresh
  dsimp only
  split
  · exact Waited.refl _ s
  · refine Waited.trans ?_ (waited_advance _ _ _)
    generalize (refreshUnits l).filter (fun u => refreshWait s u != 0) = due
    generalize s = t
    induction due generalizing t with
    | nil => exact Waited.refl _ t
    | cons u r ih =>
      refine Waited.trans (waited_rinc t ?_ _ _) (ih _)
      cases u <;> simp [refreshPage, refreshFields]

/-- A field that the wait does not advance reads as before. -/
theorem Waited.rget {l : List Fld} {s t : State} (h : Waited l s t) (f : Fld) (i j : Nat) (hk : ∀ g ∈ l, ∀ a, regKey f i j ≠ regKey g a 0) :
    rget t f i j = rget s f i j := by simp [Machine.rget, mapGet, h.2.2 _ hk]

theorem Waited.mem {l : List Fld} {s t : State} (h : Waited l s t) : t.mem = s.mem := by rw [h.1]
theorem Waited.poison {l : List Fld} {s t : State} (h : Waited l s t) : t.poison = s.poison := by rw [h.1]
theorem Waited.fills {l : List Fld} {s t : State} (h : Waited l s t) : t.fills = s.fills := by rw [h.1]
theorem Waited.boot {l : List Fld} {s t : State} (h : Waited l s t) : t.boot = s.boot := by rw [h.1]
theorem Waited.resets {l : List Fld} {s t : State} (h : Waited l s t) : t.resets = s.resets := by rw [h.1]
theorem Waited.msf {l : List Fld} {s t : State} (h : Waited l s t) : t.msf = s.msf := by rw [h.1]
theorem Waited.links {l : List Fld} {s t : State} (h : Waited l s t) : t.links = s.links := by rw [h.1]
theorem Waited.out {l : List Fld} {s t : State} (h : Waited l s t) : t.out = s.out := by rw [h.1]

end Sys2Proof.Machine
end

