-- ==== Sys2Proof/WellFormed.lean ====
section
/-! DEFINITION. Sys2Proof/WellFormed.lean: what a command from outside must look like: the shapes that no operand type enforces. -/

namespace Sys2Proof

/-- A transaction of R436: one to 16 words at ascending word offsets within one page of the 64 MiB register space (R426). -/
def transactionOk (words : List WordWrite) : Bool :=
  match words with
  | [] => false
  | w :: _ =>
    decide (words.length ≤ 16) && decide (w.off % 4 = 0) && decide ((w.off + 4 * words.length - 1) / 4096 = w.off / 4096) &&
      decide (w.off + 4 * words.length ≤ 0x4000000) &&
      (words.zipIdx.all (fun p => p.1.off == w.off + 4 * p.2))

/-- One word offset of the register space (R426, R428). -/
def wordOffOk (off : Nat) : Bool := decide (off % 4 = 0) && decide (off < 0x4000000)

/-- A packet's data fit its LEN of whole data units (R243), and its side-band number its width (log entry 20). -/
def packetOk (p : Packet) : Bool := decide (p.data.length ≤ 4224) && decide (p.side < 8192)

/-- The number of domains of a code (R364, R384). -/
def domainCount (code : Fin 9) : Nat :=
  match code with
  | 0 => 2064 | 1 => 512 | 2 => 64 | 3 => 8 | 4 => 16 | 5 => 64 | 6 => 2 | 7 => 2 | 8 => 1

/-- A line of the 48-bit local address space (R157). -/
def lineOk (line : Nat) : Bool := decide (line < 2 ^ 42)

/-- The command has a shape that its sender can send. -/
def Instr.wellFormed (i : Instr) : Bool :=
  match i with
  | .registerWrite _ words hw _ => transactionOk words && hw.all (fun p => wordOffOk p.1)
  | .unmappedWrite _ words => transactionOk words
  | .rcCounterRead _ off _ => wordOffOk off
  | .ro64LowWordRead _ off => wordOffOk off
  | .ctrlLock _ off => decide (off < 0x4000000)
  | .bar4Access off data len => decide (off + len ≤ 2 ^ 42) && (match data with | none => true | some l => l.length == len)
  | .configurationRequest off _ => decide (off.toNat % 4 = 0)
  | .train trained channels => trained.Nodup && channels.Nodup
  | .patrolScrub line _ _ => lineOk line
  | .packetForward _ p | .mcastReplicate _ p | .write _ p | .read _ p | .readData _ p | .writeAck _ p | .atomic _ p
  | .atomicResult _ p | .busyReply _ p | .reject p | .fenceNotice p | .tallyData _ p | .tallyAnchor _ p | .tallyGrant p | .tallyAck p
  | .tallyNak p | .imageData _ p | .imageAck p => packetOk p
  | .domainResetDone d _ | .resetBoundExceeded d => decide (d.index < domainCount d.code)
  | .pcieLinkChange up _ width _ => !up || width != 0
  | .powerInputInRange | .powerInputOutOfRange | .bladeCurrentLoss _ | .rom _ _ | .flash | .verify | .powerUp | .selftest _
  | .publish _ | .perstNAssert | .perstNRelease | .functionLevelReset | .nowLoRead _ | .drawnLoRead _ _ | .sbusWatchdogBite _
  | .tailWrite _ _ _ _ | .compHeadWrite _ _ _ _ | .ringEnableWrite _ _ _ _ | .slotReadReturn _ _ _ | .seqRetry _ _ _
  | .docketAccept _ _ | .releaseReached _ | .counterUpdateVisible _ | .docketDispatch _ | .docketCompletion _ _
  | .completionRecordWrite _ _ | .waitTimeout _ _ | .runTimeout _ _ | .lmma _ | .ltally _ | .vmap _ | .vrow _ | .vtto _ | .vtadd _
  | .vtround _ | .vamax _ | .pcopy _ | .pconv _ | .playout _ | .pgather _ | .pscatter _ | .pfill _ | .chunkLanded _ _ | .ratomic _
  | .rfence _ | .rinval _ | .cnop _ | .cwait _ | .csignal _ | .ownershipWrite _ _ _ _ | .storeFillDone _ | .setOwnershipWrite _ _ _ _
  | .memoryFillDone _ | .refreshWindow _ | .stackTemperatureReport _ _ | .ingest _ _ | .spanStart _ | .nvmeCompletion _ _ _ _
  | .nvmeTimeout _ _ | .rdmaCompletion _ _ _ _ | .keepAlive _ _ | .targetConnectionLost _ _ | .spanComplete _ _
  | .decodeGroupIdleOff _ _ | .decodeGroupPowered _ _ | .init _ | .draw _ | .drawSlotReady _ | .drawLanded _ | .hopperSave _
  | .hopperRestore _ | .hopperEnableWrite _ _ _ | .markerSlotReceived _ _ _ _ _ _ _ | .laneMarkerMissed _ _ | .flitReceived _ _ _ | .replayTimeout _
  | .timeWordSend _ | .timeWordReceived _ _ | .holdoverTimeout | .linkEnableWrite _ _ _ | .retrain _ _ | .linkPhaseDone _ _ _ _
  | .bringupTimeout _ | .atomicResend _ | .busyBackoff _ | .fencedSelfClear _ | .peerDataWrite _ _ | .peerEntryApplied _
  | .groupIndex _ _ | .groupIndexLoad _ _ | .ownGenWrite _ _ | .reduceScatter _ | .allGather _ | .allReduce _ | .broadcast _
  | .anchorMax _ | .tallyChunkResend _ _ _ | .tallyPartitionWrite _ _ _ _ _ | .apply _ | .pageCommit _ | .normPartial _
  | .normFinish _ | .save _ | .restore _ | .load _ | .scan _ | .chestChunkResend _ _ | .chestRequest _ | .resetReqGo _
  | .wrapDrainEnd _ | .packageReset | .tenantReset _ _ | .tenantResetDone _ | .healthDecay | .ledgerDrain | .tokenRefill _
  | .summaryIntervalEnd | .aoTailWrite _ _ | .capTailWrite _ _ | .refillUsWrite _ _ _ | .depthWrite _ _ _ | .summaryMsWrite _ _
  | .arm _ _ | .freezeNAssert | .freezeNRelease | .freezeTaken | .resume _ _ | .freezeReset _ | .resumeReached | .chainSelWrite _ _
  | .readoutDataRead _ | .storeDataRead _ | .debugEnWrite _ _ _ | .domainOnWrite _ _ | .cclkMhzWrite _ _ _ | .cclkChangeDone _
  | .powerMeasurement _ | .cclkRecoveryStep | .dieTemperatureReport _ _ | .thermNAssert | .thermNRelease | .pStateEntryDone _
  | .wakeTime _ | .pStateExitDone _ | .wakeAt | .gateReqWrite _ _ _ _ _ | .sourceSelWrite _ _ _ | .pllRelockDone _
  | .meterWindowEnd _ _ _ _ | .ftsyncEdge _ | .ftsyncMissed | .roleWrite _ _ | .sourceWrite _ _ | .set _ _ _ | .ptpSync _ _
  | .ptpSyncLoss _ | .neighbourSolicitation _ _ | .congestionNotification _ | .pfcPause _ _ | .ethLinkChange _ _ | .reboot _
  | .svnCommit _ | .keyRevoke _ _ | .flashRead _ | .flashProgram _ | .flashEraseSector _ | .flashOpDone | .smbusStatusRead
  | .smbusPosIdRead | .smbusSerialRead | .smbusSetOffset _ _ | .smbusReadWord | .smbusWriteWord _ _ | .smbusNotReachableRead
  | .smbusWake _ | .smbusReboot _ | .smbusFlashAddr _ _ | .smbusFlashRead | .smbusFlashProgram _ _ | .smbusFlashErase _
  | .smbusFlashStatus | .smbusTimeout | .alertResponse | .targetConnectionReady _ _ _ | .trstNAssert _ => true

end Sys2Proof
end

