-- ==== Sys2Proof/Tests/Slice0.lean ====
section
/-! SUPPORT. Sys2Proof/Tests/Slice0.lean: tests on values that the spec works out, ill-formed commands that WellFormed refuses, and for every
clause of every statement a state and operands that meet its premises. -/

namespace Sys2Proof.Tests

set_option maxRecDepth 20000
set_option exponentiation.threshold 6000
set_option Elab.async false

open Sys2Proof Sys2Proof.Machine

-- states ----------------------------------------------------------------------------------------------------------------

/-- The state before power, with register fields set: field, instance, index and value. -/
def regs (l : List (Fld × Nat × Nat × Nat)) (s : State := State.reset) : State :=
  l.foldl (fun s x => rset s x.1 x.2.1 x.2.2.1 x.2.2.2) s

/-- The host driver's platform role (R429). -/
def host : Writer := ⟨12, 15⟩

/-- A tenant that is not the platform. -/
def guest : Writer := ⟨12, 3⟩

/-- A tenant through its function of BAR2 (R124). -/
def host' (t : TenantId) : Writer := ⟨12, t⟩

/-- A write that passes every check takes effect. -/
theorem lands {s : State} {w : Writer} {p : Page} {f : Fld} {i : Nat} (h : permitted f i w = true)
    (x : f.off < 0x800 ∨ rget (taken s w p) Reg.HDR_EXPERT_EN p.num ≠ 0) (z : frozen (taken s w p) = false ∨ p.ao = true) :
    Lands s w p f i (taken s w p) := ⟨rfl, h, x, z⟩

/-- A pair is its first part and the value of its second. -/
theorem pair {α : Type} {x : α × Bool} {b : Bool} (h : x.2 = b) : x = (x.1, b) := Prod.ext rfl h

/-- Expert mode on the PMC page. -/
def pmcExpert : State := regs [(Reg.HDR_EXPERT_EN, pmcPage.num, 0, 1)]

/-- A freeze taken. -/
def frozenS : State := regs [(Reg.FREEZE_STATUS, 0, 0, 1)] pmcExpert

/-- The boot at a stage. -/
def stage (n : Nat) : State := { regs [(Reg.PMC_BOOT_STAGE, 0, 0, n)] with boot := { State.reset.boot with inRange := true } }

/-- An image in the PMC island. -/
def booted (s : State) : State := { s with boot := { s.boot with inRange := true, image := some 0 } }

-- boot, power and management --------------------------------------------------------------------------------------------

theorem witness_discarded_tenant :
    fieldWrite (.reboot guest) = some (guest, pmcPage, Reg.PMC_REBOOT, 0, 1) ∧ permitted Reg.PMC_REBOOT 0 guest = false := ⟨rfl, by decide⟩

theorem witness_discarded_freeze :
    fieldWrite (.reboot host) = some (host, pmcPage, Reg.PMC_REBOOT, 0, 1) ∧ permitted Reg.PMC_REBOOT 0 host = true ∧
      rget frozenS Reg.HDR_EXPERT_EN pmcPage.num ≠ 0 ∧ frozen frozenS = true ∧ pmcPage.ao = false := ⟨rfl, by decide⟩

theorem witness_frozen_module : FrozenAt frozenS { frozenS with pending := [.healthDecay] } :=
  ⟨by decide, rfl, fun c h => by cases List.mem_singleton.1 h; rfl, by simp [held]⟩

theorem witness_power_in : State.reset.boot.inRange = false := rfl
theorem witness_blade : Clocked State.reset := by decide
theorem witness_package_reset :
    frozen (booted State.reset) = false ∧ (booted State.reset).boot.image = some 0 ∧ tripHolds (booted State.reset) = false := by decide
theorem witness_reboot : Lands pmcExpert host pmcPage Reg.PMC_REBOOT 0 (taken pmcExpert host pmcPage) ∧
    tripHolds (taken pmcExpert host pmcPage) = false := ⟨lands (by decide) (by decide) (by decide), by decide⟩
theorem witness_stages : ∀ n ∈ [0, 1, 2, 3, 4, 5, 6], AtStage (stage n) n := by decide

theorem witness_svn : Lands pmcExpert host pmcPage Reg.PMC_SVN_COMMIT 0 (taken pmcExpert host pmcPage) :=
  lands (by decide) (by decide) (by decide)
theorem witness_key : Lands pmcExpert host pmcPage Reg.PMC_KEY_REVOKE 0 (taken pmcExpert host pmcPage) ∧
    (taken pmcExpert host pmcPage).boot.image = none := ⟨lands (by decide) (by decide) (by decide), by decide⟩
theorem witness_key_in_use : Lands (booted pmcExpert) host pmcPage Reg.PMC_KEY_REVOKE 0 (taken (booted pmcExpert) host pmcPage) ∧
    (taken (booted pmcExpert) host pmcPage).boot.image ≠ none ∧
    bitAt (1#4).toNat (rget (taken (booted pmcExpert) host pmcPage) Reg.PMC_KEY_SLOT) = true :=
  ⟨lands (by decide) (by decide) (by decide), by decide, by decide⟩

/-- The PMC firmware's claim on the flash, at stage FLASH and after it. -/
def claimed (path : Nat) : State := regs [(Reg.SMB_FLASH_CLAIM, 0, 0, path)] (stage 7)

theorem witness_flash_starts : Lands (claimed 2) host smbPage Reg.SMB_FLASH_CMD 0 (taken (claimed 2) host smbPage) ∧
    flashRuns (taken (claimed 2) host smbPage) 2 = true := ⟨lands (by decide) (by decide) (by decide), by decide⟩
theorem witness_flash_fails : Lands State.reset host smbPage Reg.SMB_FLASH_CMD 0 (taken State.reset host smbPage) ∧
    flashRuns (taken State.reset host smbPage) 2 = false := ⟨lands (by decide) (by decide) (by decide), by decide⟩
theorem witness_flash_ends : ∀ n ∈ [1, 2, 3], ∃ op : FlashOp, op.cmd = n ∧
    { State.reset with flash := { bytes := [], busy := some op } }.flash.busy = some op := fun n _ => ⟨⟨n, 0, 0, false⟩, rfl, rfl⟩

/-- The SMBus can reach the pages. -/
def within : State := booted (stage 7)
theorem witness_smbus_reads : within.boot.inRange = true := rfl
theorem witness_smbus_reach : within.boot.inRange = true ∧ smbusReach within = true ∧ aoOnly within = false := by decide
theorem witness_smbus_not_reached : ∃ s : State, s.boot.inRange = true ∧ smbusReach s = false :=
  ⟨stage 1, by decide⟩
theorem witness_smbus_read_only_ao : (stage 1).boot.inRange = true ∧ smbusReach (stage 1) = false := by decide
theorem witness_smbus_wake : Clocked { within with power := { within.power with sleep := [(584, .asleep 4)] } } ∧
    { within with power := { within.power with sleep := [(584, .asleep 4)] } }.power.sleep = [(584, .asleep 4)] := ⟨by decide, rfl⟩
theorem witness_smbus_reboot : within.boot.inRange = true ∧ frozen within = false ∧ tripHolds within = false := by decide
theorem witness_smbus_addr : (0x3FFFFE0#32).toNat % 32 = 0 ∧ (0x3FFFFE0#32).toNat < 2 ^ 26 := by decide
theorem witness_smbus_flash : (claimed 1).boot.inRange = true ∧ flashRuns (claimed 1) 1 = true := by decide
theorem witness_alert : (regs [(Reg.SMB_ALERT_CAUSE, 0, 0, 4)] within).boot.inRange = true ∧
    alertAsserted (regs [(Reg.SMB_ALERT_CAUSE, 0, 0, 4)] within) = true ∧ alertAsserted within = false := by decide

/-- The function answers and the host has enabled it. -/
def up : State := { within with pcie := { within.pcie with rrs := false }, power := { within.power with on := List.range 137 } }

theorem witness_perst : up.pins.perstN = true ∧ Clocked up := by decide
theorem witness_flr : Clocked up ∧ up.pins.perstN = true ∧ up.pcie.rrs = false := by decide
theorem witness_retry : Clocked within ∧ within.pins.perstN = true ∧ within.pcie.rrs = true := by decide
theorem witness_pcie_link : Clocked up ∧ domainOn up 105 = true := by decide
theorem witness_bar4_table : Clocked up ∧ hostUp up = true ∧ (0x7FF0 : Nat) < 0x8000 ∧ 0x7FF0 < apertureSize up := by decide
theorem witness_bar4_memory : Clocked up ∧ hostUp up = true ∧ (0x10000 : Nat) < apertureSize up ∧ up.power.sleep = [] ∧
    ((Access.start up 15 none).wr (rget64 up Reg.PCIE_APERTURE_BASE_LO Reg.PCIE_APERTURE_BASE_HI + (0x10000 - 0x10000)) [1#8]).stalled = false := by
  decide

/-- One target enabled on each Mill die. -/
def targeted : State := regs [(Reg.MILL_ENABLE, 0, 4, 1), (Reg.MILL_ENABLE, 1, 4, 1)] up

theorem witness_solicitation : Clocked targeted ∧ (0#128).toNat ∈ portAddresses targeted 0 ∧ (1#128).toNat ∉ portAddresses targeted 0 := by decide
theorem witness_cnp : Clocked up ∧ rget up Reg.ETH_CNP_RECEIVED 1 < 2 ^ 32 - 1 := by decide
theorem witness_pfc : rget up Reg.ETH_PFC_PRIORITY 0 = (rget up Reg.ETH_PFC_PRIORITY 0) ∧ rget up Reg.ETH_PFC_PRIORITY 0 < 8 := by decide
theorem witness_eth_link : Clocked up ∧ rget up Reg.ETH_LINK_UP 1 ≠ b2n true := by decide

-- time, clocks and freezes ----------------------------------------------------------------------------------------------

theorem witness_role : Lands State.reset host ftimePage Reg.FTIME_ROLE 0 (taken State.reset host ftimePage) ∧ (2#2 : BitVec 2) ≠ 3 ∧
    rget (taken State.reset host ftimePage) Reg.FTIME_SYNC_STATE ≠ 4 ∧ crossBusy (taken State.reset host ftimePage) ftimePage Reg.FTIME_ROLE = false :=
  ⟨lands (by decide) (by decide) (by decide), by decide, by decide, by decide⟩
theorem witness_source : Lands State.reset host ftimePage Reg.FTIME_SOURCE 0 (taken State.reset host ftimePage) ∧
    crossBusy (taken State.reset host ftimePage) ftimePage Reg.FTIME_SOURCE = false ∧
    sourceReady (taken State.reset host ftimePage) 0 = true ∧ sourceReady (taken State.reset host ftimePage) 3 = false :=
  ⟨lands (by decide) (by decide) (by decide), by decide, by decide, by decide⟩

/-- A write to SOURCE that is not acknowledged. -/
def crossS : State := crossing State.reset ftimePage Reg.FTIME_SOURCE

theorem witness_source_queued : Lands crossS host ftimePage Reg.FTIME_SOURCE 0 (taken crossS host ftimePage) ∧
    crossBusy (taken crossS host ftimePage) ftimePage Reg.FTIME_SOURCE = true := ⟨lands (by decide) (by decide) (by decide), by decide⟩
theorem witness_set : Lands State.reset host ftimePage Reg.FTIME_SET_HI 0 (taken State.reset host ftimePage) ∧
    crossBusy (taken State.reset host ftimePage) ftimePage Reg.FTIME_SET_HI = false ∧
    rget (taken State.reset host ftimePage) Reg.FTIME_ROLE = 0 ∧ (taken State.reset host ftimePage).time.joined = false :=
  ⟨lands (by decide) (by decide) (by decide), by decide, by decide, by decide⟩

/-- A module that has been LOCKED, at a Fabric Time. -/
def joinedAt (v : W64) (s : State) : State := { s with time := { s.time with joined := true, ft := v } }

theorem witness_set_back : Lands (joinedAt 9 State.reset) host ftimePage Reg.FTIME_SET_HI 0 (taken (joinedAt 9 State.reset) host ftimePage) ∧
    crossBusy (taken (joinedAt 9 State.reset) host ftimePage) ftimePage Reg.FTIME_SET_HI = false ∧
    rget (taken (joinedAt 9 State.reset) host ftimePage) Reg.FTIME_ROLE = 0 ∧
    (taken (joinedAt 9 State.reset) host ftimePage).time.joined = true ∧
    (0#32 ++ 8#32 : W64) < (taken (joinedAt 9 State.reset) host ftimePage).time.ft :=
  ⟨lands (by decide) (by decide) (by decide), by decide, by decide, by decide, by decide⟩

/-- A follower of link 5 in a state of R50. -/
def follower (st : Nat) : State := regs [(Reg.FTIME_ROLE, 0, 0, 2), (Reg.FTIME_PARENT_LINK, 0, 0, 5), (Reg.FTIME_SYNC_STATE, 0, 0, st)]

/-- A follower that has stepped, with a streak. -/
def stepped (st streak : Nat) : State := { follower st with time := { (follower st).time with stepped := true, streak := streak, ft := 1000 } }

theorem witness_follower : frozen (follower 1) = false ∧ rget (follower 1) Reg.FTIME_ROLE = 2 ∧
    rget (follower 1) Reg.FTIME_PARENT_LINK = (5 : LinkId).val ∧ rget (follower 1) Reg.FTIME_SYNC_STATE ≠ 4 ∧
    (follower 1).time.stepped = false ∧ (follower 1).time.joined = false ∧ rget (follower 1) Reg.FTIME_SYNC_STATE ≠ 3 := by decide
theorem witness_follower_pause : (joinedAt 1000 (follower 1)).time.stepped = false ∧ (joinedAt 1000 (follower 1)).time.joined = true ∧
    ((900 : W64) + BitVec.ofNat 64 (delayNs (joinedAt 1000 (follower 1)) 5) - (joinedAt 1000 (follower 1)).time.ft).toInt ≤ 0 ∧
    rget (joinedAt 1000 (follower 1)) Reg.FTIME_ROLE = 2 := by decide
theorem witness_follower_locks : (stepped 1 15).time.stepped = true ∧ rget (stepped 1 15) Reg.FTIME_SYNC_STATE = 1 ∧
    ((996 : W64) + BitVec.ofNat 64 (delayNs (stepped 1 15) 5) - (stepped 1 15).time.ft).toInt.natAbs ≤ 4 ∧
    15 ≤ (stepped 1 15).time.streak ∧ (stepped 1 15).time.pause = 0 := by decide
theorem witness_follower_holds : (stepped 2 16).time.stepped = true ∧ rget (stepped 2 16) Reg.FTIME_SYNC_STATE = 2 ∧
    64 < ((1065 : W64) + BitVec.ofNat 64 (delayNs (stepped 2 16) 5) - (stepped 2 16).time.ft).toInt.natAbs := by decide

/-- One good FTSYNC interval seen. -/
def synced : State := { State.reset with time := { State.reset.time with sawPulse := true, goodSync := 1, missedSync := 1 } }

theorem witness_ftsync : frozen synced = false ∧ synced.time.sawPulse = true ∧ 1 ≤ synced.time.goodSync ∧ synced.time.missedSync = 1 := by decide
theorem witness_first_pulse : frozen State.reset = false ∧ State.reset.time.sawPulse = false := by decide
theorem witness_ptp : frozen (regs [(Reg.ETH_PTP_EN, 1, 0, 1)]) = false ∧ rget (regs [(Reg.ETH_PTP_EN, 1, 0, 1)]) Reg.ETH_PTP_EN 1 = 1 ∧
    (-50 : Int).natAbs ≤ 50 ∧
    15 ≤ (mapGet { regs [(Reg.ETH_PTP_EN, 1, 0, 1)] with eth := [(1, { EthSt.reset with ptpStreak := 15 })] }.eth 1 EthSt.reset).ptpStreak := by decide
/-- Port 0 runs PTP and SOURCE selects it, with a role, before or after its first step to the port's timescale. -/
def ptpS (role : Nat) (step : Bool) : State :=
  let s := regs [(Reg.ETH_PTP_EN, 0, 0, 1), (Reg.FTIME_SOURCE, 0, 0, 2), (Reg.FTIME_ROLE, 0, 0, role)]
  { s with time := { s.time with ptpStep := step }, eth := [(0, { EthSt.reset with ptpStreak := 15 })] }

theorem witness_ptp_source : ∀ x ∈ [(0, false), (0, true), (1, false), (2, true)], frozen (ptpS x.1 x.2) = false ∧
    rget (ptpS x.1 x.2) Reg.ETH_PTP_EN (0 : MDie).val = 1 ∧ 15 ≤ (mapGet (ptpS x.1 x.2).eth (0 : MDie).val EthSt.reset).ptpStreak ∧
    rget (ptpS x.1 x.2) Reg.FTIME_SOURCE = 2 + (0 : MDie).val ∧ (rget (ptpS x.1 x.2) Reg.FTIME_ROLE = 2 ↔ x.1 = 2) ∧
    (ptpS x.1 x.2).time.ptpStep = x.2 ∧ (ptpS x.1 x.2).time.joined = false ∧ (ptpS x.1 x.2).time.pause = 0 := by decide
theorem witness_ptp_loss : rget (regs [(Reg.ETH_PTP_LOCKED, 1, 0, 1)]) Reg.ETH_PTP_LOCKED 1 = 1 ∧
    frozen (regs [(Reg.ETH_PTP_LOCKED, 1, 0, 1)]) = false := by decide

/-- The crystal of die 3 is ready. -/
def xtalS : State := regs [(Reg.CLOCK_STATUS_XTAL_READY, 3, 0, 1)]

theorem witness_source_sel : ∀ x ∈ [(0, State.reset), (1, xtalS)],
    Lands x.2 host ⟨.clock, (3 : DieId).val⟩ Reg.CLOCK_SOURCE_SEL 0 (taken x.2 host ⟨.clock, 3⟩) ∧
      crossBusy (taken x.2 host ⟨.clock, 3⟩) ⟨.clock, (3 : DieId).val⟩ Reg.CLOCK_SOURCE_SEL = false ∧
      rget (taken x.2 host ⟨.clock, 3⟩) Reg.CLOCK_STATUS_XTAL_READY (3 : DieId).val = x.1 := by
  simp only [List.mem_cons, List.not_mem_nil, or_false, forall_eq_or_imp, forall_eq]
  exact ⟨⟨lands (by decide) (by decide) (by decide), by decide, by decide⟩, ⟨lands (by decide) (by decide) (by decide), by decide, by decide⟩⟩
theorem witness_relock : (clockOf { State.reset with clocks := [(3, { ClockSt.reset with relock := true, coast := [2] })] } 3).relock = true := by decide
theorem witness_meter : frozen up = false ∧ (41943040#32 : W32) ≠ 0 ∧ (clockOf up (0 : DieId).val).spoiled.contains (2 : Fin 8).val = false ∧
    clockOff up (0 : DieId).val (meterCfg up 0 2).clk = false ∧
    (meterPpm (41943040#32).toNat (meterCfg up 0 2).mhz (nominalMHz up 0 (meterCfg up 0 2).ref)).natAbs ≤ (meterCfg up 0 2).warn ∧
    (meterCfg up 0 2).warn ≤ (meterCfg up 0 2).fail := by decide
theorem witness_meter_discarded : (clockOf { up with clocks := [(0, { ClockSt.reset with spoiled := [7] })] } (0 : DieId).val).spoiled.contains (7 : Fin 8).val
    = true ∧ clockOff State.reset (0 : DieId).val (meterCfg State.reset 0 2).clk = true := by decide
theorem witness_gate : Lands (regs [(Reg.CLOCK_GATE_SEL, 0, 0, 200)]) host ⟨.clock, 0⟩ Reg.CLOCK_GATE_REQ 0 (taken (regs [(Reg.CLOCK_GATE_SEL, 0, 0, 200)]) host ⟨.clock, 0⟩) ∧
    refusers (taken (regs [(Reg.CLOCK_GATE_SEL, 0, 0, 200)]) host ⟨.clock, 0⟩) 0
      (rget (taken (regs [(Reg.CLOCK_GATE_SEL, 0, 0, 200)]) host ⟨.clock, 0⟩) Reg.CLOCK_GATE_SEL 0) = [] :=
  ⟨lands (by decide) (by decide) (by decide), by decide⟩

theorem witness_gate_free : crossBusy (taken (regs [(Reg.CLOCK_GATE_SEL, 0, 0, 200)]) host ⟨.clock, 0⟩) ⟨.clock, (0 : DieId).val⟩ Reg.CLOCK_GATE_REQ = false ∧
    crossBusy (taken (regs [(Reg.CLOCK_GATE_SEL, 0, 0, 200)]) host ⟨.clock, 0⟩) ⟨.clock, (0 : DieId).val⟩ Reg.CLOCK_GATE_SUBTREE = false := by decide

/-- AT far ahead of FT. -/
def armed : State := regs [(Reg.FREEZE_ARM, 0, 0, 1), (Reg.FREEZE_AT_LO, 0, 0, 5000)]

/-- The pin is low. -/
def pinLow : State := regs [(Reg.FREEZE_STATUS, 0, 0, 2)]

/-- A freeze taken by AT. -/
def frozenAt : State := { regs [(Reg.FREEZE_STATUS, 0, 0, 9)] with freeze := { pinAt := none, resumeAt := some 9000, pinEnd := none, pos := 0 } }

theorem witness_arm : Lands State.reset host freezePage Reg.FREEZE_ARM 0 (taken State.reset host freezePage) ∧
    frozen (taken State.reset host freezePage) = false := ⟨lands (by decide) (by decide) (by decide), by decide⟩
theorem witness_pin : statusBit State.reset 1 = false ∧ frozen State.reset = false ∧ rget State.reset Reg.FREEZE_PIN_PROPAGATE = 0 ∧
    statusBit pinLow 1 = true := by decide
theorem witness_freeze_taken : frozen armed = false ∧ freezeInstant armed = some 5000 ∧ armed.time.ft.toNat < 5000 := by decide
theorem witness_resume : Lands frozenAt host freezePage Reg.FREEZE_RESUME 0 (taken frozenAt host freezePage) ∧
    frozen (taken frozenAt host freezePage) = true ∧ statusBit (taken frozenAt host freezePage) 1 = false :=
  ⟨lands (by decide) (by decide) (by decide), by decide⟩
theorem witness_thaw : frozen frozenAt = true ∧ thawInstant frozenAt = some 9000 ∧ frozenAt.power.thermLow = false := by decide
theorem witness_freeze_reset : Lands (booted frozenAt) host freezePage Reg.FREEZE_RESET 0 (taken (booted frozenAt) host freezePage) ∧
    frozen (taken (booted frozenAt) host freezePage) = true ∧ statusBit (taken (booted frozenAt) host freezePage) 1 = false ∧
    tripHolds (taken (booted frozenAt) host freezePage) = false ∧ (taken (booted frozenAt) host freezePage).boot.image = some 0 :=
  ⟨lands (by decide) (by decide) (by decide), by decide⟩
theorem witness_chain : Lands frozenAt host freezePage Reg.FREEZE_CHAIN_SEL 0 (taken frozenAt host freezePage) ∧
    (0x7B#8).toNat % 16 < chainsOf ((0x7B#8).toNat / 16) := ⟨lands (by decide) (by decide) (by decide), by decide⟩
theorem witness_readout : reachesAo frozenAt ⟨13, 1⟩ = true ∧ frozen frozenAt = true ∧ (12 : Fin 16) ≠ 13 ∧ (12 : Fin 16) ≠ 15 := by decide

/-- Expert mode on the perturbation page of a die. -/
def pertExpert : State := regs [(Reg.HDR_EXPERT_EN, (⟨.perturb, 3⟩ : Page).num, 0, 1), (Reg.PMC_DEBUG_PERMIT, 0, 0, 1)]

theorem witness_debug_en : Lands pertExpert host ⟨.perturb, 3⟩ Reg.PERTURB_DEBUG_EN 0 (taken pertExpert host ⟨.perturb, 3⟩) ∧
    rget (taken pertExpert host ⟨.perturb, 3⟩) Reg.PMC_DEBUG_PERMIT = 1 := ⟨lands (by decide) (by decide) (by decide), by decide⟩

-- power -----------------------------------------------------------------------------------------------------------------

/-- A domain selected, with the whole part powered or not. -/
def select (i : Nat) (s : State := up) : State := regs [(Reg.POWER_DOMAIN_SEL, 0, 0, i)] s

theorem witness_domain_on : ∀ i ∈ [96, 118], Lands (select i) host powerPage Reg.POWER_DOMAIN_ON 0 (taken (select i) host powerPage) ∧
    rget (taken (select i) host powerPage) Reg.POWER_DOMAIN_SEL = i ∧ (isQuad i = true ∨ isGroup i = true) := by
  simp only [List.mem_cons, List.not_mem_nil, or_false, forall_eq_or_imp, forall_eq]
  exact ⟨⟨lands (by decide) (by decide) (by decide), by decide⟩, ⟨lands (by decide) (by decide) (by decide), by decide⟩⟩
theorem witness_domain_refused : domainOn (select 96) 96 = true ∧ offRefused (select 96) 96 = true := by decide
theorem witness_domain_off : (∀ i ∈ [97, 118], domainOn (select i) i = true ∧ offRefused (select i) i = false) ∧
    isQuad 97 = true ∧ isQuad 118 = false ∧ isQuad 0 = false ∧ isGroup 0 = false := by decide

/-- A change of CCLK in progress on a cluster. -/
def ramping (c v : Nat) (n : Option Nat) (s : State := up) : State := { s with power := { s.power with cclk := [(c, { target := v, next := n, since := 0 })] } }

theorem witness_cclk : Lands up host powerPage Reg.POWER_CCLK_MHZ (63 : ClusterId).val (taken up host powerPage) ∧
    (∀ v ∈ [400#12, 2400#12], 400 ≤ v.toNat ∧ v.toNat ≤ 2400 ∧ v.toNat % 25 = 0) ∧ mapFind (taken up host powerPage).power.cclk 63 = none ∧
    2400 < (2401#12).toNat := ⟨lands (by decide) (by decide) (by decide), by simp, by decide, by decide⟩
theorem witness_cclk_waits : Lands (ramping 63 800 none) host powerPage Reg.POWER_CCLK_MHZ (63 : ClusterId).val (taken (ramping 63 800 none) host powerPage) ∧
    mapFind (taken (ramping 63 800 none) host powerPage).power.cclk 63 = some { target := 800, next := none, since := 0 } :=
  ⟨lands (by decide) (by decide) (by decide), by decide⟩
theorem witness_cclk_done : ∀ n ∈ [none, some 1200], Clocked (ramping 63 800 n) ∧
    mapFind (ramping 63 800 n).power.cclk 63 = some { target := 800, next := n, since := 0 } ∧ coasting (ramping 63 800 n) 63 = false ∧
    mapGet (ramping 63 800 n).power.capHeld 63 0 = 0 := by decide

theorem witness_power_within : Clocked up ∧ capW up ≤ capW up := by decide
theorem witness_power_above : Clocked up ∧ capW up < capW up + 1 ∧ clusterOn up 63 = true ∧
    425 ≤ rget up Reg.POWER_CCLK_APPLIED 0 63 ∧ rget up Reg.POWER_CCLK_APPLIED 0 63 < 4096 := by decide
theorem witness_recovery_waits : Clocked (regs [(Reg.POWER_POWER_W, 0, 0, 4095)] up) ∧ (regs [(Reg.POWER_POWER_W, 0, 0, 4095)] up).power.floor = false ∧
    98 * capW (regs [(Reg.POWER_POWER_W, 0, 0, 4095)] up) ≤ 100 * rget (regs [(Reg.POWER_POWER_W, 0, 0, 4095)] up) Reg.POWER_POWER_W := by decide

/-- A cluster that the cap holds. -/
def capped : State := let s := regs [(Reg.POWER_CCLK_APPLIED, 0, 63, 1500), (Reg.POWER_CCLK_MHZ, 0, 63, 2000)] up
  { s with power := { s.power with capHeld := [(63, 1)] } }

theorem witness_recovery_raises : Clocked capped ∧ capped.power.floor = false ∧ 100 * rget capped Reg.POWER_POWER_W < 98 * capW capped ∧
    capped.power.capHeld = [(63, 1)] ∧ (1 : Nat) ≠ 0 ∧ capped.power.hot = [] ∧ coasting capped 63 = false ∧
    rget capped Reg.POWER_CCLK_APPLIED 0 63 + 25 < rget capped Reg.POWER_CCLK_MHZ 0 63 ∧ rget capped Reg.POWER_CCLK_MHZ 0 63 < 4096 ∧ 63 < 64 := by decide
theorem witness_temperature : Clocked up ∧ 30 + 5 < rget up Reg.POWER_THROTTLE_C ∧ rget up Reg.POWER_THROTTLE_C ≤ rget up Reg.POWER_TRIP_C ∧
    rget up Reg.POWER_TRIP_C ≤ rget up Reg.POWER_TRIP_C ∧ bootStage up ≠ 0 := by decide
theorem witness_floor : 400 < rget up Reg.POWER_CCLK_APPLIED 0 63 ∧ rget up Reg.POWER_CCLK_APPLIED 0 63 < 4096 := by decide

/-- A unit in a phase of its power state. -/
def sleeping (k : Nat) (p : Sleep) (s : State := up) : State := { s with power := { s.power with sleep := [(k, p)] } }

theorem witness_entry : ∀ b ∈ [false, true], Clocked (sleeping (unitKey (.core 511)) (.entering 2 b)) ∧
    sleepOf (sleeping (unitKey (.core 511)) (.entering 2 b)) (unitKey (.core 511)) = some (.entering 2 b) := by decide
theorem witness_exit : Clocked (sleeping (unitKey (.die 7)) (.leaving 3)) ∧
    sleepOf (sleeping (unitKey (.die 7)) (.leaving 3)) (unitKey (.die 7)) = some (.leaving 3) := by decide

/-- The module asleep in P4 until an instant. -/
def untilFt : State := regs [(Reg.POWER_WAKE_AT_LO, 0, 0, 90000000)] (sleeping moduleUnit (.asleep 4))

theorem witness_wake_at : Clocked untilFt ∧ sleepOf untilFt moduleUnit = some (.asleep 4) ∧
    rget64 untilFt Reg.POWER_WAKE_AT_LO Reg.POWER_WAKE_AT_HI ≠ 0 := by decide
theorem witness_wake_time : ∃ ns, nextEvent untilFt (unitKey .module) = some ns ∧ sleepOf untilFt (unitKey .module) = some (.asleep 4) :=
  ⟨90000000, by decide⟩

-- the Ledger ------------------------------------------------------------------------------------------------------------

/-- The AO ring's oldest record is a PAD of three units; the capacity ring's oldest record has two. -/
def ledgerS (cap : Nat) : State := { regs [(Reg.LEDGER_CAP_EN, 0, 0, cap), (Reg.LEDGER_CAP_BASE_HI, 0, 0, 0x400)] up with
  ledger := { LedgerSt.reset with recs := [(0, 3), (3, 2)], capRecs := [(0, 2)], ao := [(6, 255), (7, 255)] } }

/-- Its oldest record is no PAD. -/
def ledgerR : State := { ledgerS 1 with ledger := { (ledgerS 1).ledger with ao := [] } }

theorem witness_ao_tail : Lands (ledgerS 0) host ledgerPage Reg.LEDGER_AO_TAIL 0 (taken (ledgerS 0) host ledgerPage) ∧
    rget (taken (ledgerS 0) host ledgerPage) Reg.LEDGER_CAP_EN = 0 ∧ (taken (ledgerS 0) host ledgerPage).ledger.lost = 0 ∧
    (taken (ledgerS 0) host ledgerPage).ledger.recs = (0, 3) :: [(3, 2)] ∧ rget (taken (ledgerS 0) host ledgerPage) Reg.LEDGER_AO_TAIL = 0 ∧
    (0 : Nat) < 3 ∧ 0 + 3 < 4096 ∧ ∀ r ∈ [((3 : Nat), (2 : Nat))], 0 < r.2 :=
  ⟨lands (by decide) (by decide) (by decide), by decide⟩
theorem witness_ao_tail_refused : Lands (ledgerS 1) host ledgerPage Reg.LEDGER_AO_TAIL 0 (taken (ledgerS 1) host ledgerPage) ∧
    rget (taken (ledgerS 1) host ledgerPage) Reg.LEDGER_CAP_EN = 1 := ⟨lands (by decide) (by decide) (by decide), by decide⟩
theorem witness_cap_tail : Lands (ledgerS 1) host ledgerPage Reg.LEDGER_CAP_TAIL 0 (taken (ledgerS 1) host ledgerPage) ∧
    (taken (ledgerS 1) host ledgerPage).ledger.lost = 0 ∧ (taken (ledgerS 1) host ledgerPage).ledger.capLost = 0 ∧
    (taken (ledgerS 1) host ledgerPage).ledger.capRecs = (0, 2) :: [] ∧ rget (taken (ledgerS 1) host ledgerPage) Reg.LEDGER_CAP_TAIL = 0 ∧
    0 + 2 < capUnits (taken (ledgerS 1) host ledgerPage) := ⟨lands (by decide) (by decide) (by decide), by decide⟩
theorem witness_drain_pad : mayDrain (ledgerS 1) = true ∧ (ledgerS 1).ledger.recs = (0, 3) :: [(3, 2)] ∧ (ledgerS 1).ledger.lost = 0 ∧
    leNat (((memRead (ledgerS 1).ledger.ao (16 * 0) (16 * 3)).drop 6).take 2) = 0xFFFF := by decide
theorem witness_drain : mayDrain ledgerR = true ∧ ledgerR.ledger.recs = (0, 3) :: [(3, 2)] ∧
    leNat (((memRead ledgerR.ledger.ao (16 * 0) (16 * 3)).drop 6).take 2) ≠ 0xFFFF ∧
    (capCollect ledgerR (memRead ledgerR.ledger.ao (16 * 0) (16 * 3)) 3).stalled = false := by decide +kernel

/-- The region of its capacity ring is being filled. -/
def ledgerF : State := { ledgerR with fills := { ledgerR.fills with busy := [(memRegion (.region 0)).key] } }

theorem witness_drain_stalls : mayDrain ledgerF = true ∧ ledgerF.ledger.recs = (0, 3) :: [(3, 2)] ∧
    leNat (((memRead ledgerF.ledger.ao (16 * 0) (16 * 3)).drop 6).take 2) ≠ 0xFFFF ∧
    (capCollect ledgerF (memRead ledgerF.ledger.ao (16 * 0) (16 * 3)) 3).stalled = true := by decide +kernel
/-- Expert mode on the Ledger page. -/
def ledgerExpert : State := regs [(Reg.HDR_EXPERT_EN, ledgerPage.num, 0, 1)]

theorem witness_buckets : Lands ledgerExpert host ledgerPage Reg.LEDGER_REFILL_US (7 : Fin 8).val (taken ledgerExpert host ledgerPage) ∧
    Lands ledgerExpert host ledgerPage Reg.LEDGER_DEPTH (7 : Fin 8).val (taken ledgerExpert host ledgerPage) ∧ frozen State.reset = false :=
  ⟨lands (by decide) (by decide) (by decide), lands (by decide) (by decide) (by decide), by decide⟩
theorem witness_summary : Lands ledgerExpert host ledgerPage Reg.LEDGER_SUMMARY_MS 0 (taken ledgerExpert host ledgerPage) ∧
    10 ≤ (10#16).toNat ∧ (60000#16).toNat ≤ 60000 := ⟨lands (by decide) (by decide) (by decide), by simp⟩

-- rings and queues ------------------------------------------------------------------------------------------------------

/-- A docket with some of its fields set: byte offset, low bit, width and value. -/
def docket (l : List (Nat × Nat × Nat × Nat)) : Docket := l.foldl (fun d x => dkSet d x.1 x.2.1 x.2.2.1 x.2.2.2) 0

/-- The ring of die 1 and tenant 3, ENABLED with 16 slots, host-resident, at SEQ 4,294,967,295, with TAIL one ahead. -/
def ringS (acc tail : Nat) (s : State := up) : State :=
  regs [(Reg.DIMTAB_SHAPE_OK, 0, 0, 1), (Reg.TENANT_ACTIVE, 0, 3, 1), (Reg.TENANT_QUEUE_CAP, 0, 3, 8), (Reg.DOCK_RING_STATE, 1, 3, 1),
    (Reg.DOCK_RING_ENABLE, 1, 3, 1), (Reg.DOCK_RING_RING_LOG2, 1, 3, 4), (Reg.DOCK_RING_ACCEPT, 1, 3, acc), (Reg.DOCK_RING_TAIL, 1, 3, tail),
    (Reg.DOCK_RING_RECORDED, 1, 3, acc), (Reg.DOCK_RING_COMP_HEAD, 1, 3, acc), (Reg.DOCK_RING_RING_LOC, 1, 3, 0),
    (Reg.DOCK_RING_COMP_LOC, 1, 3, 0)] s

/-- The last SEQ before the wrap, waiting at TAIL 0. -/
def ringW : State := ringS (2 ^ 32 - 1) 0

/-- The ring with dockets fetched. -/
def fetchedS (l : List Docket) (retries : Nat := 0) : State :=
  { ringW with rings := [(19, { RingSt.reset with fetched := l, retries := retries })] }

/-- A CNOP of tenant 3 whose SEQ is the last before the wrap. -/
def cnopD : Docket := docket [(0, 0, 32, 2 ^ 32 - 1), (4, 0, 4, 3), (4, 12, 4, 3)]

/-- The same docket with an ENGINE that does not exist. -/
def badD : Docket := dkSet cnopD 4 0 4 15

/-- The same docket with a TENANT that is not its ring's. -/
def mismatchD : Docket := dkSet cnopD 4 12 4 4

/-- A docket of another SEQ. -/
def staleD : Docket := dkSet cnopD 0 0 32 7

theorem witness_bar2 : bar2At (BitVec.ofNat 17 (0x2000 * 15 + 8 * 7)) = some (15, .tail 7) ∧
    bar2At (BitVec.ofNat 17 (0x2000 * 15 + 8 * 7 + 4)) = some (15, .compHead 7) ∧
    bar2At (BitVec.ofNat 17 (0x2000 * 15 + 0x1000 + 16 * 7)) = some (15, .accept 7) ∧
    bar2At (BitVec.ofNat 17 (0x2000 * 15 + 0x1004 + 16 * 7)) = some (15, .recorded 7) ∧
    bar2At (BitVec.ofNat 17 (0x2000 * 15 + 0x1008 + 16 * 7)) = some (15, .state 7) ∧
    bar2At (BitVec.ofNat 17 (0x2000 * 15 + 0x100C + 16 * 7)) = some (15, .inflight 7) ∧ hostUp up = true ∧
    tailBy up (.bar2 0x1000) 0 0 = none ∧ compHeadBy up (.bar2 0x40) 0 0 = none := by decide
theorem witness_tail : tailBy ringW (.bar2 0x6008) 1 3 = some (host' 3) ∧ tailBy ringW (.dock host) 1 3 = some host ∧
    (∀ w ∈ [host, host' 3], Lands ringW w (dockPage (1 : CDie).val) Reg.DOCK_RING_TAIL (3 : TenantId).val ringW) ∧
    rget ringW Reg.DOCK_RING_STATE 1 3 < 3 ∧ (ringOf ringW 1 3).stalled = false ∧
    behind 15 (ringIdx ringW Reg.DOCK_RING_TAIL 1 3) = false ∧
    (15#32 - ringIdx ringW Reg.DOCK_RING_ACCEPT 1 3).toNat ≤ ringSlots ringW 1 3 ∧
    behind 16 (ringIdx ringW Reg.DOCK_RING_TAIL 1 3) = false ∧
    ringSlots ringW 1 3 < (16#32 - ringIdx ringW Reg.DOCK_RING_ACCEPT 1 3).toNat ∧
    behind 4294967295 (ringIdx ringW Reg.DOCK_RING_TAIL 1 3) = true := by decide +kernel

/-- The ring while a tenant reset holds it, or after one, with a TAIL held aside. -/
def ringH (st : Nat) (held : Option W32 := none) : State :=
  { regs [(Reg.DOCK_RING_STATE, 1, 3, st)] ringW with rings := [(19, { RingSt.reset with heldTail := held })] }

theorem witness_tail_held : Lands (ringH 3) host (dockPage (1 : CDie).val) Reg.DOCK_RING_TAIL (3 : TenantId).val (taken (ringH 3) host (dockPage 1)) ∧
    3 ≤ rget (taken (ringH 3) host (dockPage 1)) Reg.DOCK_RING_STATE 1 3 := ⟨lands (by decide) (by decide) (by decide), by decide⟩
theorem witness_comp_head : compHeadBy ringW (.bar2 0x600C) 1 3 = some (host' 3) ∧ compHeadBy ringW (.dock host) 1 3 = some host ∧
    (∀ w ∈ [host, host' 3], Lands ringW w (dockPage (1 : CDie).val) Reg.DOCK_RING_COMP_HEAD (3 : TenantId).val ringW) ∧
    behind 0 (ringIdx ringW Reg.DOCK_RING_COMP_HEAD 1 3) = false ∧ behind 4294967294 (ringIdx ringW Reg.DOCK_RING_COMP_HEAD 1 3) = true := by
  decide +kernel
theorem witness_ring_enable : Lands ringW host (dockPage (1 : CDie).val) Reg.DOCK_RING_ENABLE (3 : TenantId).val (taken ringW host (dockPage 1)) ∧
    rget (taken ringW host (dockPage 1)) Reg.DOCK_RING_STATE 1 3 < 3 := ⟨lands (by decide) (by decide) (by decide), by decide⟩
theorem witness_ring_enable_held : ∀ st ∈ [3, 4], Lands (ringH st (some 5)) host (dockPage (1 : CDie).val) Reg.DOCK_RING_ENABLE (3 : TenantId).val (ringH st (some 5)) ∧
    rget (ringH st (some 5)) Reg.DOCK_RING_STATE 1 3 = st ∧ (ringOf (ringH st (some 5)) 1 3).heldTail = some 5 ∧
    (ringOf (ringH st (some 5)) 1 3).stalled = false ∧ behind 5 (ringIdx (ringH st (some 5)) Reg.DOCK_RING_TAIL 1 3) = false ∧
    (5#32 - ringIdx (ringH st (some 5)) Reg.DOCK_RING_ACCEPT 1 3).toNat ≤ ringSlots (ringH st (some 5)) 1 3 ∧
    rget (ringH st) Reg.DOCK_RING_STATE 1 3 = st ∧ (ringOf (ringH st) 1 3).heldTail = none := by decide +kernel

theorem witness_slot_read : Clocked ringW ∧ ringRuns ringW 1 3 = true ∧ (ringOf ringW 1 3).fetched.length < 16 ∧
    rget ringW Reg.DOCK_RING_RING_LOC 1 3 = 0 ∧ hostUp ringW = true ∧
    ahead (ringIdx ringW Reg.DOCK_RING_TAIL 1 3) (ringIdx ringW Reg.DOCK_RING_ACCEPT 1 3 + BitVec.ofNat 32 (ringOf ringW 1 3).fetched.length) = true := by
  decide
theorem witness_seq_retry : Clocked (fetchedS [staleD]) ∧ ringRuns (fetchedS [staleD]) 1 3 = true ∧ (ringOf (fetchedS [staleD]) 1 3).fetched = [staleD] ∧
    dkSeq staleD ≠ ringIdx (fetchedS [staleD]) Reg.DOCK_RING_ACCEPT 1 3 ∧ hostUp (fetchedS [staleD]) = true ∧
    dkSeq cnopD = ringIdx (fetchedS [staleD]) Reg.DOCK_RING_ACCEPT 1 3 := by decide
theorem witness_seq_stall : let s := fetchedS [staleD] 15
    ringRuns s 1 3 = true ∧ (ringOf s 1 3).fetched = [staleD] ∧ dkSeq staleD ≠ ringIdx s Reg.DOCK_RING_ACCEPT 1 3 ∧
      rget s Reg.DOCK_SEQ_RETRY_LIMIT 1 ≤ (ringOf s 1 3).retries + 1 ∧ rget s Reg.DOCK_RING_ENABLE 1 3 = 1 := by decide
theorem witness_accept : Clocked (fetchedS [cnopD]) ∧ ringRuns (fetchedS [cnopD]) 1 3 = true ∧ (ringOf (fetchedS [cnopD]) 1 3).fetched = cnopD :: [] ∧
    dkSeq cnopD = ringIdx (fetchedS [cnopD]) Reg.DOCK_RING_ACCEPT 1 3 ∧ rget (fetchedS [cnopD]) Reg.DOCK_RING_INFLIGHT 1 3 < 1024 ∧
    docketError (fetchedS [cnopD]) 1 3 cnopD = false ∧ queueRoom (fetchedS [cnopD]) (queueOf 1 cnopD) 3 = true ∧
    docketError (fetchedS [badD]) 1 3 badD = true ∧ 8 < dkEngine badD ∧ dkSeq badD = dkSeq cnopD ∧
    docketError (fetchedS [mismatchD]) 1 3 mismatchD = true ∧ queueRoom (fetchedS [mismatchD]) (queueOf 1 mismatchD) 3 = true := by decide

/-- A queue with dockets of tenant 3 from ring 1. -/
def queued (q : Nat) (l : List QEntry) (s : State := ringW) : State := { s with queues := [(q, l)] }

/-- A docket as it joins a queue. -/
def entry (d : Docket) (q : Nat) : QEntry := newEntry ringW 1 3 d q false

theorem witness_queue_full : dkEngine cnopD ≤ 8 ∧ docketError (queued 259 (List.replicate 8 (entry cnopD 259)) (fetchedS [cnopD])) 1 3 cnopD = false ∧
    queueRoom (queued 259 (List.replicate 8 (entry cnopD 259)) (fetchedS [cnopD])) (queueOf 1 cnopD) 3 = false := by decide

/-- A CNOP released at a stamp of 100. -/
def laterD : Docket := dkSet (dkSet cnopD 4 22 1 1) 8 0 32 100

theorem witness_release : Clocked (queued 259 [entry laterD 259]) ∧ ftInvalid (queued 259 [entry laterD 259]) (queueDie 259) = false ∧
    soonest (queued 259 [entry laterD 259]) (queue (queued 259 [entry laterD 259]) 259) = some 1600 ∧
    soonest ringW (queue ringW 259) = none := by decide
theorem witness_head : queue (queued 256 [entry (dkSet cnopD 4 0 4 0) 256]) 256 = [entry (dkSet cnopD 4 0 4 0) 256] ∧
    (entry (dkSet cnopD 4 0 4 0) 256).running = false ∧ (entry (dkSet cnopD 4 0 4 0) 256).eligible = false ∧
    dkReleaseEn (dkSet cnopD 4 0 4 0) = false ∧ dkNwait (dkSet cnopD 4 0 4 0) = 0 ∧ dkEngine (dkSet cnopD 4 0 4 0) = 0 := by decide

/-- A CNOP that may run. -/
def readyQ : State := queued 259 [{ entry cnopD 259 with eligible := true }]

theorem witness_dispatch : Clocked readyQ ∧ engineFree (evalHeads (rouseQueue readyQ 259) 259) 259 = true ∧
    (choose (evalHeads (rouseQueue readyQ 259) 259) 259).isSome = true ∧ (choose readyQ 259).isSome = true := by decide
theorem witness_started : queue (queued 256 [entry (dkSet cnopD 4 0 4 0) 256]) 256 = [entry (dkSet cnopD 4 0 4 0) 256] ∧
    dkEngine (dkSet cnopD 4 0 4 0) < 3 ∧ 256 % 4 ≠ 3 := by decide

/-- A docket that runs. -/
def runS (d : Docket) (q : Nat) : State := queued q [{ entry d q with eligible := true, running := true }]

/-- A CSIGNAL of 7 to counter 5 of cluster 8, whose owner 3 has its way 0. -/
def signalD : Docket := docket [(0, 0, 32, 2 ^ 32 - 1), (4, 0, 4, 3), (4, 4, 8, 2), (4, 12, 4, 3), (0x64, 0, 6, 8), (0x64, 16, 12, 5), (0x68, 0, 64, 7)]

theorem witness_clerk : Clocked (runS cnopD 259) ∧ (runningOp (runS cnopD 259) 259 3 0).isSome = true ∧ dkOp cnopD = 0 ∧
    (runningOp (runS (dkSet cnopD 4 4 8 1) 259) 259 3 1).isSome = true ∧ (runningOp (runS signalD 259) 259 3 2).isSome = true ∧
    dkOp signalD = 2 ∧ ckRemote signalD = false ∧
    (((entry signalD 259).access (runS signalD 259)).counterAdd (ckCluster signalD) 3 (ckCtr signalD) (ckAdd signalD)).stalled = false := by decide

/-- Cluster 8 with way 0 of tenant 3. -/
def counterS : State := regs [(Reg.CSTORE_CTR_WAY_VALID, 8, 3, 1)] ringW

theorem witness_counter : (counterAddr counterS 8 3 5).isSome = true ∧ counterS.poison.contains (((counterAddr counterS 8 3 5).getD 0) / 64) = false ∧
    mapFind counterS.fills.flaws (((counterAddr counterS 8 3 5).getD 0) / 64) = none := by decide

/-- The reference of the docket of ring 1, tenant 3, at the last SEQ. -/
def ref3 : DocketRef := ⟨1, 3, 4294967295⟩

theorem witness_completes : let s := queued 259 [{ entry cnopD 259 with eligible := true, running := true, done := true }]
    Clocked s ∧ (entryOf s 259 ref3).isSome = true ∧ ((entryOf s 259 ref3).bind (readyStatus s)) = some 0 := by decide
theorem witness_cut : let s : State := { queued 259 [{ entry cnopD 259 with running := true, cut := true }] with resets := { ringW.resets with tenants := [3] } }
    (entryOf s 259 ref3).isSome = true ∧ s.resets.tenants.contains 3 = true := by decide

/-- A docket that waits on counters. -/
def waitS : State := queued 259 [{ entry (docket [(0, 0, 32, 2 ^ 32 - 1), (4, 0, 4, 3), (4, 4, 8, 1), (4, 12, 4, 3), (0x30, 1, 3, 1), (0x40, 0, 64, 7)]) 259 with waitFrom := some 0 }] counterS

theorem witness_wait : (entryOf (evalHeads waitS 259) 259 ref3).isSome = true ∧
    ((entryOf (evalHeads waitS 259) 259 ref3).map (fun e => (e.waitFrom, e.eligible, e.running))) = some (some 0, false, false) ∧
    ((entryOf (evalHeads (advanceTo (evalHeads waitS 259) (0 + waitLimit (evalHeads waitS 259) 259 (entry cnopD 259))) 259) 259 ref3).map (·.eligible)) = some false := by
  decide
theorem witness_run : let s := runS cnopD 259
    (entryOf s 259 ref3).map (fun e => (e.running, e.done, e.cut)) = some (true, false, false) := by decide
theorem witness_complete : dkSignalEn cnopD = false ∧ (entry cnopD 259).nonfinite = 0 ∧
    (ringOf { ringW with rings := [(19, { RingSt.reset with acc := [⟨4294967295, none⟩] })] } 1 3).acc = [⟨4294967295, none⟩] := by decide

/-- A record that waits to leave. -/
def recordS : State := { ringW with rings := [(19, { RingSt.reset with acc := [⟨4294967295, some (0, false)⟩] })] }

theorem witness_record : Clocked recordS ∧ (ringOf recordS 1 3).acc = ⟨4294967295, some (0, false)⟩ :: [] ∧
    (ringIdx recordS Reg.DOCK_RING_RECORDED 1 3 - ringIdx recordS Reg.DOCK_RING_COMP_HEAD 1 3).toNat < ringSlots recordS 1 3 ∧
    rget recordS Reg.DOCK_RING_COMP_LOC 1 3 = 0 ∧ hostUp recordS = true ∧ rget recordS Reg.HEALTH_MIRROR_EN = 0 := by decide

-- registers and memory --------------------------------------------------------------------------------------------------

/-- CACHE_EN of the MSF page. -/
def cacheEn : Nat := (⟨.msf, 0⟩ : Page).base + 0x60

theorem witness_register_write : BusFree up host ∧ pageAt cacheEn = some ⟨.msf, 0⟩ ∧ cacheEn % 4 = 0 ∧
    fieldsAt ⟨.msf, 0⟩ (cacheEn % 4096) = [(Reg.MSF_CACHE_EN, 0)] ∧ Reg.MSF_CACHE_EN.blk ≠ .hdr ∧ Reg.MSF_CACHE_EN.acc = .rw ∧
    Reg.MSF_CACHE_EN.off < 0x800 ∧ permitted Reg.MSF_CACHE_EN 0 host = true ∧ pairOf Reg.MSF_CACHE_EN = none ∧
    isOwnerField Reg.MSF_CACHE_EN = false := by decide
theorem witness_unmapped : BusFree up host ∧ transactions [⟨0x3FFFFF8, 1, 15⟩, ⟨0x3FFFFFC, 2, 15⟩] = [[⟨0x3FFFFF8, 1, 15⟩, ⟨0x3FFFFFC, 2, 15⟩]] ∧
    pageAt 0x3FFFFF8 = none := by decide
theorem witness_ctrl_lock : BusFree up host ∧ host.tenant = 15 ∧ ∃ p, pageAt cacheEn = some p ∧ p.blk ≠ .dimtab := ⟨by decide, rfl, ⟨.msf, 0⟩, by decide⟩

/-- Input 12 ignored after a bite, or shut out by the lock of input 3. -/
def ignoredS : State := { up with sbus := { up.sbus with ignored := [(12, 500)] } }
def lockedS : State := regs [(Reg.SBUS_LOCKED, 0, 0, 1), (Reg.SBUS_OWNER_VALID, 0, 0, 1), (Reg.SBUS_OWNER, 0, 0, 3)] up

theorem witness_reads_go : (∀ s ∈ [up, ignoredS], frozen s = false ∧ lockedOut (awaitInput s host.input.val) host.input.val = false) ∧
    mapFind up.sbus.ignored host.input.val = none ∧ frozen lockedS = false ∧
    lockedOut (awaitInput lockedS host.input.val) host.input.val = true := by decide +kernel
theorem witness_rc_read : (⟨.msf, 0⟩ : Page).base + 0x24 < 0x3FF0000 ∧ pageAt ((⟨.msf, 0⟩ : Page).base + 0x24) = some ⟨.msf, 0⟩ ∧
    fieldsAt ⟨.msf, 0⟩ (((⟨.msf, 0⟩ : Page).base + 0x24) % 4096) = [(Reg.MSF_DUP_ATOMICS, 0)] ∧ Reg.MSF_DUP_ATOMICS.acc = .rc ∧
    Reg.MSF_DUP_ATOMICS.blk ≠ .hdr ∧ Reg.MSF_DUP_ATOMICS.code ∉ Reg.sbusFields.map (·.code) := by decide +kernel
theorem witness_starve_read : pageAt ((hopPage 1).base + Reg.HOPPER_STARVE_CYCLES.off) = some (hopPage 1) ∧
    fieldsAt (hopPage 1) (((hopPage 1).base + Reg.HOPPER_STARVE_CYCLES.off) % 4096) = [(Reg.HOPPER_STARVE_CYCLES, 0)] := by decide +kernel
theorem witness_ro64 : (Reg.FREEZE_FROZEN_FT_LO, Reg.FREEZE_FROZEN_FT_HI) ∈ ro64 ∧
    pageAt (freezePage.base + Reg.FREEZE_FROZEN_FT_LO.off) = some freezePage ∧ freezePage.blk = Reg.FREEZE_FROZEN_FT_LO.blk ∧
    (freezePage.base + Reg.FREEZE_FROZEN_FT_LO.off) % 4096 = Reg.FREEZE_FROZEN_FT_LO.off + Reg.FREEZE_FROZEN_FT_LO.stride * 0 ∧
    0 < max 1 Reg.FREEZE_FROZEN_FT_LO.count := by decide +kernel
theorem witness_bite : Clocked (regs [(Reg.SBUS_OWNER_VALID, 0, 0, 1), (Reg.SBUS_OWNER, 0, 0, 12)] up) ∧
    rget (regs [(Reg.SBUS_OWNER_VALID, 0, 0, 1), (Reg.SBUS_OWNER, 0, 0, 12)] up) Reg.SBUS_OWNER_VALID = 1 ∧
    rget (regs [(Reg.SBUS_OWNER_VALID, 0, 0, 1), (Reg.SBUS_OWNER, 0, 0, 12)] up) Reg.SBUS_OWNER = (12 : Fin 16).val := by decide

theorem owners_fit_reset : OwnersFit State.reset := by
  intro f hf i j
  simp only [List.mem_cons, List.not_mem_nil, or_false] at hf
  rcases hf with h | h | h | h | h | h | h <;> subst h <;> exact Nat.two_pow_pos _
theorem owners_fit_regs (s : State) (h : s.regs = []) : OwnersFit s := by
  have : OwnersFit State.reset := owners_fit_reset
  simpa [OwnersFit, rget, h, State.reset] using this

/-- The way that an ownership write names. -/
def way0 : StorePart := .way 8 0

/-- A part being filled. -/
def filling (r : Region) : State := { State.reset with fills := { busy := [r.key], queued := [], counters := [], flaws := [] } }

theorem witness_ownership : storeRegion way0 = storeRegion way0 ∧
    Lands State.reset host (ownerField State.reset (storeRegion way0) true).1 (ownerField State.reset (storeRegion way0) true).2.1
      (ownerField State.reset (storeRegion way0) true).2.2.1 (taken State.reset host (ownerField State.reset (storeRegion way0) true).1) ∧
    taken State.reset host (ownerField State.reset (storeRegion way0) true).1 = State.reset ∧ pendingOwner State.reset (storeRegion way0) ≠ (true, 3) ∧
    State.reset.fills.busy.contains (storeRegion way0).key = false ∧ pendingOwner State.reset (storeRegion way0) = (false, (0 : TenantId).val) ∧
    pendingOwner (filling (storeRegion way0)) (storeRegion way0) ≠ (true, 3) ∧
    (filling (storeRegion way0)).fills.busy.contains (storeRegion way0).key = true :=
  ⟨rfl, lands (by decide) (by decide) (by decide), by decide⟩
theorem witness_fill_done : Clocked (filling (memRegion (.region 7))) ∧ (memRegion (.region 7)).key ∈ (filling (memRegion (.region 7))).fills.busy ∧
    mapFind (filling (memRegion (.region 7))).fills.queued (memRegion (.region 7)).key = none := by decide
/-- A line with an error that its code has yet to find. -/
def flawed (line k : Nat) : State := { up with fills := { up.fills with flaws := [(line, k)] } }

theorem witness_patrol : Clocked up ∧ regionOf (64 * 3) ≠ .hole ∧ regionOf (64 * 3) ≠ .reg ∧ 3 ∉ up.poison ∧ mapFind up.fills.flaws 3 = none ∧
    (∀ k ∈ [1, 2], mapFind (flawed 3 k).fills.flaws 3 = some k ∧ Clocked (flawed 3 k)) ∧
    rget up (ueField (faultPage (64 * 3)).blk) (faultPage (64 * 3)).inst + 1 < 2 ^ (ueField (faultPage (64 * 3)).blk).width := by decide

theorem witness_unowned : mayAccess up 3 (regionOf (64 * (0x1000 / 64))) = false := by decide

/-- Sixteen bytes in two lines. -/
def sixteen : List Byte := (List.range 16).map (BitVec.ofNat 8)

theorem witness_plain : Plain up 15 0x1038 16 ∧ sixteen ≠ [] ∧ hasHole 0x1038 sixteen.length = false := by decide +kernel

theorem witness_packed : (3 : Nat) < 4 ∧ 4 * 0 + 3 < 4 ∧ 3 * 0 + 3 ≤ ([1, 2, 3] : List Byte).length ∧ (1 : Nat) < 2 ∧ 2 * 2 + 1 < 6 ∧
    2 < ([1, 2, 3] : List Byte).length ∧ ∀ x ∈ [63, 0, 1, 2], x < 2 ^ 6 := by decide
theorem witness_nans : ∀ f ∈ [(0, 0), (1, 0), (2, 0), (3, 1), (4, 0)], decodeIeee (floatOf f.1) f.2 (encodeFloat f.1 false .nan) = .nan := by decide
theorem witness_tally_sums : (1 : Nat) ≤ 3 ∧ 3 ≤ fracBits 32 + 1 ∧ [(2147483647 : Int), -2147483648, 5].length ≤ 2 ^ (3 - 1) ∧
    (∀ q ∈ [(2147483647 : Int), -2147483648, 5], -(2 ^ (32 - 1)) ≤ q ∧ q < 2 ^ (32 - 1)) ∧
    [(2147483647 : Int), -2147483648, 5].Perm [5, 2147483647, -2147483648] := by decide

-- engines ---------------------------------------------------------------------------------------------------------------

/-- A running docket of tenant 15 on core 64, for engine and operation. -/
def runOp (engine op : Nat) (l : List (Nat × Nat × Nat × Nat)) (s : State := up) : State :=
  queued (256 + engine) [{ newEntry s 1 15 (docket ([(4, 0, 4, engine), (4, 4, 8, op), (4, 12, 4, 15)] ++ l)) (256 + engine) false with
    eligible := true, running := true }] s

/-- Its entry. -/
def entryOp (engine op : Nat) (l : List (Nat × Nat × Nat × Nat)) (s : State := up) : QEntry :=
  { newEntry s 1 15 (docket ([(4, 0, 4, engine), (4, 4, 8, op), (4, 12, 4, 15)] ++ l)) (256 + engine) false with eligible := true, running := true }

/-- A product of 64 × 64 × 1 FP8 elements into FP32. -/
def lmmaL : List (Nat × Nat × Nat × Nat) := [(0x34, 0, 13, 64), (0x34, 16, 13, 64), (0x38, 0, 17, 64), (0x40, 0, 21, 0), (0x54, 0, 21, 0x10000)]

theorem witness_lmma : Clocked (runOp 0 0 lmmaL) ∧ runningOp (runOp 0 0 lmmaL) (4 * (64 : CoreId).val) 0 0 = some (entryOp 0 0 lmmaL) ∧
    entryOf (runOp 0 0 lmmaL) (4 * (64 : CoreId).val) (entryOp 0 0 lmmaL).toRef = some (entryOp 0 0 lmmaL) ∧
    runningOp (runOp 0 1 []) (4 * (64 : CoreId).val) 0 1 = some (entryOp 0 1 []) := by decide

theorem witness_ltally_writes :
    (writeAll (latheExponent ((entryOp 0 1 []).access (runOp 0 1 [])) (coreBase 64) (entryOp 0 1 []).dk).x
      (latheExponent ((entryOp 0 1 []).access (runOp 0 1 [])) (coreBase 64) (entryOp 0 1 []).dk).outs).stalled = false := by decide +kernel

/-- Two elements of each input. -/
def veL : List (Nat × Nat × Nat × Nat) := [(0x38, 0, 25, 2), (0x3C, 0, 17, 2), (0x40, 0, 21, 0), (0x44, 0, 21, 0x100), (0x4C, 0, 21, 0x200)]

theorem witness_vector : ∀ op ∈ [0, 1, 2, 3, 4, 5], runningOp (runOp 1 op veL) (4 * (64 : CoreId).val + 1) 1 op = some (entryOp 1 op veL) ∧
    entryOf (runOp 1 op veL) (4 * (64 : CoreId).val + 1) (entryOp 1 op veL).toRef = some (entryOp 1 op veL) ∧
    rget (runOp 1 op veL) Reg.VEC_ELEMENTS 64 + 4 < 2 ^ 32 := by decide
theorem witness_vector_writes : ∀ x ∈ [(0, veMap), (1, veRowOp), (2, veTto), (3, veTadd), (4, veTround), (5, veAmax)],
    (writeAll (x.2 ((entryOp 1 x.1 veL).access (runOp 1 x.1 veL)) (coreBase 64) (entryOp 1 x.1 veL).dk).x
      (x.2 ((entryOp 1 x.1 veL).access (runOp 1 x.1 veL)) (coreBase 64) (entryOp 1 x.1 veL).dk).outs).stalled = false := by decide +kernel
theorem witness_amax : (Access.start (runOp 1 5 veL) 15 none).tenant = 15 ∧ up.poison = [] ∧ up.fills.flaws = [] ∧ up.boot.outOf = [] ∧
    hasHole (coreBase 64 + veIn (entryOp 1 5 veL).dk 0) (2 * veCount (entryOp 1 5 veL).dk) = false ∧
    hasHole (coreBase 64 + veIn (entryOp 1 5 veL).dk 1) (2 * veCount (entryOp 1 5 veL).dk) = false ∧ 1 < veCount (entryOp 1 5 veL).dk := by decide

/-- A copy of 4,100 bytes from near memory to near memory. -/
def copyL : List (Nat × Nat × Nat × Nat) := [(0x30, 0, 64, 0x1000), (0x38, 0, 64, 0x10000), (0x40, 0, 40, 4100)]

theorem witness_copies : ∀ op ∈ [0, 1, 2, 3, 4, 5], (runOp 2 op copyL).sbus.posted = [] ∧
    (queue (runOp 2 op copyL) (4 * (64 : CoreId).val + 2)).find? (fun e => e.running && !e.started && !e.done && !e.cut && dkEngine e.dk == 2 && dkOp e.dk == op)
      = some (entryOp 2 op copyL) ∧ badDevice (entryOp 2 op copyL).dk = none ∧ poRemoteSrc (runOp 2 op copyL) (entryOp 2 op copyL).dk = false ∧
    poRemoteDst (runOp 2 op copyL) (entryOp 2 op copyL).dk = false ∧ poArriveEn (entryOp 2 op copyL).dk = false ∧
    (readList ((entryOp 2 op copyL).access (runOp 2 op copyL)) (entryOp 2 op copyL)).2.stalled = false := by decide

/-- A copy whose last chunk is still to land. -/
def landingS (op : Nat) : State := queued 258 [{ entryOp 2 op copyL with started := true, todo := [1] }] up

theorem witness_landing : ∀ op ∈ [0, 5], Clocked (landingS op) ∧
    (queue (landingS op) (4 * (64 : CoreId).val + 2)).find? (fun e => e.running && e.started && !e.done && !e.cut && e.todo.contains 1)
      = some { entryOp 2 op copyL with started := true, todo := [1] } ∧ (entryOp 2 op copyL).seqs = [] ∧
    (landingS op).fills = State.reset.fills ∧ (landingS op).resets.active = [] ∧ (landingS op).boot.outOf = [] ∧
    poArriveEn (entryOp 2 op copyL).dk = false ∧ poConverts (entryOp 2 op copyL).dk = false ∧ chunkLen (entryOp 2 op copyL).dk 1 ≠ 0 ∧
    hasHole (gLoc (chunkTo (entryOp 2 op copyL).dk [] 1)) (chunkLen (entryOp 2 op copyL).dk 1) = false ∧
    hasHole (gLoc (chunkFrom (entryOp 2 op copyL).dk [] 1)) (chunkLen (entryOp 2 op copyL).dk 1) = false := by decide
/-- A layout of 2 × 2 FP8 elements into panels. -/
def playL : List (Nat × Nat × Nat × Nat) :=
  [(0x30, 0, 64, 0x1000), (0x38, 0, 64, 0x10000), (0x48, 0, 5, 3), (0x50, 0, 32, 2), (0x54, 0, 32, 2), (0x60, 0, 21, 4096)]

/-- Its entry while its one chunk is still to land, and the module with it. -/
def playE : QEntry := { entryOp 2 2 playL with started := true, todo := [0] }
def playS : State := queued 258 [playE] up

theorem witness_playout : Clocked playS ∧ playS.sbus.posted = [] ∧
    (queue playS (4 * (64 : CoreId).val + 2)).find? (fun e => e.running && e.started && !e.done && !e.cut && e.todo.contains 0) = some playE ∧
    dkOp playE.dk = 2 ∧ playE.seqs = [] ∧ poArriveEn playE.dk = false ∧ chunkStuck playS playE 64 0 = false ∧
    (let r := layoutRead (playE.access playS) (64 : CoreId).val playE
     let out := layoutChunk playE.dk r.1 (freeVal r.2.s).1 0
     out.length = 128 ∧ inRegs (gLoc (chunkTo playE.dk playE.idx 0)) out.length = false ∧
      (({ r.2 with s := (freeVal r.2.s).2 } : Access).wr (gLoc (chunkTo playE.dk playE.idx 0)) out).stalled = false) := by decide +kernel

-- packets ---------------------------------------------------------------------------------------------------------------

/-- A packet with some header fields set: low bit, width and value. -/
def pkt (l : List (Nat × Nat × Nat)) (data : List Byte := []) (side : Nat := 0) : Packet :=
  { hdr := BitVec.ofNat 256 (l.foldl (fun h x => putBits h x.1 x.2.1 x.2.2) 0), data := data, side := side }

/-- Of tenant 15, with an operation code and an address. -/
def req (op a : Nat) (l : List (Nat × Nat × Nat) := []) (data : List Byte := []) (side : Nat := 0) : Packet :=
  pkt ([(48, 4, 15), (128, 4, op), (192, 43, a)] ++ l) data side

theorem witness_write : Passed up none (req 0 0x1038 [] sixteen) 0 up ∧ pArrive (req 0 0x1038 [] sixteen) = false ∧
    pWiden (req 0 0x1038 [] sixteen) = false ∧ up.sbus.posted = [] ∧ arriveAt up 0x1038 = up ∧ pAddr (req 0 0x1038 [] sixteen) = 0x1038 ∧
    pTenant (req 0 0x1038 [] sixteen) = 15 := by decide
theorem witness_read : Passed up none (req 1 0x1038 [] [] 16) 1 up ∧ inRegs 0x1038 16 = false ∧ (16 : Nat) ≠ 0 ∧
    pAddr (req 1 0x1038 [] [] 16) = 0x1038 ∧ pTenant (req 1 0x1038 [] [] 16) = 15 := by decide
theorem witness_atomic_word : ∀ w ∈ [32, 64], atomicTarget 0x1038 = true ∧ 0x1038 % (w / 8) = 0 ∧ Plain up 15 0x1038 (w / 8) := by decide

/-- An atomic exchange of SEQ 5 from device 4. -/
def atomicP (retry : Nat) : Packet := req 4 0x1038 [(16, 16, 4), (160, 32, 5), (137, 1, retry)] sixteen

/-- The window of device 4 and tenant 15, with a receipt in the slot of SEQ 5. -/
def windowS (l : SMap Receipt) : State := { up with msf := { up.msf with windows := [(windowKey 4 15, { die := 0, slots := l, changed := 0 })] } }

theorem witness_atomic : Passed (windowS []) none (atomicP 0) 4 (windowS []) ∧ windowFor (windowS []) (pSrc (atomicP 0)) (pTenant (atomicP 0)) = (windowS [], true) ∧
    (slotOf (windowS []) (pSrc (atomicP 0)) (pTenant (atomicP 0)) (pSeq (atomicP 0))).kind = 0 ∧ pRetry (atomicP 0) = false ∧
    (storeAtomic (windowS []) (atomicP 0)).isSome = true ∧ pRetry (atomicP 1) = true := by decide
theorem witness_atomic_again : let v := windowS [(5, { Receipt.empty with seq := 5, kind := 1, result := 9 })]
    windowFor v (pSrc (atomicP 1)) (pTenant (atomicP 1)) = (v, true) ∧
    (slotOf v (pSrc (atomicP 1)) (pTenant (atomicP 1)) (pSeq (atomicP 1))).kind ≠ 0 ∧
    (slotOf v (pSrc (atomicP 1)) (pTenant (atomicP 1)) (pSeq (atomicP 1))).seq = pSeq (atomicP 1) := by decide
theorem witness_chunk : (65535#16 - 65530#16).toNat < 64 ∧ (2#16 - 65530#16).toNat < 64 := by decide

/-- A docket of core 64 on queue q with one remote operation of SEQ 7, kind k, whose chunk 0 is not acknowledged. -/
def awaiting (q k op : Nat) (l : List (Nat × Nat × Nat × Nat)) : State :=
  { queued q [{ entryOp 2 op l with started := true, todo := [0], seqs := [7] }] up with msf := { up.msf with
    ops := [{ seq := 7, tenant := 15, queue := q, ref := (entryOp 2 op l).toRef, kind := k, dev := 4, gen := 0, rgen := 0, tgen := 0, unacked := [0],
              nextChunk := 1, chunks := 1, retry := false, again := [], noCache := [], sentAt := 0 }] } }

/-- An answer to it. -/
def answer (op : Nat) (st : Nat := 0) : Packet := pkt [(48, 4, 15), (128, 4, op), (132, 4, st), (160, 32, 7)] sixteen

theorem witness_dropped : Passed up none (answer 2) 2 up ∧ Passed up none (answer 3) 3 up ∧ Passed up none (answer 5) 5 up ∧
    opFor up (answer 2) = none ∧ opFor up (answer 3) = none ∧ opFor up (answer 5) = none := by decide

/-- A copy from device 4 to near memory. -/
def readL : List (Nat × Nat × Nat × Nat) := [(0x30, 0, 64, 4 * 2 ^ 48 + 0x1000), (0x38, 0, 64, 0x10000), (0x40, 0, 40, 16)]

theorem witness_read_data : let s := awaiting 258 1 0 readL
    Passed s none (answer 2) 2 s ∧ (∃ o, opFor s (answer 2) = some o ∧ o.kind = 1 ∧ o.queue < 2048 ∧ chunkOfFlow o (pFlow (answer 2)) = some 0 ∧
      pertResponse s (queueDie o.queue) (pOpc (answer 2)) (pTenant (answer 2)) = (false, s) ∧
      ∃ e, entryOf s o.queue o.ref = some e ∧ (readLands s (answer 2) e o 0).isSome = true) :=
  ⟨by decide, (awaiting 258 1 0 readL).msf.ops.head (by decide), by decide, by decide, by decide, by decide, by decide,
    { entryOp 2 0 readL with started := true, todo := [0], seqs := [7] }, by decide, by decide⟩

/-- The operation that awaits an answer. -/
def opS (q k op : Nat) (l : List (Nat × Nat × Nat × Nat)) : ROp := (awaiting q k op l).msf.ops.head (by simp [awaiting])

theorem witness_write_ack : let s := awaiting 258 0 0 copyL
    Passed s none (answer 3) 3 s ∧ opFor s (answer 3) = some (opS 258 0 0 copyL) ∧ chunkOfFlow (opS 258 0 0 copyL) (pFlow (answer 3)) = some 0 ∧
      pStatus (answer 3) ≠ 15 ∧ pertResponse s (queueDie 258) 3 15 = (false, s) ∧ pStatus (answer 3 15) = 15 ∧ pStatus (answer 5 15) = 15 := by decide

/-- A 64-bit addition at an address of device 4. -/
def atomicL : List (Nat × Nat × Nat × Nat) := [(0x30, 0, 64, 4 * 2 ^ 48 + 0x1000), (0x38, 4, 1, 1), (0x40, 0, 64, 3)]

theorem witness_atomic_result : let s := awaiting 258 2 6 atomicL
    Passed s none (answer 5) 5 s ∧ opFor s (answer 5) = some (opS 258 2 6 atomicL) ∧ (opS 258 2 6 atomicL).unacked ≠ [] ∧
      pStatus (answer 5) ≠ 15 ∧ (atomicEnd (arriveAt s 0) 258 { entryOp 2 6 atomicL with started := true, todo := [0], seqs := [7] } 0 9).isSome = true := by decide

/-- Device 4 is a valid peer of generation 0. -/
def peerS (s : State := up) : State := { s with route := { s.route with peer0 := [(1, 0x100)], peer1 := [(1, 0x100)] } }

/-- The operation's packet was answered BUSY. -/
def busyS : State := { awaiting 258 0 0 copyL with msf := { up.msf with ops := [{ opS 258 0 0 copyL with again := [answer 0] }] } }

theorem witness_backoff_peer : peerEnds busyS { opS 258 0 0 copyL with again := [], sentAt := 0 } ≠ none ∧ (4 : Nat) ≠ ownDev busyS ∧
    peerEnds (peerS busyS) { opS 258 0 0 copyL with again := [] } = none := by decide +kernel
theorem witness_backoff : busyS.msf.ops.find? (fun o => o.queue == (258 : QueueId).val && o.again != []) = some { opS 258 0 0 copyL with again := [answer 0] } := by
  decide

theorem witness_ratomic : let s := peerS (runOp 2 6 atomicL)
    queue s 259 = [] ∧ unstarted s 258 (fun e => dkEngine e.dk == 2 && dkOp e.dk == 6) = some (entryOp 2 6 atomicL) ∧
      gDev (atomicReq (entryOp 2 6 atomicL)).addr % 4 = 0 ∧ gDev (atomicReq (entryOp 2 6 atomicL)).addr ≠ ownDev s ∧
      gLoc (atomicReq (entryOp 2 6 atomicL)).addr < 2 ^ 43 ∧ peerFault s 4 = 0 ∧
      (seqFor s 258 (entryOp 2 6 atomicL)).1 = some 0 ∧ ropOf (seqFor s 258 (entryOp 2 6 atomicL)).2 15 0 = none := by decide
theorem witness_resend : let s := peerS (awaiting 258 2 6 atomicL)
    dueAtomic s 64 = some (opS 258 2 6 atomicL) ∧ peerFenced (peerOut s 4) = false ∧ peerValid (peerOut s 4) = true ∧
      peerGen (peerOut s 4) = (opS 258 2 6 atomicL).gen.toNat := by decide
theorem witness_fences : unstarted (runOp 2 7 []) 258 (fun e => dkEngine e.dk == 2 && dkOp e.dk == 7) = some (entryOp 2 7 []) ∧
    awaitedOf (runOp 2 7 []) 64 (entryOp 2 7 []) = [] ∧ awaitedOf { runOp 2 7 [] with msf := (awaiting 258 0 0 copyL).msf } 64 (entryOp 2 7 []) ≠ [] ∧
    unstarted (runOp 2 8 []) 258 (fun e => dkEngine e.dk == 2 && dkOp e.dk == 8) = some (entryOp 2 8 []) ∧
    gDev (dkf (entryOp 2 8 []).dk 0x38 0 64) % 4 = 0 ∧
    unstarted (runOp 2 8 [(0x38, 48, 2, 1)]) 258 (fun e => dkEngine e.dk == 2 && dkOp e.dk == 8) = some (entryOp 2 8 [(0x38, 48, 2, 1)]) ∧
    gDev (dkf (entryOp 2 8 [(0x38, 48, 2, 1)]).dk 0x38 0 64) % 4 ≠ 0 := by decide

/-- A packet of device 4 and generation g. -/
def fromPeer (g : Nat) : Packet := req 0 0x1000 [(16, 16, 4), (40, 8, g)] sixteen

theorem witness_forward : pMcast (fromPeer 0) = false ∧ (checkArrival (takeRx (peerS) 2 (fromPeer 0)) 2 (fromPeer 0)).2 = true ∧
    peerGen (peerEntry (peerS) ((2 : LinkId).val % 2) (pSrc (fromPeer 1))) ≠ pSrcGen (fromPeer 1) ∧ pMcast (fromPeer 1) = false ∧
    rget (peerS) Reg.ROUTE_GEN_DROPS < 2 ^ 32 - 1 := by decide

/-- A multicast packet of group 9, and the group with no link. -/
def mcastP : Packet := pkt [(0, 16, 9), (52, 1, 1)] sixteen
def mcastL : Packet := pkt [(0, 16, 9), (16, 16, 4), (52, 1, 1)] sixteen
def groupS : State := { up with route := { up.route with groups := [(9, { valid := true, loc := true, mask := 0 })] } }

theorem witness_mcast : pMcast mcastP = true ∧ (groupOf groupS (pDst mcastP % 4096)).valid = true ∧
    branchesReady groupS (groupOf groupS (pDst mcastP % 4096)) none mcastP = true ∧ (groupOf up (pDst mcastP % 4096)).valid = false ∧
    mcastFenced (regs [(Reg.ROUTE_FENCED_SELF, 0, 0, 1)] groupS) mcastP = true ∧
    (checkArrival (takeRx (peerS groupS) 2 mcastL) 2 mcastL).2 = true ∧ pMcast mcastL = true ∧
    branchesReady (peerS groupS) (groupOf groupS (pDst mcastL % 4096)) (some 2) mcastL = true := by decide
theorem witness_self_fence : pDst (pkt [(128, 4, 6)]) = ownDev up ∧ rget up Reg.ROUTE_FENCED_SELF = 0 ∧ pOpc (pkt [(128, 4, 6)]) = 6 ∧
    pf (pkt [(128, 4, 6)]) 132 4 = 0 ∧ pOpc (pkt [(128, 4, 7)]) = 7 ∧ pDst (pkt [(128, 4, 7)]) = ownDev up := by decide
theorem witness_route_writes : ∀ f ∈ [Reg.ROUTE_FENCED_SELF, Reg.ROUTE_PEER_DATA, Reg.ROUTE_GROUP_INDEX, Reg.ROUTE_GROUP_INDEX_LOAD, Reg.ROUTE_OWN_GEN],
    permitted f 0 host = true ∧ f.off < 0x800 := by decide
theorem witness_route_page : frozen (taken up host routePage) = false ∧ rget (taken up host routePage) Reg.ROUTE_OWN_GEN < (1#8).toNat ∧
    (0#8).toNat ≤ rget (taken up host routePage) Reg.ROUTE_OWN_GEN := by decide
theorem witness_peer_applied : ({ up with route := { up.route with pend := [(0, 1, 256), (1, 1, 256)] } } : State).route.pend.find? (fun x => x.1 == 1)
    = some (1, 1, 256) := by decide

-- links -----------------------------------------------------------------------------------------------------------------

theorem witness_header : (15 : Nat) < 16 ∧ (3 : Nat) < 4 ∧ sixteen.length ≤ 4096 ∧ rget up Reg.ROUTE_OWN_DEV < 2 ^ 16 ∧ rget up Reg.ROUTE_OWN_GEN < 256 := by
  decide

/-- Link 63 in a phase, with its receiver and transmitter as given. -/
def linkS (st : Nat) (k : LinkSt := LinkSt.reset) : State := { regs [(Reg.ZLINK_STATE, 63, 0, st)] up with links := [(63, k)] }

/-- A bring-up in progress. -/
def bringK : LinkSt := { LinkSt.reset with bringing := true }

theorem witness_link_enable : Lands up host (linkPage (63 : LinkId).val) Reg.ZLINK_ENABLE 0 (taken up host (linkPage 63)) ∧
    linkState (taken up host (linkPage 63)) 63 = 0 := ⟨lands (by decide) (by decide) (by decide), by decide⟩
theorem witness_link_disable : Lands (linkS 7) host (linkPage (63 : LinkId).val) Reg.ZLINK_ENABLE 0 (taken (linkS 7) host (linkPage 63)) ∧
    linkState (taken (linkS 7) host (linkPage 63)) 63 ≠ 0 := ⟨lands (by decide) (by decide) (by decide), by decide⟩
/-- One whose lanes have locked, and one that has had good codewords. -/
def lockedK : LinkSt := { bringK with lanes := (List.range 4).map (fun n => (n, ⟨4, true, false, n, 0, 0⟩)) }
def goodK (n : Nat) : LinkSt := { bringK with good := n }

theorem witness_link_phases : (∀ n ∈ [1, 2, 3, 4, 5, 6], Clocked (linkS n bringK) ∧ (linkOf (linkS n bringK) 63).bringing = true ∧
      linkState (linkS n bringK) 63 = n ∧ domainOn (linkS n bringK) (quadDomain 63) = true) ∧
    (∀ n : Fin 4, (laneOf (linkOf (linkS 3 lockedK) 63) n.val).locked = true) ∧ (laneOf (linkOf (linkS 3 bringK) 63) 0).locked = false ∧
    (linkOf (linkS 3 lockedK) 63).bringing = true ∧ (∀ n ∈ [63, 64], (linkOf (linkS 4 (goodK n)) 63).good = n ∧
      (linkOf (linkS 4 (goodK n)) 63).bringing = true ∧ linkState (linkS 4 (goodK n)) 63 = 4) ∧
    (List.replicate 64 128000).length = 64 ∧ linkHeld (linkS 6 bringK) 63 = false := by decide
theorem witness_time_words : ∀ st ∈ [6, 7], Clocked (linkS st) ∧ 6 ≤ linkState (linkS st) 63 ∧ rget (linkS st) Reg.FTIME_SYNC_STATE ≠ 4 ∧
    (linkOf (linkS st) 63).timeAt = (linkS st).time.ft.toNat / 4096 ∧
    (linkOf (joinedAt 5000 (linkS st)) 63).timeAt < (joinedAt 5000 (linkS st)).time.ft.toNat / 4096 := by decide
theorem witness_retrain : Clocked (linkS 7) ∧ linkState (linkS 7) 63 = 7 ∧
    Lands (linkS 3) host (linkPage (63 : LinkId).val) Reg.ZLINK_RETRAIN 0 (taken (linkS 3) host (linkPage 63)) ∧
    linkState (taken (linkS 3) host (linkPage 63)) 63 ∉ [1, 7] := ⟨by decide, by decide, lands (by decide) (by decide) (by decide), by decide⟩

/-- A lane with three markers seen, or three lost. -/
def laneK (hits missed : Nat) : LinkSt := { LinkSt.reset with lanes := [(3, ⟨hits, false, false, 3, 0, missed⟩)] }

theorem witness_marker : Clocked (linkS 3 (laneK 3 0)) ∧ (8 : Nat) ≤ 8 ∧ 8 < 9 ∧ linkState (linkS 3 (laneK 3 0)) 63 = 3 ∧
    (laneOf (linkOf (linkS 3 (laneK 3 0)) 63) 3).locked = false := by decide
theorem witness_marker_lost : linkState (linkS 7 (laneK 4 2)) 63 = 7 ∧ (laneOf (linkOf (linkS 7 (laneK 4 2)) 63) 3).missed < 3 ∧
    3 ≤ (laneOf (linkOf (linkS 7 (laneK 4 3)) 63) 3).missed ∧ 4 ≤ linkState (linkS 6) 63 ∧ linkState (linkS 6) 63 < 7 := by decide

/-- A flit of a body b, below bit 5,056, and a check c. -/
def checked (b c : Nat) : Flit := BitVec.ofNat 5120 (b + c * 2 ^ 5056)

theorem checked_toNat {b c : Nat} (hb : b < 2 ^ 5056) (hc : c < 2 ^ 64) : (checked b c).toNat = b + c * 2 ^ 5056 := by
  have : (2 : Nat) ^ 5120 = 2 ^ 64 * 2 ^ 5056 := by rw [← Nat.pow_add]
  have h := Nat.mul_le_mul_right (2 ^ 5056) (Nat.succ_le_of_lt hc)
  rw [checked, BitVec.toNat_ofNat, Nat.mod_eq_of_lt]
  rw [this]
  generalize 2 ^ 5056 = x at *
  generalize 2 ^ 64 = y at *
  rw [Nat.succ_mul] at h
  omega

theorem checked_crc {b c : Nat} (hb : b < 2 ^ 5056) (hc : c < 2 ^ 64) : flitCrcOk (checked b c) = (crc64 (natLe b 632) == c) := by
  simp only [flitCrcOk, ff, bitsAt, checked_toNat hb hc, Nat.add_mul_mod_self_right, Nat.mod_eq_of_lt hb]
  rw [Nat.shiftRight_eq_div_pow, Nat.add_mul_div_right _ _ (Nat.two_pow_pos _), Nat.div_eq_of_lt hb, Nat.zero_add, Nat.mod_eq_of_lt hc]

theorem crc64_step_lt (c : Nat) : crc64Step c < 2 ^ 64 := by
  unfold crc64Step
  split
  · exact Nat.xor_lt_two_pow (Nat.mod_lt _ (by decide)) (by decide)
  · exact Nat.mod_lt _ (by decide)

theorem crc64_lt (l : List Byte) : crc64 l < 2 ^ 64 := by
  have h : ∀ (l : List Byte) (c : Nat), c < 2 ^ 64 →
      l.foldl (fun c b => (List.range 8).foldl (fun c _ => crc64Step c) (c ^^^ (b.toNat * 2 ^ 56))) c < 2 ^ 64 := by
    intro l
    induction l with
    | nil => exact fun c h => h
    | cons b r ih => exact fun c _ => ih _ (crc64_step_lt _)
  exact Nat.xor_lt_two_pow (h l _ (by decide)) (by decide)

/-- An empty DATA flit of a number. -/
def flitS (fseq : BitVec 12) : Flit := checked fseq.toNat (crc64 (natLe fseq.toNat 632))

theorem fseq_lt (q : BitVec 12) : q.toNat < 2 ^ 5056 :=
  Nat.lt_of_lt_of_le q.isLt (Nat.pow_le_pow_right (by decide) (by decide))

theorem witness_flit (q : BitVec 12) : flitCrcOk (flitS q) = true ∧ BitVec.ofNat 12 (ff (flitS q) 0 12) = q := by
  constructor
  · rw [flitS, checked_crc (fseq_lt q) (crc64_lt _)]
    exact beq_self_eq_true _
  · have e : (2 : Nat) ^ 5056 = 2 ^ 5044 * 2 ^ 12 := by rw [← Nat.pow_add]
    rw [ff, flitS, checked_toNat (fseq_lt q) (crc64_lt _), bitsAt, Nat.shiftRight_zero, e, ← Nat.mul_assoc, Nat.add_mul_mod_self_right,
      Nat.mod_eq_of_lt q.isLt, BitVec.ofNat_toNat, BitVec.setWidth_eq]
theorem witness_flit_bad : ∃ f : Flit, flitCrcOk f = false := by
  refine ⟨checked 0 ((crc64 (natLe 0 632) + 1) % 2 ^ 64), ?_⟩
  rw [checked_crc (Nat.two_pow_pos _) (Nat.mod_lt _ (by decide))]
  have h := crc64_lt (natLe 0 632)
  simp only [beq_eq_false_iff_ne]
  omega
theorem flit_zeros (q : BitVec 12) (c lo w : Nat) (hc : c < 2 ^ 64) (h : 12 ≤ lo) (h2 : lo + w ≤ 5056) : ff (checked q.toNat c) lo w = 0 := by
  obtain ⟨k, hk⟩ : ∃ k, 5056 = k + w + lo := ⟨5056 - w - lo, by omega⟩
  rw [ff, checked_toNat (fseq_lt q) hc, bitsAt, Nat.shiftRight_eq_div_pow, hk, Nat.pow_add, Nat.pow_add, ← Nat.mul_assoc, ← Nat.mul_assoc,
    Nat.add_mul_div_right _ _ (Nat.two_pow_pos _), Nat.div_eq_of_lt (Nat.lt_of_lt_of_le q.isLt (Nat.pow_le_pow_right (by decide) h)),
    Nat.zero_add, Nat.mul_mod_left]

theorem witness_flit_data (q : BitVec 12) : ff (flitS q) 26 2 = 0 ∧ ff (flitS q) 24 1 = 0 :=
  ⟨flit_zeros q _ 26 2 (crc64_lt _) (by decide) (by decide), flit_zeros q _ 24 1 (crc64_lt _) (by decide) (by decide)⟩
theorem witness_flit_order : ({ LinkSt.reset with expect := 4095 } : LinkSt).expect = 4095 ∧ ((2047 : BitVec 12) - 4095).toNat ≤ 2048 ∧
    2048 < ((2048 : BitVec 12) - 4095).toNat := by decide
theorem witness_flit_refused : rget (linkS 7) Reg.ZLINK_CRC_ERRORS 63 < 2 ^ 32 - 1 ∧
    (linkOf (linkS 7) 63).winBad + 1 < rget (linkS 7) Reg.ZLINK_UNCORR_RETRAIN 63 ∧ (linkOf (linkS 7) 63).winCws < 1048576 ∧
    linkState (linkS 3) 63 < 4 := by decide
theorem witness_replay : (linkOf (linkS 7 { LinkSt.reset with replay := [0] }) 63).replay ≠ [] ∧
    (linkOf (linkS 7 { LinkSt.reset with replay := [0] }) 63).resends < rget (linkS 7) Reg.ZLINK_RETRY_LIMIT 63 ∧
    rget (linkS 7) Reg.ZLINK_RETRY_LIMIT 63 ≤ ({ LinkSt.reset with resends := 15 } : LinkSt).resends := by decide
theorem witness_credits : 1 ≤ credits (linkS 7) 63 7 ∧ mapGet LinkSt.reset.used 7 0 ≤ vcShare (linkS 7) 63 7 ∧
    LinkSt.reset.pool ≤ poolSize (linkS 7) 63 ∧ 1 ≤ mapGet ({ LinkSt.reset with used := [(7, 1)] } : LinkSt).used 7 0 := by decide

-- the Mill --------------------------------------------------------------------------------------------------------------

/-- The entry of a running docket of tenant 15 on ring 1. -/
def entryAt (q engine op : Nat) (l : List (Nat × Nat × Nat × Nat)) (s : State := up) : QEntry :=
  { newEntry s 1 15 (docket ([(4, 0, 4, engine), (4, 4, 8, op), (4, 12, 4, 15)] ++ l)) q false with eligible := true, running := true }

/-- A queue that runs it. -/
def runAt (q engine op : Nat) (l : List (Nat × Nat × Nat × Nat)) (s : State := up) : State := queued q [entryAt q engine op l s] s

/-- Its reference: SEQ 0 of ring 1. -/
def ref15 : DocketRef := ⟨1, 15, 0⟩

/-- Values stored in memory: address, length and value. -/
def stored (l : List (Nat × Nat × Nat)) (s : State := up) : State :=
  { s with mem := l.foldl (fun m x => memWrite m x.1 (natLe x.2.2 x.2.1)) s.mem }

/-- A plan of one entry: its span at 0x2000 names one frame at 0x4000 of the source at 0x3000 and decodes it. -/
def planS : State := stored [(0x1000, 16, 0x2000 + 2 ^ 64), (0x2000, 8, 0x3000), (0x2010, 4, 100), (0x2014, 2, 1), (0x2018, 8, 0x4000),
  (0x3020, 4, 64 + 64 * 2 ^ 16), (0x4004, 4, 100)]

/-- An INGEST docket of it. -/
def ingestL : List (Nat × Nat × Nat × Nat) := [(0x30, 0, 64, 0x1000), (0x38, 0, 7, 1), (0x48, 0, 32, 2 ^ 32 - 1)]

theorem witness_ingest : let s := runAt 2060 6 0 ingestL planS
    let e := entryAt 2060 6 0 ingestL planS
    let r := readPlan (e.access s) (ingPlan e.dk) (ingEntries e.dk)
    entryOf s (2060 + (0 : MDie).val) ref15 = some e ∧ ingestFault s e = 0 ∧ r.2.stalled = false ∧ r.2.faults = [] ∧
      (r.1.map (fun sp => (targetIdx sp).length)).sum ∈ List.range' 1 64 ∧
      128 + (r.1.map (fun sp => (outputs sp).length)).sum * frameBytes (profileIn r.2.s 0 (ingProfile e.dk)) ≤ ingOutMax e.dk ∧
      ingToHopper e.dk = false := by decide +kernel
theorem witness_ingest_fault : ingestFault (runAt 2060 6 0 [(0x38, 16, 1, 1)]) (entryAt 2060 6 0 [(0x38, 16, 1, 1)]) ≠ 0 := by decide

/-- A span of a 64 × 64 source on target 0 in a stage. -/
def spanS (stage : Nat) : MSpan :=
  { addr := 0x2000, audio := false, track := 0, src := 0x3000, source := (64 + 64 * 2 ^ 16) * 2 ^ 256, offset := 0, len := 100, hdr := 0,
    frames := [0], targets := 1, stage := stage, cause := 0, pieces := [] }

/-- A Mill die with a job of that span and pipes. -/
def millS (stage : Nat) (pipes : SMap (DocketRef × Nat)) (st : Nat := 2) (cmds : List MillCmd := []) : State :=
  let s := runAt 2060 6 0 ingestL
  { regs [(Reg.MILL_ENABLE, 0, 0, 1), (Reg.MILL_TENANT_MASK, 0, 0, 65535), (Reg.MILL_STATE, 0, 0, st), (Reg.MILL_WORK_SETS, 0, 0, 1),
      (Reg.HBMC_SET_VALID, 0, 0, 1), (Reg.HBMC_SET_OWNER_LO, 0, 0, 15)] s with
    mill := [(0, { MillSt.reset with jobs := [{ ref := ref15, spans := [spanS stage], frames := [], captions := [], audio := [] }],
                                     pipes := pipes, cmds := cmds })] }

theorem witness_span_start : nextSpan (millOf (millS 0 []) 0) false = some (ref15, 0, spanS 0) ∧ (spanS 0).audio = false ∧
    nextSpan (millOf (millS 0 []) 0) true = none ∧
    entryOf (millS 0 []) (2060 + (0 : MDie).val) ref15 = some (entryAt 2060 6 0 ingestL) ∧
    targetRefused (millS 0 []) 0 (entryAt 2060 6 0 ingestL) (spanS 0) = false ∧ spanCause (spanS 0) = 0 ∧
    rget (millS 0 []) Reg.MILL_STATE 0 (targetOf (spanS 0).source) = 2 ∧ freePipe (millS 0 []) 0 = some 0 ∧ workRefused (millS 0 []) 0 = none ∧
    ((millOf (millS 0 []) 0).reserved.map (·.2)).sum + reservation (spanS 0).source ≤ rget (millS 0 []) Reg.MILL_WORK_SETS 0 * 0x180000000 ∧
    domainOn (millS 0 []) (groupDomain 0 (0 / 4)) = true := by decide
theorem witness_span_waits : workRefused (regs [(Reg.HBMC_SET_OWNER_LO, 0, 0, 3)] (millS 0 [])) 0 = some 0 ∧
    rget (millS 0 [] 3) Reg.MILL_STATE 0 (targetOf (spanS 0).source) = 3 ∧
    domainOn { millS 0 [] with power := State.reset.power } (groupDomain 0 (0 / 4)) = false := by decide
theorem witness_span_refused : targetRefused (runAt 2060 6 0 ingestL) 0 (entryAt 2060 6 0 ingestL) (spanS 0) = true ∧
    spanCause { spanS 0 with frames := [] } = 1 ∧ readsCaptions (entryAt 2060 6 0 ingestL) { spanS 0 with frames := [] } = false := by decide

/-- An audio span, and the Mill die where it alone waits. -/
def audioSpan : MSpan := { spanS 0 with audio := true, frames := [] }
def audioS : State := { millS 0 [] with mill := [(0, { MillSt.reset with
  jobs := [{ ref := ref15, spans := [audioSpan], frames := [], captions := [], audio := [] }] })] }

theorem witness_audio_start : nextSpan (millOf audioS 0) false = none ∧ audioBusy (millOf audioS 0) = false ∧
    nextSpan (millOf audioS 0) true = some (ref15, 0, audioSpan) ∧ audioSpan.audio = true ∧ audioSpan.len ≠ 0 ∧
    entryOf audioS (2060 + (0 : MDie).val) ref15 = some (entryAt 2060 6 0 ingestL) ∧
    targetRefused audioS 0 (entryAt 2060 6 0 ingestL) audioSpan = false ∧ rget audioS Reg.MILL_STATE 0 (targetOf audioSpan.source) = 2 ∧
    targetRefused (regs [(Reg.MILL_ENABLE, 0, 0, 0)] audioS) 0 (entryAt 2060 6 0 ingestL) audioSpan = true := by decide
theorem witness_span_complete : mapFind (millOf (millS 3 [(31, (ref15, 0))]) 0).pipes (31 : Fin 32).val = some (ref15, 0) ∧
    (millOf (millS 3 [(31, (ref15, 0))]) 0).jobs.find? (fun j => j.ref == ref15) =
      some { ref := ref15, spans := [spanS 3], frames := [], captions := [], audio := [] } := by decide
theorem witness_group : (∃ p ∈ (millOf (millS 1 [(31, (ref15, 0))]) 0).pipes, p.1 / 4 = (7 : Fin 8).val ∧
      pipeStage (millOf (millS 1 [(31, (ref15, 0))]) 0) p.2 = 1) ∧
    (∀ p ∈ (millOf (millS 1 []) 0).pipes, p.1 / 4 ≠ (7 : Fin 8).val) ∧ domainOn (millS 1 []) (groupDomain 0 7) = true :=
  ⟨⟨(31, (ref15, 0)), by decide, by decide, by decide⟩, by decide, by decide⟩

theorem witness_reads : (0 : Nat) < 512 ∧ 512 ∣ 1024 ∧ (100 : Nat) < 2000 := by decide

/-- A Read of the span in flight. -/
def cmd7 : MillCmd := { cid := 7, target := 0, off := 0, len := 512, lo := 0, hi := 100, ref := ref15, span := 0, tries := 0, sentAt := 0 }

theorem witness_read_done : cmdOf (millS 2 [] 2 [cmd7]) 0 7 = some cmd7 ∧ cmdOf (millS 2 []) 0 7 = none ∧ cmd7.span < loadSpan ∧
    spanOf (millS 2 [] 2 [cmd7]) 0 cmd7 = some (spanS 2) ∧ cmd7.tries < rget (millS 2 []) Reg.MILL_FETCH_RETRY_LIMIT 0 := by decide
theorem witness_targets : rget (millS 2 [] 1) Reg.MILL_STATE 0 0 = 1 ∧ rget (millS 2 []) Reg.MILL_STATE 0 0 = 2 ∧ rget (millS 2 []) Reg.MILL_KIND 0 0 = 0 ∧
    (∀ c ∈ (millOf (millS 2 []) 0).cmds ++ (millOf (millS 2 []) 0).backlog, c.target ≠ 0) ∧ rget (millS 2 []) Reg.MILL_STATE 0 (15 : Fin 16).val = 0 := by decide

-- the Hopper ------------------------------------------------------------------------------------------------------------

/-- Hopper 0: one region, two slots of 64 KiB, owned by tenant 15, with an ENABLE and a STATE. -/
def hopS (en st : Nat) (s : State := up) : State :=
  regs [(Reg.HOPPER_HOP_ENABLE, 0, 0, en), (Reg.HOPPER_HOP_STATE, 0, 0, st), (Reg.HOPPER_HOP_OWNER, 0, 0, 15), (Reg.HOPPER_HOP_WINDOW, 0, 0, 2),
    (Reg.HOPPER_HOP_SLOT_UNITS, 0, 0, 1), (Reg.HOPPER_HOP_REGIONS, 0, 0, 1), (Reg.STORC_REGION_VALID, 0, 0, 1),
    (Reg.STORC_REGION_OWNER, 0, 0, 15)] s

/-- Its control block: seed 0, W = 2, no draw, slot 1 expecting 1 in a state, and the record in slot 1 of 128 bytes. -/
def blockS (st : Nat) : State :=
  stored [(roomBase + 8, 4, 2), (roomBase + 72, 8, 1 + st * 2 ^ 48), (roomBase + 65536 + 65536 + 0x10, 4, 128)] (hopS 1 2)

theorem witness_hopper_enable : Lands (hopS 0 0) host (hopPage (0 : HopperId).val) Reg.HOPPER_HOP_ENABLE 0 (taken (hopS 0 0) host (hopPage 0)) ∧
    hopF (taken (hopS 0 0) host (hopPage 0)) Reg.HOPPER_HOP_ENABLE 0 = 0 ∧ 2 ≤ hopRoom (taken (hopS 0 0) host (hopPage 0)) 0 ∧
    hopOwned (taken (hopS 0 0) host (hopPage 0)) 0 = true := ⟨lands (by decide) (by decide) (by decide), by decide, by decide, by decide⟩
theorem witness_hopper_refused : Lands State.reset host (hopPage (0 : HopperId).val) Reg.HOPPER_HOP_ENABLE 0 (taken State.reset host (hopPage 0)) ∧
    hopF State.reset Reg.HOPPER_HOP_ENABLE 0 = 0 ∧ hopOwned State.reset 0 = false :=
  ⟨lands (by decide) (by decide) (by decide), by decide, by decide⟩
theorem witness_hopper_disable : Lands (hopS 1 2) host (hopPage (0 : HopperId).val) Reg.HOPPER_HOP_ENABLE 0 (taken (hopS 1 2) host (hopPage 0)) ∧
    hopF (hopS 1 2) Reg.HOPPER_HOP_ENABLE 0 = 1 ∧ hopInUse (hopS 1 2) 0 = false ∧ hopInUse (runAt 2062 7 0 [] (hopS 1 2)) 0 = true :=
  ⟨lands (by decide) (by decide) (by decide), by decide, by decide, by decide⟩
theorem witness_hopper_init : Clocked (runAt 2062 7 0 [] (hopS 1 1)) ∧
    hopRunning (runAt 2062 7 0 [] (hopS 1 1)) (0 : HopperId).val 0 = some (entryAt 2062 7 0 [] (hopS 1 1)) ∧
    hopRefuse (runAt 2062 7 0 [] (hopS 1 1)) 0 (entryAt 2062 7 0 [] (hopS 1 1)) = 0 ∧ hopW (runAt 2062 7 0 [] (hopS 1 1)) 0 ≤ 2 ^ 24 ∧
    Plain (runAt 2062 7 0 [] (hopS 1 1)) (entryAt 2062 7 0 [] (hopS 1 1)).tenant.val (hopBase (runAt 2062 7 0 [] (hopS 1 1)) 0)
      (64 + 8 * hopW (runAt 2062 7 0 [] (hopS 1 1)) 0) := by decide +kernel

/-- A DRAW of one sample to 0x10000. -/
def drawL : List (Nat × Nat × Nat × Nat) := [(0x30, 8, 7, 1), (0x40, 0, 64, 0x10000), (0x50, 0, 32, 65536)]

theorem witness_draw : ∀ st ∈ [0, 1, 2, 3], let s := runAt 2062 7 1 drawL (blockS st)
    let e := entryAt 2062 7 1 drawL (blockS st)
    let a := hopSlot s 0 (hopDrawSlot s 0 0)
    hopRunning s (0 : HopperId).val 1 = some e ∧ entryOf s (hopQueue (0 : HopperId).val) e.toRef = some e ∧ e.started = false ∧ e.seqs = [] ∧
      hopRefuse s 0 e = 0 ∧ hopFilling s 0 = false ∧ hdFirst e.dk = 0 ∧ hopDrawn s 0 = 0 ∧ hdCount e.dk = 1 ∧
      hopState s 0 (hopDrawSlot s 0 0) = st ∧ hdArriveEn e.dk = false ∧ ownDev s % 4 = 0 ∧ (∀ ga ∈ drawDests e 0, gDev ga = ownDev s) ∧
      Plain s e.tenant.val (hopEntryAt s 0 (hopDrawSlot s 0 0)) 8 ∧ Plain s e.tenant.val (a + 0x10) 4 ∧
      Plain s e.tenant.val a (ceilDiv (memNat s (a + 0x10) 4) 64 * 64) := by decide +kernel

/-- A draw that copies slot 1. -/
def copying : HopDraw :=
  { ref := ref15, j := 0, copying := true, waitFrom := 0, starved := 0, src := roomBase + 131072, data := List.replicate 128 0 }

/-- The Hopper with that draw in progress, and with its destination poisoned. -/
def drawS : State := { runAt 2062 7 1 drawL (blockS 2) with hopper := [(0, copying)] }
def drawP : State := { drawS with poison := [0x10000 / 64], boot := { drawS.boot with outOf := [0] } }

theorem witness_draw_lands : ∀ s ∈ [drawS, drawP], Clocked s ∧ hopRunning s (0 : HopperId).val 1 = some (entryAt 2062 7 1 drawL (blockS 2)) ∧
    mapFind s.hopper (0 : HopperId).val = some copying ∧ (entryAt 2062 7 1 drawL (blockS 2)).is copying.ref = true ∧
    drawAcked s (entryAt 2062 7 1 drawL (blockS 2)) = true ∧ hopFilling s 0 = false ∧
    (landDraw s (entryAt 2062 7 1 drawL (blockS 2)) copying).x.stalled = false ∧
    (landDraw s (entryAt 2062 7 1 drawL (blockS 2)) copying).all = true ∧ hdList (entryAt 2062 7 1 drawL (blockS 2)).dk = 0 := by decide +kernel
theorem witness_draw_ends :
    worst (0 :: (landDraw drawS (entryAt 2062 7 1 drawL (blockS 2)) copying).x.faults) = 0 ∧
    (countStores 0 (entryAt 2062 7 1 drawL (blockS 2)) copying (landDraw drawS (entryAt 2062 7 1 drawL (blockS 2)) copying).x).stalled = false ∧
    worst (0 :: (landDraw drawP (entryAt 2062 7 1 drawL (blockS 2)) copying).x.faults) ≠ 0 := by decide +kernel
theorem witness_draw_counts : let x := (entryAt 2062 7 1 drawL (blockS 2)).access drawS
    x.faults = [] ∧ Plain x.s x.tenant (hopEntryAt x.s 0 (hopDrawSlot x.s 0 copying.j)) 8 ∧ Plain x.s x.tenant (hopBase x.s 0 + 16) 8 := by
  decide +kernel

/-- A state block of two slots. -/
def stateL : List (Nat × Nat × Nat × Nat) := [(0x40, 0, 64, 0x10000)]

/-- One stored at 0x10000: seed 9, W = 2, five draws. -/
def savedS : State := stored [(0x10000, 8, 9), (0x10008, 4, 2), (0x10010, 8, 5), (0x10018, 4, 0x52504F48), (0x1001C, 4, 1), (0x10040, 8, 6),
  (0x10048, 8, 7)] (blockS 0)

theorem witness_hopper_save : let s := runAt 2062 7 2 stateL (blockS 0)
    let e := entryAt 2062 7 2 stateL (blockS 0)
    hopRunning s (0 : HopperId).val 2 = some e ∧ e.started = false ∧ hopRefuse s 0 e = 0 ∧ gDev (hdDst e.dk) = ownDev s ∧ ownDev s % 4 = 0 ∧
      hopW s 0 = 2 ∧ Plain s e.tenant.val (gLoc (hdDst e.dk)) (64 + 8 * hopW s 0) ∧ Plain s e.tenant.val (hopBase s 0) (64 + 8 * hopW s 0) := by
  decide +kernel
theorem witness_hopper_restore : let s := runAt 2062 7 3 stateL savedS
    let e := entryAt 2062 7 3 stateL savedS
    let b := memRead s.mem (gLoc (hdDst e.dk)) (64 + 8 * hopW s 0)
    hopRunning s (0 : HopperId).val 3 = some e ∧ e.started = false ∧ hopRefuse s 0 e = 0 ∧ gDev (hdDst e.dk) = ownDev s ∧ ownDev s % 4 = 0 ∧
      hopW s 0 = 2 ∧ Plain s e.tenant.val (hopBase s 0) (64 + 8 * hopW s 0) ∧
      Plain s e.tenant.val (gLoc (hdDst e.dk)) (64 + 8 * hopW s 0) ∧ leNat ((b.drop 24).take 4) = 0x52504F48 ∧
      leNat ((b.drop 28).take 2) = 1 ∧ leNat ((b.drop 8).take 4) = hopW s 0 := by decide +kernel

/-- The worked draws of R226: seed 0, W = 1,000. -/
theorem test_draw_slots : [drawSlot 0 1000 0, drawSlot 0 1000 1, drawSlot 0 1000 2] = [883, 431, 26] := by decide
theorem witness_slots : (0 : Nat) < 1000 ∧ 1000 < 2 ^ 32 ∧ (999 : Nat) < 1000 ∧ (2 ^ 64 - 1 : Nat) < 2 ^ 64 := by decide

-- the Tally units -------------------------------------------------------------------------------------------------------

/-- Partitions of 4 MiB on both fabric dies for tenant 15, and a group of this module alone at 0x1000. -/
def tallyS : State := stored [(0x1000, 8, 0x010101)] (regs [(Reg.TALLY_PART_MIB, 0, 15, 4), (Reg.TALLY_PART_MIB, 1, 15, 4)] up)

/-- A collective of 1,024 FP32 elements at 0x2000. -/
def collL : List (Nat × Nat × Nat × Nat) := [(0x30, 0, 64, 0x2000), (0x38, 0, 64, 0x10000), (0x40, 0, 40, 1024), (0x50, 0, 64, 0x1000), (0x78, 0, 64, 0x8000)]

theorem witness_collectives : ∀ op ∈ [0, 1, 2, 3, 4], let s := runAt 2056 5 op collL tallyS
    let e := entryAt 2056 5 op collL tallyS
    let gr := (e.access s).rdNat (coGroup e.dk) 128
    let devs := groupDevs (readGroup gr.1)
    let rank := firstIdx devs (· == ownDev s)
    entryOf s 2056 ref15 = some e ∧ dkOp e.dk = op ∧ e.tenant.val = 15 ∧ gr.2.stalled = false ∧ gr.2.faults = [] ∧
      groupBad (readGroup gr.1) = false ∧ rank < devs.length ∧ countBad e.dk (readGroup gr.1) = false ∧ coRoot e.dk < devs.length ∧
      (∀ d ∈ devs, d = ownDev s) ∧ (firstVec gr.2 e.dk devs.length rank).2.stalled = false := by decide +kernel
theorem witness_no_partition : ∀ op ∈ [0, 1, 2, 3, 4], rget (runAt 2056 5 op []) Reg.TALLY_PART_MIB 0 15 < 4 ∧
    entryOf (runAt 2056 5 op []) 2056 ref15 = some (entryAt 2056 5 op []) := by decide

/-- A collective of this module in a stage of a kind, expecting its chunk 0, and awaiting an answer to one it sent. -/
def collK (kind : Nat) (got : List (Nat × List Int) := []) : Coll :=
  { ref := ref15, devs := [0], rank := 0, gens := [0], tag := 0, mcast := 0, p := 1, a := 1, b := 1, c := 1,
    stages := [{ kind := kind, level := 0, members := [0], me := 0, fmt := 13 }], past := [], vec := [1, 2, 3], w := 64, base := 0, codes := [],
    gcodes := [], leaves := [], enc := [], granted := 1, slots := [(0, { got := got, fails := [] })], results := [], sent := [(0, 0, 5)],
    acked := 0, grants := [], ready := [], nans := [] }

/-- The module with that collective. -/
def collS (kind : Nat) : State := { runAt 2056 5 0 collL with colls := [collK kind] }

/-- A packet that a link has taken in. -/
def arriving (p : Packet) (s : State) : State := { s with route := { s.route with inbox := [p] } }

/-- A Tally packet of tenant 15 with an operation code. -/
def tallyP (op : Nat) : Packet := pkt [(48, 4, 15), (128, 4, op)]

theorem witness_chunk_stale : ∀ op ∈ [8, 9], admitPacket (arriving (tallyP op) up) (some (0 : LinkId)) (tallyP op) = (up, true) ∧
    collFor up (tallyP op) = none := by decide
theorem witness_chunk_taken : ∀ x ∈ [(8, 2, false), (9, 0, true)],
    admitPacket (arriving (tallyP x.1) (collS x.2.1)) (some (0 : LinkId)) (tallyP x.1) = (collS x.2.1, true) ∧
    collFor (collS x.2.1) (tallyP x.1) = some (collK x.2.1, entryAt 2056 5 0 collL) ∧
    inStage (tallyP x.1) (stageOf (collK x.2.1)) x.2.2 = true ∧ firstIdx (stageOf (collK x.2.1)).members (· == tpRank (tallyP x.1)) < 1 ∧
    (mapFind (collK x.2.1).slots (tpChunk (tallyP x.1))).isSome = true := by decide
theorem witness_chunk_again : mapFind (collK 2 [(0, [])]).slots 0 = some { got := [(0, [])], fails := [] } ∧
    ∃ x ∈ ({ got := [(0, [])], fails := [] } : CSlot).got, x.1 = 0 := ⟨rfl, (0, []), by decide, rfl⟩
theorem witness_answers : ∀ op ∈ [10, 11, 12], admitPacket (collS 2) none (tallyP op) = (collS 2, true) ∧
    pertResponse (collS 2) 8 op (pTenant (tallyP op)) = (false, collS 2) ∧
    collFor (collS 2) (tallyP op) = some (collK 2, entryAt 2056 5 0 collL) ∧
    inStage (tallyP op) (stageOf (collK 2)) ((tallyP op).side == 1) = true ∧
    sentTo (collK 2) (stageOf (collK 2)) (tallyP op) = some (0, 0, 5) := by decide
theorem witness_chunk_resend : collOf (collS 2) ref15 = some (collK 2) ∧ entryOf (collS 2) 2056 ref15 = some (entryAt 2056 5 0 collL) ∧
    (collK 2).sent.find? (fun x => x.1 == firstIdx (stageOf (collK 2)).members (· == 0) && x.2.1 == 0) = some (0, 0, 5) := by decide
theorem witness_partition : Lands up host (tallyPage (1 : FDie).val) Reg.TALLY_PART_BASE (3 : TenantId).val (taken up host (tallyPage 1)) ∧
    (∀ e ∈ queue (taken up host (tallyPage 1)) 2056, e.running = true → e.tenant ≠ 3) ∧
    partitionFits (taken up host (tallyPage 1)) 1 3 0 96 = true ∧
    partitionFits (taken up host (tallyPage 1)) 1 3 1535 96 = false ∧ (1535 : BitVec 11).toNat ≤ 1535 ∧ (96 : BitVec 7).toNat ≤ 96 ∧
    4 ≤ (96 : BitVec 7).toNat :=
  ⟨lands (by decide) (by decide) (by decide), by decide, by decide, by decide, by decide, by decide, by decide⟩
theorem witness_partition_busy : Lands (collS 2) host (tallyPage (1 : FDie).val) Reg.TALLY_PART_BASE (15 : TenantId).val (taken (collS 2) host (tallyPage 1)) ∧
    ∃ e ∈ queue (collS 2) 2056, e.running = true ∧ e.tenant = 15 :=
  ⟨lands (by decide) (by decide) (by decide), entryAt 2056 5 0 collL, by decide, by decide, by decide⟩

-- the Update Engines ----------------------------------------------------------------------------------------------------

/-- A shard of one element in one page of 4,096, its descriptor at 0x1000, with an optimiser block of one segment at 0x4000. -/
def shardS : State := stored [(0x1000, 8, 1), (0x1018, 1, 12), (0x1020, 8, 0x2000), (0x1030, 8, 0x10000), (0x1038, 4, 2), (0x1058, 8, 0x3000),
  (0x1060, 8, 0x8000), (0x1070, 8, 0x4000), (0x4014, 4, 0x100)] up

/-- An Update docket of step 3. -/
def updateL : List (Nat × Nat × Nat × Nat) := [(0x30, 0, 64, 0x1000), (0x38, 0, 24, 3), (0x40, 0, 64, 0x6000), (0x48, 0, 64, 0x5000), (0x50, 0, 25, 1)]

theorem witness_apply : let s := runAt 2049 4 0 updateL shardS
    let e := entryAt 2049 4 0 updateL shardS
    let dr := (e.access s).rdNat (upShard e.dk) 128
    let d := dr.1
    let hr := dr.2.rdNat (sdHyper d) 320
    let st := readTable hr.2 (sdTable d) (sdPages d)
    updateEntry s (1 : CDie).val 0 = some e ∧ entryOf s (2048 + (1 : CDie).val) e.toRef = some e ∧ dr.2.stalled = false ∧ dr.2.faults = [] ∧
      descBad d = false ∧ hyClip hr.1 = false ∧ sdHold d = 0 ∧ sdDelay d < 2 ∧ st.2.stalled = false ∧ st.2.faults = [] ∧ hyperBad hr.1 = false ∧
      freeSlots (sdCount d) (st.1.map ptSlot) ≠ [] ∧
      (List.range (sdPages d)).filter (fun i => !pageDone d (upStep e.dk) i (st.1.getD i 0) 0) ≠ [] := by decide +kernel

/-- The APPLY in progress, its one page to do. -/
def updU : UpdSt :=
  { ref := ref15, desc := memNat shardS 0x1000 128, hyper := memNat shardS 0x4000 320, clip := 0x3F800000 * 2 ^ 32, free := [1], freeAcc := []
    since := 0, failed := none }

/-- Its entry. -/
def applyE : QEntry := { entryAt 2049 4 0 updateL shardS with started := true, todo := [0] }

/-- The module with it. -/
def applyS : State := { queued 2049 [applyE] shardS with upd := [(1, updU)] }

theorem witness_page_commit : mapFind applyS.upd (1 : CDie).val = some updU ∧ entryOf applyS (2048 + (1 : CDie).val) updU.ref = some applyE ∧
    applyE.running = true ∧ applyE.done = false ∧ applyE.cut = false ∧ applyE.todo = 0 :: [] := by decide +kernel
theorem witness_page_commit_reads : let p := pageOut (applyE.access applyS) updU (upStep applyE.dk) 0
    p.x.stalled = false ∧ p.x.faults = [] := by decide +kernel
theorem witness_page_commit_writes : let p := pageOut (applyE.access applyS) updU (upStep applyE.dk) 0
    let x := p.writes.foldl (fun x w => x.wr w.1 w.2) p.x
    x.stalled = false ∧ x.faults = [] := by decide +kernel
/-- The gradient of its page is poisoned. -/
def applyP : State := { applyS with poison := [0x3000 / 64] }

theorem witness_page_commit_fails : mapFind applyP.upd (1 : CDie).val = some updU ∧ entryOf applyP (2048 + (1 : CDie).val) updU.ref = some applyE ∧
    (pageOut (applyE.access applyP) updU (upStep applyE.dk) 0).x.stalled = false ∧
    (pageOut (applyE.access applyP) updU (upStep applyE.dk) 0).x.faults ≠ [] ∧ updU.failed = none := by decide +kernel
theorem witness_norm_partial : let s := runAt 2049 4 1 updateL shardS
    let e := entryAt 2049 4 1 updateL shardS
    let d := memNat s (upShard e.dk) 128
    updateEntry s (1 : CDie).val 1 = some e ∧ entryOf s (2048 + (1 : CDie).val) e.toRef = some e ∧ descBad d = false ∧ Plain s e.tenant.val (upShard e.dk) 128 ∧
      Plain s e.tenant.val (sdGrad d) (4 * sdElements d) ∧ Plain s e.tenant.val (upVec e.dk + 4 * sdLogical d) 4 := by decide +kernel
theorem witness_norm_finish : let s := runAt 2049 4 2 updateL shardS
    let e := entryAt 2049 4 2 updateL shardS
    let d := memNat s (upShard e.dk) 128
    updateEntry s (1 : CDie).val 2 = some e ∧ entryOf s (2048 + (1 : CDie).val) e.toRef = some e ∧ hyperBad (memNat s (sdHyper d) 320) = false ∧
      Plain s e.tenant.val (upShard e.dk) 128 ∧ Plain s e.tenant.val (sdHyper d) 320 ∧ Plain s e.tenant.val (upVec e.dk) (4 * upCount e.dk) ∧
      Plain s e.tenant.val (upClip e.dk) 8 := by decide +kernel

-- the chest -------------------------------------------------------------------------------------------------------------

/-- A list of one FLAT entry at 0x2000 and, for a device number d, one source at 0x3000. -/
def listS (d : Nat) : State := stored [(0x2010, 8, 4), (0x2018, 8, 0x5000), (0x3000, 8, d * 2 ^ 48 + roomBase), (0x3008, 8, d * 2 ^ 48 + roomBase)] (peerS up)

/-- A re-layout docket with its chest on device d. -/
def chestL (d : Nat) : List (Nat × Nat × Nat × Nat) := [(0x30, 0, 64, 0x2000), (0x38, 0, 16, 1), (0x40, 0, 64, d * 2 ^ 48 + roomBase), (0x48, 0, 40, 2 ^ 30),
  (0x60, 0, 64, 0x3000), (0x68, 0, 15, 1)]

theorem witness_chest : ∀ x ∈ [(0, 0), (1, 0), (3, 0), (0, 4), (1, 4), (3, 4)], let s := runAt 2058 8 x.1 (chestL x.2) (listS x.2)
    let e := entryAt 2058 8 x.1 (chestL x.2) (listS x.2)
    let l := if x.1 = 3 then ([], e.access s) else readEntries (e.access s) (chList e.dk) (chEntries e.dk)
    let q := if x.1 = 1 then readEntries l.2 (chSources e.dk) (chNsources e.dk) else ([], l.2)
    chestEntry s x.1 ref15 = some e ∧ jobOf s ref15 = none ∧ chCond e.dk = false ∧ chestPlaceBad e.dk = false ∧ q.2.stalled = false ∧
      q.2.faults = [] ∧ listBad q.2 e.dk l.1 = false ∧ chestRemote s e.dk q.1 = decide (x.2 = 4) ∧ gDev (chChest e.dk) = x.2 ∧
      peerFault s 4 = 0 ∧ (seqFor q.2.s 2058 e).1.isSome = true := by decide +kernel
theorem witness_chest_sources : ∀ x ∈ [(0, none), (1, some (2 ^ 48 + roomBase))], let s := runAt 2058 8 1 (chestL x.1) (listS x.1)
    let e := entryAt 2058 8 1 (chestL x.1) (listS x.1)
    ((readEntries (readEntries (e.access s) (chList e.dk) (chEntries e.dk)).2 (chSources e.dk) (chNsources e.dk)).1.flatMap srcChests).find?
      (fun a => gDev a % 4 != 0) = x.2 := by decide +kernel
theorem witness_chest_place : chestPlaceBad (entryAt 2058 8 0 []).dk = true ∧ chCond (entryAt 2058 8 0 []).dk = false := by decide
theorem witness_chest_skipped : chestEntry (runAt 2058 8 0 [(0x38, 16, 1, 1)]) 0 ref15 = some (entryAt 2058 8 0 [(0x38, 16, 1, 1)]) ∧
    chCond (entryAt 2058 8 0 [(0x38, 16, 1, 1)]).dk = true ∧
    rget (runAt 2058 8 0 [(0x38, 16, 1, 1)]) Reg.CHEST_ACT_REQS = rget (runAt 2058 8 0 [(0x38, 16, 1, 1)]) Reg.CHEST_ACT_DONE := by decide
theorem witness_chest_asked : let s := regs [(Reg.CHEST_ACT_REQS, 0, 0, 1), (Reg.CHEST_ACT_TENANT, 0, 0, 15)] (runAt 2058 8 0 [(0x38, 16, 1, 1)])
    15 = rget s Reg.CHEST_ACT_TENANT ∧ rget s Reg.CHEST_ACT_REQS ≠ rget s Reg.CHEST_ACT_DONE := by decide
theorem witness_chest_request : Lands up host chestPage Reg.CHEST_REQUEST 0 (taken up host chestPage) := lands (by decide) (by decide) (by decide)

/-- A job of a docket that lies on a member of a rank among two, with a chunk to be answered. -/
def jobJ (rank : Nat) (s : State := up) : ChestJob := { newJob s ref15 with members := [0, 4], rank := rank, sent := [(1, 0, 0)], next := 1 }

/-- The module with that job. -/
def jobS (rank : Nat) : State := { runAt 2058 8 2 [] with chest := [jobJ rank] }

theorem witness_chest_goes_on : chestEntry (runAt 2058 8 2 []) 2 ref15 = some (entryAt 2058 8 2 []) ∧ (jobOf (jobS 0) ref15).isSome = true ∧
    ∀ op ∈ [0, 1, 3], chestEntry { runAt 2058 8 op [] with chest := [jobJ 0] } op ref15 = some (entryAt 2058 8 op []) ∧
      (jobOf { runAt 2058 8 op [] with chest := [jobJ 0] } ref15).isSome = true := by decide

/-- A group at 0x1000 of the slots 0 and 1: devices 0 and 4. -/
def pairS : State := stored [(0x1000, 8, 0x010102), (0x1008, 1, 0x10)] (peerS (regs [(Reg.MILL_ENABLE, 0, 3, 1), (Reg.MILL_ENABLE, 1, 3, 1),
  (Reg.MILL_TENANT_MASK, 0, 3, 65535), (Reg.MILL_TENANT_MASK, 1, 3, 65535)] up))

/-- A LOAD with that group and a root. -/
def loadL (root : Nat) : List (Nat × Nat × Nat × Nat) := [(0x3C, 0, 4, 3), (0x40, 0, 64, 0x1000), (0x68, 0, 15, root)]

theorem witness_load : ∀ root ∈ [0, 1], let s := runAt 2058 8 2 (loadL root) pairS
    let e := entryAt 2058 8 2 (loadL root) pairS
    let gr := (e.access s).rdNat (chChest e.dk) 128
    let devs := groupDevs (readGroup gr.1)
    chestEntry s 2 ref15 = some e ∧ jobOf s ref15 = none ∧ gr.2.stalled = false ∧ gr.2.faults = [] ∧ groupBad (readGroup gr.1) = false ∧
      firstIdx devs (· == ownDev s) = 0 ∧ devs = [0, 4] ∧ chNsources e.dk = root ∧ peerFault s 4 = 0 ∧ e.reexec = false ∧
      loadRefused (runAt 2058 8 2 (loadL 0) pairS) (entryAt 2058 8 2 (loadL 0) pairS) = false := by decide +kernel
theorem witness_load_again : chestEntry (queued 2058 [{ entryAt 2058 8 2 (loadL 1) pairS with reexec := true }] pairS) 2 ref15 =
    some { entryAt 2058 8 2 (loadL 1) pairS with reexec := true } := by decide +kernel

/-- A packet of the image, or an answer to one. -/
def imageP (op st : Nat) : Packet := pkt [(16, 16, 4), (48, 4, 15), (128, 4, op), (136, 4, st)]

theorem witness_image : admitPacket (arriving (imageP 13 0) up) (some (0 : LinkId)) (imageP 13 0) = (up, true) ∧ loadFor up (imageP 13 0) = none ∧
    admitPacket (arriving (imageP 13 0) (jobS 1)) (some (0 : LinkId)) (imageP 13 0) = (jobS 1, true) ∧
    loadFor (jobS 1) (imageP 13 0) = some (jobJ 1, entryAt 2058 8 2 []) ∧ (jobJ 1).rank ≠ chNsources (entryAt 2058 8 2 []).dk ∧ pOpc (imageP 13 0) = 13 := by decide
theorem witness_image_ack : ∀ st ∈ [0, 15], admitPacket (jobS 0) none (imageP 14 st) = (jobS 0, true) ∧ pOpc (imageP 14 st) = 14 ∧ pf (imageP 14 st) 136 4 = st ∧
    pertResponse (jobS 0) (8 + pf (imageP 14 st) 192 32 % 2) 14 (pTenant (imageP 14 st)) = (false, jobS 0) ∧
    loadFor (jobS 0) (imageP 14 st) = some (jobJ 0, entryAt 2058 8 2 []) ∧ (jobJ 0).rank = chNsources (entryAt 2058 8 2 []).dk := by decide
theorem witness_chest_resend : jobOf (jobS 0) ref15 = some (jobJ 0) ∧ entryOf (jobS 0) 2058 ref15 = some (entryAt 2058 8 2 []) ∧
    (entryAt 2058 8 2 []).running = true ∧ (entryAt 2058 8 2 []).done = false ∧ (entryAt 2058 8 2 []).cut = false := by decide

-- resets and health -----------------------------------------------------------------------------------------------------

/-- The reset of link 63 asked for. -/
def askS (code i : Nat) : State := regs [(Reg.RESET_REQ_DOMAIN, 0, 0, code), (Reg.RESET_REQ_INDEX, 0, 0, i)] up

/-- A domain in reset since cycle 5. -/
def resetting5 (code i : Nat) : State := { up with resets := { up.resets with active := [(domKey code i, 0, 5)] } }

theorem witness_reset_go : ∀ x ∈ [(5, 63), (8, 0)], Lands (askS x.1 x.2) host resetPage Reg.RESET_REQ_GO 0 (taken (askS x.1 x.2) host resetPage) := by
  intro x hx
  exact lands (by decide) (.inl (by decide)) (by revert x hx; decide)
theorem witness_reset_start : ∀ x ∈ [(0, 2063), (1, 511), (2, 63), (3, 7), (4, 15), (5, 63), (6, 1), (7, 1)], x.2 ≤ maxIndex x.1 ∧ resetting up x.1 x.2 = false := by decide
theorem witness_reset_done : ∀ x ∈ [(0, 2063), (1, 511), (2, 63), (3, 7), (4, 15), (5, 63), (6, 1), (7, 1)], Clocked (resetting5 x.1 x.2) ∧
    (∃ a ∈ (resetting5 x.1 x.2).resets.active, a.1 = domKey x.1 x.2) ∧ drainsIn (resetting5 x.1 x.2) x.1 x.2 = false ∧
    (resetting5 x.1 x.2).resets.active.find? (fun a => a.1 == domKey x.1 x.2) = some (domKey x.1 x.2, 0, 5) := by decide

theorem witness_tenant_reset : ∀ g ∈ [0, 255], Lands (regs [(Reg.TENANT_GEN, 0, 3, g)] up) host tenantPage Reg.TENANT_RESET_CTL_RESET (3 : TenantId).val
    (taken (regs [(Reg.TENANT_GEN, 0, 3, g)] up) host tenantPage) := by
  intro g hg
  exact lands (by decide) (.inl (by decide)) (by revert g hg; decide)
theorem witness_tenant_reset_free : (3 : TenantId).val ∉ (taken up host tenantPage).resets.tenants := by decide
theorem witness_tenant_gen : let y := ((queue ringW 259).map (·.seq.toNat)).foldl (purgeQueue 3) ringW
    rget y Reg.TENANT_GEN 0 3 ≠ 255 ∧ rget (regs [(Reg.TENANT_GEN, 0, 3, 255)] y) Reg.TENANT_GEN 0 3 = 255 := by decide
theorem witness_tenant_reset_done : let s : State := { ringW with resets := { ringW.resets with tenants := [3] } }
    Clocked s ∧ (3 : TenantId).val ∈ s.resets.tenants ∧ (∀ d ∈ s.resets.drains, d.1 ≠ 65536 + 3) ∧ s.queues = [] ∧
      ∀ n, n < 8 → (ringOf s n 3).acc = [] := by decide
theorem witness_drains : let s : State := { up with resets := { up.resets with drains := [(259, 0), (65539, 0)], ownGen := some 7 } }
    s.resets.drains.find? (fun x => x.1 == (259 : QueueId).val) = some (259, 0) ∧ s.resets.ownGen = some 7 ∧ s.route.held = [] := by decide
theorem witness_scores : (([(3, 512), (70, 255)] : SMap Nat).map (·.1)).Nodup ∧
    Clocked { up with health := { up.health with score := [(3, 512), (70, 255)] } } := by decide

-- ill-formed commands ---------------------------------------------------------------------------------------------------

/-- A bus that carries no lock and no other request. -/
def freeCtl : BusCtl := ⟨false, false, 0⟩

/-- A packet with more data than a LEN can say. -/
def longP : Packet := pkt [] (List.replicate 4225 0)

theorem test_ill_formed_transactions : ∀ l ∈ [[], [⟨2, 0, 15⟩], [⟨0, 0, 15⟩, ⟨8, 0, 15⟩], [⟨4092, 0, 15⟩, ⟨4096, 0, 15⟩], [⟨0x4000000, 0, 15⟩]],
    (Instr.registerWrite host l [] freeCtl).wellFormed = false ∧ (Instr.unmappedWrite host l).wellFormed = false := by decide
theorem test_ill_formed_offsets : (Instr.registerWrite host [⟨0, 0, 15⟩] [(2, 0)] freeCtl).wellFormed = false ∧
    (Instr.rcCounterRead host 2 0).wellFormed = false ∧ (Instr.ro64LowWordRead host 0x4000000).wellFormed = false ∧
    (Instr.ctrlLock host 0x4000000).wellFormed = false ∧ (Instr.configurationRequest 2 none).wellFormed = false ∧
    (Instr.patrolScrub (2 ^ 42) .clean true).wellFormed = false := by decide
theorem test_ill_formed_lengths : (Instr.bar4Access (2 ^ 42) none 1).wellFormed = false ∧ (Instr.bar4Access 0 (some [1, 2]) 3).wellFormed = false ∧
    (Instr.train [3, 3] []).wellFormed = false ∧ (Instr.train [] [4, 4]).wellFormed = false ∧
    (Instr.domainResetDone ⟨5, 64⟩ true).wellFormed = false ∧ (Instr.resetBoundExceeded ⟨8, 1⟩).wellFormed = false ∧
    (Instr.pcieLinkChange true 0 0 false).wellFormed = false := by decide
theorem test_ill_formed_packets : (Instr.write none longP).wellFormed = false ∧ (Instr.imageAck longP).wellFormed = false ∧
    (Instr.read none (pkt [] [] 8192)).wellFormed = false := by decide
theorem test_well_formed : (Instr.registerWrite host [⟨0x30, 80, 15⟩, ⟨0x34, 0, 15⟩] [(0x30, 1)] freeCtl).wellFormed = true ∧
    (Instr.bar4Access 0x10000 (some [1, 2]) 2).wellFormed = true ∧ (Instr.domainResetDone ⟨5, 63⟩ true).wellFormed = true := by decide

-- the spec's worked examples --------------------------------------------------------------------------------------------

/-- After R427: the CLERK page of core 389 and the SBUS page. -/
theorem test_pages : (⟨.clerk, 389⟩ : Page).base = 0x0617000 ∧ (⟨.sbus, 0⟩ : Page).base = 0x090B000 ∧
    pageAt 0x0617000 = some ⟨.clerk, 389⟩ := by decide
/-- After R433: UPDATE_SHARE written 80 while HOPPER_SHARE is 25, and the report that CLAMP0 and CLAMP1 then show. -/
theorem test_clamp_report : let s := regs [(Reg.STORC_HOPPER_SHARE, 0, 0, 25)] up
    let p : Page := ⟨.storc, 0⟩
    (match exec (.registerWrite host [⟨p.base + 0x30, 80, 15⟩] [] freeCtl) s with
    | .next t => [rget t Reg.STORC_UPDATE_SHARE, (busRead t (p.base + 0x10) 0).1, (busRead t (p.base + 0x14) 0).1]
    | _ => []) = [50, 0x8CF00030, 0x00320050] := by decide +kernel
/-- After R161: 0x0400_0012_3000 lies in region 0 and on SC3. -/
theorem test_storeroom_map : channelOf 0x040000123000 = 3 ∧ regionOf 0x040000123000 = .room 0 := by decide
/-- After R43: the release stamp across the wrap waits at acceptance and at the wrap, and is met at FT 0x30_17D7_7400. -/
theorem test_release_wrap : let s (ft : W64) : State := { up with time := { up.time with ft := ft } }
    (0x017D7740#32 - stamp (s 0x2FFFFFF000)).toNat = 0x017D7840 ∧ (0x017D7740#32 - stamp (s 0x3000000000)).toNat = 24999744 ∧
      0x017D7740#32 - stamp (s 0x3017D77400) = 0 := by decide
/-- After R83: four participants, headroom 3, anchor 5, and the T64 and T32 words of element 17. -/
theorem test_tally_element : headroom 4 = 3 ∧ anchorOf 2 3 = 5 ∧
    [FVal.fin false 3 0, .fin true 5 (-2), .fin false 1 (-57), .fin false 5 (-56)].map (toTally 64 5) =
      [(0x0180000000000000, false), (-0xA0000000000000, false), (0, true), (2, false)] ∧
    [FVal.fin false 3 0, .fin true 5 (-2), .fin false 1 (-57), .fin false 5 (-56)].map (toTally 32 5) =
      [(25165824, false), (-10485760, false), (0, true), (0, true)] ∧
    [-0xA0000000000000, 0, 2].foldl (tallyAdd 64) 0x0180000000000000 = 0x00E0000000000002 ∧
    encodeFloat 0 false (tallyVal 64 5 0x00E0000000000002) = 0x3FE00000 ∧ encodeFloat 2 false (tallyVal 32 5 0x00E00000) = 0x3FE0 := by decide
/-- R342: SHA-256 of the three bytes "abc" (FIPS 180-4). -/
theorem test_sha256 : sha256 [0x61, 0x62, 0x63] = natLe 0xad1500f261ff10b49c7a1796a36103b02322ae5dde404141eacf018fbf1678ba 32 := by decide +kernel

-- the longest evaluation stands last, so that no other waits for it
theorem witness_lmma_writes :
    (writeAll (latheProduct ((entryOp 0 0 lmmaL).access (runOp 0 0 lmmaL)) (coreBase 64) (entryOp 0 0 lmmaL).dk none).x
      (latheProduct ((entryOp 0 0 lmmaL).access (runOp 0 0 lmmaL)) (coreBase 64) (entryOp 0 0 lmmaL).dk none).outs).stalled = false := by decide +kernel

end Sys2Proof.Tests
end

section
/-! PROOFS. The element formats (R64 to R75): little-endian numbers and their bit fields, packed elements (R73), and the NaN codes
that decoding knows and encoding produces (R67). -/

namespace Sys2Proof.Machine

-- bit fields of a number ----------------------------------------------------------------------------------------------

theorem bitsAt_div_two_pow (x k lo w : Nat) : bitsAt (x / 2 ^ k) lo w = bitsAt x (k + lo) w := by
  simp only [bitsAt, Nat.shiftRight_eq_div_pow, Nat.div_div_eq_div_mul, Nat.pow_add]

/-- A field that lies below bit k does not see what lies above it. -/
theorem bitsAt_mod_two_pow (x : Nat) {k lo w : Nat} (h : lo + w ≤ k) : bitsAt (x % 2 ^ k) lo w = bitsAt x lo w := by
  apply Nat.eq_of_testBit_eq
  intro i
  have hi : i < w → lo + i < k := by omega
  by_cases hw : i < w <;> simp [bitsAt, Nat.testBit_mod_two_pow, Nat.testBit_shiftRight, hw, hi]

/-- A field below bit k of a number that is cut at bit k lies in its low part. -/
theorem bitsAt_add_two_pow_mul (x y : Nat) {k lo w : Nat} (h : lo + w ≤ k) : bitsAt (x + 2 ^ k * y) lo w = bitsAt x lo w := by
  rw [← bitsAt_mod_two_pow _ h, Nat.add_mul_mod_self_left, bitsAt_mod_two_pow x h]

/-- A field from bit k on of a number that is cut at bit k lies in its high part. -/
theorem bitsAt_add_two_pow_mul_high {x k : Nat} (hx : x < 2 ^ k) (y lo w : Nat) : bitsAt (x + 2 ^ k * y) (k + lo) w = bitsAt y lo w := by
  rw [← bitsAt_div_two_pow, Nat.add_mul_div_left _ _ (Nat.two_pow_pos k), Nat.div_eq_of_lt hx, Nat.zero_add]

-- numbers made of fields ----------------------------------------------------------------------------------------------

theorem two_pow_mul_succ (w n : Nat) : 2 ^ (w * (n + 1)) = 2 ^ w * 2 ^ (w * n) := by rw [Nat.mul_succ, Nat.pow_add, Nat.mul_comm]

theorem packNat_append (w : Nat) (a b : List Nat) : packNat w (a ++ b) = packNat w a + 2 ^ (w * a.length) * packNat w b := by
  induction a with
  | nil => simp [packNat]
  | cons x r ih =>
    rw [List.cons_append, packNat, packNat, ih, List.length_cons, two_pow_mul_succ]
    ring

theorem packNat_lt (w : Nat) (l : List Nat) : packNat w l < 2 ^ (w * l.length) := by
  induction l with
  | nil => simp [packNat]
  | cons x r ih =>
    have hx : x % 2 ^ w < 2 ^ w := Nat.mod_lt _ (Nat.two_pow_pos w)
    have hr := Nat.mul_le_mul_left (2 ^ w) (Nat.succ_le_of_lt ih)
    rw [packNat, List.length_cons, two_pow_mul_succ]
    rw [Nat.mul_succ] at hr
    omega

theorem bitsAt_packNat (w : Nat) (l : List Nat) {i : Nat} (h : i < l.length) : bitsAt (packNat w l) (w * i) w = l[i] % 2 ^ w := by
  induction l generalizing i with
  | nil => simp at h
  | cons x r ih =>
    cases i with
    | zero => simp [bitsAt, packNat]
    | succ i =>
      rw [packNat, Nat.mul_succ, Nat.add_comm (w * i), bitsAt_add_two_pow_mul_high (Nat.mod_lt _ (Nat.two_pow_pos w)),
        ih (by simpa using h), List.getElem_cons_succ]

-- little-endian bytes -------------------------------------------------------------------------------------------------

/-- Bytes are fields of eight bits. -/
theorem leNat_eq_packNat (l : List Byte) : leNat l = packNat 8 (l.map BitVec.toNat) := by
  induction l with
  | nil => rfl
  | cons b r ih =>
    rw [leNat, List.map_cons, packNat, ih, Nat.mod_eq_of_lt b.isLt]
    rfl

theorem leNat_append (a b : List Byte) : leNat (a ++ b) = leNat a + 2 ^ (8 * a.length) * leNat b := by
  simp only [leNat_eq_packNat, List.map_append, packNat_append, List.length_map]

theorem leNat_lt (l : List Byte) : leNat l < 2 ^ (8 * l.length) := by
  simpa only [leNat_eq_packNat, List.length_map] using packNat_lt 8 (l.map BitVec.toNat)

@[simp] theorem length_natLe (n k : Nat) : (natLe n k).length = k := by
  induction k generalizing n with
  | zero => rfl
  | succ k ih => simp [natLe, ih]

theorem leNat_natLe {n k : Nat} (h : n < 2 ^ (8 * k)) : leNat (natLe n k) = n := by
  induction k generalizing n with
  | zero =>
    obtain rfl : n = 0 := by simpa using h
    rfl
  | succ k ih =>
    have hp := two_pow_mul_succ 8 k
    rw [natLe, leNat, ih (by omega), BitVec.toNat_ofNat]
    omega

/-- A field of the first k bytes is that field of all the bytes. -/
theorem bitsAt_leNat_take (l : List Byte) {k lo w : Nat} (h : lo + w ≤ 8 * k) :
    bitsAt (leNat (l.take k)) lo w = bitsAt (leNat l) lo w := by
  rcases Nat.le_total l.length k with hk | hk
  · rw [List.take_of_length_le hk]
  · conv_rhs => rw [← List.take_append_drop k l, leNat_append, List.length_take_of_le hk, bitsAt_add_two_pow_mul _ _ h]

/-- A field of the bytes from the k-th on is the field that lies 8k bits higher in all of them. -/
theorem bitsAt_leNat_drop (l : List Byte) (k lo w : Nat) :
    bitsAt (leNat (l.drop k)) lo w = bitsAt (leNat l) (8 * k + lo) w := by
  rcases Nat.le_total l.length k with hk | hk
  · have hlt : leNat l < 2 ^ (8 * k) := (leNat_lt l).trans_le (Nat.pow_le_pow_right (by omega) (by omega))
    rw [List.drop_of_length_le hk, leNat, ← bitsAt_div_two_pow, Nat.div_eq_of_lt hlt]
  · have hlt := leNat_lt (l.take k)
    rw [List.length_take_of_le hk] at hlt
    conv_rhs => rw [← List.take_append_drop k l, leNat_append, List.length_take_of_le hk, bitsAt_add_two_pow_mul_high hlt]

-- packed elements -----------------------------------------------------------------------------------------------------

/-- Up to eight elements lie in the first w bytes. -/
theorem map_bitsAt_take (w : Nat) (l : List Byte) {m : Nat} (hm : m ≤ 8) :
    (List.range m).map (fun i => bitsAt (leNat (l.take w)) (w * i) w) = (List.range m).map (fun i => bitsAt (leNat l) (w * i) w) := by
  refine List.map_congr_left fun i hi => bitsAt_leNat_take l ?_
  have hi8 : i + 1 ≤ 8 := (Nat.succ_le_of_lt (List.mem_range.1 hi)).trans hm
  calc w * i + w = w * (i + 1) := (Nat.mul_succ w i).symm
    _ ≤ w * 8 := Nat.mul_le_mul_left w hi8
    _ = 8 * w := Nat.mul_comm w 8

/-- The groups of eight make no difference: element i of w bits is bits [wi + w - 1 : wi] of the whole little-endian number. -/
theorem unpack_eq_map_bitsAt (w : Nat) (l : List Byte) (n : Nat) :
    unpack w l n = (List.range n).map (fun i => bitsAt (leNat l) (w * i) w) := by
  fun_induction unpack w l n with
  | case1 l N k ih =>
    have hr : List.range (k + 8) = List.range 8 ++ (List.range k).map (8 + ·) := by rw [Nat.add_comm, List.range_add]
    rw [ih, map_bitsAt_take w l le_rfl]
    simp only [Nat.succ_eq_add_one, Nat.add_assoc, Nat.reduceAdd, hr, List.map_append, List.map_map, bitsAt_leNat_drop,
      Function.comp_def, Nat.mul_add, Nat.mul_comm w 8]
  | case2 l N k hk =>
    have hk8 : k ≤ 8 := by
      by_contra hlt
      exact hk (k - 8) (by omega)
    exact map_bitsAt_take w l hk8

theorem getD_unpack (w : Nat) (l : List Byte) {n i : Nat} (h : i < n) : (unpack w l n).getD i 0 = bitsAt (leNat l) (w * i) w := by
  simp [unpack_eq_map_bitsAt, List.getD_eq_getElem?_getD, h]

/-- The bytes of packed elements are the little-endian bytes of the one number that holds them all. -/
theorem leNat_pack (w : Nat) (l : List Nat) : leNat (pack w l) = packNat w l := by
  fun_induction pack w l with
  | case1 a b c d e f g h r ih =>
    have hlt : packNat w [a, b, c, d, e, f, g, h] < 2 ^ (8 * w) := by
      simpa [Nat.mul_comm] using packNat_lt w [a, b, c, d, e, f, g, h]
    rw [leNat_append, leNat_natLe hlt, ih, length_natLe, Nat.mul_comm 8 w]
    exact (packNat_append w [a, b, c, d, e, f, g, h] r).symm
  | case2 l _ => exact leNat_natLe ((packNat_lt w l).trans_le (Nat.pow_le_pow_right (by omega) (by omega)))

theorem unpack_pack (w : Nat) {l : List Nat} (h : ∀ x ∈ l, x < 2 ^ w) : unpack w (pack w l) l.length = l := by
  rw [unpack_eq_map_bitsAt, leNat_pack]
  refine List.ext_getElem (by simp) fun i _ hi => ?_
  rw [List.getElem_map, List.getElem_range, bitsAt_packNat w l hi, Nat.mod_eq_of_lt (h _ (List.getElem_mem hi))]

/-- Settles O31: element i of w bits is field i of the whole little-endian number, and a group of FP6 or a byte of FP4 is a
byte-aligned part of that number. -/
theorem smallElementsArePacked : Obligations.SmallElementsArePacked := by
  refine ⟨fun l n g j hj hn _ => ?_, fun l n b i hi hn hb => ?_, fun w l _ h => unpack_pack w h⟩
  · have hpos : 6 * (4 * g + j) = 8 * (3 * g) + 6 * j := by omega
    rw [getD_unpack 6 l hn, bitsAt_leNat_take _ (by omega), bitsAt_leNat_drop, hpos]
  · have hpos : 4 * (2 * b + i) = 8 * b + 4 * i := by omega
    have hbyte : leNat ((l.drop b).take 1) = (l.getD b 0).toNat := by
      rw [List.drop_eq_getElem_cons hb, List.getD_eq_getElem l 0 hb]
      rfl
    rw [getD_unpack 4 l hn, hpos, ← bitsAt_leNat_drop, ← hbyte, bitsAt_leNat_take _ (by omega)]

-- NaN codes -----------------------------------------------------------------------------------------------------------

/-- What an IEEE-like format reads as NaN: an exponent field of ones with a mantissa that is not 0 or, in a format with a single NaN, with
a mantissa of ones. -/
theorem decodeIeee_eq_nan_iff (f : FloatFmt) (special bits : Nat) :
    decodeIeee f special bits = .nan ↔ bitsAt bits f.mb f.eb = 2 ^ f.eb - 1 ∧
      ((special = 0 ∧ bitsAt bits 0 f.mb ≠ 0) ∨ (special = 1 ∧ bitsAt bits 0 f.mb = 2 ^ f.mb - 1)) := by
  simp only [decodeIeee]
  split_ifs with h0 hm h1 hz
  · simp [h0, hm]
  · simp [h0, hm]
  · simp [h1]
  · exact iff_of_false nofun (by grind)
  · exact iff_of_false nofun (by grind)

/-- Below a sign bit the exponent and mantissa fields are those of the magnitude code. -/
theorem bitsAt_signBit_add (f : FloatFmt) (n : Bool) (c : Nat) {lo w : Nat} (h : lo + w ≤ f.eb + f.mb) :
    bitsAt (signBit f n + c) lo w = bitsAt c lo w := by
  rw [signBit, Nat.add_comm, Nat.mul_comm, bitsAt_add_two_pow_mul c _ h]

/-- The greatest magnitude code of a format below its NaNs: the infinity, or the largest finite code of E4M3, which has none. -/
def greatestCode (fmt : Nat) : Nat := if fmt = 3 then 0x7E else (2 ^ (floatOf fmt).eb - 1) * 2 ^ (floatOf fmt).mb

/-- A conversion produces the canonical NaN or a sign and a magnitude code that is no NaN: rounding past the greatest code is caught as
overflow (R69, R70). -/
theorem encodeFloat_canonNaN_or (fmt : Nat) (sat : Bool) (v : FVal) : encodeFloat fmt sat v = canonNaN fmt ∨
    ∃ n c, c ≤ greatestCode fmt ∧ encodeFloat fmt sat v = signBit (floatOf fmt) n + c := by
  by_cases h3 : fmt = 3
  · subst h3
    cases v with
    | nan | inf n => exact .inl rfl
    | fin n m e =>
      simp only [encodeFloat, if_true]
      split_ifs with hover hsat
      · exact .inr ⟨n, 0x7E, le_rfl, rfl⟩
      · exact .inl rfl
      · exact .inr ⟨n, _, not_lt.1 fun hc => hover (.inl hc), rfl⟩
  · have hg : greatestCode fmt = (2 ^ (floatOf fmt).eb - 1) * 2 ^ (floatOf fmt).mb := if_neg h3
    cases v with
    | nan => exact .inl rfl
    | inf n => exact .inr ⟨n, greatestCode fmt, le_rfl, by rw [hg, encodeFloat, if_neg h3]⟩
    | fin n m e =>
      simp only [encodeFloat, if_neg h3, hg]
      split_ifs with htop hsat
      · exact .inr ⟨n, _, Nat.sub_le _ 1, rfl⟩
      · exact .inr ⟨n, _, le_rfl, rfl⟩
      · exact .inr ⟨n, _, (not_le.1 htop).le, rfl⟩

/-- With an exponent field of ones, only the infinity is not above the infinity's code, and its mantissa is 0. -/
theorem decodeIeee_signBit_add_ne_nan (f : FloatFmt) (n : Bool) {c : Nat} (hc : c ≤ (2 ^ f.eb - 1) * 2 ^ f.mb) :
    decodeIeee f 0 (signBit f n + c) ≠ .nan := by
  rw [Ne, decodeIeee_eq_nan_iff, bitsAt_signBit_add f n c (by omega), bitsAt_signBit_add f n c (by omega)]
  rintro ⟨hexp, ⟨-, hman⟩ | ⟨hspecial, -⟩⟩
  · simp only [bitsAt, Nat.shiftRight_eq_div_pow] at hexp hman
    have hle : 2 ^ f.eb - 1 ≤ c / 2 ^ f.mb := hexp ▸ Nat.mod_le _ _
    have hinf : c = (2 ^ f.eb - 1) * 2 ^ f.mb := hc.antisymm ((Nat.le_div_iff_mul_le (Nat.two_pow_pos _)).1 hle)
    exact hman (by rw [hinf, Nat.pow_zero, Nat.div_one, Nat.mul_mod_left])
  · exact absurd hspecial zero_ne_one

/-- The single NaN of E4M3 is the code of seven ones. -/
theorem decodeIeee_e4m3_signBit_add_ne_nan (n : Bool) {c : Nat} (hc : c ≤ 0x7E) :
    decodeIeee (floatOf 3) 1 (signBit (floatOf 3) n + c) ≠ .nan := by
  rw [Ne, decodeIeee_eq_nan_iff, bitsAt_signBit_add _ n c (by omega), bitsAt_signBit_add _ n c (by omega)]
  rintro ⟨hexp, ⟨hspecial, -⟩ | ⟨-, hman⟩⟩
  · exact absurd hspecial one_ne_zero
  · simp only [bitsAt, floatOf, Nat.shiftRight_eq_div_pow] at hexp hman
    omega

/-- Settles O32: what a conversion produces is the canonical NaN or reads as no NaN; a NaN that came in is decoded to the one NaN value,
and that value absorbs sums and products. -/
theorem nansAreCanonical : Obligations.NansAreCanonical := by
  refine ⟨fun fmt special sat v hf hnan => ?_, fun fmt special sat x _ hnan => by rw [hnan],
    fun v => by cases v <;> exact ⟨rfl, rfl, rfl, rfl⟩⟩
  simp only [List.mem_cons, Prod.mk.injEq, List.not_mem_nil, or_false] at hf
  obtain hcanon | ⟨n, c, hc, henc⟩ := encodeFloat_canonNaN_or fmt sat v
  · rw [hcanon]
    rcases hf with ⟨rfl, -⟩ | ⟨rfl, -⟩ | ⟨rfl, -⟩ | ⟨rfl, -⟩ | ⟨rfl, -⟩ <;> simp [canonNaN]
  · rw [henc] at hnan
    obtain ⟨rfl, rfl⟩ | ⟨h3, rfl⟩ : fmt = 3 ∧ special = 1 ∨ fmt ≠ 3 ∧ special = 0 := by omega
    · exact absurd hnan (decodeIeee_e4m3_signBit_add_ne_nan n hc)
    · exact absurd hnan (decodeIeee_signBit_add_ne_nan _ n (hc.trans_eq (if_neg h3)))

end Sys2Proof.Machine
end

section
/-! PROOFS. The draw of a Hopper (R225): the mixing function of R87 is one to one on 64-bit words, and draw_slot shares the upper words
out evenly over the slots. -/

namespace Sys2Proof.Machine

-- the two rounds of mix ------------------------------------------------------------------------------------------------

theorem xor_shiftRight_lt_two_pow {z n : Nat} (k : Nat) (hz : z < 2 ^ n) : z ^^^ (z >>> k) < 2 ^ n :=
  Nat.xor_lt_two_pow hz (Nat.shiftRight_le z k |>.trans_lt hz)

/-- The difference of two words with one image equals its own shift by k, and only 0 does. -/
theorem xor_shiftRight_injective {k : Nat} (hk : 0 < k) : Function.Injective fun z : Nat => z ^^^ (z >>> k) := by
  intro x y hxy
  have himage : (x ^^^ y) ^^^ ((x ^^^ y) >>> k) = 0 := by
    rw [Nat.shiftRight_xor_distrib, Nat.xor_assoc, Nat.xor_left_comm y, ← Nat.xor_assoc]
    exact Nat.xor_eq_zero_iff.2 hxy
  have hshift : x ^^^ y = (x ^^^ y) / 2 ^ k := by
    rw [← Nat.shiftRight_eq_div_pow]
    exact Nat.xor_eq_zero_iff.1 himage
  by_contra hne
  have hpos : 0 < x ^^^ y := Nat.pos_of_ne_zero fun h0 => hne (Nat.xor_eq_zero_iff.1 h0)
  exact (Nat.div_lt_self hpos (Nat.one_lt_two_pow hk.ne')).ne' hshift

/-- One round of mix, the xor of a word with its shift and then a product with an odd constant, is one to one on n-bit words. -/
theorem xor_shiftRight_mul_mod_inj {n k c x y : Nat} (hk : 0 < k) (hc : Nat.gcd (2 ^ n) c = 1) (hx : x < 2 ^ n) (hy : y < 2 ^ n)
    (h : (x ^^^ (x >>> k)) * c % 2 ^ n = (y ^^^ (y >>> k)) * c % 2 ^ n) : x = y :=
  xor_shiftRight_injective hk <|
    (Nat.ModEq.cancel_right_of_coprime hc h).eq_of_lt_of_lt (xor_shiftRight_lt_two_pow k hx) (xor_shiftRight_lt_two_pow k hy)

theorem mix_lt (z : Nat) : mix z < 2 ^ 64 := xor_shiftRight_lt_two_pow 31 (Nat.mod_lt _ (Nat.two_pow_pos 64))

theorem mix_inj_of_lt {x y : Nat} (hx : x < 2 ^ 64) (hy : y < 2 ^ 64) (h : mix x = mix y) : x = y := by
  have hmod (a : Nat) : a % 2 ^ 64 < 2 ^ 64 := Nat.mod_lt a (Nat.two_pow_pos 64)
  have hsecond := xor_shiftRight_injective (by decide) h
  have hfirst := xor_shiftRight_mul_mod_inj (by decide) (by norm_num) (hmod _) (hmod _) hsecond
  have hword := xor_shiftRight_mul_mod_inj (by decide) (by norm_num) (hmod x) (hmod y) hfirst
  rwa [Nat.mod_eq_of_lt hx, Nat.mod_eq_of_lt hy] at hword

-- how many upper words take one slot -----------------------------------------------------------------------------------

theorem ceilDiv_le_iff {w : Nat} (hw : 0 < w) (a x : Nat) : ceilDiv a w ≤ x ↔ a ≤ x * w := by
  rw [mul_comm]
  exact ceilDiv_le_iff_le_smul (α := ℕ) (β := ℕ) hw

/-- The least multiple of w that is not below a lies less than w above a. -/
theorem ceilDiv_mul_bounds {w : Nat} (hw : 0 < w) (a : Nat) : a ≤ ceilDiv a w * w ∧ ceilDiv a w * w < a + w := by
  have h := Nat.div_mul_le_self (a + w - 1) w
  exact ⟨(ceilDiv_le_iff hw a _).1 le_rfl, by unfold ceilDiv; omega⟩

/-- The upper words that draw_slot scales to one slot are consecutive: from the first x with slot * m ≤ x * w to the first that reaches the
next slot. -/
theorem countP_mul_div_eq {m w slot : Nat} (hm : 0 < m) (hw : 0 < w) (hslot : slot < w) :
    (List.range m).countP (fun x => x * w / m == slot) = ceilDiv ((slot + 1) * m) w - ceilDiv (slot * m) w := by
  have hend : ceilDiv ((slot + 1) * m) w ≤ m :=
    (ceilDiv_le_iff hw _ m).2 (by rw [mul_comm m w]; exact Nat.mul_le_mul_right m hslot)
  have hfilter : (Finset.range m).filter (fun x => x * w / m = slot) =
      Finset.Ico (ceilDiv (slot * m) w) (ceilDiv ((slot + 1) * m) w) := by
    ext x
    have hlow := ceilDiv_le_iff hw (slot * m) x
    have hhigh := (ceilDiv_le_iff hw ((slot + 1) * m) x).not
    have hquot : x * w / m = slot ↔ slot * m ≤ x * w ∧ x * w < (slot + 1) * m := by
      rw [Nat.div_eq_iff hm, Nat.add_one_mul]
      omega
    simp only [Finset.mem_filter, Finset.mem_range, Finset.mem_Ico, hquot]
    omega
  calc (List.range m).countP (fun x => x * w / m == slot)
      = Nat.count (fun x => x * w / m = slot) m := rfl
    _ = ((Finset.range m).filter (fun x => x * w / m = slot)).card := Nat.count_eq_card_filter_range _ m
    _ = _ := by rw [hfilter, Nat.card_Ico]

/-- The count of a slot differs from m / w by less than one. -/
theorem countP_mul_div_near {m w slot : Nat} (hm : 0 < m) (hw : 0 < w) (hslot : slot < w) :
    let n := (List.range m).countP (fun x => x * w / m == slot)
    n * w < m + w ∧ m < n * w + w := by
  obtain ⟨hlow, hlow'⟩ := ceilDiv_mul_bounds hw (slot * m)
  obtain ⟨hhigh, hhigh'⟩ := ceilDiv_mul_bounds hw ((slot + 1) * m)
  have hnext := Nat.add_one_mul slot m
  simp only [countP_mul_div_eq hm hw hslot, Nat.sub_mul]
  omega

-- draw_slot -------------------------------------------------------------------------------------------------------------

/-- The upper word of a mixed word has 32 bits. -/
theorem mix_upper_lt (z : Nat) : mix z / 2 ^ 32 < 2 ^ 32 := by
  have h := mix_lt z
  omega

theorem drawSlot_lt {w : Nat} (hw : 0 < w) (seed j : Nat) : drawSlot seed w j < w :=
  Nat.div_lt_of_lt_mul (Nat.mul_lt_mul_of_pos_right (mix_upper_lt _) hw)

/-- The product of an upper word and W fits 64 bits, so arithmetic modulo 2^64 (R225) takes nothing from it. -/
theorem drawSlot_eq_shiftRight {w : Nat} (hw : w < 2 ^ 32) (seed j : Nat) : drawSlot seed w j =
    (((mix ((seed + (j + 1) * 0x9E3779B97F4A7C15) % 2 ^ 64) >>> 32) * w) % 2 ^ 64) >>> 32 := by
  have hfits : mix ((seed + (j + 1) * 0x9E3779B97F4A7C15) % 2 ^ 64) / 2 ^ 32 * w < 2 ^ 64 :=
    (Nat.mul_lt_mul'' (mix_upper_lt _) hw).trans_eq (by decide)
  rw [Nat.shiftRight_eq_div_pow, Nat.shiftRight_eq_div_pow, Nat.mod_eq_of_lt hfits, drawSlot]

/-- Settles O49: mix is a chain of one-to-one rounds, and the upper words of one slot are an interval between two multiples of 2^32 / W. -/
theorem drawSlotsAreEven : Obligations.DrawSlotsAreEven := by
  refine ⟨fun seed w j hpos hw => ⟨drawSlot_eq_shiftRight hw seed j, drawSlot_lt hpos seed j⟩, fun s t h g j hseed hW => ?_,
    fun x y hx hy => mix_inj_of_lt hx hy, mix_lt, fun w slot hpos _ hslot => countP_mul_div_near (Nat.two_pow_pos 32) hpos hslot⟩
  rw [hopDrawSlot, hopDrawSlot, hseed, hW]

end Sys2Proof.Machine
end

section
/-! PROOFS. A freeze (R396): the work of a stopped clock has no effect, and a tick moves Fabric Time only. -/

namespace Sys2Proof.Machine

theorem bootStep_of_frozen {s : State} (h : frozen s = true) (n : Nat) (k : State → State) : bootStep s n k = s := by
  simp [bootStep, h]

theorem takeTimeWord_of_frozen {s : State} (h : frozen s = true) (l : LinkId) (v : W64) : takeTimeWord s l v = s := by
  simp [takeTimeWord, h]

/-- Work of a stopped clock has no effect in a freeze (R396). -/
theorem exec_clockWork_of_frozen {s : State} (h : frozen s = true) {c : Instr} (hc : clockWork c = true) : exec c s = .next s := by
  have hlive (k : State → State) : live s k = s := live_of_stopped (.inl h) k
  have hboot (n : Nat) (k : State → State) : bootStep s n k = s := bootStep_of_frozen h n k
  cases c with
  | rom | flash | verify | powerUp | selftest | train | publish => exact congrArg Host.Outcome.next (hboot _ _)
  | timeWordReceived => exact congrArg Host.Outcome.next (takeTimeWord_of_frozen h _ _)
  | ledgerDrain => simp [exec, execLedgerDrain, mayDrain, h]
  | packageReset => simp [exec, execPackageReset, h]
  | freezeTaken => simp [exec, execFreezeTaken, h]
  | holdoverTimeout => simp [exec, execHoldoverTimeout, h]
  | tokenRefill => simp [exec, execTokenRefill, h]
  | summaryIntervalEnd => simp [exec, execSummaryIntervalEnd, h]
  | dieTemperatureReport => simp [exec, execDieTemperatureReport, h]
  | meterWindowEnd => simp [exec, execMeterWindowEnd, h]
  | ftsyncEdge => simp [exec, execFtsyncEdge, h]
  | ftsyncMissed => simp [exec, execFtsyncMissed, h]
  | ptpSync => simp [exec, execPtpSync, h]
  | retrain l by' =>
    cases by' with
    | none => exact congrArg Host.Outcome.next (hlive _)
    | some w => exact absurd hc Bool.false_ne_true
  | tailWrite | compHeadWrite | ringEnableWrite | hopperEnableWrite | linkEnableWrite | fencedSelfClear | peerDataWrite | groupIndex
  | groupIndexLoad | ownGenWrite | tallyPartitionWrite | chestRequest | resetReqGo | tenantReset | aoTailWrite | capTailWrite
  | refillUsWrite | depthWrite | summaryMsWrite | arm | resume | freezeReset | chainSelWrite | debugEnWrite | domainOnWrite
  | cclkMhzWrite | gateReqWrite | sourceSelWrite | roleWrite | sourceWrite | set | reboot | svnCommit | keyRevoke | flashRead
  | flashProgram | flashEraseSector | registerWrite | unmappedWrite | rcCounterRead | nowLoRead | drawnLoRead | ro64LowWordRead
  | ctrlLock | ownershipWrite | setOwnershipWrite | powerInputInRange | powerInputOutOfRange | perstNAssert | perstNRelease
  | trstNAssert | thermNAssert | thermNRelease | pllRelockDone | ptpSyncLoss | flashOpDone | freezeNAssert | freezeNRelease
  | resumeReached | readoutDataRead | storeDataRead | smbusStatusRead | smbusPosIdRead | smbusSerialRead | smbusSetOffset
  | smbusReadWord | smbusWriteWord | smbusNotReachableRead | smbusWake | smbusReboot | smbusFlashAddr | smbusFlashRead
  | smbusFlashProgram | smbusFlashErase | smbusFlashStatus | smbusTimeout | alertResponse => exact absurd hc Bool.false_ne_true
  | _ => exact congrArg Host.Outcome.next (hlive _)

/-- In a freeze only Fabric Time passes (R396). -/
theorem tick_of_frozen {s : State} (h : frozen s = true) : tick s = { s with time := ftAfter s 1 } := by
  have hadv : advance s 1 = { s with time := ftAfter s 1 } := by rw [advance, if_pos h]
  have hfroz : frozen { s with time := ftAfter s 1 } = true := h
  simp only [tick, hadv, hfroz, if_true]

/-- Settles O2: a frozen module's step is a tick of Fabric Time or a command of a stopped clock, which has no effect. -/
theorem frozenModuleHoldsItsState : Obligations.FrozenModuleHoldsItsState := by
  intro q s t ⟨hfroz, hposted, hwork, hheld⟩ hstep
  cases hp : s.pending with
  | nil =>
    simp only [step, hp, tick_of_frozen hfroz, Host.Outcome.next.injEq] at hstep
    subst hstep
    exact ⟨hfroz, hposted, fun c hc => absurd hc List.not_mem_nil, hheld⟩
  | cons c rest =>
    rw [hp] at hwork
    have hexec : exec c { s with pending := rest } = .next { s with pending := rest } :=
      exec_clockWork_of_frozen (s := { s with pending := rest }) hfroz (hwork c List.mem_cons_self)
    simp only [step, hp, hexec, Host.Outcome.next.injEq] at hstep
    subst hstep
    exact ⟨hfroz, hposted, fun d hd => hwork d (List.mem_cons_of_mem c hd), hheld⟩

end Sys2Proof.Machine
end

section
/-! PROOFS. Register writes of a field's own command: each passes the checks of its page (R396, R429, R431), and one that fails
them is discarded and reported (R433). -/

namespace Sys2Proof.Machine

/-- A command that writes one field does so through the checks of its page. -/
theorem exec_fieldWrite {c : Instr} {w : Writer} {p : Page} {f : Fld} {idx v : Nat} (h : fieldWrite c = some (w, p, f, idx, v))
    (s : State) : ∃ k, exec c s = .next (gated s w p f idx v k) := by
  cases c with
  | tailWrite way | compHeadWrite way =>
    cases way with
    | dock => cases h; exact ⟨_, rfl⟩
    | bar2 => exact absurd h (Option.some_ne_none _).symm
  | retrain l by' =>
    cases by' with
    | some => cases h; exact ⟨_, rfl⟩
    | none => exact absurd h (Option.some_ne_none _).symm
  | reboot | svnCommit | keyRevoke | chestRequest | roleWrite | sourceWrite | set | sourceSelWrite | gateReqWrite
  | tallyPartitionWrite | flashRead | flashProgram | flashEraseSector | arm | resume | freezeReset | chainSelWrite | debugEnWrite
  | hopperEnableWrite | aoTailWrite | capTailWrite | refillUsWrite | depthWrite | summaryMsWrite | linkEnableWrite | domainOnWrite
  | cclkMhzWrite | resetReqGo | tenantReset | ringEnableWrite | fencedSelfClear | peerDataWrite | groupIndex | groupIndexLoad
  | ownGenWrite => cases h; exact ⟨_, rfl⟩
  | _ => exact absurd h (Option.some_ne_none _).symm

/-- A write that its writer may not make is reported with KIND 1. -/
theorem gated_of_not_permitted {s : State} {w : Writer} {p : Page} {f : Fld} {idx : Nat} (h : permitted f idx w = false) (v : Nat)
    (k : State → State) : gated s w p f idx v k = reportFld (taken s w p) p w f idx 1 v (rget s f p.inst idx) := by
  simp [gated, taken, h]

/-- A write that a freeze keeps out is reported with KIND 2. -/
theorem gated_of_frozen {s : State} {w : Writer} {p : Page} {f : Fld} {idx : Nat} (hperm : permitted f idx w = true)
    (hexpert : f.off < 0x800 ∨ rget s Reg.HDR_EXPERT_EN p.num ≠ 0) (hfroz : frozen s = true) (hao : p.ao = false) (v : Nat)
    (k : State → State) : gated s w p f idx v k = reportFld s p w f idx 2 v (rget s f p.inst idx) := by
  have hopen : (decide (f.off ≥ 0x800) && rget s Reg.HDR_EXPERT_EN p.num == 0) = false := by
    rcases hexpert with h | h <;> simp [h]
  simp [gated, hperm, hfroz, hao, hopen]

/-- Settles O3: every command that writes a field of its own goes through its page's checks, and these report what they discard. -/
theorem discardedWritesAreReported : Obligations.DiscardedWritesAreReported := by
  refine ⟨fun s c w p f idx v hc hperm => ?_, fun s c w p f idx v hc hperm hexpert hfroz hao => ?_⟩
  · obtain ⟨k, hk⟩ := exec_fieldWrite hc s
    rw [hk, gated_of_not_permitted hperm]
  · obtain ⟨k, hk⟩ := exec_fieldWrite hc s
    rw [hk, gated_of_frozen hperm hexpert hfroz hao]

end Sys2Proof.Machine
end

section
/-! PROOFS. The register file (R427): what a change of some fields leaves as it was. -/

namespace Sys2Proof.Machine

/-- The register file of t differs from that of s in first entries of the fields of l only. -/
def RegsKept (l : List Fld) (s t : State) : Prop :=
  ∀ k, (∀ f ∈ l, ∀ i < 16384, k ≠ regKey f i 0) → mapFind t.regs k = mapFind s.regs k

theorem RegsKept.refl (l : List Fld) (s : State) : RegsKept l s s := fun _ _ => rfl

theorem RegsKept.of_eq (l : List Fld) {s t : State} (h : t.regs = s.regs) : RegsKept l s t := fun k _ => congrArg (mapFind · k) h

theorem RegsKept.trans {l : List Fld} {s t u : State} (h : RegsKept l s t) (g : RegsKept l t u) : RegsKept l s u :=
  fun k hk => (g k hk).trans (h k hk)

theorem RegsKept.mono {l m : List Fld} {s t : State} (h : RegsKept l s t) (hl : l ⊆ m) : RegsKept m s t :=
  fun k hk => h k fun f hf => hk f (hl hf)

theorem regsKept_rset {l : List Fld} {f : Fld} (hf : f ∈ l) {i : Nat} (hi : i < 16384) (s : State) (v : Nat) :
    RegsKept l s (rset s f i 0 v) := fun _ hk => mapFind_mapSet_ne s.regs _ (hk f hf i hi)

/-- A counter that advances is one write of its field. -/
theorem rinc_eq_rset (s : State) (f : Fld) (i j n : Nat) : ∃ v, rinc s f i j n = rset s f i j v := by
  unfold rinc
  dsimp only
  split
  · exact ⟨_, rfl⟩
  · split <;> exact ⟨_, rfl⟩

/-- A field outside l reads as before. -/
theorem RegsKept.rget {l : List Fld} {s t : State} (h : RegsKept l s t) {f : Fld} {i j : Nat} (hf : f.code ∉ l.map (·.code))
    (hi : i < 16384) (hj : j < 1024) : Machine.rget t f i j = Machine.rget s f i j := by
  simp only [Machine.rget, mapGet]
  rw [h]
  intro g hg a ha hkey
  exact hf (List.mem_map.mpr ⟨g, hg, (regKey_inj hi ha hj (by decide) hkey).1.symm⟩)

theorem Noted.regsKept {s t : State} (h : Noted s t) : RegsKept noteFields s t :=
  fun k hk => h.2 k fun f hf => hk f hf 0 (by decide)

-- one field --------------------------------------------------------------------------------------------------------------

/-- Two fields of different codes do not share a place. -/
theorem regKey_ne_of_code {f g : Fld} (h : f.code ≠ g.code) {i j a b : Nat} (hi : i < 16384) (hj : j < 16384) (ha : a < 1024)
    (hb : b < 1024) : regKey f i a ≠ regKey g j b := fun hkey => h (regKey_inj hi hj ha hb hkey).1

theorem rget_rset_of_code (s : State) {f g : Fld} (h : g.code ≠ f.code) {i j a b : Nat} (hi : i < 16384) (hj : j < 1024)
    (ha : a < 16384) (hb : b < 1024) (v : Nat) : rget (rset s f i j v) g a b = rget s g a b :=
  rget_rset_ne s f g i j a b v (regKey_ne_of_code h ha hi hb hj)

theorem onlyField_rset (s : State) (f : Fld) (i j v : Nat) : OnlyField s (rset s f i j v) f i j :=
  fun _ hk => mapFind_mapSet_ne s.regs _ hk

theorem OnlyField.trans {s t u : State} {f : Fld} {i j : Nat} (h : OnlyField s t f i j) (g : OnlyField t u f i j) :
    OnlyField s u f i j := fun k hk => (g k hk).trans (h k hk)

theorem OnlyField.of_eq {s t : State} (h : t.regs = s.regs) (f : Fld) (i j : Nat) : OnlyField s t f i j :=
  fun k _ => congrArg (mapFind · k) h

end Sys2Proof.Machine
end

section
/-! PROOFS. One step of the module (R39, R61), and health scores (R376 to R378): all that a change of a score can do. -/

namespace Sys2Proof.Machine

-- the step ------------------------------------------------------------------------------------------------------------

/-- With no write to acknowledge or to land, a tick only lets time pass. -/
theorem tick_of_quiet {s : State} (hq : s.sbus.crossQ = []) (hc : s.sbus.crossing = []) (hp : s.sbus.posted = []) :
    tick s = advance s 1 := by
  have hsbus : (advance s 1).sbus = s.sbus := by rw [(waited_advance [] s 1).1]
  have hself : { advance s 1 with sbus := { s.sbus with crossing := [], crossQ := [], posted := [] } } = advance s 1 := by
    rw [← hq, ← hc, ← hp, ← hsbus]
  have hkeep : drainPosted (ackCrossing (advance s 1)) = advance s 1 := by
    simp only [drainPosted, ackCrossing, hsbus, hq, hp, List.foldl_nil]
    exact hself
  simp only [tick, hkeep, ite_self]

/-- Settles O1: the two equations of step. -/
theorem stepRunsFrontCommand : Obligations.StepRunsFrontCommand :=
  ⟨fun _ _ _ h => by simp only [step, h], fun _ h => by simp only [step, h]⟩

/-- Settles O4: each part of the reset state, and its step, which is a tick with no write under way. -/
theorem resetLeavesNothingRunning : Obligations.ResetLeavesNothingRunning := by
  refine ⟨rfl, rfl, reset_mem_wf, rfl, rfl, rfl, rfl, rfl, rfl, rfl, rfl, fun l => ⟨rfl, rfl⟩, fun n t => ⟨rfl, rfl⟩, ?_⟩
  have hstep : step State.reset = .next (tick State.reset) := stepRunsFrontCommand.2 State.reset rfl
  rw [hstep, tick_of_quiet rfl rfl rfl]

-- health scores -------------------------------------------------------------------------------------------------------

/-- The fields that a change of a score writes. -/
def healthFields : List Fld := [Reg.HEALTH_WARN_PARTS, Reg.HEALTH_ACT_PARTS, Reg.CHEST_ACT_REQS] ++ noteFields

/-- t differs from s in the flags of HEALTH, their fields, records, messages and ALERT_N only. -/
structure Flagged (s t : State) : Prop where
  form : t = { s with
    regs := t.regs, ledger := t.ledger, out := t.out, health := t.health, pins := { s.pins with acked := t.pins.acked } }
  regs : RegsKept healthFields s t
  score : t.health.score = s.health.score
  decayAt : t.health.decayAt = s.health.decayAt

theorem Flagged.refl (s : State) : Flagged s s := ⟨rfl, RegsKept.refl _ s, rfl, rfl⟩

theorem Flagged.trans {s t u : State} (h : Flagged s t) (g : Flagged t u) : Flagged s u := by
  refine ⟨?_, h.regs.trans g.regs, g.score.trans h.score, g.decayAt.trans h.decayAt⟩
  rw [g.form, h.form]

theorem Noted.flagged {s t : State} (h : Noted s t) : Flagged s t := by
  have hhealth : t.health = s.health := by rw [h.1]
  refine ⟨?_, h.regsKept.mono (List.subset_append_right _ _), by rw [hhealth], by rw [hhealth]⟩
  rw [h.1]

theorem flagged_rset (s : State) {f : Fld} (hf : f ∈ healthFields) (v : Nat) : Flagged s (rset s f 0 0 v) :=
  ⟨rfl, regsKept_rset hf (by decide) s v, rfl, rfl⟩

theorem flagged_rinc (s : State) {f : Fld} (hf : f ∈ healthFields) (n : Nat) : Flagged s (rinc s f 0 0 n) := by
  obtain ⟨v, hv⟩ := rinc_eq_rset s f 0 0 n
  rw [hv]
  exact flagged_rset s hf v

/-- The flags themselves. -/
theorem flagged_health (s : State) {h : HealthSt} (hs : h.score = s.health.score) (hd : h.decayAt = s.health.decayAt) :
    Flagged s { s with health := h } := ⟨rfl, RegsKept.of_eq _ rfl, hs, hd⟩

theorem flagged_healthWarn (s : State) (part : Nat) : Flagged s (healthWarn s part) := by
  unfold healthWarn
  dsimp only
  split
  · refine (flagged_health s (h := { s.health with warn := part :: s.health.warn }) rfl rfl).trans ?_
    exact (noted_raise _ _).flagged.trans ((noted_msix _ _).flagged.trans (noted_alert _ _).flagged)
  · exact Flagged.refl s

theorem flagged_healthAct (s : State) (part : Nat) : Flagged s (healthAct s part) := by
  unfold healthAct
  dsimp only
  split
  · refine (flagged_health s (h := { s.health with act := part :: s.health.act }) rfl rfl).trans ?_
    exact (noted_raise _ _).flagged.trans ((noted_msix _ _).flagged.trans (flagged_rinc _ (by decide) 1))
  · exact Flagged.refl s

theorem flagged_healthClear (s : State) (part : Nat) : Flagged s (healthClear s part) := flagged_health s rfl rfl

/-- All that a change of a score does besides the score. -/
theorem flagged_setScore (s : State) (part v : Nat) :
    Flagged { s with health := { s.health with score := mapSet s.health.score part v } } (setScore s part v) :=
  (flagged_healthWarn _ part).trans ((flagged_healthAct _ part).trans ((flagged_healthClear _ part).trans
    ((flagged_rset _ (by decide) _).trans (flagged_rset _ (by decide) _))))

@[simp] theorem setScore_score (s : State) (part v : Nat) :
    (setScore s part v).health.score = mapSet s.health.score part v := (flagged_setScore s part v).score

@[simp] theorem setScore_decayAt (s : State) (part v : Nat) : (setScore s part v).health.decayAt = s.health.decayAt :=
  (flagged_setScore s part v).decayAt

@[simp] theorem setScore_mem (s : State) (part v : Nat) : (setScore s part v).mem = s.mem := by rw [(flagged_setScore s part v).form]
@[simp] theorem setScore_queues (s : State) (part v : Nat) : (setScore s part v).queues = s.queues := by
  rw [(flagged_setScore s part v).form]

-- the decay -----------------------------------------------------------------------------------------------------------

/-- The scores after the decay of the parts of l. -/
def decayScores (l : List (Nat × Nat)) (m : SMap Nat) : SMap Nat := l.foldl (fun m e => mapSet m e.1 (e.2 - e.2 / 256)) m

/-- The decay of the parts of l changes their scores, and no memory, no queue and no instant of decay. -/
theorem decay_parts (l : List (Nat × Nat)) (s : State) :
    let t := l.foldl (fun s e => setScore s e.1 (e.2 - e.2 / 256)) s
    t.health.score = decayScores l s.health.score ∧ t.mem = s.mem ∧ t.queues = s.queues ∧ t.health.decayAt = s.health.decayAt := by
  induction l generalizing s with
  | nil => exact ⟨rfl, rfl, rfl, rfl⟩
  | cons e l ih => simpa [decayScores] using ih (setScore s e.1 (e.2 - e.2 / 256))

theorem mapGet_decayScores_of_not_mem {l : List (Nat × Nat)} {k : Nat} (h : k ∉ l.map (·.1)) (m : SMap Nat) :
    mapGet (decayScores l m) k 0 = mapGet m k 0 := by
  induction l generalizing m with
  | nil => rfl
  | cons e l ih =>
    rw [List.map_cons, List.mem_cons, not_or] at h
    exact (ih h.2 _).trans (mapGet_mapSet_ne m _ 0 h.1)

/-- Where no part stands twice, each loses 1/256 of its score. -/
theorem mapGet_decayScores {l : List (Nat × Nat)} (h : (l.map (·.1)).Nodup) (m : SMap Nat) :
    ∀ e ∈ l, mapGet (decayScores l m) e.1 0 = e.2 - e.2 / 256 := by
  induction l generalizing m with
  | nil => exact fun e he => absurd he List.not_mem_nil
  | cons d l ih =>
    rw [List.map_cons, List.nodup_cons] at h
    rintro e (_ | ⟨_, he⟩)
    · exact (mapGet_decayScores_of_not_mem h.1 _).trans (mapGet_mapSet_same ..)
    · exact ih h.2 _ e he

/-- The state at the end of a decay period, the next one begun. -/
def decayDue (s : State) : State :=
  { advanceTo s s.health.decayAt with
    health := { s.health with decayAt := s.health.decayAt + 1000000 * rget s Reg.HEALTH_DECAY_MS } }

/-- Settles O60: the decay waits for its instant and then sets one score after another. -/
theorem healthScoresDecay : Obligations.HealthScoresDecay := by
  intro s hclk hnodup
  have hwait : Waited [] s (advanceTo s s.health.decayAt) := waited_advanceTo [] s _
  have hscore : (advanceTo s s.health.decayAt).health = s.health := by rw [hwait.1]
  have hms : rget (advanceTo s s.health.decayAt) Reg.HEALTH_DECAY_MS = rget s Reg.HEALTH_DECAY_MS := hwait.rget _ _ _ (by simp)
  have hrun : exec .healthDecay s = .next (s.health.score.foldl (fun s e => setScore s e.1 (e.2 - e.2 / 256)) (decayDue s)) := by
    simp only [exec, execHealthDecay, live_of_clocked hclk, hscore, hms, decayDue]
  obtain ⟨hsc, hmem, hqueues, hat⟩ := decay_parts s.health.score (decayDue s)
  refine ⟨_, hrun, fun e he => ?_, hmem.trans hwait.mem, hqueues, hat⟩
  rw [hsc]
  exact mapGet_decayScores hnodup _ e he

end Sys2Proof.Machine
end

section
/-! PROOFS. Numbers made of fields of different widths: the completion record (R137) and the packet header (R251). -/

namespace Sys2Proof.Machine

-- numbers made of fields ----------------------------------------------------------------------------------------------

/-- The number whose fields, lowest first, have these widths and values. -/
def fieldsNat (l : List (Nat × Nat)) : Nat :=
  match l with
  | [] => 0
  | f :: r => f.2 + 2 ^ f.1 * fieldsNat r

/-- The widths of the fields together. -/
def fieldsWidth (l : List (Nat × Nat)) : Nat := (l.map (·.1)).sum

/-- Every value fits its field. -/
def FieldsFit (l : List (Nat × Nat)) : Prop := ∀ f ∈ l, f.2 < 2 ^ f.1

theorem fieldsNat_lt {l : List (Nat × Nat)} (h : FieldsFit l) : fieldsNat l < 2 ^ fieldsWidth l := by
  induction l with
  | nil => exact Nat.one_pos
  | cons f r ih =>
    have hf : f.2 < 2 ^ f.1 := h f List.mem_cons_self
    have hr := Nat.mul_le_mul_left (2 ^ f.1) (Nat.succ_le_of_lt (ih fun g hg => h g (List.mem_cons_of_mem f hg)))
    rw [Nat.mul_succ] at hr
    have hpow : 2 ^ fieldsWidth (f :: r) = 2 ^ f.1 * 2 ^ fieldsWidth r := by simp [fieldsWidth, Nat.pow_add]
    rw [fieldsNat, hpow]
    omega

/-- The fields from place lo on: place, width and value. -/
def placed (lo : Nat) (l : List (Nat × Nat)) : List (Nat × Nat × Nat) :=
  match l with
  | [] => []
  | f :: r => (lo, f.1, f.2) :: placed (lo + f.1) r

/-- Each field reads back from its place. -/
theorem bitsAt_placed {l : List (Nat × Nat)} (h : FieldsFit l) {lo x : Nat} (hx : x < 2 ^ lo) :
    ∀ f ∈ placed lo l, bitsAt (x + 2 ^ lo * fieldsNat l) f.1 f.2.1 = f.2.2 := by
  induction l generalizing lo x with
  | nil => exact fun f hf => absurd hf List.not_mem_nil
  | cons g r ih =>
    have hg : g.2 < 2 ^ g.1 := h g List.mem_cons_self
    rintro f (_ | ⟨_, hf⟩)
    · have hplace := bitsAt_add_two_pow_mul_high hx (g.2 + 2 ^ g.1 * fieldsNat r) 0 g.1
      rw [Nat.add_zero] at hplace
      rw [fieldsNat, hplace, bitsAt_add_two_pow_mul _ _ (Nat.le_of_eq (Nat.zero_add _))]
      simp [bitsAt, Nat.mod_eq_of_lt hg]
    · have hlow : x + 2 ^ lo * g.2 < 2 ^ (lo + g.1) := by
        have hle := Nat.mul_le_mul_left (2 ^ lo) (Nat.succ_le_of_lt hg)
        rw [Nat.mul_succ, ← Nat.pow_add] at hle
        omega
      have hsplit : x + 2 ^ lo * fieldsNat (g :: r) = x + 2 ^ lo * g.2 + 2 ^ (lo + g.1) * fieldsNat r := by
        rw [fieldsNat, Nat.pow_add]
        ring
      rw [hsplit]
      exact ih (fun k hk => h k (List.mem_cons_of_mem g hk)) hlow f hf

/-- The same for the number of the fields alone. -/
theorem bitsAt_fieldsNat {l : List (Nat × Nat)} (h : FieldsFit l) : ∀ f ∈ placed 0 l, bitsAt (fieldsNat l) f.1 f.2.1 = f.2.2 := by
  simpa using bitsAt_placed h (x := 0) (lo := 0) Nat.one_pos

theorem bitsAt_lt (x lo w : Nat) : bitsAt x lo w < 2 ^ w := Nat.mod_lt _ (Nat.two_pow_pos w)

theorem b2n_lt_two (b : Bool) : b2n b < 2 := by cases b <;> decide

-- completion records (R137) -------------------------------------------------------------------------------------------

/-- The fields of a completion record. -/
def recordFields (e : QEntry) (status : Nat) (fin' : W32) (digest : Nat) : List (Nat × Nat) :=
  [(32, e.seq.toNat), (8, status), (4, dkEngine e.dk), (4, dkTenant e.dk), (6, dkCore e.dk), (1, b2n e.late), (1, b2n e.clamped),
    (1, b2n e.reexec), (7, b2n e.carry), (32, dkTag e.dk), (32, fin'.toNat), (32, min e.nonfinite (2 ^ 32 - 1)),
    (32, min e.flushed (2 ^ 32 - 1)), (64, digest % 2 ^ 64)]

theorem recordFields_fit (e : QEntry) {status : Nat} (fin' : W32) (digest : Nat) (h : status < 256) :
    FieldsFit (recordFields e status fin' digest) := by
  have hlate := b2n_lt_two e.late
  have hclamped := b2n_lt_two e.clamped
  have hreexec := b2n_lt_two e.reexec
  have hcarry := b2n_lt_two e.carry
  simp only [FieldsFit, recordFields, List.forall_mem_cons, List.not_mem_nil, false_implies, implies_true, and_true]
  refine ⟨e.seq.isLt, h, bitsAt_lt .., bitsAt_lt .., bitsAt_lt .., hlate, hclamped, hreexec, by omega, bitsAt_lt .., fin'.isLt,
    by omega, by omega, by omega⟩

theorem recordOf_eq (e : QEntry) (status : Nat) (fin' : W32) (digest : Nat) :
    recordOf e status fin' digest = BitVec.ofNat 256 (fieldsNat (recordFields e status fin' digest)) := by
  simp only [recordOf, recordFields, fieldsNat]
  exact congrArg (BitVec.ofNat 256) (by ring)

/-- A record is the number of its fields. -/
theorem recordOf_toNat (e : QEntry) {status : Nat} (fin' : W32) (digest : Nat) (h : status < 256) :
    (recordOf e status fin' digest).toNat = fieldsNat (recordFields e status fin' digest) := by
  have hlt := fieldsNat_lt (recordFields_fit e fin' digest h)
  have hwidth : fieldsWidth (recordFields e status fin' digest) = 256 := by simp [fieldsWidth, recordFields]
  rw [hwidth] at hlt
  rw [recordOf_eq, BitVec.toNat_ofNat, Nat.mod_eq_of_lt hlt]

/-- Settles O24: a record is the number of its fields, and each field reads back from its place. -/
theorem recordFieldsReadBack : Obligations.RecordFieldsReadBack := by
  intro e status digest fin' h
  have hread := bitsAt_fieldsNat (recordFields_fit e fin' digest h)
  rw [← recordOf_toNat e fin' digest h] at hread
  simp only [recordFields, placed, List.forall_mem_cons, Nat.reduceAdd] at hread
  obtain ⟨hseq, hstatus, hengine, htenant, hcore, hlate, -, -, -, htag, hfin, -, -, hdigest, -⟩ := hread
  exact ⟨hseq, hstatus, hengine, htenant, hcore, hlate, htag, hfin, hdigest⟩

-- packet headers (R251) -----------------------------------------------------------------------------------------------

/-- The fields of the header of a new packet: LAYER and HOPS are 0. -/
def headerFields (s : State) (dst dgen tenant : Nat) (mcast : Bool) (cls flow op : Nat) (data : List Byte) : List (Nat × Nat) :=
  [(16, dst % 2 ^ 16), (16, rget s Reg.ROUTE_OWN_DEV), (8, dgen % 256), (8, rget s Reg.ROUTE_OWN_GEN), (4, tenant), (1, b2n mcast),
    (2, cls), (1, 0), (3, 0), (5, 0), (8, ceilDiv data.length 32), (8, 0), (16, flow % 2 ^ 16), (32, 0), (4, op % 16),
    (124, op % 2 ^ 128 / 16)]

theorem headerFields_fit {s : State} {tenant cls : Nat} {data : List Byte} (ht : tenant < 16) (hc : cls < 4) (hd : data.length ≤ 4096)
    (hdev : rget s Reg.ROUTE_OWN_DEV < 2 ^ 16) (hgen : rget s Reg.ROUTE_OWN_GEN < 256) (dst dgen flow op : Nat) (mcast : Bool) :
    FieldsFit (headerFields s dst dgen tenant mcast cls flow op data) := by
  have hlen : ceilDiv data.length 32 < 2 ^ 8 := by
    rw [ceilDiv]
    omega
  simp only [FieldsFit, headerFields, List.forall_mem_cons, List.not_mem_nil, false_implies, implies_true, and_true]
  exact ⟨by omega, hdev, by omega, hgen, ht, b2n_lt_two mcast, hc, by decide, by decide, by decide, hlen, by decide, by omega, by decide,
    by omega, by omega⟩

theorem mkPacket_hdr_eq (s : State) (dst dgen tenant : Nat) (mcast : Bool) (cls flow op : Nat) (data : List Byte) :
    (mkPacket s dst dgen tenant mcast cls flow op data).hdr =
      BitVec.ofNat 256 (fieldsNat (headerFields s dst dgen tenant mcast cls flow op data)) := by
  have hop : op % 2 ^ 128 = op % 16 + 16 * (op % 2 ^ 128 / 16) := by omega
  simp only [mkPacket, headerFields, fieldsNat]
  exact congrArg (BitVec.ofNat 256) (by conv_lhs => rw [hop]
                                        ring)

/-- A new packet's header is the number of its fields. -/
theorem mkPacket_hdr {s : State} {tenant cls : Nat} {data : List Byte} (ht : tenant < 16) (hc : cls < 4) (hd : data.length ≤ 4096)
    (hdev : rget s Reg.ROUTE_OWN_DEV < 2 ^ 16) (hgen : rget s Reg.ROUTE_OWN_GEN < 256) (dst dgen flow op : Nat) (mcast : Bool) :
    (mkPacket s dst dgen tenant mcast cls flow op data).hdr.toNat = fieldsNat (headerFields s dst dgen tenant mcast cls flow op data) := by
  have hlt := fieldsNat_lt (headerFields_fit ht hc hd hdev hgen dst dgen flow op mcast)
  have hwidth : fieldsWidth (headerFields s dst dgen tenant mcast cls flow op data) = 256 := by simp [fieldsWidth, headerFields]
  rw [hwidth] at hlt
  rw [mkPacket_hdr_eq, BitVec.toNat_ofNat, Nat.mod_eq_of_lt hlt]

/-- Settles O41: the header of a new packet is the number of its fields, and each field reads back from its place. -/
theorem packetHeaderFields : Obligations.PacketHeaderFields := by
  intro s dst dgen tenant cls flow op mcast data ht hc hd hdev hgen p
  have hread := bitsAt_fieldsNat (headerFields_fit ht hc hd hdev hgen dst dgen flow op mcast)
  rw [← mkPacket_hdr ht hc hd hdev hgen dst dgen flow op mcast] at hread
  simp only [headerFields, placed, List.forall_mem_cons, Nat.reduceAdd] at hread
  obtain ⟨hdst, hsrc, hdgen, hsgen, htenant, hmc, hcls, hlayer, hhops, -, hlen, -, hflow, -, hopc, -⟩ := hread
  have hmcast : (b2n mcast == 1) = mcast := by cases mcast <;> rfl
  exact ⟨hdst, hsrc, hdgen, hsgen, htenant, (congrArg (· == 1) hmc).trans hmcast, hcls, hlayer, hhops, hlen, hflow, hopc⟩

end Sys2Proof.Machine
end

section
/-! PROOFS. Sums of tally words (R78, R81, R82): what a sum of bounded words is, whatever their order. -/

namespace Sys2Proof.Machine

-- codes of a tally word -----------------------------------------------------------------------------------------------

/-- A word that an addition can meet after the bound of R81: a special code, or a finite word of magnitude b at most. -/
def BoundedWord (w b : Nat) (q : Int) : Prop := q = nanCode w ∨ q = posInf w ∨ q = negInf w ∨ q.natAbs ≤ b

/-- The special codes are three, and none has a magnitude that the headroom leaves to sums. -/
theorem special_codes {w : Nat} (hw : w = 32 ∨ w = 64) :
    nanCode w ≠ posInf w ∧ nanCode w ≠ negInf w ∧ posInf w ≠ negInf w ∧
      2 ^ fracBits w < (nanCode w).natAbs ∧ 2 ^ fracBits w < (posInf w).natAbs ∧ 2 ^ fracBits w < (negInf w).natAbs := by
  rcases hw with rfl | rfl <;> decide

theorem finiteCode_of_natAbs_le {w : Nat} (hw : w = 32 ∨ w = 64) {q : Int} (h : q.natAbs ≤ 2 ^ fracBits w) : finiteCode w q = true := by
  rcases hw with rfl | rfl <;> simp only [finiteCode, fracBits] at h ⊢ <;> norm_num at h ⊢ <;> omega

/-- The bound of R81 leaves a bounded word. -/
theorem boundedWord_boundWord {w h : Nat} {q : Int} (hlo : -(2 ^ (w - 1)) ≤ q) (hhi : q < 2 ^ (w - 1)) :
    BoundedWord w (2 ^ (fracBits w + 1 - h)) (boundWord w h q).1 := by
  unfold boundWord
  split
  · exact .inl rfl
  · rename_i hbound
    by_cases hfin : finiteCode w q = true
    · exact .inr (.inr (.inr (Nat.le_of_not_lt fun hlt => hbound ⟨hfin, hlt⟩)))
    · simp only [finiteCode, decide_eq_true_eq] at hfin
      simp only [BoundedWord, nanCode, posInf, negInf]
      omega

-- additions -----------------------------------------------------------------------------------------------------------

theorem tallyAdd_nan_left (w : Nat) (b : Int) : tallyAdd w (nanCode w) b = nanCode w := by simp [tallyAdd]
theorem tallyAdd_nan_right (w : Nat) (a : Int) : tallyAdd w a (nanCode w) = nanCode w := by simp [tallyAdd]

/-- A word that the headroom leaves to sums is no special code. -/
theorem not_special_of_natAbs_le {w : Nat} (hw : w = 32 ∨ w = 64) {q : Int} (h : q.natAbs ≤ 2 ^ fracBits w) :
    q ≠ nanCode w ∧ q ≠ posInf w ∧ q ≠ negInf w := by
  obtain ⟨-, -, -, hnan, hpos, hneg⟩ := special_codes hw
  exact ⟨by rintro rfl; omega, by rintro rfl; omega, by rintro rfl; omega⟩

/-- Finite words whose sum the headroom holds add as numbers. -/
theorem tallyAdd_finite {w : Nat} (hw : w = 32 ∨ w = 64) {a b : Int} (h : a.natAbs + b.natAbs ≤ 2 ^ fracBits w) :
    tallyAdd w a b = a + b := by
  obtain ⟨ha, ha', ha''⟩ := not_special_of_natAbs_le hw (q := a) (by omega)
  obtain ⟨hb, hb', hb''⟩ := not_special_of_natAbs_le hw (q := b) (by omega)
  have hsum : finiteCode w (a + b) = true := finiteCode_of_natAbs_le hw (by omega)
  simp [tallyAdd, ha, ha', ha'', hb, hb', hb'', orNan, hsum]

-- the sum of a list ---------------------------------------------------------------------------------------------------

/-- The sum of bounded words as R81 gives it, with no order: NaN where one is NaN or both infinities are there, else the infinity that is
there, else the sum of the numbers. -/
def unorderedSum (w : Nat) (l : List Int) : Int :=
  if nanCode w ∈ l ∨ (posInf w ∈ l ∧ negInf w ∈ l) then nanCode w
  else if posInf w ∈ l then posInf w
  else if negInf w ∈ l then negInf w
  else l.sum

theorem unorderedSum_perm {w : Nat} {l r : List Int} (h : l.Perm r) : unorderedSum w l = unorderedSum w r := by
  simp only [unorderedSum, h.mem_iff, h.sum_eq]

theorem natAbs_sum_le {b : Nat} {l : List Int} (h : ∀ q ∈ l, q.natAbs ≤ b) : l.sum.natAbs ≤ l.length * b := by
  induction l with
  | nil => simp
  | cons q l ih =>
    have hq := h q List.mem_cons_self
    have hl := ih fun x hx => h x (List.mem_cons_of_mem q hx)
    have htri := Int.natAbs_add_le q l.sum
    rw [List.sum_cons, List.length_cons, Nat.succ_mul]
    omega

/-- One word more. -/
theorem tallyAdd_unorderedSum {w b : Nat} (hw : w = 32 ∨ w = 64) {l : List Int} {q : Int} (hl : ∀ x ∈ l, BoundedWord w b x)
    (hq : BoundedWord w b q) (hroom : (l.length + 1) * b ≤ 2 ^ fracBits w) :
    tallyAdd w (unorderedSum w l) q = unorderedSum w (l ++ [q]) := by
  obtain ⟨hnp, hnn, hpn, -⟩ := special_codes hw
  have hb : b ≤ 2 ^ fracBits w := le_trans (Nat.le_mul_of_pos_left b (Nat.succ_pos _)) hroom
  by_cases hnan : nanCode w ∈ l ∨ (posInf w ∈ l ∧ negInf w ∈ l)
  · have hstay : nanCode w ∈ l ++ [q] ∨ (posInf w ∈ l ++ [q] ∧ negInf w ∈ l ++ [q]) := by
      simp only [List.mem_append]
      tauto
    rw [unorderedSum, if_pos hnan, unorderedSum, if_pos hstay, tallyAdd_nan_left]
  · obtain ⟨hno, hnoth⟩ := not_or.mp hnan
    have hfinite {x : Int} (hx : x.natAbs ≤ b) := not_special_of_natAbs_le hw (hx.trans hb)
    by_cases hp : posInf w ∈ l
    · have hn : negInf w ∉ l := fun hn => hnoth ⟨hp, hn⟩
      rcases hq with rfl | rfl | rfl | hq
      · simp [unorderedSum, tallyAdd_nan_right]
      · simp [unorderedSum, tallyAdd, hno, hp, hn, hnp, hpn, hnp.symm, hpn.symm]
      · simp [unorderedSum, tallyAdd, hno, hp, hn]
      · obtain ⟨hqn, hqp, hqm⟩ := hfinite hq
        simp [unorderedSum, tallyAdd, hno, hp, hn, hpn, hnp.symm, hqn, hqm, hqn.symm, hqm.symm]
    · by_cases hn : negInf w ∈ l
      · rcases hq with rfl | rfl | rfl | hq
        · simp [unorderedSum, tallyAdd_nan_right]
        · simp [unorderedSum, tallyAdd, hno, hp, hn]
        · simp [unorderedSum, tallyAdd, hno, hp, hn, hnn, hpn, hnn.symm, hpn.symm]
        · obtain ⟨hqn, hqp, hqm⟩ := hfinite hq
          simp [unorderedSum, tallyAdd, hno, hp, hn, hpn.symm, hnn.symm, hqn, hqp, hqn.symm, hqp.symm]
      · have hfin : ∀ x ∈ l, x.natAbs ≤ b := by
          intro x hx
          rcases hl x hx with rfl | rfl | rfl | h
          exacts [absurd hx hno, absurd hx hp, absurd hx hn, h]
        have hsum := natAbs_sum_le hfin
        rw [Nat.succ_mul] at hroom
        obtain ⟨hsn, hsp, hsm⟩ := not_special_of_natAbs_le hw (q := l.sum) (by omega)
        rcases hq with rfl | rfl | rfl | hq
        · simp [unorderedSum, tallyAdd_nan_right]
        · simp [unorderedSum, tallyAdd, hno, hp, hn, hsn, hsp, hsm, hnp, hpn.symm, hnp.symm]
        · simp [unorderedSum, tallyAdd, hno, hp, hn, hsn, hsp, hsm, hnn, hpn, hnn.symm]
        · obtain ⟨hqn, hqp, hqm⟩ := hfinite hq
          have hadd := tallyAdd_finite hw (a := l.sum) (b := q) (by omega)
          simp [unorderedSum, hno, hp, hn, hadd, hqn.symm, hqp.symm, hqm.symm]

/-- A sum taken word by word is the sum with no order. -/
theorem foldl_tallyAdd {w b : Nat} (hw : w = 32 ∨ w = 64) {l : List Int} (hl : ∀ x ∈ l, BoundedWord w b x)
    (hroom : l.length * b ≤ 2 ^ fracBits w) : l.foldl (tallyAdd w) 0 = unorderedSum w l := by
  induction l using List.reverseRecOn with
  | nil => simp [unorderedSum]
  | append_singleton l q ih =>
    rw [List.length_append, List.length_singleton] at hroom
    have hfirst := ih (fun x hx => hl x (List.mem_append_left _ hx)) (le_trans (Nat.mul_le_mul_right b (Nat.le_succ _)) hroom)
    rw [List.foldl_append, hfirst]
    exact tallyAdd_unorderedSum hw (fun x hx => hl x (List.mem_append_left _ hx)) (hl q (by simp)) hroom

/-- Settles O33: every running sum is the sum with no order of the words so far, since the headroom holds them all. -/
theorem tallySumsInAnyOrder : Obligations.TallySumsInAnyOrder := by
  intro w h xs ys hw hone hfrac hlen hrange hperm
  have hbounded : ∀ x ∈ xs.map (fun q => (boundWord w h q).1), BoundedWord w (2 ^ (fracBits w + 1 - h)) x := by
    intro x hx
    obtain ⟨q, hq, rfl⟩ := List.mem_map.mp hx
    exact boundedWord_boundWord (hrange q hq).1 (hrange q hq).2
  have hmap := hperm.map fun q => (boundWord w h q).1
  have hroom : (xs.map fun q => (boundWord w h q).1).length * 2 ^ (fracBits w + 1 - h) ≤ 2 ^ fracBits w := by
    rw [List.length_map]
    calc xs.length * 2 ^ (fracBits w + 1 - h) ≤ 2 ^ (h - 1) * 2 ^ (fracBits w + 1 - h) := Nat.mul_le_mul_right _ hlen
      _ = 2 ^ fracBits w := by rw [← Nat.pow_add]; congr 1; omega
  rw [← List.foldl_map (f := fun q => (boundWord w h q).1) (g := tallyAdd w),
    ← List.foldl_map (f := fun q => (boundWord w h q).1) (g := tallyAdd w), foldl_tallyAdd hw hbounded hroom,
    foldl_tallyAdd hw (fun x hx => hbounded x (hmap.mem_iff.mpr hx)) (hmap.length_eq ▸ hroom), unorderedSum_perm hmap]

end Sys2Proof.Machine
end

section
/-! PROOFS. The credits of a link (R249): the shares and the pool depend on the registers alone, and a transmitter's counts move by the
units sent and returned. -/

namespace Sys2Proof.Machine

@[simp] theorem linkOf_setLink (s : State) (l : Nat) (k : LinkSt) : linkOf (setLink s l k) l = k := mapGet_mapSet_same ..

theorem linkOf_setLink_ne (s : State) {l m : Nat} (k : LinkSt) (h : m ≠ l) : linkOf (setLink s l k) m = linkOf s m :=
  mapGet_mapSet_ne _ _ _ h

@[simp] theorem rget_setLink (s : State) (l : Nat) (k : LinkSt) (f : Fld) (i j : Nat) : rget (setLink s l k) f i j = rget s f i j := rfl

/-- The credits of a virtual channel on a link whose counts are those of k. -/
theorem credits_setLink (s : State) (l v : Nat) (k : LinkSt) :
    credits (setLink s l k) l v = (vcShare s l v - mapGet k.used v 0) + (poolSize s l - k.pool) := by
  rw [credits, linkOf_setLink]
  rfl

/-- Settles O44: units are taken from and given back to the reserved share first, then the pool. -/
theorem creditsAreSpentAndReturned : Obligations.CreditsAreSpentAndReturned := by
  refine fun s l v n => ⟨fun hn => ?_, fun k hk hused hpool hn => ?_⟩
  · rw [credits] at hn
    rw [takeCredits, credits_setLink, credits]
    simp only [mapUpd, mapGet_mapSet_same]
    omega
  · subst hk
    rw [giveCredits, credits_setLink, credits]
    simp only [mapUpd, mapGet_mapSet_same]
    omega

end Sys2Proof.Machine
end

section
/-! PROOFS. All that an access to memory can do (R92 to R95, R164 to R168, R170, R282, R399): it moves bytes and poison, finds errors,
counts, records and charges what it meets, and waits for a refresh; nothing else changes. -/

namespace Sys2Proof.Machine

-- the address map -----------------------------------------------------------------------------------------------------

/-- The numbers of a part that the address map names. -/
def Region.InMap (r : Region) : Prop :=
  match r with
  | .near g => g < 128
  | .way c w => c < 64 ∧ w < 16
  | .seg k g => k < 512 ∧ g < 16
  | .room n => n < 2048
  | .reg | .hole => True

theorem regionOf_inMap (a : Nat) : (regionOf a).InMap := by
  unfold regionOf
  repeat' split
  all_goals simp only [Region.InMap, regBase, roomBase] at *
  all_goals omega

theorem channelOf_lt (a : Nat) : channelOf a < 32 := Nat.mod_lt _ (by decide)

/-- The pages that count faults are few, and each lies on a die with a PERTURB page. -/
theorem faultPage_bounds (a : Nat) : (faultPage a).inst < 64 ∧ (faultPage a).die < 12 := by
  have hmap := regionOf_inMap a
  have hroom : channelDie (channelOf a) < 2 := by
    have := channelOf_lt a
    simp only [channelDie]
    omega
  unfold faultPage
  cases h : regionOf a <;> simp only [h, Region.InMap] at hmap <;> simp only [Page.die] <;> omega

theorem faultPage_inst_lt (a : Nat) : (faultPage a).inst < 16384 := (faultPage_bounds a).1.trans (by decide)

-- the frame -----------------------------------------------------------------------------------------------------------

/-- The fields that an access to memory can write. -/
def accessFields : List Fld :=
  [Reg.HBMC_UE_COUNT, Reg.CSTORE_UE_COUNT, Reg.STORC_UE_COUNT, Reg.HBMC_OWNER_FAULTS, Reg.CSTORE_OWNER_FAULTS,
    Reg.STORC_OWNER_FAULTS, Reg.HBMC_POISON_ADDR_LO, Reg.HBMC_POISON_ADDR_HI, Reg.STORC_POISON_ADDR_LO, Reg.STORC_POISON_ADDR_HI,
    Reg.HBMC_CE_COUNT_LO, Reg.HBMC_CE_COUNT_HI, Reg.CSTORE_CE_COUNT, Reg.STORC_CE_COUNT, Reg.MSF_INVAL_LINES, Reg.PERTURB_EVENTS,
    Reg.HBMC_REFRESH_WAITS, Reg.STORC_REFRESH_WAITS] ++ healthFields

/-- The queues without their run timers. -/
def untimed (m : SMap (List QEntry)) : SMap (List QEntry) := m.map fun q => (q.1, q.2.map fun e => { e with ran := 0 })

/-- t differs from s in what an access to memory can change only. -/
structure Accessed (s t : State) : Prop where
  form : t = { s with
    regs := t.regs, ledger := t.ledger, out := t.out, health := t.health, pins := { s.pins with acked := t.pins.acked }, free := t.free
    poison := t.poison, fills := { s.fills with flaws := t.fills.flaws }, time := t.time, queues := t.queues, perturb := t.perturb
    msf := { s.msf with cache := t.msf.cache, dir := t.msf.dir }, mem := t.mem }
  regs : RegsKept accessFields s t
  queues : untimed t.queues = untimed s.queues

/-- The same, with no byte stored. -/
structure Served (s t : State) : Prop extends Accessed s t where
  mem : t.mem = s.mem

theorem Accessed.refl (s : State) : Accessed s s := ⟨rfl, RegsKept.refl _ s, rfl⟩

theorem Accessed.trans {s t u : State} (h : Accessed s t) (g : Accessed t u) : Accessed s u := by
  refine ⟨?_, h.regs.trans g.regs, g.queues.trans h.queues⟩
  rw [g.form, h.form]

theorem Served.refl (s : State) : Served s s := ⟨Accessed.refl s, rfl⟩

theorem Served.trans {s t u : State} (h : Served s t) (g : Served t u) : Served s u :=
  ⟨h.toAccessed.trans g.toAccessed, g.mem.trans h.mem⟩

theorem Flagged.served {s t : State} (h : Flagged s t) : Served s t := by
  refine ⟨⟨?_, h.regs.mono (List.subset_append_right _ _), ?_⟩, ?_⟩ <;> rw [h.form]

theorem Noted.served {s t : State} (h : Noted s t) : Served s t := h.flagged.served

theorem served_rset (s : State) {f : Fld} (hf : f ∈ accessFields) {i : Nat} (hi : i < 16384) (v : Nat) :
    Served s (rset s f i 0 v) := ⟨⟨rfl, regsKept_rset hf hi s v, rfl⟩, rfl⟩

theorem served_rset64 (s : State) {lo hi : Fld} (hlo : lo ∈ accessFields) (hhi : hi ∈ accessFields) {i : Nat} (h : i < 16384) (v : Nat) :
    Served s (rset64 s lo hi i 0 v) := (served_rset s hlo h _).trans (served_rset _ hhi h _)

theorem served_rinc (s : State) {f : Fld} (hf : f ∈ accessFields) {i : Nat} (hi : i < 16384) (n : Nat) :
    Served s (rinc s f i 0 n) := by
  obtain ⟨v, hv⟩ := rinc_eq_rset s f i 0 n
  rw [hv]
  exact served_rset s hf hi v

-- errors and counts ---------------------------------------------------------------------------------------------------

theorem served_score (s : State) (part v : Nat) :
    Served s { s with health := { s.health with score := mapSet s.health.score part v } } := ⟨⟨rfl, RegsKept.of_eq _ rfl, rfl⟩, rfl⟩

theorem served_charge (s : State) (e part : Nat) : Served s (charge s e part) :=
  (served_score s part _).trans (flagged_setScore s part (min (mapGet s.health.score part 0 + rget s Reg.HEALTH_WEIGHT 0 e) 16383)).served

theorem ueField_mem (b : Blk) : ueField b ∈ accessFields := by cases b <;> decide
theorem ofField_mem (b : Blk) : ofField b ∈ accessFields := by cases b <;> decide

theorem served_poison (s : State) (l : List Nat) : Served s { s with poison := l } := ⟨⟨rfl, RegsKept.of_eq _ rfl, rfl⟩, rfl⟩

/-- All that follows when a line becomes poisoned. -/
theorem served_poisonLine (s : State) (line : Nat) : Served s (poisonLine s line) := by
  have hi := faultPage_inst_lt (64 * line)
  unfold poisonLine
  dsimp only
  refine Served.trans ?_ ((noted_raise _ _).served.trans (served_charge _ 1 _))
  refine Served.trans ((served_poison s (addOnce s.poison line)).trans
    (served_rinc _ (ueField_mem (faultPage (64 * line)).blk) hi 1)) ?_
  split
  · exact served_rset64 _ (by decide) (by decide) hi _
  · exact served_rset64 _ (by decide) (by decide) hi _
  · exact Served.refl _

theorem served_correctedLine (s : State) (line : Nat) : Served s (correctedLine s line) := by
  have hi := faultPage_inst_lt (64 * line)
  unfold correctedLine
  dsimp only
  refine (served_rinc _ ?_ hi 1).trans (served_charge _ 0 _)
  split
  · split <;> decide
  · decide
  · decide

theorem served_setFlaw (s : State) (line k : Nat) : Served s (setFlaw s line k) := ⟨⟨rfl, RegsKept.of_eq _ rfl, rfl⟩, rfl⟩

theorem served_readLine (s : State) (line : Nat) : Served s (readLine s line) := by
  unfold readLine
  split
  · exact Served.refl s
  · split
    · exact (served_setFlaw s line 0).trans (served_correctedLine _ line)
    · exact (served_setFlaw s line 0).trans (served_poisonLine _ line)

theorem served_readLines (s : State) (l : List Nat) : Served s (readLines s l) := by
  induction l generalizing s with
  | nil => exact Served.refl s
  | cons line l ih => exact (served_readLine s line).trans (ih _)

theorem served_pertEvent (s : State) {d : Nat} (hd : d < 16384) (ctl every count : Nat) : Served s (pertEvent s d ctl every count).2 := by
  have hcount (m : SMap PertCnt) : Served s { s with perturb := m } := ⟨⟨rfl, RegsKept.of_eq _ rfl, rfl⟩, rfl⟩
  unfold pertEvent
  dsimp only
  split
  · exact (hcount _).trans (served_rinc _ (f := Reg.PERTURB_EVENTS) (by decide) hd 1)
  · exact hcount _

theorem served_pertCheck (s : State) {d : Nat} (hd : d < 16384) (k unit : Nat) : Served s (pertCheck s d k unit).2 := by
  unfold pertCheck
  split
  · exact served_pertEvent s hd _ _ _
  · exact Served.refl s

theorem served_provokeEcc (s : State) (line : Nat) : Served s (provokeEcc s line) := by
  have hd : (faultPage (64 * line)).die < 16384 := (faultPage_bounds (64 * line)).2.trans (by decide)
  have hstep (u : State) (k flaw unit : Nat) : Served u
      (if (pertCheck u (faultPage (64 * line)).die k unit).1 = true
        then setFlaw (pertCheck u (faultPage (64 * line)).die k unit).2 line flaw
        else (pertCheck u (faultPage (64 * line)).die k unit).2) := by
    have hcheck := served_pertCheck u hd k unit
    split
    · exact hcheck.trans (served_setFlaw _ line flaw)
    · exact hcheck
  exact (hstep s 7 1 _).trans (hstep _ 8 2 _)

theorem served_invalControl (s : State) (line : Nat) : Served s (invalControl s line) := by
  unfold invalControl
  split
  · exact Served.refl s
  · have hdrop (cache : SMap CacheLine) (dir : SMap Byte) : Served s { s with msf := { s.msf with cache := cache, dir := dir } } :=
      ⟨⟨rfl, RegsKept.of_eq _ rfl, rfl⟩, rfl⟩
    exact (hdrop _ _).trans (served_rinc _ (f := Reg.MSF_INVAL_LINES) (by decide) (i := 0) (by decide) _)

-- time ----------------------------------------------------------------------------------------------------------------

theorem untimed_runTimers (s : State) (n : Nat) : untimed (runTimers s n).queues = untimed s.queues := by
  simp only [untimed, runTimers, List.map_map]
  refine List.map_congr_left fun q _ => ?_
  simp only [Function.comp, List.map_map, Prod.mk.injEq, true_and]
  refine List.map_congr_left fun e _ => ?_
  simp only [Function.comp]
  split <;> rfl

theorem served_advance (s : State) (n : Nat) : Served s (advance s n) := by
  unfold advance
  split
  · exact ⟨⟨rfl, RegsKept.of_eq _ rfl, rfl⟩, rfl⟩
  · exact ⟨⟨rfl, RegsKept.of_eq _ rfl, untimed_runTimers _ n⟩, rfl⟩

theorem served_advanceTo (s : State) (c : Nat) : Served s (advanceTo s c) := by
  unfold advanceTo
  split
  · exact served_advance s _
  · exact Served.refl s

theorem served_awaitRefresh (s : State) (l : List Nat) : Served s (awaitRefresh s l) := by
  have hcount (due : List RefreshUnit) (t : State) :
      Served t (due.foldl (fun s u => let p := refreshPage s u; rinc s p.2.1 p.1.inst) t) := by
    induction due generalizing t with
    | nil => exact Served.refl t
    | cons u due ih =>
      refine Served.trans ?_ (ih _)
      cases u with
      | set g => exact served_rinc t (f := Reg.HBMC_REFRESH_WAITS) (by decide) (i := g.val / 16) (by omega) 1
      | channel k => exact served_rinc t (f := Reg.STORC_REFRESH_WAITS) (by decide) (i := k.val / 16) (by omega) 1
  unfold awaitRefresh
  dsimp only
  split
  · exact Served.refl s
  · exact (hcount _ s).trans (served_advance _ _)

-- accesses ------------------------------------------------------------------------------------------------------------

/-- Access y goes on from access x: of the same docket, from a state that x's could become. -/
structure Follows (x y : Access) : Prop where
  state : Accessed x.s y.s
  tenant : y.tenant = x.tenant
  dk : y.dk = x.dk

theorem Follows.refl (x : Access) : Follows x x := ⟨Accessed.refl _, rfl, rfl⟩

theorem Follows.trans {x y z : Access} (h : Follows x y) (g : Follows y z) : Follows x z :=
  ⟨h.state.trans g.state, g.tenant.trans h.tenant, g.dk.trans h.dk⟩

theorem served_refused (x : Access) (a : Nat) : Served x.s (x.refused a).s :=
  (served_rinc x.s (ofField_mem _) (faultPage_inst_lt a) 1).trans (noted_raise _ _).served

theorem served_poisoned (x : Access) (line : Nat) : Served x.s (x.poisoned line).s := (noted_raise _ _).served

theorem follows_refused (x : Access) (a : Nat) : Follows x (x.refused a) := ⟨(served_refused x a).toAccessed, rfl, rfl⟩
theorem follows_poisoned (x : Access) (line : Nat) : Follows x (x.poisoned line) := ⟨(served_poisoned x line).toAccessed, rfl, rfl⟩
theorem follows_fault (x : Access) (c : Nat) : Follows x (x.fault c) := ⟨Accessed.refl _, rfl, rfl⟩
theorem follows_invalid (x : Access) (a : Nat) : Follows x (x.invalid a) := ⟨Accessed.refl _, rfl, rfl⟩

/-- A fold of steps that each follow goes on from its start. -/
theorem follows_foldl {α : Type} {f : Access → α → Access} (hf : ∀ x a, Follows x (f x a)) (l : List α) (x : Access) :
    Follows x (l.foldl f x) := by
  induction l generalizing x with
  | nil => exact Follows.refl x
  | cons a l ih => exact (hf x a).trans (ih _)

/-- The state in which a write has met its line: a whole line hides its error, a part of one is read first (R168). -/
def meetLine (s : State) (line : Nat) (whole : Prop) [Decidable whole] : State := if whole then setFlaw s line 0 else readLine s line

/-- A CONTROL line leaves the die caches. -/
def clearCaches (s : State) (line : Nat) : State := if classOf s (64 * line) = 1 then invalControl s line else s

/-- The bytes of a write stored in a line that it has met. -/
def storeLine (s : State) (line a : Nat) (bytes : List Byte) (whole : Prop) [Decidable whole] : State :=
  provokeEcc { clearCaches s line with
    mem := memWrite (clearCaches s line).mem a bytes
    poison := if whole then dropAll (clearCaches s line).poison line else (clearCaches s line).poison } line

/-- The bytes of a write at a that fall into a line: where they begin, where they end, and what they are. -/
def lineLo (a line : Nat) : Nat := max a (64 * line)
def lineHi (a n line : Nat) : Nat := min (a + n) (64 * line + 64)
def lineBytes (a : Nat) (data : List Byte) (line : Nat) : List Byte :=
  (data.drop (lineLo a line - a)).take (lineHi a data.length line - lineLo a line)

/-- The write covers the line. -/
abbrev WholeLine (a n line : Nat) : Prop := lineLo a line = 64 * line ∧ lineHi a n line = 64 * line + 64

/-- What a write does in one line. -/
theorem wrLine_eq (x : Access) (a : Nat) (data : List Byte) (line : Nat) : x.wrLine a data line =
    if ¬ mayAccess x.s x.tenant (regionOf (64 * line)) then x.refused (lineLo a line)
    else if outOfService x.s (64 * line) then x.fault 3
    else if ¬ WholeLine a data.length line ∧ (meetLine x.s line (WholeLine a data.length line)).poison.contains line then
      { x with s := meetLine x.s line (WholeLine a data.length line) }.poisoned line
    else { x with s := storeLine (meetLine x.s line (WholeLine a data.length line)) line (lineLo a line) (lineBytes a data line)
                        (WholeLine a data.length line) } := rfl

theorem served_meetLine (s : State) (line : Nat) (whole : Prop) [Decidable whole] : Served s (meetLine s line whole) := by
  unfold meetLine
  split
  · exact served_setFlaw s line 0
  · exact served_readLine s line

theorem served_clearCaches (s : State) (line : Nat) : Served s (clearCaches s line) := by
  unfold clearCaches
  split
  · exact served_invalControl s line
  · exact Served.refl s

theorem accessed_store (s : State) (m : List Host.Cell) (l : List Nat) : Accessed s { s with mem := m, poison := l } :=
  ⟨rfl, RegsKept.of_eq _ rfl, rfl⟩

theorem accessed_storeLine (s : State) (line a : Nat) (bytes : List Byte) (whole : Prop) [Decidable whole] :
    Accessed s (storeLine s line a bytes whole) :=
  (served_clearCaches s line).toAccessed.trans ((accessed_store _ _ _).trans (served_provokeEcc _ line).toAccessed)

theorem follows_wrLine (x : Access) (a : Nat) (data : List Byte) (line : Nat) : Follows x (x.wrLine a data line) := by
  have hmeet : Follows x { x with s := meetLine x.s line (WholeLine a data.length line) } :=
    ⟨(served_meetLine x.s line _).toAccessed, rfl, rfl⟩
  rw [wrLine_eq]
  split
  · exact follows_refused x _
  · split
    · exact follows_fault x 3
    · split
      · exact hmeet.trans (follows_poisoned _ line)
      · exact hmeet.trans ⟨accessed_storeLine _ _ _ _ _, rfl, rfl⟩

/-- The access before its first line: a refresh has passed, and a line that is being filled or reset holds it up. -/
def Access.begun (x : Access) (a n : Nat) (l : List Nat) : Access :=
  { x with s := awaitRefresh x.s l, stalled := x.stalled || fillStall x.s a n }

theorem follows_begun (x : Access) (a n : Nat) (l : List Nat) : Follows x (x.begun a n l) :=
  ⟨(served_awaitRefresh x.s l).toAccessed, rfl, rfl⟩

/-- A write that meets no hole goes line by line. -/
theorem wr_of_no_hole (x : Access) {a : Nat} {data : List Byte} (h : hasHole a data.length = false) : x.wr a data =
    (linesOf a data.length).foldl (fun x l => x.wrLine a data l)
      (x.begun a data.length ((linesOf a data.length).filter (fun l => mayAccess x.s x.tenant (regionOf (64 * l))))) := by
  rw [hasHole, Option.isSome_eq_false_iff, Option.isNone_iff_eq_none] at h
  unfold Access.wr
  dsimp only
  rw [h]
  rfl

/-- A write that meets a hole stores nothing. -/
theorem wr_of_hole (x : Access) {a : Nat} {data : List Byte} (h : hasHole a data.length = true) :
    ∃ g, x.wr a data = x.invalid g := by
  obtain ⟨hole, hh⟩ := Option.isSome_iff_exists.mp h
  unfold Access.wr
  dsimp only
  rw [hh]
  exact ⟨_, rfl⟩

/-- All that a write can do. -/
theorem follows_wr (x : Access) (a : Nat) (data : List Byte) : Follows x (x.wr a data) := by
  cases h : hasHole a data.length with
  | true =>
    obtain ⟨g, hg⟩ := wr_of_hole x h
    rw [hg]
    exact follows_invalid x g
  | false =>
    rw [wr_of_no_hole x h]
    exact (follows_begun x a _ _).trans (follows_foldl (fun y l => follows_wrLine y a data l) _ _)

/-- The lines that a read may read. -/
def grantedLines (s : State) (t a n : Nat) : List Nat := (linesOf a n).filter (fun l => !(refusedLines s t a n).contains l)

/-- The lines of l that a read cannot give: poisoned or out of service. -/
def sickLines (s : State) (l : List Nat) : List Nat := l.filter (fun l => s.poison.contains l || outOfService s (64 * l))

/-- The access of a read once the controllers have read its lines. -/
def Access.fetched (x : Access) (a n : Nat) : Access :=
  { x with s := readLines (awaitRefresh x.s (grantedLines x.s x.tenant a n)) (grantedLines x.s x.tenant a n)
           stalled := x.stalled || fillStall x.s a n }

/-- The lines of a read that it cannot give. -/
def Access.sick (x : Access) (a n : Nat) : List Nat := sickLines (x.fetched a n).s (grantedLines x.s x.tenant a n)

/-- What a read that meets no hole returns. -/
theorem rd_fst_of_no_hole (x : Access) {a n : Nat} (h : hasHole a n = false) : (x.rd a n).1 = (List.range n).map (fun i =>
    if (refusedLines x.s x.tenant a n).contains ((a + i) / 64) || (refusedLines x.s x.tenant a n != [] && x.sick a n != [])
    then (0 : Byte)
    else if (x.sick a n).contains ((a + i) / 64) then BitVec.ofNat 8 ((freeVal (x.fetched a n).s).1 / 256 ^ i)
    else memGet (memWindow (x.fetched a n).s.mem a n) (a + i)) := by
  rw [hasHole, Option.isSome_eq_false_iff, Option.isNone_iff_eq_none] at h
  unfold Access.rd
  rw [h]
  rfl

/-- What it leaves: a fault where a line was sick, and a record for every line that was poisoned or refused. -/
theorem rd_snd_of_no_hole (x : Access) {a n : Nat} (h : hasHole a n = false) : (x.rd a n).2 =
    (refusedLines x.s x.tenant a n).foldl (fun x l => x.refused (max a (64 * l)))
      (((x.sick a n).filter (fun l => (if x.sick a n = [] then x.fetched a n
          else { (x.fetched a n).fault 3 with s := (freeVal (x.fetched a n).s).2 }).s.poison.contains l)).foldl (fun x l => x.poisoned l)
        (if x.sick a n = [] then x.fetched a n else { (x.fetched a n).fault 3 with s := (freeVal (x.fetched a n).s).2 })) := by
  rw [hasHole, Option.isSome_eq_false_iff, Option.isNone_iff_eq_none] at h
  unfold Access.rd
  rw [h]
  rfl

/-- A read that meets a hole gives zeros. -/
theorem rd_of_hole (x : Access) {a n : Nat} (h : hasHole a n = true) : ∃ g, x.rd a n = (List.replicate n 0, x.invalid g) := by
  obtain ⟨hole, hh⟩ := Option.isSome_iff_exists.mp h
  unfold Access.rd
  rw [hh]
  exact ⟨_, rfl⟩

/-- Access y goes on from access x and has stored nothing. -/
structure Reads (x y : Access) : Prop extends Follows x y where
  mem : y.s.mem = x.s.mem

theorem Reads.refl (x : Access) : Reads x x := ⟨Follows.refl x, rfl⟩

theorem Reads.trans {x y z : Access} (h : Reads x y) (g : Reads y z) : Reads x z :=
  ⟨h.toFollows.trans g.toFollows, g.mem.trans h.mem⟩

theorem reads_refused (x : Access) (a : Nat) : Reads x (x.refused a) := ⟨follows_refused x a, (served_refused x a).mem⟩
theorem reads_poisoned (x : Access) (line : Nat) : Reads x (x.poisoned line) := ⟨follows_poisoned x line, (served_poisoned x line).mem⟩

theorem reads_foldl {α : Type} {f : Access → α → Access} (hf : ∀ x a, Reads x (f x a)) (l : List α) (x : Access) :
    Reads x (l.foldl f x) := by
  induction l generalizing x with
  | nil => exact Reads.refl x
  | cons a l ih => exact (hf x a).trans (ih _)

theorem reads_fetched (x : Access) (a n : Nat) : Reads x (x.fetched a n) :=
  have h := (served_awaitRefresh x.s (grantedLines x.s x.tenant a n)).trans (served_readLines _ (grantedLines x.s x.tenant a n))
  ⟨⟨h.toAccessed, rfl, rfl⟩, h.mem⟩

/-- All that a read can do. -/
theorem reads_rd (x : Access) (a n : Nat) : Reads x (x.rd a n).2 := by
  cases h : hasHole a n with
  | true =>
    obtain ⟨g, hg⟩ := rd_of_hole x h
    rw [hg]
    exact ⟨follows_invalid x g, rfl⟩
  | false =>
    have hsick : Reads (x.fetched a n)
        (if x.sick a n = [] then x.fetched a n else { (x.fetched a n).fault 3 with s := (freeVal (x.fetched a n).s).2 }) := by
      split
      · exact Reads.refl _
      · exact ⟨⟨⟨rfl, RegsKept.of_eq _ rfl, rfl⟩, rfl, rfl⟩, rfl⟩
    rw [rd_snd_of_no_hole x h]
    exact (reads_fetched x a n).trans (hsick.trans ((reads_foldl reads_poisoned _ _).trans (reads_foldl (fun x l => reads_refused x _) _ _)))

-- ownership -----------------------------------------------------------------------------------------------------------

/-- A field that no access to memory writes. -/
theorem Accessed.rget {s t : State} (h : Accessed s t) {f : Fld} {i j : Nat} (hf : f.code ∉ accessFields.map (·.code)) (hi : i < 16384)
    (hj : j < 1024) : Machine.rget t f i j = Machine.rget s f i j := h.regs.rget hf hi hj

/-- An access to memory changes no owner. -/
theorem Accessed.owner {s t : State} (h : Accessed s t) {r : Region} (hr : r.InMap) : Machine.owner t r = Machine.owner s r := by
  cases r <;> simp only [Region.InMap] at hr <;> simp only [Machine.owner, rget64]
  · rw [h.rget (by decide) (by omega) (by omega), h.rget (by decide) (by omega) (by omega), h.rget (by decide) (by omega) (by omega)]
  · rw [h.rget (by decide) (by omega) (by omega), h.rget (by decide) (by omega) (by omega), h.rget (by decide) (by omega) (by omega)]
  · rw [h.rget (by decide) (by omega) (by omega), h.rget (by decide) (by omega) (by omega), h.rget (by decide) (by omega) (by omega)]
  · rw [h.rget (by decide) (by omega) (by omega), h.rget (by decide) (by omega) (by omega)]

theorem Accessed.mayAccess {s t : State} (h : Accessed s t) (tenant a : Nat) :
    Machine.mayAccess t tenant (regionOf a) = Machine.mayAccess s tenant (regionOf a) := by
  simp only [Machine.mayAccess, h.owner (regionOf_inMap a)]

-- unowned memory ------------------------------------------------------------------------------------------------------

theorem mem_linesOf {a n l : Nat} : l ∈ linesOf a n ↔ 0 < n ∧ a / 64 ≤ l ∧ l ≤ (a + n - 1) / 64 := by
  unfold linesOf
  split
  · simp only [List.not_mem_nil, false_iff]; omega
  · simp only [List.mem_map, List.mem_range]
    constructor
    · rintro ⟨i, hi, rfl⟩; omega
    · rintro ⟨-, hlo, hhi⟩; exact ⟨l - a / 64, by omega, by omega⟩

/-- The bytes that a write stores in a line lie in the line and in its range. -/
theorem lineBytes_length (a : Nat) (data : List Byte) (line : Nat) :
    (lineBytes a data line).length = lineHi a data.length line - lineLo a line := by
  simp only [lineBytes, List.length_take, List.length_drop, lineHi, lineLo]
  omega

theorem storeLine_mem (s : State) (line a : Nat) (bytes : List Byte) (whole : Prop) [Decidable whole] :
    (storeLine s line a bytes whole).mem = memWrite s.mem a bytes := by
  have hclear := (served_clearCaches s line).mem
  rw [storeLine, (served_provokeEcc _ line).mem, hclear]

/-- What a line of a write does to memory: nothing, or its bytes stored. -/
theorem wrLine_mem (x : Access) (a : Nat) (data : List Byte) (line : Nat) : (x.wrLine a data line).s.mem = x.s.mem ∨
    mayAccess x.s x.tenant (regionOf (64 * line)) = true ∧
      (x.wrLine a data line).s.mem = memWrite x.s.mem (lineLo a line) (lineBytes a data line) := by
  rw [wrLine_eq]
  split
  · exact .inl (served_refused x _).mem
  · rename_i hmay
    split
    · exact .inl rfl
    · split
      · exact .inl ((served_poisoned _ line).mem.trans (served_meetLine x.s line _).mem)
      · refine .inr ⟨not_not.mp hmay, ?_⟩
        rw [storeLine_mem, (served_meetLine x.s line _).mem]

/-- A line of a write leaves every byte outside the line and outside its range. -/
theorem wrLine_memGet (x : Access) (a : Nat) (data : List Byte) (line b : Nat)
    (h : b / 64 ≠ line ∨ b < a ∨ a + data.length ≤ b ∨ mayAccess x.s x.tenant (regionOf (64 * line)) = false) :
    memGet (x.wrLine a data line).s.mem b = memGet x.s.mem b := by
  rcases wrLine_mem x a data line with hm | ⟨hmay, hm⟩
  · rw [hm]
  · rw [hm]
    refine memGet_memWrite_outside _ _ _ _ ?_
    rw [lineBytes_length]
    simp only [hmay, Bool.true_eq_false, or_false] at h
    simp only [lineLo, lineHi]
    omega

/-- The lines of a write one after the other leave what each of them leaves. -/
theorem foldl_wrLine_memGet (x : Access) (a : Nat) (data : List Byte) (l : List Nat) (b : Nat)
    (h : b < a ∨ a + data.length ≤ b ∨ mayAccess x.s x.tenant (regionOf (64 * (b / 64))) = false) :
    memGet (l.foldl (fun x l => x.wrLine a data l) x).s.mem b = memGet x.s.mem b := by
  induction l generalizing x with
  | nil => rfl
  | cons line l ih =>
    have hstep := follows_wrLine x a data line
    have hmay := hstep.state.mayAccess x.tenant (64 * (b / 64))
    have hrest := ih (x.wrLine a data line) (by rwa [hstep.tenant, hmay])
    refine hrest.trans (wrLine_memGet x a data line b ?_)
    by_cases hb : b / 64 = line
    · subst hb; tauto
    · exact .inl hb

theorem begun_mem (x : Access) (a n : Nat) (l : List Nat) : (x.begun a n l).s.mem = x.s.mem := (served_awaitRefresh x.s l).mem

/-- A write leaves every byte outside its range, and every byte that its tenant may not write. -/
theorem wr_memGet (x : Access) (a : Nat) (data : List Byte) (b : Nat)
    (h : b < a ∨ a + data.length ≤ b ∨ mayAccess x.s x.tenant (regionOf (64 * (b / 64))) = false) :
    memGet (x.wr a data).s.mem b = memGet x.s.mem b := by
  cases hh : hasHole a data.length with
  | true =>
    obtain ⟨g, hg⟩ := wr_of_hole x hh
    rw [hg]
    rfl
  | false =>
    have hbegun (l : List Nat) : mayAccess (x.begun a data.length l).s x.tenant (regionOf (64 * (b / 64))) =
        mayAccess x.s x.tenant (regionOf (64 * (b / 64))) := (follows_begun x a data.length l).state.mayAccess _ _
    rw [wr_of_no_hole x hh, foldl_wrLine_memGet _ _ _ _ _ (by rwa [(follows_begun ..).tenant, hbegun]), begun_mem]

/-- A byte that the tenant may not read reads as zero. -/
theorem rd_getD_of_refused (x : Access) {a b n : Nat} (h : mayAccess x.s x.tenant (regionOf (64 * (b / 64))) = false) (ha : a ≤ b)
    (hb : b < a + n) : (x.rd a n).1.getD (b - a) 0 = 0 := by
  cases hh : hasHole a n with
  | true =>
    obtain ⟨g, hg⟩ := rd_of_hole x hh
    rw [hg]
    rw [List.getD_eq_getElem _ _ (by simpa using (show b - a < n by omega)), List.getElem_replicate]
  | false =>
    have hline : (a + (b - a)) / 64 = b / 64 := by rw [Nat.add_sub_cancel' ha]
    have hrefused : (refusedLines x.s x.tenant a n).contains (b / 64) = true := by
      rw [List.contains_iff_mem, refusedLines, List.mem_filter, mem_linesOf]
      exact ⟨by omega, by simp [h]⟩
    have hlt : b - a < n := by omega
    rw [rd_fst_of_no_hole x hh, List.getD_eq_getElem _ _ (by simpa using hlt), List.getElem_map, List.getElem_range, hline, hrefused]
    rfl

/-- Settles O29: a write leaves and a read hides each byte of a line that the tenant may not access. -/
theorem unownedMemoryIsIsolated : Obligations.UnownedMemoryIsIsolated := fun x a b data h =>
  ⟨wr_memGet x a data b (.inr (.inr h)), fun _ ha hb => rd_getD_of_refused x h ha hb⟩

end Sys2Proof.Machine
end

section
/-! PROOFS. Accesses to memory that meet nothing (R92, R168): lines that their tenant may touch, in service, with no error, no poison and no
perturbation. Such a read returns the bytes of memory, and such a write stores its bytes. -/

namespace Sys2Proof.Machine

-- conditions ----------------------------------------------------------------------------------------------------------

/-- No die is perturbed. -/
def NoDebug (s : State) : Prop := ∀ d : DieId, rget s Reg.PERTURB_DEBUG_EN d.val = 0

/-- A line that tenant t can access and whose bytes stand as they were stored. -/
def ClearLine (s : State) (t l : Nat) : Prop :=
  mayAccess s t (regionOf (64 * l)) = true ∧ outOfService s (64 * l) = false ∧ l ∉ s.poison ∧ mapFind s.fills.flaws l = none

/-- The bytes [a, a + n) lie in such lines. -/
structure Legible (s : State) (t a n : Nat) : Prop where
  noHole : hasHole a n = false
  lines : ∀ l ∈ linesOf a n, ClearLine s t l

/-- They do, and no die is perturbed. -/
structure Clear (s : State) (t a n : Nat) : Prop extends Legible s t a n where
  noDebug : NoDebug s

theorem Accessed.noDebug {s t : State} (h : Accessed s t) (hs : NoDebug s) : NoDebug t := fun d => by
  rw [h.rget (by decide) (by omega) (by decide), hs d]

theorem Accessed.outOfService {s t : State} (h : Accessed s t) (a : Nat) : Machine.outOfService t a = Machine.outOfService s a := by
  have hboot : t.boot = s.boot := by rw [h.form]
  simp only [Machine.outOfService, hboot]

/-- Access y goes on from access x and has met nothing. -/
structure Calm (x y : Access) : Prop extends Follows x y where
  faults : y.faults = x.faults
  bad : y.bad = x.bad
  nonfinite : y.nonfinite = x.nonfinite
  poison : y.s.poison = x.s.poison
  flaws : ∀ l, mapFind x.s.fills.flaws l = none → mapFind y.s.fills.flaws l = none

theorem Calm.refl (x : Access) : Calm x x := ⟨Follows.refl x, rfl, rfl, rfl, rfl, fun _ h => h⟩

theorem Calm.trans {x y z : Access} (h : Calm x y) (g : Calm y z) : Calm x z :=
  ⟨h.toFollows.trans g.toFollows, g.faults.trans h.faults, g.bad.trans h.bad, g.nonfinite.trans h.nonfinite, g.poison.trans h.poison,
    fun l hl => g.flaws l (h.flaws l hl)⟩

theorem Calm.clearLine {x y : Access} (h : Calm x y) {t l : Nat} (hl : ClearLine x.s t l) : ClearLine y.s t l := by
  obtain ⟨hmay, hout, hpoison, hflaw⟩ := hl
  exact ⟨by rwa [h.state.mayAccess], by rwa [h.state.outOfService], by rwa [h.poison], h.flaws l hflaw⟩

theorem Calm.legible {x y : Access} (h : Calm x y) {t a n : Nat} (hc : Legible x.s t a n) : Legible y.s t a n :=
  ⟨hc.noHole, fun l hl => h.clearLine (hc.lines l hl)⟩

theorem Calm.clear {x y : Access} (h : Calm x y) {t a n : Nat} (hc : Clear x.s t a n) : Clear y.s t a n :=
  ⟨h.legible hc.toLegible, h.state.noDebug hc.noDebug⟩

-- one line ------------------------------------------------------------------------------------------------------------

theorem pertCheck_of_noDebug {s : State} (h : NoDebug s) {d : Nat} (hd : d < 12) (k unit : Nat) : pertCheck s d k unit = (false, s) := by
  simp [pertCheck, h ⟨d, hd⟩]

theorem provokeEcc_of_noDebug {s : State} (h : NoDebug s) (line : Nat) : provokeEcc s line = s := by
  have hd := (faultPage_bounds (64 * line)).2
  simp [provokeEcc, pertCheck_of_noDebug h hd]

theorem readLine_of_no_flaw {s : State} {line : Nat} (h : mapFind s.fills.flaws line = none) : readLine s line = s := by
  simp only [readLine, h]

theorem readLines_of_no_flaw {s : State} {l : List Nat} (h : ∀ line ∈ l, mapFind s.fills.flaws line = none) : readLines s l = s := by
  induction l with
  | nil => rfl
  | cons line l ih =>
    rw [readLines, List.foldl_cons, readLine_of_no_flaw (h line List.mem_cons_self)]
    exact ih fun k hk => h k (List.mem_cons_of_mem line hk)

theorem setFlaw_zero_flaws (s : State) (line l : Nat) (h : mapFind s.fills.flaws l = none) :
    mapFind (setFlaw s line 0).fills.flaws l = none := by
  simp only [setFlaw, if_true, mapFind_mapErase, h, ite_self]

theorem dropAll_of_not_mem {l : List Nat} {x : Nat} (h : x ∉ l) : dropAll l x = l :=
  List.filter_eq_self.mpr fun _ hy => bne_iff_ne.mpr fun hyx => h (hyx ▸ hy)

theorem clearCaches_poison_fills (s : State) (line : Nat) :
    (clearCaches s line).poison = s.poison ∧ (clearCaches s line).fills = s.fills := by
  unfold clearCaches invalControl
  split
  · split
    · exact ⟨rfl, rfl⟩
    · exact ⟨rinc_poison .., rinc_fills ..⟩
  · exact ⟨rfl, rfl⟩

/-- With no perturbation the bytes of a line and its poison are all that a store changes. -/
theorem storeLine_of_noDebug {s : State} (h : NoDebug s) (line a : Nat) (bytes : List Byte) (whole : Prop) [Decidable whole] :
    (storeLine s line a bytes whole).poison = (if whole then dropAll s.poison line else s.poison) ∧
      (storeLine s line a bytes whole).fills = s.fills := by
  have hnd : NoDebug (clearCaches s line) := (served_clearCaches s line).toAccessed.noDebug h
  obtain ⟨hpoison, hfills⟩ := clearCaches_poison_fills s line
  rw [storeLine, provokeEcc_of_noDebug ((accessed_store _ _ _).noDebug hnd)]
  exact ⟨by rw [hpoison], hfills⟩

/-- A clear line met by a write stays without poison, and every line without an error stays so. -/
theorem meetLine_of_clear {s : State} {line : Nat} (h : mapFind s.fills.flaws line = none) (whole : Prop) [Decidable whole] :
    (meetLine s line whole).poison = s.poison ∧
      ∀ l, mapFind s.fills.flaws l = none → mapFind (meetLine s line whole).fills.flaws l = none := by
  unfold meetLine
  split
  · exact ⟨rfl, fun l => setFlaw_zero_flaws s line l⟩
  · rw [readLine_of_no_flaw h]
    exact ⟨rfl, fun _ h => h⟩

/-- A clear line of a write meets nothing and stores its bytes. -/
theorem calm_wrLine {x : Access} {line : Nat} (h : ClearLine x.s x.tenant line) (hn : NoDebug x.s) (a : Nat) (data : List Byte) :
    Calm x (x.wrLine a data line) ∧ (x.wrLine a data line).stalled = x.stalled ∧
      (x.wrLine a data line).s.mem = memWrite x.s.mem (lineLo a line) (lineBytes a data line) := by
  obtain ⟨hmay, hout, hpoison, hflaw⟩ := h
  obtain ⟨hmp, hmf⟩ := meetLine_of_clear hflaw (WholeLine a data.length line)
  have hnd := (served_meetLine x.s line (WholeLine a data.length line)).toAccessed.noDebug hn
  obtain ⟨hsp, hsf⟩ := storeLine_of_noDebug hnd line (lineLo a line) (lineBytes a data line) (WholeLine a data.length line)
  have hline := wrLine_eq x a data line
  rw [if_neg (by simpa using hmay), if_neg (by simpa using hout),
    if_neg (by rw [hmp, List.contains_iff_mem]; exact fun hc => hpoison hc.2)] at hline
  have hmem := (storeLine_mem (meetLine x.s line (WholeLine a data.length line)) line (lineLo a line) (lineBytes a data line)
    (WholeLine a data.length line)).trans (congrArg (memWrite · _ _) (served_meetLine x.s line _).mem)
  rw [hmp, dropAll_of_not_mem hpoison, ite_self] at hsp
  refine ⟨⟨follows_wrLine x a data line, ?_, ?_, ?_, ?_, ?_⟩, ?_, ?_⟩ <;> rw [hline]
  exacts [hsp, fun l hl => hsf ▸ hmf l hl, hmem]

-- a write -------------------------------------------------------------------------------------------------------------

/-- A byte of a line that a write stores is the byte of its data. -/
theorem memGet_wrLine_same {x : Access} {a b : Nat} {data : List Byte} (hlo : a ≤ b) (hhi : b < a + data.length)
    (h : ClearLine x.s x.tenant (b / 64)) (hn : NoDebug x.s) :
    memGet (x.wrLine a data (b / 64)).s.mem b = data.getD (b - a) emptyByte := by
  have hin : lineLo a (b / 64) ≤ b ∧ b < lineLo a (b / 64) + (lineBytes a data (b / 64)).length := by
    rw [lineBytes_length]
    simp only [lineLo, lineHi]
    omega
  rw [(calm_wrLine h hn a data).2.2, memGet_memWrite, if_pos hin]
  have hlen := lineBytes_length a data (b / 64)
  have hlow : a ≤ lineLo a (b / 64) := Nat.le_max_left _ _
  rw [List.getD_eq_getElem _ _ (by omega), List.getD_eq_getElem _ _ (by omega)]
  simp only [lineBytes, List.getElem_take, List.getElem_drop]
  congr 1
  omega

/-- The lines of a write leave the bytes of every other line. -/
theorem foldl_wrLine_memGet_of_not_mem (a : Nat) (data : List Byte) {l : List Nat} {b : Nat} (h : b / 64 ∉ l) (y : Access) :
    memGet (l.foldl (fun x k => x.wrLine a data k) y).s.mem b = memGet y.s.mem b := by
  induction l generalizing y with
  | nil => rfl
  | cons k l ih =>
    rw [List.mem_cons, not_or] at h
    exact (ih h.2 _).trans (wrLine_memGet y a data k b (.inl h.1))

/-- The clear lines of a write meet nothing, and each byte of theirs is stored. -/
theorem calm_foldl_wrLine {x : Access} (a : Nat) (data : List Byte) {l : List Nat} (h : ∀ k ∈ l, ClearLine x.s x.tenant k)
    (hn : NoDebug x.s) :
    Calm x (l.foldl (fun x k => x.wrLine a data k) x) ∧ (l.foldl (fun x k => x.wrLine a data k) x).stalled = x.stalled ∧
      ∀ b, a ≤ b → b < a + data.length → b / 64 ∈ l →
        memGet (l.foldl (fun x k => x.wrLine a data k) x).s.mem b = data.getD (b - a) emptyByte := by
  induction l generalizing x with
  | nil => exact ⟨Calm.refl x, rfl, fun b _ _ hb => absurd hb List.not_mem_nil⟩
  | cons line l ih =>
    have hline := h line List.mem_cons_self
    obtain ⟨hcalm, hstalled, -⟩ := calm_wrLine hline hn a data
    have hrest : ∀ k ∈ l, ClearLine (x.wrLine a data line).s (x.wrLine a data line).tenant k := fun k hk => by
      rw [hcalm.tenant]
      exact hcalm.clearLine (h k (List.mem_cons_of_mem line hk))
    obtain ⟨hcalm', hstalled', hbytes⟩ := ih hrest (hcalm.state.noDebug hn)
    refine ⟨hcalm.trans hcalm', hstalled'.trans hstalled, fun b hlo hhi hb => ?_⟩
    by_cases hbl : b / 64 ∈ l
    · exact hbytes b hlo hhi hbl
    · have hb' : b / 64 = line := by simpa [hbl] using hb
      subst hb'
      exact (foldl_wrLine_memGet_of_not_mem a data hbl _).trans (memGet_wrLine_same hlo hhi hline hn)

theorem calm_begun (x : Access) (a n : Nat) (l : List Nat) : Calm x (x.begun a n l) := by
  have hwait := waited_awaitRefresh x.s l
  exact ⟨follows_begun x a n l, rfl, rfl, rfl, hwait.poison, fun k hk => by rw [← hk]; exact congrArg (mapFind ·.flaws k) hwait.fills⟩

/-- A write to clear lines meets nothing, waits for fills at most, and stores its bytes and no other. -/
theorem calm_wr {x : Access} {a : Nat} {data : List Byte} (h : Clear x.s x.tenant a data.length) :
    Calm x (x.wr a data) ∧ (x.wr a data).stalled = (x.stalled || fillStall x.s a data.length) ∧
      (∀ b, a ≤ b → b < a + data.length → memGet (x.wr a data).s.mem b = data.getD (b - a) emptyByte) ∧
      ∀ b, b < a ∨ a + data.length ≤ b → memGet (x.wr a data).s.mem b = memGet x.s.mem b := by
  have hbegun := calm_begun x a data.length ((linesOf a data.length).filter fun l => mayAccess x.s x.tenant (regionOf (64 * l)))
  obtain ⟨hcalm, hstalled, hbytes⟩ := calm_foldl_wrLine a data (fun k hk => hbegun.clearLine (h.lines k hk))
    (hbegun.state.noDebug h.noDebug)
  rw [wr_of_no_hole x h.noHole]
  refine ⟨hbegun.trans hcalm, hstalled, fun b hlo hhi => ?_, fun b hb => ?_⟩
  · exact hbytes b hlo hhi (mem_linesOf.mpr (by omega))
  · rw [← wr_of_no_hole x h.noHole]
    exact wr_memGet x a data b (by tauto)

/-- Such a write is read back from memory. -/
theorem memRead_wr {x : Access} {a : Nat} {data : List Byte} (h : Clear x.s x.tenant a data.length) :
    memRead (x.wr a data).s.mem a data.length = data := by
  rw [memRead_eq]
  refine List.ext_getElem (by simp) fun i hi hi' => ?_
  simp only [List.getElem_map, List.getElem_range]
  rw [(calm_wr h).2.2.1 _ (Nat.le_add_right a i) (by omega), Nat.add_sub_cancel_left, List.getD_eq_getElem _ _ hi']

/-- Part of what is read. -/
theorem memRead_slice (m : List Host.Cell) (a : Nat) {n i k : Nat} (h : i + k ≤ n) :
    ((memRead m a n).drop i).take k = memRead m (a + i) k := by
  simp only [memRead_eq]
  refine List.ext_getElem (by simp; omega) fun j hj hj' => ?_
  simp only [List.getElem_take, List.getElem_drop, List.getElem_map, List.getElem_range, Nat.add_assoc]

-- a read --------------------------------------------------------------------------------------------------------------

theorem refusedLines_of_legible {s : State} {t a n : Nat} (h : Legible s t a n) : refusedLines s t a n = [] :=
  List.filter_eq_nil_iff.mpr fun l hl => by simp [(h.lines l hl).1]

theorem grantedLines_of_legible {s : State} {t a n : Nat} (h : Legible s t a n) : grantedLines s t a n = linesOf a n :=
  List.filter_eq_self.mpr fun l _ => by simp [refusedLines_of_legible h]

/-- A read of clear lines waits for a refresh, and meets no error. -/
theorem fetched_of_legible {x : Access} {a n : Nat} (h : Legible x.s x.tenant a n) : x.fetched a n = x.begun a n (linesOf a n) := by
  have hread : readLines (awaitRefresh x.s (linesOf a n)) (linesOf a n) = awaitRefresh x.s (linesOf a n) :=
    readLines_of_no_flaw fun l hl => ((calm_begun x a n (linesOf a n)).clearLine (h.lines l hl)).2.2.2
  rw [Access.fetched, grantedLines_of_legible h, hread]
  rfl

theorem sick_of_legible {x : Access} {a n : Nat} (h : Legible x.s x.tenant a n) : x.sick a n = [] := by
  rw [Access.sick, grantedLines_of_legible h, fetched_of_legible h]
  refine List.filter_eq_nil_iff.mpr fun l hl => ?_
  obtain ⟨-, hout, hpoison, -⟩ := (calm_begun x a n (linesOf a n)).clearLine (h.lines l hl)
  simp [hout, hpoison]

/-- Such a read changes nothing else. -/
theorem rd_snd_of_legible {x : Access} {a n : Nat} (h : Legible x.s x.tenant a n) : (x.rd a n).2 = x.begun a n (linesOf a n) := by
  rw [rd_snd_of_no_hole x h.noHole, refusedLines_of_legible h, sick_of_legible h, fetched_of_legible h]
  rfl

/-- A read of clear lines meets nothing, waits for fills at most, and returns the bytes of memory. -/
theorem calm_rd {x : Access} {a n : Nat} (h : Legible x.s x.tenant a n) :
    (x.rd a n).1 = memRead x.s.mem a n ∧ Calm x (x.rd a n).2 ∧ (x.rd a n).2.s.mem = x.s.mem ∧
      (x.rd a n).2.stalled = (x.stalled || fillStall x.s a n) := by
  have hmem := begun_mem x a n (linesOf a n)
  refine ⟨?_, ?_⟩
  · rw [rd_fst_of_no_hole x h.noHole, refusedLines_of_legible h, sick_of_legible h, memRead_eq]
    refine List.map_congr_left fun i hi => ?_
    simp only [List.contains_nil, Bool.false_or, bne_self_eq_false, Bool.and_self, Bool.false_eq_true, if_false]
    rw [memGet_memWindow _ _ _ _ (List.mem_range.mp hi), fetched_of_legible h, hmem]
  · rw [rd_snd_of_legible h]
    exact ⟨calm_begun .., hmem, rfl⟩

/-- Settles O30: a write moves no byte outside its range, and one to clear lines stores its bytes, which a read then returns. -/
theorem writesLandInRange : Obligations.WritesLandInRange := by
  refine fun x a data => ⟨fun b hb => wr_memGet x a data b (by tauto), fun _ hhole hdebug hlines => ?_⟩
  have hclear : Clear x.s x.tenant a data.length := ⟨⟨hhole, hlines⟩, hdebug⟩
  obtain ⟨hcalm, -⟩ := calm_wr hclear
  have hafter : Clear (x.wr a data).s (x.wr a data).tenant a data.length := hcalm.tenant ▸ hcalm.clear hclear
  refine ⟨memRead_wr hclear, hcalm.faults, hcalm.poison, ?_⟩
  rw [(calm_rd hafter.toLegible).1, memRead_wr hclear]

end Sys2Proof.Machine
end

section
/-! PROOFS. The Clerk (R117, R118, R143): its operations, and what an addition to a counter does. -/

namespace Sys2Proof.Machine

-- bytes of a number ---------------------------------------------------------------------------------------------------

/-- A number stored is read back. -/
theorem memNat_memSetNat (s : State) (a : Nat) {n v : Nat} (h : v < 2 ^ (8 * n)) : memNat (memSetNat s a n v) a n = v := by
  have hread := memRead_memWrite (natLe v n) s.mem a
  rw [length_natLe] at hread
  rw [memNat, memSetNat, hread, leNat_natLe h]

/-- It changes no byte outside its place. -/
theorem sameOutside_memSetNat (s : State) (a n v : Nat) : SameOutside s (memSetNat s a n v) a n := fun b hb =>
  memGet_memWrite_outside _ _ _ _ (by rwa [length_natLe])

-- operations ----------------------------------------------------------------------------------------------------------

/-- The running docket of a Clerk operation runs. -/
theorem clerkOp_of_running {s : State} {core op : Nat} {e : QEntry} (h : runningOp s (4 * core + 3) 3 op = some e) :
    clerkOp s core op = clerkRun s (4 * core + 3) e := by simp only [clerkOp, h]

/-- One that adds to no counter ends with the status it has. -/
theorem clerkRun_of_no_signal (s : State) (q : Nat) {e : QEntry} (hdone : e.done = false) (hop : dkOp e.dk ≠ 2) :
    clerkRun s q e = completeDocket s q e e.status := by simp [clerkRun, clerkRemote, hdone, hop]

/-- One that adds to a counter of this device does so. -/
theorem clerkRun_of_signal (s : State) (q : Nat) {e : QEntry} (hdone : e.done = false) (hop : dkOp e.dk = 2)
    (hhere : ckRemote e.dk = false) : clerkRun s q e = clerkSignal s q e := by simp [clerkRun, clerkRemote, hdone, hop, hhere]

/-- An addition to a counter whose line is good stores the sum. -/
theorem counterAdd_of_good {x : Access} {c t i n a : Nat} (ha : counterAddr x.s c t i = some a)
    (hpoison : x.s.poison.contains (a / 64) = false) (hflaw : mapFind x.s.fills.flaws (a / 64) = none) :
    (x.counterAdd c t i n).s = memSetNat x.s a 8 ((memNat x.s a 8 + n) % 2 ^ 64) ∧ (x.counterAdd c t i n).faults = x.faults := by
  simp only [Access.counterAdd, ha, readLine_of_no_flaw hflaw, hpoison, Bool.false_eq_true, if_false, and_self]

/-- Settles O22: a running Clerk docket runs, and an addition to a counter stores eight bytes. -/
theorem clerkOperations : Obligations.ClerkOperations := by
  refine ⟨fun s core e hclk hdone => ⟨fun hrun hop => ?_, fun hrun hop => ?_, fun hrun hop hhere hstall => ?_⟩,
    fun x c t i n a ha hpoison hflaw => ?_⟩
  · simp only [exec, execCnop, live_of_clocked hclk, clerkOp_of_running hrun,
      clerkRun_of_no_signal s _ hdone (hop ▸ by decide : dkOp e.dk ≠ 2)]
  · simp only [exec, execCwait, live_of_clocked hclk, clerkOp_of_running hrun,
      clerkRun_of_no_signal s _ hdone (hop ▸ by decide : dkOp e.dk ≠ 2)]
  · simp only [exec, execCsignal, live_of_clocked hclk, clerkOp_of_running hrun, clerkRun_of_signal s _ hdone hop hhere, clerkSignal,
      hstall, Bool.false_eq_true, if_false]
  · obtain ⟨hs, hfaults⟩ := counterAdd_of_good (n := n) ha hpoison hflaw
    have haddr : counterAddr (memSetNat x.s a 8 ((memNat x.s a 8 + n) % 2 ^ 64)) c t i = some a := ha
    refine ⟨?_, ?_, hfaults⟩
    · rw [hs]
      simp only [counterVal, haddr, ha]
      exact memNat_memSetNat _ _ (Nat.mod_lt _ (by decide))
    · rw [hs]
      exact sameOutside_memSetNat _ _ _ _

end Sys2Proof.Machine
end

section
/-! PROOFS. The Service Bus (R426 to R439): all that a write does besides the field that it sets. -/

namespace Sys2Proof.Machine

-- the frame -----------------------------------------------------------------------------------------------------------

/-- Every field whose code is not in l reads in t as in s. -/
def CodesKept (l : List Nat) (s t : State) : Prop :=
  ∀ (f : Fld) (i j : Nat), f.code ∉ l → i < 16384 → j < 1024 → rget t f i j = rget s f i j

theorem CodesKept.trans {l : List Nat} {s t u : State} (h : CodesKept l s t) (g : CodesKept l t u) : CodesKept l s u :=
  fun f i j hf hi hj => (g f i j hf hi hj).trans (h f i j hf hi hj)

theorem CodesKept.mono {l m : List Nat} {s t : State} (h : CodesKept l s t) (hl : l ⊆ m) : CodesKept m s t :=
  fun f i j hf => h f i j fun hm => hf (hl hm)

theorem codesKept_of_regs (l : List Nat) {s t : State} (h : t.regs = s.regs) : CodesKept l s t := fun f i j _ _ _ => rget_congr h f i j

theorem codesKept_rset {l : List Nat} (s : State) {f : Fld} (hf : f.code ∈ l) {i j : Nat} (hi : i < 16384) (hj : j < 1024) (v : Nat) :
    CodesKept l s (rset s f i j v) := by
  intro g a b hg ha hb
  refine rget_rset_of_code s (fun h => hg ?_) hi hj ha hb v
  rwa [h]

theorem RegsKept.codesKept {l : List Fld} {s t : State} (h : RegsKept l s t) : CodesKept (l.map (·.code)) s t :=
  fun _ _ _ hf hi hj => h.rget hf hi hj

/-- t differs from s in the register file, the bus, the power states of the units, records, messages and ALERT_N only, and in no
field whose code is not in l. -/
structure Bused (l : List Nat) (s t : State) : Prop where
  form : t = { s with
    regs := t.regs, ledger := t.ledger, out := t.out, pins := { s.pins with acked := t.pins.acked }, sbus := t.sbus
    power := { s.power with sleep := t.power.sleep } }
  kept : CodesKept l s t

variable {l m : List Nat} {s t u : State}

theorem Bused.refl (l : List Nat) (s : State) : Bused l s s := ⟨rfl, codesKept_of_regs l rfl⟩

theorem Bused.trans (h : Bused l s t) (g : Bused l t u) : Bused l s u := by
  refine ⟨?_, h.kept.trans g.kept⟩
  rw [g.form, h.form]

theorem Bused.mono (h : Bused l s t) (hl : l ⊆ m) : Bused m s t := ⟨h.form, h.kept.mono hl⟩

theorem Bused.mem (h : Bused l s t) : t.mem = s.mem := by rw [h.form]
theorem Bused.queues (h : Bused l s t) : t.queues = s.queues := by rw [h.form]
theorem Bused.links (h : Bused l s t) : t.links = s.links := by rw [h.form]
theorem Bused.msf (h : Bused l s t) : t.msf = s.msf := by rw [h.form]
theorem Bused.tripped (h : Bused l s t) : t.power.tripped = s.power.tripped := by rw [h.form]

theorem bused_rset (s : State) {f : Fld} (hf : f.code ∈ l) {i j : Nat} (hi : i < 16384) (hj : j < 1024) (v : Nat) :
    Bused l s (rset s f i j v) := ⟨rfl, codesKept_rset s hf hi hj v⟩

theorem bused_rinc (s : State) {f : Fld} (hf : f.code ∈ l) {i j : Nat} (hi : i < 16384) (hj : j < 1024) (n : Nat) :
    Bused l s (rinc s f i j n) := by
  obtain ⟨v, hv⟩ := rinc_eq_rset s f i j n
  rw [hv]
  exact bused_rset s hf hi hj v

theorem Noted.bused (h : Noted s t) : Bused (noteFields.map (·.code)) s t := by
  refine ⟨?_, h.regsKept.codesKept⟩
  rw [h.1]

theorem bused_foldl {α : Type} {f : State → α → State} {a : List α} (hf : ∀ s, ∀ x ∈ a, Bused l s (f s x)) (s : State) :
    Bused l s (a.foldl f s) := by
  induction a generalizing s with
  | nil => exact Bused.refl l s
  | cons x a ih => exact (hf s x List.mem_cons_self).trans (ih (fun s y hy => hf s y (List.mem_cons_of_mem x hy)) _)

-- reports -------------------------------------------------------------------------------------------------------------

/-- The codes of the fields that a clamp report and its record write. -/
def reportCodes : List Nat := (List.range' 540 9) ++ noteFields.map (·.code)

/-- All that a clamp report does. -/
theorem bused_report (s : State) {p : Page} (hp : p.num < 16384) (w : Writer) (e : ClampEv) : Bused reportCodes s (report s p w e) := by
  have hset (s : State) {f : Fld} (hf : f.code ∈ List.range' 540 9) (v : Nat) : Bused reportCodes s (rset s f p.num 0 v) :=
    bused_rset s (List.mem_append_left _ hf) hp (by decide) v
  unfold report
  dsimp only
  refine Bused.trans ?_ ((noted_raise _ _).bused.mono (List.subset_append_right _ _))
  split
  · exact hset _ (by decide) _
  · exact (hset _ (f := Reg.HDR_CLAMP0_VALID) (by decide) _).trans <| (hset _ (f := Reg.HDR_CLAMP0_KIND) (by decide) _).trans <|
      (hset _ (f := Reg.HDR_CLAMP0_SOURCE) (by decide) _).trans <| (hset _ (f := Reg.HDR_CLAMP0_TENANT) (by decide) _).trans <|
      (hset _ (f := Reg.HDR_CLAMP0_FIELD_LSB) (by decide) _).trans <| (hset _ (f := Reg.HDR_CLAMP0_OFFSET) (by decide) _).trans <|
      (hset _ (f := Reg.HDR_CLAMP1_APPLIED) (by decide) _).trans (hset _ (f := Reg.HDR_CLAMP1_WRITTEN) (by decide) _)

theorem bused_reportFld (s : State) {p : Page} (hp : p.num < 16384) (w : Writer) (f : Fld) (idx kind written applied : Nat) :
    Bused reportCodes s (reportFld s p w f idx kind written applied) := bused_report s hp w _

-- beats and wakes -----------------------------------------------------------------------------------------------------

/-- The codes of the fields that the bus and the units that it wakes write. -/
def beatCodes : List Nat :=
  [Reg.SBUS_BUSY_CYCLES, Reg.SBUS_REQUESTS, Reg.SBUS_LOCKED, Reg.SBUS_OWNER_VALID, Reg.SBUS_OWNER, Reg.SBUS_UNMAPPED,
    Reg.POWER_EARLY_WAKES].map (·.code)

theorem bused_sbus (l : List Nat) (s : State) (b : SbusSt) : Bused l s { s with sbus := b } := ⟨rfl, codesKept_of_regs l rfl⟩

theorem bused_busBeats (s : State) (i n : Nat) (ctl : BusCtl) : Bused beatCodes s (busBeats s i n ctl) := by
  have hset (s : State) {f : Fld} (hf : f.code ∈ beatCodes) (v : Nat) : Bused beatCodes s (rset s f 0 0 v) :=
    bused_rset s hf (by decide) (by decide) v
  unfold busBeats
  dsimp only
  refine Bused.trans ?_ (bused_sbus _ _ _)
  have hbusy := bused_rinc (l := beatCodes) s (f := Reg.SBUS_BUSY_CYCLES) (i := 0) (j := 0) (by decide) (by decide) (by decide) n
  have howner (a b c : Nat) := hbusy.trans <| (hset _ (f := Reg.SBUS_REQUESTS) (by decide) a).trans <|
    (hset _ (f := Reg.SBUS_LOCKED) (by decide) b).trans (hset _ (f := Reg.SBUS_OWNER_VALID) (by decide) c)
  split
  · exact howner _ _ _
  · exact (howner _ _ _).trans (hset _ (f := Reg.SBUS_OWNER) (by decide) _)

theorem bused_setSleep (l : List Nat) (s : State) (k : Nat) (v : Option Sleep) : Bused l s (setSleep s k v) := ⟨rfl, codesKept_of_regs l rfl⟩

theorem bused_earlyWake (s : State) (k : Nat) : Bused beatCodes s (earlyWake s k) := by
  have hcount (s : State) : Bused beatCodes s (rinc s Reg.POWER_EARLY_WAKES) :=
    bused_rinc s (i := 0) (j := 0) (by decide) (by decide) (by decide) 1
  unfold earlyWake
  split
  · exact Bused.refl _ s
  · split
    · exact (bused_setSleep _ s k _).trans (hcount _)
    · exact (bused_setSleep _ s k _).trans (hcount _)
    · exact Bused.refl _ s

theorem bused_wakeModule (l : List Nat) (s : State) : Bused l s (wakeModule s) := by
  unfold wakeModule
  split
  · exact bused_setSleep l s _ _
  · exact bused_setSleep l s _ _
  · exact Bused.refl l s

/-- All that a register write does as an event. -/
theorem bused_wakeWrite (s : State) (w : Writer) (p : Page) : Bused beatCodes s (wakeWrite s w p) := by
  have hmodule : Bused beatCodes s (if w.input = 12 then wakeModule s else s) := by
    split
    · exact bused_wakeModule _ s
    · exact Bused.refl _ s
  unfold wakeWrite
  dsimp only
  split
  · exact hmodule.trans (bused_foldl (fun s k _ => bused_earlyWake s k) _)
  · exact hmodule

theorem bused_taken (s : State) (w : Writer) (p : Page) : Bused beatCodes s (taken s w p) := by
  unfold taken
  split
  · exact Bused.refl _ s
  · exact bused_wakeWrite s w p

theorem Bused.frozen (h : Bused l s t) (hl : Reg.FREEZE_STATUS.code ∉ l) : Machine.frozen t = Machine.frozen s := by
  rw [Machine.frozen, h.kept _ _ _ hl (by decide) (by decide), Machine.frozen]

end Sys2Proof.Machine
end

section
/-! PROOFS. A write of one word to a page (R428 to R433): the field in it takes the nearest legal value, and nothing outside the
register file, the bus and the records changes. -/

namespace Sys2Proof.Machine

-- pages and fields ----------------------------------------------------------------------------------------------------

/-- The pages of the register space are few. -/
theorem pageAt_bounds {off : Nat} {p : Page} (h : pageAt off = some p) : p.num < 2432 ∧ p.inst < 512 := by
  unfold pageAt at h
  dsimp only at h
  repeat' split at h
  all_goals cases h
  all_goals
    simp only [Page.num, Page.base]
    omega

/-- Every offset of a page names the page. -/
theorem pageAt_congr {a b : Nat} (h : a / 4096 = b / 4096) : pageAt a = pageAt b := by
  have hlt (k : Nat) : a < 4096 * k ↔ b < 4096 * k := by omega
  simp only [pageAt, h, hlt 0x800, hlt 0x840, hlt 0x860, hlt 0x8A0, hlt 0x8B0, hlt 0x8C0, hlt 0x8D8, hlt 0x900]

/-- The pages whose fields have no rule of their own. -/
def plainBlks : List Blk := [.cstore, .msf, .update, .sbus, .pcie, .eth]

/-- A field of such a page fits its word and repeats within its page, and no report or beat writes one that software writes. -/
theorem plainBlks_fields : ∀ b ∈ plainBlks, ∀ f ∈ blkFields b,
    f.lsb + f.width ≤ 32 ∧ 0 < f.width ∧ f.count ≤ 1024 ∧ (f.acc = .rw → f.code ∉ reportCodes) := by decide

theorem hdrFields_blk : ∀ f ∈ Reg.hdrFields, f.blk = .hdr := by decide

/-- A field of a word of a page is one of the page's, at an index within its count. -/
theorem mem_fieldsAt {p : Page} {off idx : Nat} {f : Fld} (h : (f, idx) ∈ fieldsAt p off) (hb : f.blk ≠ .hdr) :
    f ∈ blkFields p.blk ∧ (idx = 0 ∨ idx < f.count) := by
  obtain ⟨g, hg, hat⟩ := List.mem_filterMap.mp h
  obtain ⟨i, hi, hpair⟩ := Option.map_eq_some_iff.mp hat
  cases hpair
  refine ⟨(List.mem_append.mp hg).resolve_left fun hhdr => hb (hdrFields_blk f hhdr), ?_⟩
  unfold Fld.at? at hi
  dsimp only at hi
  repeat' split at hi
  all_goals cases hi
  · exact .inl rfl
  · rename_i hin
    exact .inr hin.2.2

-- one word ------------------------------------------------------------------------------------------------------------

theorem bitsAt_ones : ∀ lsb ≤ 32, ∀ w ≤ 32, lsb + w ≤ 32 → bitsAt (beMask 15) lsb w = 2 ^ w - 1 := by decide

/-- The one field of a whole word. -/
theorem fieldWrites_of_one {p : Page} {off : Nat} {d : W32} {f : Fld} {idx : Nat} (hoff : off % 4 = 0)
    (h : fieldsAt p (off % 4096) = [(f, idx)]) (hfit : f.lsb + f.width ≤ 32) (hw : 0 < f.width) (hacc : f.acc = .rw) :
    fieldWrites p { off := off, data := d, be := 15 } =
      [{ f := f, idx := idx, data := bitsAt d.toNat f.lsb f.width, mask := 2 ^ f.width - 1 }] := by
  have hword : off % 4096 / 4 * 4 = off % 4096 := by omega
  have hmask := bitsAt_ones f.lsb (by omega) f.width (by omega) hfit
  have hne : 2 ^ f.width - 1 ≠ 0 := by
    have := Nat.one_lt_two_pow (n := f.width) (by omega)
    omega
  simp only [fieldWrites, hword, h, List.filterMap_cons, List.filterMap_nil, hmask, hne, hacc, reduceCtorEq, or_self, if_false,
    List.foldl_cons, List.foldl_nil, insertField]

/-- The bits written, where all of a field are. -/
theorem mergeBits_mod (held : Nat) {data w : Nat} (h : data < 2 ^ w) : mergeBits held data (2 ^ w - 1) % 2 ^ w = data := by
  have hdiv := Nat.div_add_mod held (2 ^ w)
  have hheld : held - held % 2 ^ w = 2 ^ w * (held / 2 ^ w) := by omega
  rw [mergeBits, Nat.and_two_pow_sub_one_eq_mod, Nat.and_two_pow_sub_one_eq_mod, hheld, Nat.add_mul_mod_self_left, Nat.mod_mod,
    Nat.mod_eq_of_lt h]

/-- A field taken holds the legal value nearest to the bits written. -/
theorem bused_takeField (s : State) (w : Writer) {p : Page} (hp : p.num < 16384) (hi : p.inst < 16384) (f : Fld) {idx : Nat}
    (hidx : idx < 1024) (v : Nat) : Bused (f.code :: reportCodes) s (takeField w p f idx v s) := by
  have hset (v : Nat) : Bused (f.code :: reportCodes) s (rset s f p.inst idx v) := bused_rset s List.mem_cons_self hi hidx v
  unfold takeField setClamped
  dsimp only
  split
  · exact hset _
  · split
    · exact hset _
    · exact (hset _).trans ((bused_reportFld _ hp ..).mono (List.subset_cons_self ..))

theorem rget_takeField (s : State) (w : Writer) {p : Page} (hp : p.num < 16384) (hi : p.inst < 16384) {f : Fld} {idx : Nat}
    (hidx : idx < 1024) (hf : f.code ∉ reportCodes) (v : Nat) :
    rget (takeField w p f idx v s) f p.inst idx = clampRng f.rng p.inst (v % 2 ^ f.width) % 2 ^ f.width := by
  unfold takeField setClamped
  dsimp only
  split
  · exact rget_rset_same ..
  · split
    · exact rget_rset_same ..
    · exact ((bused_reportFld _ hp ..).kept _ _ _ hf hi hidx).trans (rget_rset_same ..)

-- a transaction -------------------------------------------------------------------------------------------------------

theorem regWrite_of_busFree {s : State} {w : Writer} (h : BusFree s w) (words : List WordWrite) (hwSet : List (Nat × W32))
    (ctl : BusCtl) : regWrite s w words hwSet ctl = (transactions words).foldl (transact w hwSet ctl) s := by
  obtain ⟨⟨hfroz, -⟩, hignored, hlocked⟩ := h
  simp [regWrite, awaitInput, hfroz, hignored, hlocked]

/-- A transaction of a page, the clocks running. -/
theorem transact_of_page {s : State} (h : Clocked s) {t : List WordWrite} {p : Page}
    (hp : pageAt (t.headD { off := 0, data := 0, be := 0 }).off = some p) (w : Writer) (hwSet : List (Nat × W32)) (ctl : BusCtl) :
    transact w hwSet ctl s t = pageWrite w p t hwSet (busBeats s w.input (1 + t.length) ctl) := by
  have htrip := (bused_busBeats s w.input (1 + t.length) ctl).tripped.trans h.2
  simp only [transact, h.1, Bool.false_eq_true, if_false, hp, Machine.answers, htrip, Bool.not_false, Bool.true_or, if_true]

/-- One of the unmapped space. -/
theorem transact_of_unmapped {s : State} (h : Clocked s) {t : List WordWrite}
    (hp : pageAt (t.headD { off := 0, data := 0, be := 0 }).off = none) (w : Writer) (hwSet : List (Nat × W32)) (ctl : BusCtl) :
    transact w hwSet ctl s t = rinc (busBeats s w.input (1 + t.length) ctl) Reg.SBUS_UNMAPPED 0 0 t.length := by
  have hfroz := (bused_busBeats s w.input (1 + t.length) ctl).frozen (by decide)
  simp only [transact, h.1, Bool.false_eq_true, if_false, hp, hfroz]

/-- A write of a field that is no ownership changes no owner. -/
theorem applyOwners_of_other (s : State) (w : Writer) (p : Page) {x : FWrite} (h : isOwnerField x.f = false) :
    applyOwners s w p [x] = s := by simp [applyOwners, ownerWrites, h]

/-- A write to a ZLINK page also clamps the fields of RESET that depend on one of its fields. -/
def clampReset (w : Writer) (p : Page) (t : State) : State :=
  if p.blk = .zlink then clampPage t t w resetPage (rget t Reg.HDR_CLAMP0_VALID resetPage.num == 1) [] else t

/-- A word with one field on a page that is not DIMTAB. -/
theorem pageWrite_of_one {s : State} {w : Writer} {p : Page} {x : WordWrite} {fw : FWrite} (hdim : p.blk ≠ .dimtab)
    (hst : p.blk ≠ .storc ∨ x.off % 4096 / 4 ≠ 0x38 / 4) (h : fieldWrites p x = [fw]) (hown : isOwnerField fw.f = false)
    (hwSet : List (Nat × W32)) : ∃ shown, pageWrite w p [x] hwSet s =
      clampReset w p (clampPage s (writeField w p [fw] hwSet s fw) w p shown [fw]) := by
  have hfill : fillStateFd1 w p s x = s := by
    unfold fillStateFd1
    rw [if_neg]
    rintro ⟨rfl, hoff, -⟩
    exact hst.elim (· rfl) (· hoff)
  refine ⟨rget s Reg.HDR_CLAMP0_VALID p.num == 1 && !([fw].any fun x => x.f == Reg.HDR_CLAMP0_VALID && x.data &&& x.mask == 1), ?_⟩
  simp only [pageWrite, if_neg hdim, List.flatMap_cons, List.flatMap_nil, List.append_nil, h, List.foldl_cons, List.foldl_nil, hfill,
    applyOwners_of_other _ w p hown, clampReset]

/-- A page with no dependent field is clamped no further. -/
theorem clampPage_of_plain (s t : State) (w : Writer) {p : Page} (hp : p.blk ∈ plainBlks) (shown : Bool) (l : List FWrite) :
    clampPage s t w p shown l = t := by
  obtain ⟨b, i⟩ := p
  fin_cases hp <;> rfl

/-- A field with no rule of its own is taken. -/
theorem writeField_of_plain {s : State} {w : Writer} {p : Page} {f : Fld} {idx : Nat} (hp : p.blk ∈ plainBlks) (hb : f.blk ≠ .hdr)
    (hacc : f.acc = .rw) (hpair : pairOf f = none) (hown : isOwnerField f = false) (hland : Lands s w p f idx (taken s w p))
    (l : List FWrite) (hwSet : List (Nat × W32)) (data mask : Nat) :
    writeField w p l hwSet s { f := f, idx := idx, data := data, mask := mask } =
      takeField w p f idx (mergeBits (fieldRead s p f idx) data mask) (taken s w p) := by
  have happly (v : Nat) (u : State) : applyField w p l f idx v u = takeField w p f idx v u := by
    obtain ⟨b, i⟩ := p
    fin_cases hp <;> rfl
  simp [writeField, hb, hpair, hacc, hown, gated_of_lands hland, happly]

/-- A word that its writer may write sets the field that lies in it. -/
theorem registerWrite_lands {s : State} {w : Writer} {off : Nat} {d : W32} {p : Page} {f : Fld} {idx : Nat} (hfree : BusFree s w)
    (hpage : pageAt off = some p) (hoff : off % 4 = 0) (hp : p.blk ∈ plainBlks) (hfld : fieldsAt p (off % 4096) = [(f, idx)])
    (hb : f.blk ≠ .hdr) (hacc : f.acc = .rw) (hlow : f.off < 0x800) (hperm : permitted f idx w = true) (hpair : pairOf f = none)
    (hown : isOwnerField f = false) : Yields (.registerWrite w [{ off := off, data := d, be := 15 }] [] plainBus) s (fun t =>
      rget t f p.inst idx = clampRng f.rng p.inst (bitsAt d.toNat f.lsb f.width) % 2 ^ f.width ∧ Bused (f.code :: (beatCodes ++ reportCodes)) s t) := by
  obtain ⟨hnum, hinst⟩ := pageAt_bounds hpage
  obtain ⟨hmem, hidx⟩ := mem_fieldsAt (hfld ▸ List.mem_cons_self : (f, idx) ∈ fieldsAt p (off % 4096)) hb
  obtain ⟨hfit, hwidth, hcount, hcode⟩ := plainBlks_fields p.blk hp f hmem
  have hidx : idx < 1024 := by omega
  have hdim : p.blk ≠ .dimtab := fun h => absurd (h ▸ hp) (by decide)
  have hst : p.blk ≠ .storc := fun h => absurd (h ▸ hp) (by decide)
  have hz : p.blk ≠ .zlink := fun h => absurd (h ▸ hp) (by decide)
  let x : WordWrite := { off := off, data := d, be := 15 }
  let u := busBeats s w.input 2 plainBus
  have hbeat : Bused beatCodes s u := bused_busBeats ..
  have htaken : Bused beatCodes u (taken u w p) := bused_taken ..
  have hland : Lands u w p f idx (taken u w p) := ⟨rfl, hperm, .inl hlow, .inl ((hbeat.trans htaken).frozen (by decide) |>.trans hfree.1.1)⟩
  obtain ⟨shown, hpw⟩ := pageWrite_of_one (s := u) (w := w) hdim (.inl hst) (fieldWrites_of_one (d := d) hoff hfld hfit hwidth hacc) hown []
  have hrun : exec (.registerWrite w [x] [] plainBus) s = .next (takeField w p f idx
      (mergeBits (fieldRead u p f idx) (bitsAt d.toNat f.lsb f.width) (2 ^ f.width - 1)) (taken u w p)) := by
    have hone : transactions [x] = [[x]] := rfl
    rw [clampReset, if_neg hz, clampPage_of_plain _ _ _ hp, writeField_of_plain hp hb hacc hpair hown hland] at hpw
    show Host.Outcome.next (regWrite s w [x] [] plainBus) = _
    rw [regWrite_of_busFree hfree, hone, List.foldl_cons, List.foldl_nil, transact_of_page (t := [x]) hfree.1 hpage]
    exact congrArg _ hpw
  refine ⟨_, hrun, ?_, ?_⟩
  · rw [rget_takeField _ w (by omega) (by omega) hidx (hcode hacc), mergeBits_mod _ (bitsAt_lt ..)]
  · refine ((hbeat.trans htaken).mono ?_).trans ((bused_takeField _ w (by omega) (by omega) f hidx _).mono ?_)
    · exact List.subset_cons_of_subset _ (List.subset_append_left ..)
    · exact List.cons_subset_cons _ (List.subset_append_right ..)

-- CTRL.LOCK -----------------------------------------------------------------------------------------------------------

/-- The codes of the fields whose range depends on another one, of the report of a change of such a field, and of a Hopper's capacity. -/
def clampCodes : List Nat :=
  [Reg.CLOCK_METER_BAND_FAIL, Reg.HBMC_REFRESH_WINDOW_NS, Reg.STORC_UPDATE_SHARE, Reg.STORC_HOPPER_SHARE,
    Reg.STORC_REFRESH_WINDOW_NS, Reg.MILL_WORK_SETS, Reg.MILL_GRID_W, Reg.MILL_GRID_H, Reg.HOPPER_HOP_REGIONS,
    Reg.HOPPER_HOP_WINDOW, Reg.RESET_REQ_INDEX, Reg.RESET_DRAIN_MS, Reg.HEALTH_ACT_LEVEL, Reg.POWER_TRIP_C,
    Reg.PERTURB_BP_ON, Reg.HOPPER_HOP_CAPACITY].map (·.code) ++ reportCodes

/-- The places of the fields of a page that depend on another one. -/
theorem dependents_places (s : State) (b : Blk) (i : Nat) (hopper update : Bool) :
    (dependents s ⟨b, i⟩ hopper update).all (fun d => clampCodes.contains d.1.code && decide (d.2.1 < 1024)) = true := by
  cases b with
  | storc => cases hopper <;> cases update <;> rfl
  | _ => rfl

theorem mem_dependents {s : State} {p : Page} {hopper update : Bool} {d : Fld × Nat × Nat × Nat} (h : d ∈ dependents s p hopper update) :
    d.1.code ∈ clampCodes ∧ d.2.1 < 1024 := by
  have hplace := List.all_eq_true.mp (dependents_places s p.blk p.inst hopper update) d h
  simpa only [Bool.and_eq_true, List.contains_iff_mem, decide_eq_true_eq] using hplace

theorem bused_lateReport (s : State) {p : Page} (hp : p.num < 16384) (w : Writer) (shown : Bool) (e : ClampEv) :
    Bused reportCodes s (lateReport s p w shown e) := by
  have hset (s : State) {f : Fld} (hf : f.code ∈ List.range' 540 9) (v : Nat) : Bused reportCodes s (rset s f p.num 0 v) :=
    bused_rset s (List.mem_append_left _ hf) hp (by decide) v
  unfold lateReport
  dsimp only
  split
  · exact bused_report s hp w e
  · exact (bused_report s hp w e).trans <| (hset _ (f := Reg.HDR_CLAMP0_KIND) (by decide) _).trans <|
      (hset _ (f := Reg.HDR_CLAMP0_FIELD_LSB) (by decide) _).trans <| (hset _ (f := Reg.HDR_CLAMP0_OFFSET) (by decide) _).trans <|
      (hset _ (f := Reg.HDR_CLAMP1_APPLIED) (by decide) _).trans (hset _ (f := Reg.HDR_CLAMP1_WRITTEN) (by decide) _)

theorem bused_clampDependent (s : State) (w : Writer) {p : Page} (hp : p.num < 16384) (hi : p.inst < 16384) (shown : Bool)
    (raw : Option Nat) {f : Fld} (hf : f.code ∈ clampCodes) {idx : Nat} (hidx : idx < 1024) (lo hi' : Nat) :
    Bused clampCodes s (clampDependent s w p shown raw f idx lo hi') := by
  have hcases : ∃ was v e, clampDependent s w p shown raw f idx lo hi' =
      if v = was then s else lateReport (rset s f p.inst idx v) p w shown e := ⟨_, _, _, rfl⟩
  obtain ⟨was, v, e, hcases⟩ := hcases
  rw [hcases]
  split
  · exact Bused.refl _ s
  · exact (bused_rset s hf hi hidx _).trans ((bused_lateReport _ hp w shown _).mono (List.subset_append_right _ _))

/-- All that the clamps after a transaction do. -/
theorem bused_clampPage (s t : State) (w : Writer) {p : Page} (hp : p.num < 16384) (hi : p.inst < 512) (shown : Bool) (l : List FWrite) :
    Bused clampCodes t (clampPage s t w p shown l) := by
  have hdep (hopper update : Bool) (raw : State → Fld × Nat × Nat × Nat → Option Nat) : Bused clampCodes t
      ((dependents t p hopper update).foldl (fun u d => clampDependent u w p shown (raw u d) d.1 d.2.1 d.2.2.1 d.2.2.2) t) :=
    bused_foldl (fun u d hd => bused_clampDependent u w hp (by omega) shown _ (mem_dependents hd).1 (mem_dependents hd).2 _ _) t
  unfold clampPage
  dsimp only
  split
  · refine (hdep _ _ _).trans (bused_foldl (fun u k hk => ?_) _)
    have hk := List.mem_range.mp hk
    split
    · exact bused_rset u (f := Reg.HOPPER_HOP_CAPACITY) (by decide) (by omega) (by omega) _
    · exact Bused.refl _ u
  · exact hdep _ _ _

theorem bused_clampReset (w : Writer) (p : Page) (t : State) : Bused clampCodes t (clampReset w p t) := by
  unfold clampReset
  split
  · exact bused_clampPage t t w (p := resetPage) (by decide) (by decide) _ _
  · exact Bused.refl _ t

/-- CTRL.LOCK is the one field of its word, on every page. -/
theorem fieldsAt_lock (p : Page) : fieldsAt p 8 = [(Reg.HDR_CTRL_LOCK, 0)] := by
  obtain ⟨b, i⟩ := p
  cases b <;> rfl

/-- A write of CTRL.LOCK by the platform has no effect but that of a write (R430, R434). -/
theorem writeField_lock {s : State} (hfroz : frozen s = false) {w : Writer} (hw : w.tenant = 15) (p : Page) (l : List FWrite)
    (hwSet : List (Nat × W32)) (data mask : Nat) :
    writeField w p l hwSet s { f := Reg.HDR_CTRL_LOCK, idx := 0, data := data, mask := mask } = taken s w p := by
  have hawake : frozen (wakeWrite s w p) = false := ((bused_wakeWrite s w p).frozen (by decide)).trans hfroz
  have hblk : Reg.HDR_CTRL_LOCK.blk = .hdr := rfl
  have happly (v : Nat) (u : State) : applyHdr p Reg.HDR_CTRL_LOCK v u = u := rfl
  simp only [writeField, hblk, if_true, hdrGated, hfroz, Bool.false_eq_true, if_false, hw, ne_eq, not_true_eq_false, false_and, hawake,
    happly, taken]

/-- All that CTRL_LOCK does. -/
theorem ctrlLock_bused {s : State} {w : Writer} {off : Nat} {p : Page} (hfree : BusFree s w) (hw : w.tenant = 15)
    (hpage : pageAt off = some p) (hdim : p.blk ≠ .dimtab) : Yields (.ctrlLock w off) s (Bused (beatCodes ++ clampCodes) s) := by
  obtain ⟨hnum, hinst⟩ := pageAt_bounds hpage
  let x : WordWrite := { off := off / 4096 * 4096 + 8, data := 1, be := 15 }
  let u := busBeats s w.input 2 plainBus
  have hbeat : Bused beatCodes s u := bused_busBeats ..
  have hxoff : x.off % 4096 = 8 := by simp only [x]; omega
  have hxpage : pageAt x.off = some p := by rw [← hpage]; exact pageAt_congr (by simp only [x]; omega)
  have hfw := fieldWrites_of_one (p := p) (off := x.off) (d := 1) (by omega) (hxoff ▸ fieldsAt_lock p) (by decide) (by decide) rfl
  obtain ⟨shown, hpw⟩ := pageWrite_of_one (s := u) (w := w) (x := x) hdim (.inr (by omega)) hfw rfl []
  rw [writeField_lock ((hbeat.frozen (by decide)).trans hfree.1.1) hw] at hpw
  have hrun : exec (.ctrlLock w off) s = .next (clampReset w p (clampPage u (taken u w p) w p shown
      [{ f := Reg.HDR_CTRL_LOCK, idx := 0, data := bitsAt (1 : W32).toNat 0 1, mask := 2 ^ 1 - 1 }])) := by
    have hone : transactions [x] = [[x]] := rfl
    show Host.Outcome.next (regWrite s w [x] [] plainBus) = _
    rw [regWrite_of_busFree hfree, hone, List.foldl_cons, List.foldl_nil, transact_of_page (t := [x]) hfree.1 hxpage]
    exact congrArg _ hpw
  refine ⟨_, hrun, ((hbeat.trans (bused_taken u w p)).mono (List.subset_append_left ..)).trans ?_⟩
  exact ((bused_clampPage _ _ w (by omega) hinst shown _).trans (bused_clampReset w p _)).mono (List.subset_append_right ..)

/-- Settles O25: a write of one word goes through the checks of its page, and its field is taken; what else it changes is framed. -/
theorem registerWritesLand : Obligations.RegisterWritesLand := by
  refine ⟨fun s w off d p f idx hfree hpage hoff hp hfld hb hacc hlow hperm hpair hown => ?_, fun s w words hfree hone hnone => ?_,
    fun s w off hfree hw ⟨p, hpage, hdim⟩ => ?_⟩
  · obtain ⟨t, hrun, hval, hframe⟩ := registerWrite_lands (d := d) hfree hpage hoff hp hfld hb hacc hlow hperm hpair hown
    exact ⟨t, hrun, hval, hframe.mem, hframe.queues, hframe.links, hframe.msf⟩
  · show Host.Outcome.next (regWrite s w words [] plainBus) = _
    rw [regWrite_of_busFree hfree, hone, List.foldl_cons, List.foldl_nil, transact_of_unmapped hfree.1 hnone]
  · obtain ⟨t, hrun, hframe⟩ := ctrlLock_bused hfree hw hpage hdim
    refine ⟨t, hrun, hframe.mem, hframe.queues, hframe.links, hframe.msf, fun q hq => ?_⟩
    exact hframe.kept _ _ _ (by decide) ((pageAt_bounds hq).1.trans (by decide)) (by decide)

end Sys2Proof.Machine
end

section
/-! PROOFS. The dockets of a queue (R117): what a change of one entry does, and that an access to memory moves run timers only. -/

namespace Sys2Proof.Machine

-- one queue -----------------------------------------------------------------------------------------------------------

@[simp] theorem queue_setQueue (s : State) (q : Nat) (l : List QEntry) : queue (setQueue s q l) q = l := mapGet_mapSet_same ..

theorem queue_congr {s t : State} (h : t.queues = s.queues) (q : Nat) : queue t q = queue s q := by simp only [queue, h]

theorem entryOf_congr {s t : State} (h : t.queues = s.queues) (q : Nat) (r : DocketRef) : entryOf t q r = entryOf s q r := by
  simp only [entryOf, queue_congr h]

/-- The first element that meets p, once f is applied to it. -/
theorem find?_updFirst {α : Type} {p : α → Bool} {f : α → α} (hf : ∀ x, p (f x) = p x) (l : List α) :
    (updFirst l p f).find? p = (l.find? p).map f := by
  induction l with
  | nil => rfl
  | cons x l ih =>
    rw [updFirst]
    by_cases h : p x = true
    · rw [if_pos h, List.find?_cons_of_pos (hf x ▸ h), List.find?_cons_of_pos h, Option.map_some]
    · rw [if_neg h, List.find?_cons_of_neg h, List.find?_cons_of_neg h, ih]

/-- A docket changed is found changed. -/
theorem entryOf_updEntry (s : State) (q : Nat) (r : DocketRef) {f : QEntry → QEntry} (hf : ∀ e, (f e).is r = e.is r) :
    entryOf (updEntry s q r f) q r = (entryOf s q r).map f := by
  rw [entryOf, updEntry, queue_setQueue, find?_updFirst hf, entryOf]

theorem entryOf_updEntry_of_some {s : State} {q : Nat} {r : DocketRef} {e : QEntry} (h : entryOf s q r = some e) {f : QEntry → QEntry}
    (hf : ∀ e, (f e).is r = e.is r) : entryOf (updEntry s q r f) q r = some (f e) := by
  rw [entryOf_updEntry s q r hf, h, Option.map_some]

-- run timers ----------------------------------------------------------------------------------------------------------

/-- The docket with its run timer at 0. -/
def QEntry.unran (e : QEntry) : QEntry := { e with ran := 0 }

theorem mapFind_map {α β : Type} (g : α → β) (m : SMap α) (k : Nat) :
    mapFind (m.map fun x => (x.1, g x.2)) k = (mapFind m k).map g := by
  induction m with
  | nil => rfl
  | cons x m ih =>
    obtain ⟨i, v⟩ := x
    simp only [List.map_cons, mapFind, ih]
    split <;> rfl

theorem queue_untimed (s : State) (q : Nat) : (queue s q).map QEntry.unran = mapGet (untimed s.queues) q [] := by
  have hmap : mapFind (untimed s.queues) q = (mapFind s.queues q).map (List.map QEntry.unran) := mapFind_map _ s.queues q
  rw [mapGet, hmap, queue, mapGet]
  cases mapFind s.queues q <;> rfl

/-- An access to memory leaves the dockets of a queue but their run timers. -/
theorem Accessed.queue {s t : State} (h : Accessed s t) (q : Nat) :
    (Machine.queue t q).map QEntry.unran = (Machine.queue s q).map QEntry.unran := by
  rw [queue_untimed, queue_untimed, h.queues]

theorem entryOf_unran (s : State) (q : Nat) (r : DocketRef) :
    (entryOf s q r).map QEntry.unran = ((Machine.queue s q).map QEntry.unran).find? (·.is r) := by
  rw [List.find?_map]
  rfl

/-- A docket stands in its queue after an access, with another run timer at most. -/
theorem Accessed.entryOf {s t : State} (h : Accessed s t) {q : Nat} {r : DocketRef} {e : QEntry} (he : Machine.entryOf s q r = some e) :
    ∃ n, Machine.entryOf t q r = some { e with ran := n } := by
  have hmap : (Machine.entryOf t q r).map QEntry.unran = some e.unran := by rw [entryOf_unran, h.queue, ← entryOf_unran, he]; rfl
  obtain ⟨f, hf, hu⟩ := Option.map_eq_some_iff.mp hmap
  refine ⟨f.ran, hf.trans (congrArg some ?_)⟩
  have : { f.unran with ran := f.ran } = { e.unran with ran := f.ran } := by rw [hu]
  exact this

/-- An engine's work on a docket is done. -/
def QEntry.finished (e : QEntry) (x : Access) (nonfinite flushed digest : Nat) : QEntry := { e with
  done := true, status := worst (e.status :: x.faults), badAddr := if e.status = 4 then e.badAddr else x.bad.getD 0
  nonfinite := e.nonfinite + nonfinite, flushed := e.flushed + flushed, digest := digest }

theorem finish_of_not_stalled {x : Access} (h : x.stalled = false) (s : State) (q : Nat) (e : QEntry) (nonfinite flushed digest : Nat) :
    finish s q e x nonfinite flushed digest = updEntry x.s q e.toRef (·.finished x nonfinite flushed digest) := by
  simp only [finish, h, Bool.false_eq_true, if_false]
  rfl

/-- The docket of finished work is found with its counts. -/
theorem entryOf_finish {s : State} {x : Access} (hx : Accessed s x.s) (hstall : x.stalled = false) {q : Nat} {e : QEntry}
    (he : entryOf s q e.toRef = some e) (nonfinite flushed digest : Nat) :
    ∃ n, entryOf (finish s q e x nonfinite flushed digest) q e.toRef = some { e.finished x nonfinite flushed digest with ran := n } := by
  obtain ⟨n, hn⟩ := hx.entryOf he
  have hupd := entryOf_updEntry x.s q e.toRef (f := (·.finished x nonfinite flushed digest)) fun _ => rfl
  exact ⟨n, by rw [finish_of_not_stalled hstall, hupd, hn]; rfl⟩

-- outputs -------------------------------------------------------------------------------------------------------------

theorem follows_writeAll (x : Access) (outs : List (Nat × List Byte)) : Follows x (writeAll x outs) :=
  follows_foldl (f := fun x (p : Nat × List Byte) => x.wr p.1 p.2) (fun x p => follows_wr x p.1 p.2) outs x

end Sys2Proof.Machine
end

section
/-! PROOFS. The Lathe and the vector engine (R100 to R109): their operands are read, their outputs written and their counts kept; and
VAMAX on the codes that stand in memory (R79). -/

namespace Sys2Proof.Machine

-- operands ------------------------------------------------------------------------------------------------------------

theorem reads_readPanels (x : Access) (a stride n bytes : Nat) : Reads x (readPanels x a stride n bytes).2 := by
  have hfold (l : List Nat) (acc : List (Array Byte) × Access) : Reads acc.2 (l.foldl (fun acc p =>
      let r := acc.2.rd (a + p * stride) bytes
      (acc.1 ++ [r.1.toArray], r.2)) acc).2 := by
    induction l generalizing acc with
    | nil => exact Reads.refl _
    | cons p l ih => exact (reads_rd acc.2 (a + p * stride) bytes).trans (ih (acc.1 ++ [(acc.2.rd (a + p * stride) bytes).1.toArray], _))
  exact hfold _ ([], x)

theorem reads_latheProduct (x : Access) (base : Nat) (d : Docket) (bank : Option (List Byte)) : Reads x (latheProduct x base d bank).x := by
  have hpanels (fa fb k a as n b bs m : Nat) :
      Reads x (readPanels (readPanels x a as n (panelBytes fa k)).2 b bs m (panelBytes fb k)).2 :=
    (reads_readPanels ..).trans (reads_readPanels ..)
  unfold latheProduct
  dsimp only
  split
  · exact hpanels ..
  · split
    · exact hpanels ..
    · exact (hpanels ..).trans (reads_rd ..)

theorem reads_latheTally (x : Access) (base : Nat) (d : Docket) : Reads x (latheTally x base d).x := by
  unfold latheTally
  dsimp only
  split <;> exact (reads_readPanels ..).trans (reads_readPanels ..)

theorem reads_latheExponent (x : Access) (base : Nat) (d : Docket) : Reads x (latheExponent x base d).x :=
  (reads_rd ..).trans (reads_rd ..)

theorem reads_chainAll (x : Access) (base : Nat) (d : Docket) : Reads x (chainAll x base d).2 := by
  have hif (x : Access) (k : Nat) : Reads x (readIf x base d k).2 := by
    unfold readIf
    split
    · exact reads_rd ..
    · exact Reads.refl x
  exact (reads_rd ..).trans ((hif _ 1).trans (hif _ 2))

/-- The operations of the vector engine read their operands and no more. -/
theorem reads_vector (x : Access) (base : Nat) (d : Docket) : Reads x (veMap x base d).x ∧ Reads x (veRowOp x base d).x ∧
    Reads x (veTto x base d).x ∧ Reads x (veTadd x base d).x ∧ Reads x (veTround x base d).x ∧ Reads x (veAmax x base d).x :=
  ⟨reads_chainAll x base d, reads_chainAll x base d, (reads_rd ..).trans (reads_rd ..),
    (reads_rd ..).trans ((reads_rd ..).trans ((reads_rd ..).trans (reads_rd ..))), (reads_rd ..).trans (reads_rd ..),
    (reads_rd ..).trans (reads_rd ..)⟩

-- operations ----------------------------------------------------------------------------------------------------------

theorem worked {s : State} {e : QEntry} {r : OpOut} (hr : Reads (e.access s) r.x) : Accessed s (writeAll r.x r.outs).s :=
  (hr.toFollows.trans (follows_writeAll r.x r.outs)).state

/-- A Lathe operation that does not wait ends with its outputs written and its bank kept. -/
theorem latheFinish_ends {s : State} {core : Nat} {e : QEntry} {r : OpOut} (hr : Reads (e.access s) r.x)
    (hstall : (writeAll r.x r.outs).stalled = false) (he : entryOf s (4 * core) e.toRef = some e) :
    (latheFinish s core e r).mem = (writeAll r.x r.outs).s.mem ∧ mapFind (latheFinish s core e r).carry core = some (bankAfter e r) ∧
      ∃ n, entryOf (latheFinish s core e r) (4 * core) e.toRef =
        some { e.finished (writeAll r.x r.outs) r.nonfinite r.flushed (digestOf e r.outs) with ran := n } := by
  have hrun : latheFinish s core e r = { finish s (4 * core) e (writeAll r.x r.outs) r.nonfinite r.flushed (digestOf e r.outs) with
      carry := mapSet (finish s (4 * core) e (writeAll r.x r.outs) r.nonfinite r.flushed (digestOf e r.outs)).carry core (bankAfter e r) } := by
    simp only [latheFinish, hstall, Bool.false_eq_true, if_false]
  obtain ⟨n, hn⟩ := entryOf_finish (worked hr) hstall he r.nonfinite r.flushed (digestOf e r.outs)
  refine ⟨?_, ?_, n, ?_⟩ <;> rw [hrun]
  · rw [finish_of_not_stalled hstall]
    rfl
  · exact mapFind_mapSet_same ..
  · exact hn

/-- A vector operation that does not wait ends with its outputs written and its elements counted. -/
theorem veRun_ends {s : State} {core op : Nat} (hcore : core < 512) {e : QEntry} {f : Access → Nat → Docket → OpOut} {n : Docket → Nat}
    (hr : Reads (e.access s) (f (e.access s) (coreBase core) e.dk).x) (hrun : runningOp s (4 * core + 1) 1 op = some e)
    (he : entryOf s (4 * core + 1) e.toRef = some e)
    (hstall : (writeAll (f (e.access s) (coreBase core) e.dk).x (f (e.access s) (coreBase core) e.dk).outs).stalled = false) :
    let r := f (e.access s) (coreBase core) e.dk
    let t := veRun s core op f n
    t.mem = (writeAll r.x r.outs).s.mem ∧ t.links = s.links ∧
      (∃ k, entryOf t (4 * core + 1) e.toRef = some { e.finished (writeAll r.x r.outs) r.nonfinite r.flushed (digestOf e r.outs) with ran := k }) ∧
      (rget s Reg.VEC_ELEMENTS core + n e.dk < 2 ^ 32 → rget t Reg.VEC_ELEMENTS core = rget s Reg.VEC_ELEMENTS core + n e.dk) := by
  intro r t
  have hframe : Accessed s (writeAll r.x r.outs).s := worked hr
  have hfin := finish_of_not_stalled hstall s (4 * core + 1) e r.nonfinite r.flushed (digestOf e r.outs)
  have ht : t = rinc (finish s (4 * core + 1) e (writeAll r.x r.outs) r.nonfinite r.flushed (digestOf e r.outs)) Reg.VEC_ELEMENTS core 0 (n e.dk) := by
    simp only [t, veRun, hrun, hstall, Bool.false_eq_true, if_false]
    rfl
  obtain ⟨k, hk⟩ := entryOf_finish hframe hstall he r.nonfinite r.flushed (digestOf e r.outs)
  refine ⟨?_, ?_, ⟨k, ?_⟩, fun hlt => ?_⟩
  · rw [ht, rinc_mem, hfin, updEntry_mem]
  · rw [ht, rinc_links, hfin, updEntry_links, hframe.form]
  · rw [ht, entryOf_congr (rinc_queues ..), hk]
  · have hold : rget (finish s (4 * core + 1) e (writeAll r.x r.outs) r.nonfinite r.flushed (digestOf e r.outs)) Reg.VEC_ELEMENTS core =
        rget s Reg.VEC_ELEMENTS core := by
      rw [hfin, rget_congr (updEntry_regs ..), hframe.rget (by decide) (by omega) (by decide)]
    rw [ht, rget_rinc _ _ _ _ _ (by rw [hold]; exact hlt), hold]

/-- The carried-over mark and the cycle counts of an LMMA leave memory, the banks and the docket's work. -/
theorem lmma_ends {s : State} {core : CoreId} {e : QEntry} {r : OpOut} (hclk : Clocked s)
    (hrun : runningOp s (4 * core.val) 0 0 = some e) (he : entryOf s (4 * core.val) e.toRef = some e)
    (hr : r = (if laTally e.dk then latheTally (e.access s) (coreBase core.val) e.dk
      else latheProduct (e.access s) (coreBase core.val) e.dk (carriesOver s core.val e)))
    (hstall : (writeAll r.x r.outs).stalled = false) : Yields (.lmma core) s (fun t =>
      t.mem = (writeAll r.x r.outs).s.mem ∧ mapFind t.carry core.val = some (bankAfter e r) ∧
        ∃ f, entryOf t (4 * core.val) e.toRef = some f ∧ f.done = true ∧
          f.status = worst (e.status :: (writeAll r.x r.outs).faults) ∧ f.nonfinite = e.nonfinite + r.nonfinite) := by
  have hreads : Reads (e.access s) r.x := by
    rw [hr]
    split
    · exact reads_latheTally ..
    · exact reads_latheProduct ..
  obtain ⟨hmem, hcarry, n, hn⟩ := latheFinish_ends hreads hstall he
  have hdone : (entryOf (latheFinish s core.val e r) (4 * core.val) e.toRef).any (·.done) = true := by rw [hn]; rfl
  have hexec : exec (.lmma core) s = .next (
      let steps := laK e.dk / latheG (latheRow (laAFmt e.dk))
      let t := rinc (latheFinish s core.val e r) Reg.LATHE_ISSUE_CYCLES core.val 0 (laTiles e.dk * steps)
      let t := rinc t Reg.LATHE_CONFLICT_CYCLES core.val 0 ((laWalk e.dk).countP (panelsCollide e.dk) * steps)
      if (carriesOver s core.val e).isSome then
        updEntry (rinc t Reg.LATHE_CARRY_COUNT core.val) (4 * core.val) e.toRef (fun e => { e with carry := true })
      else t) := by
    subst hr
    simp only [exec, execLmma, live_of_clocked hclk, hrun, hdone, if_true]
  rw [Yields, hexec]
  refine ⟨_, rfl, ?_⟩
  dsimp only
  have hcount (f g : Fld) (i j m k : Nat) : entryOf (rinc (rinc (latheFinish s core.val e r) f i 0 m) g j 0 k) (4 * core.val) e.toRef = _ :=
    (entryOf_congr (rinc_queues ..) ..).trans ((entryOf_congr (rinc_queues ..) ..).trans hn)
  split
  · exact ⟨by simpa using hmem, by simpa using hcarry, _,
      entryOf_updEntry_of_some ((entryOf_congr (rinc_queues ..) ..).trans (hcount ..)) fun _ => rfl, rfl, rfl, rfl⟩
  · exact ⟨by simpa using hmem, by simpa using hcarry, _, hcount .., rfl, rfl, rfl⟩

/-- A running vector operation ends. -/
theorem vector_ends {s : State} {core : CoreId} {e : QEntry} {c : Instr} {op : Nat} {f : Access → Nat → Docket → OpOut}
    {n : Docket → Nat} (hexec : exec c s = .next (veRun s core.val op f n)) (hr : Reads (e.access s) (f (e.access s) (coreBase core.val) e.dk).x)
    (hrun : runningOp s (4 * core.val + 1) 1 op = some e) (he : entryOf s (4 * core.val + 1) e.toRef = some e)
    (hstall : (writeAll (f (e.access s) (coreBase core.val) e.dk).x (f (e.access s) (coreBase core.val) e.dk).outs).stalled = false) :
    let r := f (e.access s) (coreBase core.val) e.dk
    Yields c s (fun t => t.mem = (writeAll r.x r.outs).s.mem ∧ t.links = s.links ∧
      (∃ g, entryOf t (4 * core.val + 1) e.toRef = some g ∧ g.done = true ∧
        g.status = worst (e.status :: (writeAll r.x r.outs).faults) ∧ g.nonfinite = e.nonfinite + r.nonfinite) ∧
      (rget s Reg.VEC_ELEMENTS core.val + n e.dk < 2 ^ 32 →
        rget t Reg.VEC_ELEMENTS core.val = rget s Reg.VEC_ELEMENTS core.val + n e.dk)) := by
  obtain ⟨hmem, hlinks, ⟨k, hk⟩, hcount⟩ := veRun_ends core.isLt (n := n) hr hrun he hstall
  exact ⟨_, hexec, hmem, hlinks, ⟨_, hk, rfl, rfl, rfl⟩, hcount⟩

-- VAMAX ---------------------------------------------------------------------------------------------------------------

/-- Packed elements of 16 bits take two bytes each. -/
theorem length_pack16 (l : List Nat) : (pack 16 l).length = 2 * l.length := by
  fun_induction pack 16 l with
  | case1 a b c d e f g h r ih => simp only [List.length_append, length_natLe, ih, List.length_cons]; omega
  | case2 l h => simp only [length_natLe]; omega

/-- Element i of a stream of 16-bit elements. -/
theorem leNat_drop_take_two (l : List Byte) {i : Nat} (h : 2 * i + 2 ≤ l.length) :
    leNat ((l.drop (2 * i)).take 2) = bitsAt (leNat l) (16 * i) 16 := by
  have hlt := leNat_lt ((l.drop (2 * i)).take 2)
  have hlen : ((l.drop (2 * i)).take 2).length = 2 := by simp; omega
  rw [hlen] at hlt
  have hwhole : bitsAt (leNat ((l.drop (2 * i)).take 2)) 0 16 = leNat ((l.drop (2 * i)).take 2) := by
    simpa [bitsAt] using Nat.mod_eq_of_lt hlt
  rw [← hwhole, bitsAt_leNat_take _ (by decide), bitsAt_leNat_drop]
  congr 1
  omega

theorem sext_eq (n : Nat) : sext 16 n = if n % 2 ^ 16 < 2 ^ 15 then (n % 2 ^ 16 : Int) else (n % 2 ^ 16 : Int) - 2 ^ 16 := by
  have hbit : bitAt n 15 = true ↔ ¬ n % 2 ^ 16 < 2 ^ 15 := by
    simp only [bitAt, bitsAt, Nat.shiftRight_eq_div_pow, beq_iff_eq]
    omega
  rw [sext, if_congr hbit rfl rfl, ite_not]

theorem sext_bounds (n : Nat) : -2 ^ 15 ≤ sext 16 n ∧ sext 16 n < 2 ^ 15 := by
  rw [sext_eq]
  split <;> omega

/-- A number of 16 bits is that of its code. -/
theorem sext_twos {i : Int} (h : -2 ^ 15 ≤ i ∧ i < 2 ^ 15) : sext 16 (twos 16 i % 2 ^ 16) = i := by
  rw [sext_eq, twos]
  split <;> omega

/-- What VAMAX reads of a stream of codes: those that stand in memory. -/
theorem readWords_legible {x : Access} {a n : Nat} (h : Legible x.s x.tenant a (2 * n)) :
    (readWords x a 16 n).1.length = n ∧ (∀ i, i < n → (readWords x a 16 n).1[i]? = some (sext 16 (memNat x.s (a + 2 * i) 2))) ∧
      Calm x (readWords x a 16 n).2 ∧ (readWords x a 16 n).2.s.mem = x.s.mem := by
  obtain ⟨hread, hcalm, hmem, -⟩ := calm_rd h
  have hwords : (readWords x a 16 n).1 = (List.range n).map fun i => sext 16 (bitsAt (leNat (memRead x.s.mem a (2 * n))) (16 * i) 16) := by
    rw [← hread]
    simp only [readWords, unpack_eq_map_bitsAt, List.map_map]
    rfl
  have hlen : (memRead x.s.mem a (2 * n)).length = 2 * n := by simp [memRead_eq]
  refine ⟨by rw [hwords]; simp, fun i hi => ?_, hcalm, hmem⟩
  have htwo : ((memRead x.s.mem a (2 * n)).drop (2 * i)).take 2 = memRead x.s.mem (a + 2 * i) 2 :=
    memRead_slice _ _ (by omega)
  rw [hwords, List.getElem?_map, List.getElem?_range hi, Option.map_some, ← leNat_drop_take_two _ (by omega), htwo]
  rfl

/-- VAMAX over codes that can be read. -/
theorem veAmax_legible {x : Access} {base : Nat} {d : Docket} {i : Nat} (h0 : Legible x.s x.tenant (base + veIn d 0) (2 * veCount d))
    (h1 : Legible x.s x.tenant (base + veIn d 1) (2 * veCount d)) (hi : i < veCount d) :
    ∃ bytes, (veAmax x base d).outs = [(base + veOut d, bytes)] ∧ bytes.length = 2 * veCount d ∧
      sext 16 (leNat ((bytes.drop (2 * i)).take 2)) =
        max (sext 16 (memNat x.s (base + veIn d 0 + 2 * i) 2)) (sext 16 (memNat x.s (base + veIn d 1 + 2 * i) 2)) := by
  obtain ⟨hlen, hget, hcalm, hmem⟩ := readWords_legible h0
  obtain ⟨hlen', hget', -⟩ := readWords_legible (hcalm.tenant ▸ hcalm.legible h1)
  have hsame (a : Nat) : memNat (readWords x (base + veIn d 0) 16 (veCount d)).2.s a 2 = memNat x.s a 2 := by simp only [memNat, hmem]
  refine ⟨_, rfl, ?_, ?_⟩
  · rw [length_pack16]
    simp [hlen, hlen']
  · have hzip : i < (((readWords x (base + veIn d 0) 16 (veCount d)).1.zip
        (readWords (readWords x (base + veIn d 0) 16 (veCount d)).2 (base + veIn d 1) 16 (veCount d)).1).map
          (fun p => twos 16 (max p.1 p.2))).length := by simp [hlen, hlen', hi]
    rw [leNat_drop_take_two _ (by rw [length_pack16]; omega), leNat_pack, bitsAt_packNat 16 _ hzip]
    have h0 := hget i hi
    have h1 := (hget' i hi).trans (by rw [hsame])
    rw [List.getElem?_eq_some_iff] at h0 h1
    obtain ⟨_, h0⟩ := h0
    obtain ⟨_, h1⟩ := h1
    simp only [List.getElem_map, List.getElem_zip, h0, h1]
    refine sext_twos ?_
    rcases max_choice (sext 16 (memNat x.s (base + veIn d 0 + 2 * i) 2)) (sext 16 (memNat x.s (base + veIn d 1 + 2 * i) 2)) with h | h <;>
      rw [h] <;> exact sext_bounds _

/-- Settles O34: an engine's operation reads, writes its outputs and changes its docket's entry; VAMAX by the codes in memory. -/
theorem latheAndVectorOperations : Obligations.LatheAndVectorOperations := by
  refine ⟨fun s core e hclk he => ⟨fun r hrun hr hstall => lmma_ends hclk hrun he hr hstall, fun r hrun hr hstall => ?_⟩,
    fun s core e c op f n hclk hc hrun he hstall => ?_, fun x base d i ht hp hf ho hh0 hh1 hi => ?_⟩
  · subst hr
    obtain ⟨hmem, -, n, hn⟩ := latheFinish_ends (reads_latheExponent ..) hstall he
    exact ⟨_, by simp only [exec, execLtally, live_of_clocked hclk, hrun], hmem, _, hn, rfl, rfl, rfl⟩
  · have hreads := reads_vector (e.access s) (coreBase core.val) e.dk
    have hlive (op : Nat) (f : Access → Nat → Docket → OpOut) (n : Docket → Nat) :
        Host.Outcome.next (live s (fun s => veRun s core.val op f n)) = (Host.Outcome.next (veRun s core.val op f n) : Host.Outcome State Fault Refusal) := by
      rw [live_of_clocked hclk]
    obtain ⟨hmap, hrow, htto, htadd, htround, hamax⟩ := hreads
    simp only [List.mem_cons, Prod.mk.injEq, List.not_mem_nil, or_false] at hc
    rcases hc with ⟨rfl, rfl, rfl, rfl⟩ | ⟨rfl, rfl, rfl, rfl⟩ | ⟨rfl, rfl, rfl, rfl⟩ | ⟨rfl, rfl, rfl, rfl⟩ | ⟨rfl, rfl, rfl, rfl⟩ | ⟨rfl, rfl, rfl, rfl⟩
    · exact vector_ends (c := .vmap core) (hlive 0 veMap veCount) hmap hrun he hstall
    · exact vector_ends (c := .vrow core) (hlive 1 veRowOp fun d => veRows d + (if veElemOut d then veCount d else 0)) hrow hrun he hstall
    · exact vector_ends (c := .vtto core) (hlive 2 veTto veCount) htto hrun he hstall
    · exact vector_ends (c := .vtadd core) (hlive 3 veTadd veCount) htadd hrun he hstall
    · exact vector_ends (c := .vtround core) (hlive 4 veTround veCount) htround hrun he hstall
    · exact vector_ends (c := .vamax core) (hlive 5 veAmax veCount) hamax hrun he hstall
  · have hlines (l : Nat) : ClearLine x.s x.tenant l := by
      refine ⟨by rw [mayAccess, ht]; rfl, ?_, by rw [hp]; exact List.not_mem_nil, by rw [hf]; rfl⟩
      unfold Machine.outOfService
      rw [ho]
      split <;> rfl
    exact veAmax_legible ⟨hh0, fun l _ => hlines l⟩ ⟨hh1, fun l _ => hlines l⟩ hi

end Sys2Proof.Machine
end

section
/-! PROOFS. The start of a copy (R113): its chunks are those of the docket that runs, and they are listed in the first entry of the queue
that has the docket's reference. -/

namespace Sys2Proof.Machine

/-- An entry of core 0's Porter queue: a PCOPY of some bytes. -/
def copyEntry (bytes : Nat) (running : Bool) : QEntry :=
  { dk := BitVec.ofNat 1024 (2 * 2 ^ 32 + bytes * 2 ^ 512), die := 0, tenant := 15, seq := 0, est := 0, late := false, clamped := false
    reexec := false, carry := false, released := true, judged := true, eligible := true, waitFrom := none, running := running, ran := 0
    done := false, cut := false, status := 0, badAddr := 0, nonfinite := 0, flushed := 0, digest := 0, todo := [], seqs := [], idx := []
    parts := [], slot := none, started := false, xargs := [], startStamp := 0 }

/-- A copy of one byte runs, and an empty copy of the same reference stands before it in the queue. -/
def twoCopies : State := { State.reset with queues := [(2, [copyEntry 0 false, copyEntry 1 true])] }

/-- The work of the front entry of core 0's Porter queue is done. -/
def frontDone (o : Host.Outcome State Fault Refusal) : Bool :=
  match o with
  | .next t => (queue t 2).head?.any (·.done)
  | _ => false

/-- Refutes O35: with two dockets of one reference in the queue, the running one's count of chunks goes to the entry in front, where the
statement reads the count off that entry. -/
theorem not_porterCommands : ¬ Obligations.PorterCommands := by
  unfold Obligations.PorterCommands
  rintro ⟨hstart, -, -⟩
  have hrun := hstart twoCopies 0 (copyEntry 1 true) (.pcopy 0) 0 (by decide) rfl (by decide) (by decide +kernel)
    (by decide +kernel) (by decide +kernel) (by decide +kernel)
    (by decide +kernel) (by decide +kernel)
  have hdone := congrArg frontDone hrun
  exact absurd hdone (by decide +kernel)

end Sys2Proof.Machine
end

section
/-! PROOFS. The network (R242 to R261, R263, R270, R380): all that sending a packet, an answer or a REJECT can do. -/

namespace Sys2Proof.Machine

-- the frame -----------------------------------------------------------------------------------------------------------

/-- The codes of the fields that the network writes when it sends. -/
def sendCodes : List Nat :=
  [Reg.PERTURB_EVENTS, Reg.ROUTE_NO_ROUTE_DROPS, Reg.ROUTE_LOOP_DROPS, Reg.ROUTE_MCAST_DROPS, Reg.ROUTE_FENCED_DROPS, Reg.ROUTE_GEN_DROPS,
    Reg.MSF_BAD_OPC, Reg.HEALTH_SHADOW_DROPS, Reg.MSF_INDETERMINATE].map (·.code) ++ noteFields.map (·.code)

/-- t differs from s in the links, the router, the times of the last packets, the counts of the network, records and outputs only. -/
structure Met (s t : State) : Prop where
  form : t = { s with
    regs := t.regs, ledger := t.ledger, out := t.out, pins := { s.pins with acked := t.pins.acked }, links := t.links, route := t.route
    resets := { s.resets with lastSent := t.resets.lastSent }, perturb := t.perturb }
  kept : CodesKept sendCodes s t

/-- A link without what its transmitter changes. -/
def LinkSt.received (k : LinkSt) : LinkSt :=
  { k with slot := 0, marker := 0, timeAt := 0, toReturn := [], next := 0, replay := [], ackAt := 0, used := [], pool := 0, tx := [] }

/-- The same, where the receiving side of no link has changed. -/
structure Sent (s t : State) : Prop extends Met s t where
  heard : ∀ n, (linkOf t n).received = (linkOf s n).received

variable {s t u : State}

theorem Met.refl (s : State) : Met s s := ⟨rfl, codesKept_of_regs _ rfl⟩

theorem Met.trans (h : Met s t) (g : Met t u) : Met s u := by
  refine ⟨?_, h.kept.trans g.kept⟩
  rw [g.form, h.form]

theorem Met.mem (h : Met s t) : t.mem = s.mem := by rw [h.form]
theorem Met.queues (h : Met s t) : t.queues = s.queues := by rw [h.form]
theorem Met.msf (h : Met s t) : t.msf = s.msf := by rw [h.form]
theorem Met.time (h : Met s t) : t.time = s.time := by rw [h.form]

theorem Sent.refl (s : State) : Sent s s := ⟨Met.refl s, fun _ => rfl⟩
theorem Sent.trans (h : Sent s t) (g : Sent t u) : Sent s u := ⟨h.toMet.trans g.toMet, fun n => (g.heard n).trans (h.heard n)⟩

theorem met_setLink (s : State) (l : Nat) (k : LinkSt) : Met s (setLink s l k) := ⟨rfl, codesKept_of_regs _ rfl⟩

theorem sent_setLink (s : State) {l : Nat} {k : LinkSt} (h : k.received = (linkOf s l).received) : Sent s (setLink s l k) := by
  refine ⟨met_setLink s l k, fun n => ?_⟩
  by_cases hn : n = l
  · rw [hn, linkOf_setLink, h]
  · rw [linkOf_setLink_ne s k hn]

theorem linkOf_congr (h : t.links = s.links) (n : Nat) : linkOf t n = linkOf s n := congrArg (mapGet · n LinkSt.reset) h

theorem sent_rset (s : State) {f : Fld} (hf : f.code ∈ sendCodes) {i : Nat} (hi : i < 16384) (v : Nat) : Sent s (rset s f i 0 v) :=
  ⟨⟨rfl, codesKept_rset s hf hi (by decide) v⟩, fun _ => rfl⟩

theorem sent_rinc (s : State) {f : Fld} (hf : f.code ∈ sendCodes) {i : Nat} (hi : i < 16384) (n : Nat) : Sent s (rinc s f i 0 n) := by
  obtain ⟨v, hv⟩ := rinc_eq_rset s f i 0 n
  rw [hv]
  exact sent_rset s hf hi v

theorem Noted.sent (h : Noted s t) : Sent s t := by
  refine ⟨⟨?_, h.regsKept.codesKept.mono (List.subset_append_right _ _)⟩, fun n => congrArg LinkSt.received (linkOf_congr ?_ n)⟩ <;>
    rw [h.1]

theorem sent_emit (s : State) (o : Out) : Sent s (emit s o) := ⟨⟨rfl, codesKept_of_regs _ rfl⟩, fun _ => rfl⟩
theorem sent_route (s : State) (r : RouteSt) : Sent s { s with route := r } := ⟨⟨rfl, codesKept_of_regs _ rfl⟩, fun _ => rfl⟩

theorem sent_foldl {α : Type} {f : State → α → State} (hf : ∀ s x, Sent s (f s x)) (l : List α) (s : State) : Sent s (l.foldl f s) := by
  induction l generalizing s with
  | nil => exact Sent.refl s
  | cons x l ih => exact (hf s x).trans (ih _)

-- links ---------------------------------------------------------------------------------------------------------------

theorem sent_sendSlot (s : State) (l : LinkId) : Sent s (sendSlot s l) := by
  unfold sendSlot
  dsimp only
  split
  · exact sent_setLink _ rfl
  · exact (sent_setLink _ (by rfl)).trans (sent_emit ..)

theorem sent_nextFlit (s : State) (l : LinkId) (kind : Nat) (fseq : BitVec 12) (vc : Nat) (units : List Nat) :
    Sent s (nextFlit s l kind fseq vc units).2 := by
  unfold nextFlit
  dsimp only
  split
  · exact (sent_sendSlot s l).trans ((sent_setLink _ (by rfl)).trans (sent_emit ..))
  · exact (sent_sendSlot s l).trans (sent_setLink _ (by rfl))

theorem sent_sendIdle (s : State) (l : LinkId) : Sent s (sendIdle s l) := (sent_nextFlit ..).trans (sent_emit ..)
theorem sent_sendControl (s : State) (l : LinkId) (n : Nat) : Sent s (sendControl s l n) := (sent_nextFlit ..).trans (sent_emit ..)

theorem sent_pertEvent (s : State) {d : Nat} (hd : d < 16384) (ctl every count : Nat) : Sent s (pertEvent s d ctl every count).2 := by
  have hcount (m : SMap PertCnt) : Sent s { s with perturb := m } := ⟨⟨rfl, codesKept_of_regs _ rfl⟩, fun _ => rfl⟩
  unfold pertEvent
  dsimp only
  split
  · exact (hcount _).trans (sent_rinc _ (f := Reg.PERTURB_EVENTS) (by decide) hd 1)
  · exact hcount _

theorem sent_pertFlit (s : State) (l : LinkId) : Sent s (pertFlit s l) := by
  have hd : 8 + l.val % 2 < 16384 := by omega
  unfold pertFlit
  dsimp only
  split
  · split
    · exact (sent_pertEvent s hd ..).trans (sent_emit ..)
    · exact sent_pertEvent s hd ..
  · exact Sent.refl s

theorem sent_sendData (s : State) (l : LinkId) (vc : Nat) (units : List Nat) : Sent s (sendData s l vc units) :=
  (sent_nextFlit ..).trans ((sent_setLink _ (by rfl)).trans (sent_pertFlit ..))

theorem sent_transmit (s : State) (l : LinkId) (p : Packet) : Sent s (transmit s l p) :=
  (sent_setLink _ (by rfl)).trans ((sent_foldl (fun s g => sent_sendData s l _ g) _ _).trans (sent_emit ..))

theorem sent_linkSend (s : State) (l : LinkId) (p : Packet) : Sent s (linkSend s l p) := by
  unfold linkSend
  dsimp only
  split
  · exact sent_transmit ..
  · exact sent_setLink _ rfl

theorem sent_pump (s : State) (l : LinkId) : Sent s (pump s l) :=
  (sent_setLink _ (by rfl)).trans (sent_foldl (fun s p => sent_linkSend s l p) _ _)

theorem sent_returnUnits (s : State) (l : LinkId) (p : Packet) : Sent s (returnUnits s l p) := (sent_setLink _ (by rfl)).trans (sent_sendIdle ..)

-- the router ----------------------------------------------------------------------------------------------------------

theorem sent_drop (s : State) {f : Fld} (hf : f.code ∈ sendCodes) : Sent s (rinc s f) := sent_rinc s hf (by decide) 1

theorem sent_forward (s : State) (from' : Option LinkId) (p : Packet) : Sent s (forward s from' p) := by
  have hdrop {f : Fld} (hf : f.code ∈ sendCodes) : Sent s (routeRecord (rinc s f) f p) := (sent_drop s hf).trans (noted_raise _ _).sent
  unfold forward
  split
  · exact hdrop (f := Reg.ROUTE_NO_ROUTE_DROPS) (by decide)
  · split
    · exact hdrop (f := Reg.ROUTE_LOOP_DROPS) (by decide)
    · split
      · exact hdrop (f := Reg.ROUTE_NO_ROUTE_DROPS) (by decide)
      · split
        · exact sent_linkSend ..
        · exact Sent.refl s

theorem sent_keepPacket (s : State) (p : Packet) : Sent s (keepPacket s p) := by
  unfold keepPacket
  split
  · exact sent_drop s (f := Reg.MSF_BAD_OPC) (by decide)
  · exact sent_route ..

theorem sent_replicate (s : State) (from' : Option LinkId) (m : Mcast) (p : Packet) : Sent s (replicate s from' m p) := by
  have hlinks := sent_foldl (fun s l => sent_linkSend s l (mcastCopy l p)) (groupLinks m from') s
  unfold replicate
  dsimp only
  split
  · exact hlinks.trans (sent_keepPacket ..)
  · exact hlinks

theorem sent_pumpMcast (s : State) : Sent s (pumpMcast s) := by
  refine sent_foldl (fun s p => ?_) _ s
  dsimp only
  split
  · exact Sent.refl s
  · split
    · exact (sent_route ..).trans (sent_drop _ (f := Reg.ROUTE_MCAST_DROPS) (by decide))
    · split
      · refine Sent.trans ?_ (sent_replicate ..)
        exact sent_route ..
      · exact Sent.refl s

/-- A packet that nothing holds back leaves: replicated by its group, or forwarded. -/
def sendNow (s : State) (die : Option LinkId) (p : Packet) : State :=
  if pMcast p then
    if (groupOf s (pDst p % 4096)).valid then pumpMcast { s with route := { s.route with mwait := s.route.mwait ++ [p] } }
    else rinc s Reg.ROUTE_MCAST_DROPS
  else forward s die p

theorem sent_sendNow (s : State) (die : Option LinkId) (p : Packet) : Sent s (sendNow s die p) := by
  unfold sendNow
  split
  · split
    · exact (sent_route ..).trans (sent_pumpMcast _)
    · exact sent_drop _ (f := Reg.ROUTE_MCAST_DROPS) (by decide)
  · exact sent_forward ..

/-- All that sending a packet does. -/
theorem sent_send (s : State) (q : Option Nat) (p : Packet) (die : Option LinkId) : Sent s (send s q p die) := by
  have hsend : ∃ last, send s q p die =
      if rget s Reg.HEALTH_SHADOW_EN = 1 ∧ rget s Reg.HEALTH_SHADOW_TENANT = pTenant p then rinc s Reg.HEALTH_SHADOW_DROPS
      else if rget s Reg.ROUTE_FENCED_SELF = 1 ∧ pTenant p ≠ 15 then rinc s Reg.ROUTE_FENCED_DROPS
      else if s.resets.ownGen.isSome ∧ pTenant p ≠ 15 then { s with route := { s.route with held := s.route.held ++ [p] } }
      else sendNow { s with resets := { s.resets with lastSent := last } } die p := ⟨_, rfl⟩
  obtain ⟨last, hsend⟩ := hsend
  have hlast : Sent s { s with resets := { s.resets with lastSent := last } } := ⟨⟨rfl, codesKept_of_regs _ rfl⟩, fun _ => rfl⟩
  rw [hsend]
  split
  · exact sent_drop s (f := Reg.HEALTH_SHADOW_DROPS) (by decide)
  · split
    · exact sent_drop s (f := Reg.ROUTE_FENCED_DROPS) (by decide)
    · split
      · exact sent_route ..
      · exact hlast.trans (sent_sendNow ..)

theorem sent_respond (s : State) (p : Packet) (opc cls status extra : Nat) (data : List Byte) :
    Sent s (respond s p opc cls status extra data) := by
  unfold respond
  dsimp only
  split
  · exact Sent.refl s
  · exact sent_send ..

/-- All that answering a packet does. -/
theorem sent_answerPacket (s : State) (p : Packet) (opc status extra : Nat) (data : List Byte) :
    Sent s (answerPacket s p opc status extra data) := by
  have hcount : Sent s (if status = 9 then rinc s Reg.MSF_INDETERMINATE else s) := by
    split
    · exact sent_drop s (f := Reg.MSF_INDETERMINATE) (by decide)
    · exact Sent.refl s
  unfold answerPacket
  dsimp only
  split
  · exact hcount
  · exact hcount.trans (sent_respond ..)

-- arrivals ------------------------------------------------------------------------------------------------------------

theorem sent_sendReject (s : State) (p : Packet) (check : Nat) : Sent s (sendReject s p check) := by
  have shape : ∃ (due : Bool) (r : RouteSt) (die : Option Nat) (q : Packet),
      sendReject s p check = if !due then s else send { s with route := r } die q := ⟨_, _, _, _, rfl⟩
  obtain ⟨due, r, die, q, h⟩ := shape
  rw [h]
  split
  · exact Sent.refl s
  · exact (sent_route ..).trans (sent_send ..)

theorem sent_checkArrival (s : State) (l : LinkId) (p : Packet) : Sent s (checkArrival s l p).1 := by
  have hdrop (check : Nat) : Sent s (sendReject (rinc s Reg.ROUTE_GEN_DROPS) p check) :=
    (sent_drop s (f := Reg.ROUTE_GEN_DROPS) (by decide)).trans (sent_sendReject ..)
  unfold checkArrival
  dsimp only
  split
  · exact hdrop 0
  · split
    · exact hdrop 1
    · exact Sent.refl s

theorem met_takeRx (s : State) (l : LinkId) (p : Packet) : Met s (takeRx s l p) := by
  unfold takeRx
  dsimp only
  split
  · exact (met_setLink ..).trans (sent_returnUnits ..).toMet
  · exact Met.refl s

/-- All that the arrival of a packet does. -/
theorem met_admitPacket (s : State) (l : Option LinkId) (p : Packet) : Met s (admitPacket s l p).1 := by
  unfold admitPacket
  split
  · exact (sent_route ..).toMet
  · split
    · exact Met.refl s
    · exact (met_takeRx ..).trans (sent_checkArrival ..).toMet

/-- A packet that passes its checks goes on, or waits as it was. -/
theorem live_arrived {s u : State} {l : Option LinkId} {p : Packet} {opc : Nat} (h : Passed s l p opc u) (k : State → Option State) :
    live s (fun s => arrived s l p opc k) = (k u).getD s := by
  obtain ⟨hclk, hopc, hdst, hadmit⟩ := h
  have hfor : ¬ (pOpc p ≠ opc ∨ (!pMcast p) = true ∧ pDst p ≠ ownDev s) := by
    rintro (h | ⟨hm, hd⟩)
    · exact h hopc
    · exact hdst.elim (fun h => by simp [h] at hm) hd
  rw [live_of_clocked hclk, arrived, if_neg hfor, hadmit]
  rfl

theorem Passed.met {s u : State} {l : Option LinkId} {p : Packet} {opc : Nat} (h : Passed s l p opc u) : Met s u := by
  have := met_admitPacket s l p
  rwa [h.2.2.2] at this

end Sys2Proof.Machine
end

section
/-! PROOFS. Plain accesses, and atomics (R269, R277, R278): one word exchanged, and the receipt that answers its copies. -/

namespace Sys2Proof.Machine

-- plain ranges --------------------------------------------------------------------------------------------------------

theorem Plain.clear {s : State} {t a n : Nat} (h : Plain s t a n) : Clear s t a n := by
  obtain ⟨-, hhole, -, hdebug, hlines⟩ := h
  refine ⟨⟨hhole, fun l hl => ?_⟩, hdebug⟩
  obtain ⟨hmay, hout, -, hflaw, hpoison⟩ := hlines l hl
  exact ⟨hmay, hout, hpoison, hflaw⟩

/-- No fill and no reset holds a plain access up. -/
theorem Plain.not_fillStall {s : State} {t a n : Nat} (h : Plain s t a n) : fillStall s a n = false := by
  obtain ⟨-, -, hbusy, -, hlines⟩ := h
  refine List.any_eq_false.mpr fun l hl => ?_
  obtain ⟨-, -, hheld, -, -⟩ := hlines l hl
  simp [hbusy, hheld]

/-- What an access that meets nothing leaves plain. -/
theorem Calm.plain {x y : Access} (h : Calm x y) {t a n : Nat} (hp : Plain x.s t a n) : Plain y.s t a n := by
  have hc := h.clear hp.clear
  obtain ⟨hn, hhole, hbusy, -, hlines⟩ := hp
  have hfills : y.s.fills.busy = x.s.fills.busy := by rw [h.state.form]
  refine ⟨hn, hhole, hfills.trans hbusy, hc.noDebug, fun l hl => ?_⟩
  obtain ⟨hmay, hout, hpoison, hflaw⟩ := hc.lines l hl
  obtain ⟨-, -, hheld, -, -⟩ := hlines l hl
  refine ⟨hmay, hout, ?_, hflaw, hpoison⟩
  rw [h.state.form]
  exact hheld

/-- A plain read meets nothing and returns the bytes of memory. -/
theorem plain_rd {x : Access} {a n : Nat} (h : Plain x.s x.tenant a n) :
    (x.rd a n).1 = memRead x.s.mem a n ∧ Calm x (x.rd a n).2 ∧ (x.rd a n).2.s.mem = x.s.mem ∧ (x.rd a n).2.stalled = x.stalled := by
  obtain ⟨hread, hcalm, hmem, hstalled⟩ := calm_rd h.clear.toLegible
  exact ⟨hread, hcalm, hmem, by rw [hstalled, h.not_fillStall, Bool.or_false]⟩

/-- A plain write meets nothing and stores its bytes, and no other. -/
theorem plain_wr {x : Access} {a : Nat} {data : List Byte} (h : Plain x.s x.tenant a data.length) :
    Calm x (x.wr a data) ∧ (x.wr a data).stalled = x.stalled ∧ memRead (x.wr a data).s.mem a data.length = data ∧
      SameOutside x.s (x.wr a data).s a data.length := by
  obtain ⟨hcalm, hstalled, -, hout⟩ := calm_wr h.clear
  exact ⟨hcalm, by rw [hstalled, h.not_fillStall, Bool.or_false], memRead_wr h.clear, fun b hb => hout b hb⟩

-- the exchange --------------------------------------------------------------------------------------------------------

/-- The new word of an atomic has the width of the old one. -/
theorem atomicNew_lt (aop : Nat) {w old : Nat} (operand compare : Nat) (h : old < 2 ^ w) : atomicNew aop w old operand compare < 2 ^ w := by
  have hmod (n : Nat) : n % 2 ^ w < 2 ^ w := Nat.mod_lt _ (Nat.two_pow_pos w)
  have hpick (p : Prop) [Decidable p] : (if p then operand % 2 ^ w else old) < 2 ^ w := by
    split
    exacts [hmod _, h]
  have hpick' (p : Prop) [Decidable p] : (if p then old else operand % 2 ^ w) < 2 ^ w := by
    split
    exacts [h, hmod _]
  unfold atomicNew
  dsimp only
  split
  · exact hmod _
  · exact hmod _
  · exact hpick _
  · exact Nat.and_lt_two_pow _ (hmod _)
  · exact Nat.or_lt_two_pow h (hmod _)
  · exact Nat.xor_lt_two_pow h (hmod _)
  · exact lt_of_le_of_lt (Nat.min_le_left _ _) h
  · exact Nat.max_lt.mpr ⟨h, hmod _⟩
  · exact hpick' _
  · exact hpick _

/-- An atomic at a plain word returns the old word, stores the new one, and moves no byte outside it. -/
theorem atomic_of_plain {x : Access} {a w : Nat} (aop operand compare : Nat) (hw : w = 8 * (w / 8)) (ha : atomicTarget a = true)
    (h : Plain x.s x.tenant a (w / 8)) :
    (x.atomic a aop w operand compare).1 = memNat x.s a (w / 8) ∧
      memNat (x.atomic a aop w operand compare).2.s a (w / 8) = atomicNew aop w (memNat x.s a (w / 8)) operand compare ∧
      SameOutside x.s (x.atomic a aop w operand compare).2.s a (w / 8) := by
  obtain ⟨hread, hcalm, hmem, -⟩ := plain_rd h
  have hold : (x.rdNat a (w / 8)).1 = memNat x.s a (w / 8) := congrArg leNat hread
  have hlt : memNat x.s a (w / 8) < 2 ^ w := by
    have := leNat_lt (memRead x.s.mem a (w / 8))
    rwa [memRead_eq, List.length_map, List.length_range, ← memRead_eq, ← hw] at this
  have hnew := atomicNew_lt aop operand compare hlt
  have hlen : (natLe (atomicNew aop w (memNat x.s a (w / 8)) operand compare) (w / 8)).length = w / 8 := length_natLe _ _
  have hp : Plain (x.rd a (w / 8)).2.s (x.rd a (w / 8)).2.tenant a
      (natLe (atomicNew aop w (memNat x.s a (w / 8)) operand compare) (w / 8)).length := by
    rw [hlen, hcalm.tenant]
    exact hcalm.plain h
  obtain ⟨-, -, hback, hout⟩ := plain_wr hp
  have heq : x.atomic a aop w operand compare = (memNat x.s a (w / 8),
      (x.rd a (w / 8)).2.wr a (natLe (atomicNew aop w (memNat x.s a (w / 8)) operand compare) (w / 8))) := by
    rw [Access.atomic, if_neg (by simp [ha])]
    dsimp only
    rw [if_neg (fun hne => hne hcalm.faults), hold]
    rfl
  rw [heq]
  rw [hlen] at hback hout
  refine ⟨rfl, ?_, fun b hb => (hout b hb).trans (by rw [hmem])⟩
  rw [memNat, hback, leNat_natLe]
  rwa [← hw]

-- receipts ------------------------------------------------------------------------------------------------------------

/-- Taking a window stores nothing in memory. -/
theorem windowFor_mem (s : State) (dev t : Nat) : (windowFor s dev t).1.mem = s.mem := by
  unfold windowFor
  dsimp only
  split
  · rfl
  · split
    · rfl
    · split
      · rfl
      · split <;> rfl

/-- A slot written is read back. -/
theorem slotOf_setSlot_same (s : State) (dev t : Nat) (seq : W32) (r : Receipt) : slotOf (setSlot s dev t seq r) dev t seq = r := by
  simp [slotOf, setSlot, mapUpd]

theorem slotOf_congr {s t : State} (h : t.msf.windows = s.msf.windows) (dev n : Nat) (seq : W32) : slotOf t dev n seq = slotOf s dev n seq := by
  simp only [slotOf, h]

/-- The answer to an atomic that was applied comes from its receipt, which the answer leaves as it is. -/
theorem slotOf_of_storeAtomic {s t : State} {p : Packet} (h : storeAtomic s p = some t) :
    slotOf t (pSrc p) (pTenant p) (pSeq p) = { Receipt.empty with
      seq := pSeq p, kind := 1, status := atomicStatus (applyAtomic (arriveAt s (pAddr p)) p).2
      result := (applyAtomic (arriveAt s (pAddr p)) p).1 } := by
  simp only [storeAtomic] at h
  split at h
  · cases h
  · rw [← Option.some_inj.mp h, slotOf_congr (congrArg (·.windows) (sent_answerPacket ..).msf)]
    exact slotOf_setSlot_same ..

/-- What an atomic meets that has passed its checks and has a window. -/
theorem exec_atomic {s u v : State} {l : Option LinkId} {p : Packet} (h : Passed s l p 4 u)
    (hw : windowFor u (pSrc p) (pTenant p) = (v, true)) :
    exec (.atomic l p) s = .next (((
      if (slotOf v (pSrc p) (pTenant p) (pSeq p)).kind = 0 then
        if pRetry p then some (answerPacket v p 5 9 0 (natLe 0 8)) else storeAtomic v p
      else if (slotOf v (pSrc p) (pTenant p) (pSeq p)).seq = pSeq p then
        some (answerPacket (rinc v Reg.MSF_DUP_ATOMICS) p 5 (slotOf v (pSrc p) (pTenant p) (pSeq p)).status 0
          (natLe (slotOf v (pSrc p) (pTenant p) (pSeq p)).result 8))
      else if behind (slotOf v (pSrc p) (pTenant p) (pSeq p)).seq (pSeq p) then storeAtomic v p
      else some (if pRetry p then v else rinc v Reg.MSF_STALE_DISCARDS))).getD s) := by
  refine (congrArg Host.Outcome.next (live_arrived h _)).trans ?_
  simp only [hw, Bool.not_true, Bool.false_eq_true, if_false]

/-- Settles O37: an atomic exchanges its word, and its receipt answers every copy. -/
theorem atomicsApplyOnce : Obligations.AtomicsApplyOnce := by
  refine ⟨fun x a aop w operand compare hw ha _ hplain => ?_, fun s u v l p hpass hwin => ?_⟩
  · obtain ⟨hold, hnew, hout⟩ := atomic_of_plain aop operand compare (by rcases hw with rfl | rfl <;> rfl) ha hplain
    refine ⟨hold, hnew, hout, ?_, ?_, ?_⟩
    · rintro rfl
      simp [atomicNew]
    · rintro rfl
      rfl
    · rintro rfl hne
      exact if_neg hne
  · have hmem : v.mem = s.mem := by
      rw [← hpass.met.mem, ← windowFor_mem u (pSrc p) (pTenant p), hwin]
    simp only [Yields, exec_atomic hpass hwin]
    refine ⟨fun t hkind hretry hstore => ?_, fun hkind hseq => ?_, fun hkind hretry => ?_⟩
    · have hslot := slotOf_of_storeAtomic hstore
      rw [if_pos hkind, hretry, if_neg Bool.false_ne_true, hstore, hslot]
      exact ⟨rfl, rfl, rfl, rfl⟩
    · rw [if_neg hkind, if_pos hseq]
      exact ⟨_, rfl, (sent_answerPacket ..).mem.trans ((rinc_mem ..).trans hmem), rfl⟩
    · rw [if_pos hkind, if_pos hretry]
      exact ⟨_, rfl, (sent_answerPacket ..).mem.trans hmem, rfl⟩

end Sys2Proof.Machine
end

section
/-! PROOFS. Counted chunks and the answers to remote operations (R271 to R279). -/

namespace Sys2Proof.Machine

-- counted chunks ------------------------------------------------------------------------------------------------------

/-- Bit 0 shifted out while it is set: so many bits as were all set. -/
theorem shiftMap_eq (fuel : Nat) (low : BitVec 16) (map : W64) :
    ∃ k ≤ fuel, shiftMap low map fuel = (low + BitVec.ofNat 16 k, map >>> k) ∧ ∀ j < k, map.getLsbD j = true := by
  induction fuel generalizing low map with
  | zero => exact ⟨0, le_rfl, by simp [shiftMap], fun j hj => absurd hj (Nat.not_lt_zero j)⟩
  | succ fuel ih =>
    by_cases h0 : map.getLsbD 0 = true
    · obtain ⟨k, hk, heq, hset⟩ := ih (low + 1) (map >>> 1)
      refine ⟨k + 1, by omega, ?_, fun j hj => ?_⟩
      · rw [shiftMap, if_pos h0, heq, ← BitVec.shiftRight_add, Nat.add_comm 1 k, BitVec.ofNat_add, BitVec.add_assoc,
          BitVec.add_comm (BitVec.ofNat 16 k)]
        rfl
      · cases j with
        | zero => exact h0
        | succ j =>
          have := hset j (by omega)
          rwa [BitVec.getLsbD_ushiftRight, Nat.add_comm] at this
    · exact ⟨0, Nat.zero_le _, by simp only [shiftMap, if_neg h0, BitVec.ofNat_eq_ofNat, BitVec.add_zero, BitVec.ushiftRight_zero], fun j hj => absurd hj (Nat.not_lt_zero j)⟩

/-- A chunk within the window of a receipt is new while its bit is clear. -/
theorem chunkAt_of_lt {r : Receipt} {c : BitVec 16} (h : (c - r.low).toNat < 64) :
    chunkAt r c = if r.map.getLsbD (c - r.low).toNat then .dup else .new := by simp only [chunkAt, if_pos h]

/-- Shifting marked bits out changes no decision on a chunk of the window. -/
theorem chunkAt_shiftMap {r : Receipt} {d : BitVec 16} (m : W64) (h : (d - r.low).toNat < 64) :
    chunkAt { r with low := (shiftMap r.low m 64).1, map := (shiftMap r.low m 64).2 } d =
      if m.getLsbD (d - r.low).toNat then .dup else .new := by
  obtain ⟨k, hk, heq, hset⟩ := shiftMap_eq 64 r.low m
  rw [heq]
  by_cases hlt : (d - r.low).toNat < k
  · have hpast : (d - (r.low + BitVec.ofNat 16 k)).toNat = 2 ^ 16 + (d - r.low).toNat - k := by bv_omega
    rw [if_pos (hset _ hlt)]
    simp only [chunkAt, hpast]
    rw [if_neg (by omega), if_pos (by omega)]
  · have hin : (d - (r.low + BitVec.ofNat 16 k)).toNat = (d - r.low).toNat - k := by bv_omega
    rw [chunkAt_of_lt (by dsimp only; omega)]
    dsimp only
    rw [hin, BitVec.getLsbD_ushiftRight, Nat.add_sub_cancel' (Nat.le_of_not_lt hlt)]

/-- The bit of a chunk marked is its own. -/
theorem getLsbD_mark (map : W64) {i j : Nat} (hj : j < 64) : (map ||| (1#64 <<< i)).getLsbD j = (map.getLsbD j || decide (j = i)) := by
  rw [BitVec.getLsbD_or, BitVec.getLsbD_shiftLeft, BitVec.getLsbD_one]
  congr 1
  rw [Bool.eq_iff_iff]
  simp only [hj, decide_true, Bool.true_and, Bool.and_eq_true, Bool.not_eq_true', decide_eq_false_iff_not, decide_eq_true_eq]
  omega

-- answers -------------------------------------------------------------------------------------------------------------

/-- An answer reaches the docket of its operation. -/
theorem response_of_answers {u : State} {p : Packet} {e : QEntry} {o : ROp} (h : Answers u p e o) (k : State → QEntry → ROp → Option State) :
    response u p k = k u e o := by
  obtain ⟨hop, hpert, hentry⟩ := h
  simp only [response, hop, hpert, hentry, Bool.false_eq_true, if_false]

/-- One of no operation in flight is counted. -/
theorem response_of_none {u : State} {p : Packet} (h : opFor u p = none) (k : State → QEntry → ROp → Option State) :
    response u p k = some (rinc u Reg.TENANT_DROPPED 0 (pTenant p)) := by simp only [response, h]

/-- What arrives as an answer is handed to the docket that awaits it. -/
theorem live_answer {s u : State} {l : Option LinkId} {p : Packet} {n : Nat} {e : QEntry} {o : ROp} (hp : Passed s l p n u)
    (ha : Answers u p e o) (k : State → QEntry → ROp → Option State) :
    live s (fun s => arrived s l p n (fun s => response s p k)) = (k u e o).getD s := by
  rw [live_arrived hp, response_of_answers ha]

/-- A late answer is dropped and counted, whatever it is. -/
theorem live_late_answer {s u : State} {l : Option LinkId} {p : Packet} {n : Nat} (hp : Passed s l p n u) (hu : opFor u p = none)
    (k : State → QEntry → ROp → Option State) :
    live s (fun s => arrived s l p n (fun s => response s p k)) = rinc u Reg.TENANT_DROPPED 0 (pTenant p) := by
  rw [live_arrived hp, response_of_none hu, Option.getD_some]

/-- A chunk of a remote read lands. -/
theorem exec_readData {s u : State} {l : Option LinkId} {p : Packet} {e : QEntry} {o : ROp} {i : Nat} (hp : Passed s l p 2 u)
    (ha : Answers u p e o) (hkind : o.kind = 1) (hq : o.queue < 2048) (hi : chunkOfFlow o (pFlow p) = some i) :
    exec (.readData l p) s = .next ((readLands u p e o i).getD s) := by
  refine (congrArg Host.Outcome.next (live_answer hp ha _)).trans ?_
  simp only [hi, hkind, ne_eq, not_true, if_false, if_neg (show ¬ o.queue = 2058 by omega), if_neg (show ¬ 2062 ≤ o.queue by omega)]

/-- A chunk of a remote write is acknowledged. -/
theorem exec_writeAck {s u : State} {l : Option LinkId} {p : Packet} {e : QEntry} {o : ROp} {i : Nat} (hp : Passed s l p 3 u)
    (ha : Answers u p e o) (hkind : o.kind = 0) (hq : o.queue < 2048) (hi : chunkOfFlow o (pFlow p) = some i) (hst : pStatus p ≠ 15) :
    exec (.writeAck l p) s = .next (writeAcked u e o i (pStatus p)) := by
  refine (congrArg Host.Outcome.next (live_answer hp ha _)).trans ?_
  simp only [hi, hkind, ne_eq, not_true, if_false, if_neg hst, if_neg (show ¬ o.queue = 2058 by omega),
    if_neg (show ¬ 2062 ≤ o.queue by omega), Option.getD_some]

/-- The result of an atomic comes. -/
theorem exec_atomicResult {s u : State} {l : Option LinkId} {p : Packet} {e : QEntry} {o : ROp} (hp : Passed s l p 5 u)
    (ha : Answers u p e o) (hkind : o.kind = 2) (hun : o.unacked ≠ []) (hst : pStatus p ≠ 15) :
    exec (.atomicResult l p) s = .next (((atomicEnd (arriveAt u (atomicDst e)) o.queue e (pStatus p) (leNat (p.data.take 8))).map
      (fun s => fenceAck (updRop s o (fun o => { o with unacked := [], again := [] })) o 0)).getD s) := by
  refine (congrArg Host.Outcome.next (live_answer hp ha _)).trans ?_
  simp only [hkind, hun, ne_eq, not_true, false_or, if_false, if_neg hst]

/-- An answer BUSY keeps its packet to go again. -/
theorem exec_busyReply {s u : State} {l : Option LinkId} {p : Packet} {e : QEntry} {o : ROp} {n : Nat} (hn : n = 3 ∨ n = 5)
    (hp : Passed s l p n u) (ha : Answers u p e o) (hst : pStatus p = 15) :
    exec (.busyReply l p) s = .next (busyAnswer u e o (pFlow p)) := by
  obtain ⟨hclk, hopc, -⟩ := id hp
  have hbusy : ¬ ((pOpc p ≠ 3 ∧ pOpc p ≠ 5) ∨ pStatus p ≠ 15) := by omega
  have hlive := live_answer (hopc.symm ▸ hp : Passed s l p (pOpc p) u) ha (fun s e o => some (busyAnswer s e o (pFlow p)))
  rw [live_of_clocked hclk] at hlive
  simp only [exec, execBusyReply, live_of_clocked hclk, if_neg hbusy, hlive, Option.getD_some]

/-- The packets of a queue that were answered BUSY go again. -/
theorem exec_busyBackoff {s : State} {q : QueueId} {o : ROp} (hclk : Clocked s)
    (ho : s.msf.ops.find? (fun o => o.queue == q.val && o.again != []) = some o) :
    let v := advanceTo s (o.sentAt + 1000 * rget s Reg.MSF_BUSY_BACKOFF_US)
    let w := updRop v o (fun o => { o with again := [], sentAt := v.time.cyc })
    exec (.busyBackoff q) s = .next ((if o.dev.toNat = ownDev v then none else peerEnds w o).getD
      (o.again.foldl (fun s p => send s (some q.val) p) w)) := by
  intro v w
  refine (congrArg Host.Outcome.next (live_of_clocked hclk _)).trans ?_
  simp only [ho]
  cases h : if o.dev.toNat = ownDev v then none else peerEnds w o <;> rfl

/-- A marked chunk is a copy from then on, and every other chunk of the window is what it was. -/
theorem chunkAt_marked {r : Receipt} {c d : BitVec 16} (hc : (c - r.low).toNat < 64) (hd : (d - r.low).toNat < 64) :
    let x := shiftMap r.low (r.map ||| (1#64 <<< (c - r.low).toNat)) 64
    chunkAt { r with low := x.1, map := x.2 } c = .dup ∧ (d ≠ c → chunkAt { r with low := x.1, map := x.2 } d = chunkAt r d) := by
  refine ⟨?_, fun hne => ?_⟩
  · rw [chunkAt_shiftMap _ hc, getLsbD_mark _ hc]
    simp
  · have hbit : (d - r.low).toNat ≠ (c - r.low).toNat := fun h => hne (by bv_omega)
    rw [chunkAt_shiftMap _ hd, getLsbD_mark _ hd, decide_eq_false hbit, Bool.or_false, chunkAt_of_lt hd]

/-- Settles O38: a marked chunk is a copy, whatever the window then is, and each answer reaches the docket that awaits it. -/
theorem remoteAnswers : Obligations.RemoteAnswers := by
  refine ⟨fun low c d map => chunkAt_marked (r := { seq := 0, kind := 2, status := 0, result := 0, low := low, map := map }),
    fun s u l p c n hcn hp hu => ?_, fun s u t l p e o i hp ha hkind hq hi ht => ?_,
    fun s u l p e o i => exec_writeAck, fun s u t l p e o hp ha hkind hun hst ht => ?_, fun s u l p e o n => exec_busyReply,
    fun s q o hclk ho => ?_⟩
  · simp only [List.mem_cons, Prod.mk.injEq, List.not_mem_nil, or_false] at hcn
    rcases hcn with ⟨rfl, rfl⟩ | ⟨rfl, rfl⟩ | ⟨rfl, rfl⟩
    · exact congrArg Host.Outcome.next (live_late_answer hp hu _)
    · exact congrArg Host.Outcome.next (live_late_answer hp hu _)
    · exact congrArg Host.Outcome.next (live_late_answer hp hu _)
  · rw [exec_readData hp ha hkind hq hi, ht, Option.getD_some]
  · rw [exec_atomicResult hp ha hkind hun hst, ht, Option.map_some, Option.getD_some]
  · have hback := exec_busyBackoff hclk ho
    refine ⟨fun h => hback.trans ?_, fun t hown ht => hback.trans ?_⟩
    · rcases h with hown | hpeer
      · rw [if_pos hown, Option.getD_none]
      · rw [hpeer, ite_self, Option.getD_none]
    · rw [if_neg hown, ht, Option.getD_some]

end Sys2Proof.Machine
end

section
/-! PROOFS. Flits received (R242, R245, R246) and resends (R246, R248). -/

namespace Sys2Proof.Machine

variable {s t u : State}

-- time words ----------------------------------------------------------------------------------------------------------

/-- t differs from s in registers, time, records and outputs only. -/
def Timed (s t : State) : Prop :=
  t = { s with regs := t.regs, ledger := t.ledger, out := t.out, pins := { s.pins with acked := t.pins.acked }, time := t.time }

theorem Timed.refl (s : State) : Timed s s := rfl

theorem Timed.trans (h : Timed s t) (g : Timed t u) : Timed s u := by
  unfold Timed at *
  rw [g, h]

theorem Timed.mem (h : Timed s t) : t.mem = s.mem := by rw [h]
theorem Timed.queues (h : Timed s t) : t.queues = s.queues := by rw [h]
theorem Timed.links (h : Timed s t) : t.links = s.links := by rw [h]

theorem Noted.timed (h : Noted s t) : Timed s t := by
  unfold Timed
  rw [h.1]

theorem timed_rset (s : State) (f : Fld) (i j v : Nat) : Timed s (rset s f i j v) := rfl
theorem timed_time (s : State) (x : TimeSt) : Timed s { s with time := x } := rfl

theorem timed_stepFt (s : State) (o : Int) : Timed s (stepFt s o) := by
  unfold stepFt
  dsimp only
  split <;> exact timed_time ..

theorem timed_followWord (s : State) (o : Int) : Timed s (followWord s o) := by
  have shape : ∃ (x y : TimeSt) (e : Ev) (n : Nat), followWord s o =
      if rget s Reg.FTIME_SYNC_STATE = 2 ∧ 64 < o.natAbs then
        raise (rbit (enterHoldover { s with time := x }) Reg.FTIME_EVENTS 0 0 3 true) e
      else if rget s Reg.FTIME_SYNC_STATE ≠ 2 ∧ 16 ≤ n then { rset { s with time := x } Reg.FTIME_SYNC_STATE 0 0 2 with time := y }
      else { s with time := x } := ⟨_, _, _, _, rfl⟩
  obtain ⟨x, y, e, n, h⟩ := shape
  rw [h]
  split
  · exact Timed.trans (t := rbit (enterHoldover { s with time := x }) Reg.FTIME_EVENTS 0 0 3 true) rfl (noted_raise _ _).timed
  · split <;> rfl

/-- All that a time word can do. -/
theorem timed_takeTimeWord (s : State) (l : LinkId) (v : W64) : Timed s (takeTimeWord s l v) := by
  unfold takeTimeWord
  dsimp only
  split
  · exact Timed.refl s
  · split
    · exact (timed_rset s Reg.FTIME_OFFSET 0 0 _).trans ((timed_time ..).trans (timed_followWord ..))
    · exact (timed_rset s Reg.FTIME_OFFSET 0 0 _).trans ((timed_time ..).trans ((timed_rset _ Reg.FTIME_SYNC_STATE 0 0 1).trans
        ((timed_time ..).trans ((timed_stepFt ..).trans (timed_time ..)))))

-- the receiving side --------------------------------------------------------------------------------------------------

/-- Two states of a link agree in what it has received and awaits. -/
structure SameInbound (k k' : LinkSt) : Prop where
  expect : k'.expect = k.expect
  nak : k'.nak = k.nak
  part : k'.part = k.part
  rx : k'.rx = k.rx

theorem SameInbound.trans {k k' k'' : LinkSt} (h : SameInbound k k') (g : SameInbound k' k'') : SameInbound k k'' :=
  ⟨g.expect.trans h.expect, g.nak.trans h.nak, g.part.trans h.part, g.rx.trans h.rx⟩

theorem sameInbound_of_received {k k' : LinkSt} (h : k'.received = k.received) : SameInbound k k' :=
  ⟨congrArg (·.expect) h, congrArg (·.nak) h, congrArg (·.part) h, congrArg (·.rx) h⟩

theorem Sent.inbound (h : Sent s t) (n : Nat) : SameInbound (linkOf s n) (linkOf t n) := sameInbound_of_received (h.heard n)

theorem sameInbound_giveCredits (k : LinkSt) (v n : Nat) : SameInbound k (giveCredits k v n) := ⟨rfl, rfl, rfl, rfl⟩

theorem sameInbound_takeAck (k : LinkSt) (a : BitVec 12) (cyc : Nat) : SameInbound k (takeAck k a cyc) := by
  unfold takeAck
  dsimp only
  split <;> exact ⟨rfl, rfl, rfl, rfl⟩

/-- What a flit without NAK returns leaves what was received as it is. -/
theorem met_takeReturns {l : LinkId} {f : Flit} (h : ff f 24 1 = 0) :
    Met s (takeReturns s l f) ∧ SameInbound (linkOf s l.val) (linkOf (takeReturns s l f) l.val) := by
  have shape : ∃ k, SameInbound (linkOf s l.val) k ∧ takeReturns s l f = pumpMcast (pump (setLink s l.val k) l) := by
    refine ⟨takeAck (giveCredits (giveCredits (linkOf s l.val) (ff f 45 3) (ff f 32 13)) (ff f 61 3) (ff f 48 13))
      (BitVec.ofNat 12 (ff f 12 12)) s.time.cyc, ((sameInbound_giveCredits ..).trans (sameInbound_giveCredits ..)).trans
        (sameInbound_takeAck _ _ _), ?_⟩
    simp only [takeReturns, h, Nat.zero_ne_one, false_and, if_false]
  obtain ⟨k, hk, heq⟩ := shape
  have hsent : Sent (setLink s l.val k) (takeReturns s l f) := heq ▸ (sent_pump ..).trans (sent_pumpMcast _)
  refine ⟨(met_setLink ..).trans hsent.toMet, hk.trans ?_⟩
  have := hsent.inbound l.val
  rwa [linkOf_setLink] at this

/-- Entering NAK state. -/
theorem enterNak_eq (s : State) (l : LinkId) : Met s (enterNak s l) ∧ (linkOf (enterNak s l) l.val).nak = true ∧
    (linkOf (enterNak s l) l.val).expect = (linkOf s l.val).expect ∧ (linkOf (enterNak s l) l.val).rx = (linkOf s l.val).rx ∧
      (linkOf (enterNak s l) l.val).winBad = (linkOf s l.val).winBad := by
  have hsent : Sent (setLink s l.val { linkOf s l.val with nak := true }) (enterNak s l) := sent_sendIdle ..
  have hheard := hsent.heard l.val
  rw [linkOf_setLink] at hheard
  exact ⟨(met_setLink ..).trans hsent.toMet, congrArg (·.nak) hheard, congrArg (·.expect) hheard, congrArg (·.rx) hheard,
    congrArg (·.winBad) hheard⟩

/-- Units taken leave the numbers of a link as they are. -/
theorem takeUnit_expect (k : LinkSt) (u : Nat × Nat) : (takeUnit k u).expect = k.expect := by
  unfold takeUnit
  dsimp only
  split
  · rfl
  · split <;> rfl

theorem foldl_takeUnit_expect (l : List (Nat × Nat)) (k : LinkSt) : (l.foldl takeUnit k).expect = k.expect := by
  induction l generalizing k with
  | nil => rfl
  | cons u l ih => exact (ih _).trans (takeUnit_expect k u)

/-- The next flit in order is accepted. -/
theorem takeData_next {l : LinkId} {f : Flit} (h : BitVec.ofNat 12 (ff f 0 12) = (linkOf s l.val).expect) :
    Met s (takeData s l f) ∧ (linkOf (takeData s l f) l.val).expect = (linkOf s l.val).expect + 1 ∧
      (linkOf (takeData s l f) l.val).nak = false := by
  have shape : ∃ k : LinkSt, k.expect = (linkOf s l.val).expect + 1 ∧ k.nak = false ∧ takeData s l f = sendIdle (setLink s l.val k) l := by
    refine ⟨{ (flitUnits f).foldl takeUnit (linkOf s l.val) with
      expect := ((flitUnits f).foldl takeUnit (linkOf s l.val)).expect + 1, nak := false }, ?_, rfl, ?_⟩
    · dsimp only
      rw [foldl_takeUnit_expect]
    · simp only [takeData, if_pos h]
  obtain ⟨k, hexpect, hnak, heq⟩ := shape
  have hsent : Sent (setLink s l.val k) (takeData s l f) := heq ▸ sent_sendIdle ..
  have hin := hsent.inbound l.val
  rw [linkOf_setLink] at hin
  exact ⟨(met_setLink ..).trans hsent.toMet, hin.expect.trans hexpect, hin.nak.trans hnak⟩

/-- One that has been had is ignored. -/
theorem takeData_past {l : LinkId} {f : Flit} (hne : BitVec.ofNat 12 (ff f 0 12) ≠ (linkOf s l.val).expect)
    (h : ((linkOf s l.val).expect - BitVec.ofNat 12 (ff f 0 12)).toNat ≤ 2048) : takeData s l f = s := by
  simp only [takeData, if_neg hne, if_pos h]

/-- Any other is answered with NAK. -/
theorem takeData_ahead {l : LinkId} {f : Flit} (h : 2048 < ((linkOf s l.val).expect - BitVec.ofNat 12 (ff f 0 12)).toNat) :
    takeData s l f = enterNak s l := by
  have hne : BitVec.ofNat 12 (ff f 0 12) ≠ (linkOf s l.val).expect := fun he => by
    rw [he, BitVec.sub_self] at h
    exact absurd h (by decide)
  simp only [takeData, if_neg hne, if_neg (Nat.not_le.mpr h)]

-- flits of an UP link -------------------------------------------------------------------------------------------------

/-- A link whose window of codewords has counted one more. -/
def LinkSt.counted (k : LinkSt) (fec : Fec) : LinkSt :=
  if 1048576 ≤ k.winCws then { k with winCws := 1, winBad := b2n (fec = .uncorrectable) }
  else { k with winCws := k.winCws + 1, winBad := k.winBad + b2n (fec = .uncorrectable) }

/-- A link's window counted in the state. -/
def countFlit (s : State) (l : LinkId) (fec : Fec) : State := setLink s l.val ((linkOf s l.val).counted fec)

theorem sameInbound_countFlit (s : State) (l : LinkId) (fec : Fec) : SameInbound (linkOf s l.val) (linkOf (countFlit s l fec) l.val) := by
  rw [countFlit, linkOf_setLink, LinkSt.counted]
  split <;> exact ⟨rfl, rfl, rfl, rfl⟩

theorem met_countFlit (s : State) (l : LinkId) (fec : Fec) : Met s (countFlit s l fec) := met_setLink ..

theorem upFlit_eq (s : State) (l : LinkId) (fec : Fec) (f : Flit) : upFlit s l fec f =
    if fec = .uncorrectable then
      if rget s Reg.ZLINK_UNCORR_RETRAIN l.val ≤ ((linkOf s l.val).counted fec).winBad then
        startRetrain (enterNak (countFlit s l fec) l) l.val true
      else enterNak (countFlit s l fec) l
    else if !flitCrcOk f ∨ ff f 26 2 = 3 then enterNak (rinc (countFlit s l fec) Reg.ZLINK_CRC_ERRORS l.val) l
    else if ff f 26 2 = 0 then takeExtras (takeData (takeReturns (countFlit s l fec) l f) l f) l f
    else takeExtras (takeReturns (countFlit s l fec) l f) l f := rfl

/-- A sound DATA flit without NAK: its returns first, then its data and its time word. -/
theorem upFlit_of_data {l : LinkId} {f : Flit} (hcrc : flitCrcOk f = true) (hdata : ff f 26 2 = 0) (hnak : ff f 24 1 = 0) :
    ∃ v, Met s v ∧ SameInbound (linkOf s l.val) (linkOf v l.val) ∧ Timed (takeData v l f) (upFlit s l .clean f) := by
  obtain ⟨hmet, hin⟩ := met_takeReturns (s := countFlit s l .clean) (l := l) hnak
  refine ⟨_, (met_countFlit ..).trans hmet, (sameInbound_countFlit ..).trans hin, ?_⟩
  rw [upFlit_eq, if_neg Fec.noConfusion, if_neg (by simp [hcrc, hdata]), if_pos hdata, takeExtras]
  rw [if_neg (fun h => by omega)]
  split
  · exact timed_takeTimeWord ..
  · exact Timed.refl _

/-- A flit that fails its check is answered with NAK and counted. -/
theorem upFlit_of_bad_crc {l : LinkId} {f : Flit} (hcrc : flitCrcOk f = false) :
    upFlit s l .clean f = enterNak (rinc (countFlit s l .clean) Reg.ZLINK_CRC_ERRORS l.val) l := by
  rw [upFlit_eq, if_neg Fec.noConfusion, if_pos (by simp [hcrc])]

/-- A codeword that does not decode is answered with NAK, while few have been met. -/
theorem upFlit_of_uncorrectable {l : LinkId} (f : Flit)
    (h : ((linkOf s l.val).counted .uncorrectable).winBad < rget s Reg.ZLINK_UNCORR_RETRAIN l.val) :
    upFlit s l .uncorrectable f = enterNak (countFlit s l .uncorrectable) l := by
  rw [upFlit_eq, if_pos rfl, if_neg (Nat.not_le.mpr h)]

/-- A codeword that decodes, on an UP link. -/
theorem exec_flitReceived_clean {l : LinkId} {f : Flit} (hclk : Clocked s) (hup : linkState s l.val = 7) :
    exec (.flitReceived l .clean f) s = .next (parentControl (upFlit s l .clean f) l .clean f) := by
  refine (congrArg Host.Outcome.next (live_of_clocked hclk _)).trans ?_
  simp only [hup, if_neg (by decide : ¬ 7 < 4), if_neg (by decide : ¬ 7 = 4), if_true]

/-- One that does not. -/
theorem exec_flitReceived_uncorrectable {l : LinkId} {f : Flit} (hclk : Clocked s) (hup : linkState s l.val = 7) :
    exec (.flitReceived l .uncorrectable f) s = .next (upFlit (rinc s Reg.ZLINK_CW_UNCORRECTABLE l.val) l .uncorrectable f) := by
  refine (congrArg Host.Outcome.next (live_of_clocked hclk _)).trans ?_
  simp only [hup, if_neg (by decide : ¬ 7 < 4), if_neg (by decide : ¬ 7 = 4), if_true, parentControl, ne_eq, not_true, false_and, if_false]

theorem parentControl_of_data {l : LinkId} {f : Flit} (h : ff f 26 2 = 0) : parentControl s l .clean f = s := by
  simp [parentControl, h]

theorem parentControl_of_bad_crc {l : LinkId} {f : Flit} (h : flitCrcOk f = false) : parentControl s l .clean f = s := by
  simp [parentControl, h]

-- resends -------------------------------------------------------------------------------------------------------------

/-- The link that resends keeps its buffer, its next number and its count of resends. -/
structure Resent (l : Nat) (s t : State) : Prop extends Sent s t where
  replay : (linkOf t l).replay = (linkOf s l).replay
  next : (linkOf t l).next = (linkOf s l).next

theorem Resent.trans {l : Nat} (h : Resent l s t) (g : Resent l t u) : Resent l s u :=
  ⟨h.toSent.trans g.toSent, g.replay.trans h.replay, g.next.trans h.next⟩

theorem resent_of_links {l : Nat} (h : Sent s t) (hl : t.links = s.links) : Resent l s t :=
  ⟨h, congrArg (·.replay) (linkOf_congr hl l), congrArg (·.next) (linkOf_congr hl l)⟩

theorem linkOf_emit (s : State) (o : Out) (n : Nat) : linkOf (emit s o) n = linkOf s n := rfl

theorem resent_sendSlot (s : State) (l : LinkId) : Resent l.val s (sendSlot s l) := by
  refine ⟨sent_sendSlot s l, ?_, ?_⟩ <;>
  · unfold sendSlot
    dsimp only
    split
    · rw [linkOf_setLink]
    · rw [linkOf_emit, linkOf_setLink]

theorem pertEvent_links (s : State) (d ctl every count : Nat) : (pertEvent s d ctl every count).2.links = s.links := by
  unfold pertEvent
  dsimp only
  split
  · exact rinc_links ..
  · rfl

theorem pertFlit_links (s : State) (l : LinkId) : (pertFlit s l).links = s.links := by
  unfold pertFlit
  dsimp only
  split
  · split <;> exact pertEvent_links ..
  · rfl

theorem resent_resendFlit (s : State) (l : LinkId) (f : Flit) : Resent l.val s (emit (pertFlit (sendSlot s l) l) (.flit l f)) :=
  (resent_sendSlot s l).trans (resent_of_links ((sent_pertFlit _ l).trans (sent_emit ..)) (pertFlit_links ..))

theorem resent_foldl (l : LinkId) (k : LinkSt) (fs : List Flit) (s : State) :
    Resent l.val s (fs.foldl (fun s f => emit (pertFlit (sendSlot s l) l) (.flit l (restamp k f))) s) := by
  induction fs generalizing s with
  | nil => exact resent_of_links (Sent.refl s) rfl
  | cons f fs ih => exact (resent_resendFlit s l _).trans (ih _)

/-- The flits that go again stay in the buffer. -/
theorem resendFlits_of_replay {l : LinkId} (h : (linkOf s l.val).replay ≠ []) :
    (linkOf (resendFlits s l) l.val).resends = (linkOf s l.val).resends ∧
      (linkOf (resendFlits s l) l.val).replay = (linkOf s l.val).replay ∧ (linkOf (resendFlits s l) l.val).next = (linkOf s l.val).next ∧
      linkState (resendFlits s l) l.val = linkState s l.val ∧ (resendFlits s l).mem = s.mem := by
  have shape : ∃ (v : State) (k : LinkSt), Resent l.val (setLink s l.val k) v ∧ k.resends = (linkOf s l.val).resends ∧
      k.replay = (linkOf s l.val).replay ∧ k.next = (linkOf s l.val).next ∧
      resendFlits s l = charge (rinc v Reg.ZLINK_RETRIES l.val) 2 l.val := by
    refine ⟨_, { linkOf s l.val with
      ackAt := s.time.cyc, nakServed := some (linkOf s l.val).ack
      resendEnd := s.time.cyc + ceilDiv (6071 * (linkOf s l.val).replay.length) 1000 },
      resent_foldl l (linkOf s l.val) (linkOf s l.val).replay _, rfl, rfl, rfl, ?_⟩
    simp only [resendFlits, if_neg h]
  obtain ⟨v, k, hv, hresends, hreplay, hnext, heq⟩ := shape
  have hcharge := (served_charge (rinc v Reg.ZLINK_RETRIES l.val) 2 l.val).toAccessed
  have hlinks : (resendFlits s l).links = v.links := by
    rw [heq, hcharge.form]
    exact rinc_links ..
  have hkept := hv.heard l.val
  have hk := hv.replay
  have hn := hv.next
  rw [linkOf_setLink] at hkept hk hn
  have hstate : linkState (resendFlits s l) l.val = linkState v l.val := by
    obtain ⟨w, hw⟩ := rinc_eq_rset v Reg.ZLINK_RETRIES l.val 0 1
    rw [heq, linkState, hcharge.rget (by decide) (by omega) (by decide), hw,
      rget_rset_of_code v (by decide) (by omega) (by decide) (by omega) (by decide)]
    rfl
  have hmem : (resendFlits s l).mem = v.mem := by
    rw [heq, (served_charge _ 2 _).mem, rinc_mem]
  refine ⟨?_, ?_, ?_, hstate.trans (hv.kept Reg.ZLINK_STATE _ _ (by decide) (by omega) (by decide)), hmem.trans hv.mem⟩
  · rw [linkOf_congr hlinks]
    exact (congrArg (·.resends) hkept).trans hresends
  · rw [linkOf_congr hlinks, hk, hreplay]
  · rw [linkOf_congr hlinks, hn, hnext]

/-- What a replay that runs out does. -/
theorem exec_replayTimeout {l : LinkId} (hclk : Clocked s) (hup : linkState s l.val = 7) (h : (linkOf s l.val).replay ≠ []) :
    exec (.replayTimeout l) s = .next (resend (advanceTo s ((linkOf s l.val).ackAt + replayNs s l.val)) l) := by
  refine (congrArg Host.Outcome.next (live_of_clocked hclk _)).trans ?_
  simp only [hup, h, ne_eq, not_true, false_or, if_false]

/-- A resend within the limit counts itself. -/
theorem resend_of_lt {l : LinkId} (h : (linkOf s l.val).replay ≠ []) (hlt : (linkOf s l.val).resends < rget s Reg.ZLINK_RETRY_LIMIT l.val) :
    resend s l = resendFlits (setLink s l.val { linkOf s l.val with resends := (linkOf s l.val).resends + 1 }) l := by
  simp only [resend, if_neg h, if_neg (Nat.not_le.mpr hlt)]

/-- One beyond it retrains the link. -/
theorem resend_of_ge {l : LinkId} (h : (linkOf s l.val).replay ≠ []) (hge : rget s Reg.ZLINK_RETRY_LIMIT l.val ≤ (linkOf s l.val).resends) :
    resend s l = startRetrain s l.val true := by
  simp only [resend, if_neg h, if_pos hge]

theorem Accessed.links (h : Accessed s t) : t.links = s.links := by rw [h.form]

/-- The DATA flits of an UP link. -/
theorem flitReceived_data {l : LinkId} {f : Flit} (hclk : Clocked s) (hup : linkState s l.val = 7) (hcrc : flitCrcOk f = true)
    (hdata : ff f 26 2 = 0) (hnak : ff f 24 1 = 0) : ∃ v, Met s v ∧ SameInbound (linkOf s l.val) (linkOf v l.val) ∧
      Yields (.flitReceived l .clean f) s (Timed (takeData v l f)) := by
  obtain ⟨v, hmet, hin, htimed⟩ := upFlit_of_data (s := s) (l := l) hcrc hdata hnak
  exact ⟨v, hmet, hin, _, (exec_flitReceived_clean hclk hup).trans (congrArg _ (parentControl_of_data hdata)), htimed⟩

/-- A flit that fails its check: refused and counted. -/
theorem flitReceived_bad_crc {l : LinkId} {f : Flit} (hclk : Clocked s) (hup : linkState s l.val = 7) (hcrc : flitCrcOk f = false)
    (hcount : rget s Reg.ZLINK_CRC_ERRORS l.val < 2 ^ 32 - 1) :
    Yields (.flitReceived l .clean f) s (fun t => (linkOf t l.val).nak = true ∧ (linkOf t l.val).expect = (linkOf s l.val).expect ∧
      (linkOf t l.val).rx = (linkOf s l.val).rx ∧ rget t Reg.ZLINK_CRC_ERRORS l.val = rget s Reg.ZLINK_CRC_ERRORS l.val + 1 ∧
      t.mem = s.mem ∧ t.queues = s.queues) := by
  have hin := sameInbound_countFlit s l .clean
  have hlink : linkOf (rinc (countFlit s l .clean) Reg.ZLINK_CRC_ERRORS l.val) l.val = linkOf (countFlit s l .clean) l.val :=
    linkOf_congr (rinc_links ..) _
  have hcounted : rget (rinc (countFlit s l .clean) Reg.ZLINK_CRC_ERRORS l.val) Reg.ZLINK_CRC_ERRORS l.val =
      rget s Reg.ZLINK_CRC_ERRORS l.val + 1 := by
    have hwidth : Reg.ZLINK_CRC_ERRORS.width = 32 := rfl
    rw [rget_rinc, countFlit, rget_setLink]
    rw [countFlit, rget_setLink, hwidth]
    omega
  obtain ⟨hmet, hnak, hexpect, hrx, -⟩ := enterNak_eq (rinc (countFlit s l .clean) Reg.ZLINK_CRC_ERRORS l.val) l
  rw [hlink] at hexpect hrx
  refine ⟨_, exec_flitReceived_clean hclk hup, ?_⟩
  rw [upFlit_of_bad_crc hcrc, parentControl_of_bad_crc hcrc]
  exact ⟨hnak, hexpect.trans hin.expect, hrx.trans hin.rx, (hmet.kept Reg.ZLINK_CRC_ERRORS _ _ (by decide) (by omega) (by decide)).trans hcounted, hmet.mem.trans (rinc_mem ..),
    hmet.queues.trans (rinc_queues ..)⟩

/-- A codeword that does not decode: refused, and counted in its window. -/
theorem flitReceived_uncorrectable {l : LinkId} {f : Flit} (hclk : Clocked s) (hup : linkState s l.val = 7)
    (hbad : (linkOf s l.val).winBad + 1 < rget s Reg.ZLINK_UNCORR_RETRAIN l.val) (hwin : (linkOf s l.val).winCws < 1048576) :
    Yields (.flitReceived l .uncorrectable f) s (fun t => (linkOf t l.val).nak = true ∧ linkState t l.val = 7 ∧
      (linkOf t l.val).expect = (linkOf s l.val).expect ∧ (linkOf t l.val).winBad = (linkOf s l.val).winBad + 1 ∧ t.mem = s.mem) := by
  obtain ⟨v, hv⟩ := rinc_eq_rset s Reg.ZLINK_CW_UNCORRECTABLE l.val 0 1
  have hkept {f : Fld} (hf : f.code ≠ Reg.ZLINK_CW_UNCORRECTABLE.code) :
      rget (rinc s Reg.ZLINK_CW_UNCORRECTABLE l.val) f l.val = rget s f l.val := by
    rw [hv, rget_rset_of_code s hf (by omega) (by decide) (by omega) (by decide)]
  have hcounted : (linkOf (rinc s Reg.ZLINK_CW_UNCORRECTABLE l.val) l.val).counted .uncorrectable =
      { linkOf s l.val with winCws := (linkOf s l.val).winCws + 1, winBad := (linkOf s l.val).winBad + 1 } := by
    rw [linkOf_congr (rinc_links ..), LinkSt.counted, if_neg (Nat.not_le.mpr hwin), b2n, if_pos (by decide)]
  have hlink : linkOf (countFlit (rinc s Reg.ZLINK_CW_UNCORRECTABLE l.val) l .uncorrectable) l.val =
      { linkOf s l.val with winCws := (linkOf s l.val).winCws + 1, winBad := (linkOf s l.val).winBad + 1 } := by
    rw [countFlit, linkOf_setLink, hcounted]
  obtain ⟨hmet, hnak, hexpect, -, hbad'⟩ := enterNak_eq (countFlit (rinc s Reg.ZLINK_CW_UNCORRECTABLE l.val) l .uncorrectable) l
  rw [hlink] at hexpect hbad'
  refine ⟨_, exec_flitReceived_uncorrectable hclk hup, ?_⟩
  rw [upFlit_of_uncorrectable f (by rwa [hcounted, hkept (by decide)])]
  refine ⟨hnak, ?_, hexpect, hbad', hmet.mem.trans (rinc_mem ..)⟩
  exact (hmet.kept Reg.ZLINK_STATE _ _ (by decide) (by omega) (by decide)).trans ((hkept (by decide)).trans hup)

/-- Unacknowledged flits go again. -/
theorem replayTimeout_of_lt {l : LinkId} (hclk : Clocked s) (hup : linkState s l.val = 7) (hreplay : (linkOf s l.val).replay ≠ [])
    (hlt : (linkOf s l.val).resends < rget s Reg.ZLINK_RETRY_LIMIT l.val) : Yields (.replayTimeout l) s (fun t =>
      (linkOf t l.val).resends = (linkOf s l.val).resends + 1 ∧ (linkOf t l.val).replay = (linkOf s l.val).replay ∧
        (linkOf t l.val).next = (linkOf s l.val).next ∧ linkState t l.val = 7 ∧ t.mem = s.mem) := by
  have hserved := served_advanceTo s ((linkOf s l.val).ackAt + replayNs s l.val)
  have hlink := linkOf_congr hserved.links l.val
  have hkept {f : Fld} (hf : f.code ∉ accessFields.map (·.code)) := hserved.rget (i := l.val) (j := 0) hf (by omega) (by decide)
  refine ⟨_, exec_replayTimeout hclk hup hreplay, ?_⟩
  rw [resend_of_lt (by rwa [hlink]) (by rwa [hlink, hkept (by decide)]), hlink]
  obtain ⟨hresends, hbuffer, hnext, hstate, hmem⟩ := resendFlits_of_replay (l := l)
    (s := setLink (advanceTo s ((linkOf s l.val).ackAt + replayNs s l.val)) l.val
      { linkOf s l.val with resends := (linkOf s l.val).resends + 1 }) (by rwa [linkOf_setLink])
  rw [linkOf_setLink] at hresends hbuffer hnext
  exact ⟨hresends, hbuffer, hnext, hstate.trans ((hkept (by decide)).trans hup), hmem.trans hserved.mem⟩

/-- After so many resends the link retrains. -/
theorem replayTimeout_of_ge {l : LinkId} (hclk : Clocked s) (hup : linkState s l.val = 7) (hreplay : (linkOf s l.val).replay ≠ [])
    (hge : rget s Reg.ZLINK_RETRY_LIMIT l.val ≤ (linkOf s l.val).resends) :
    exec (.replayTimeout l) s = .next (startRetrain (advanceTo s ((linkOf s l.val).ackAt + replayNs s l.val)) l.val true) := by
  have hserved := served_advanceTo s ((linkOf s l.val).ackAt + replayNs s l.val)
  have hlink := linkOf_congr hserved.links l.val
  rw [exec_replayTimeout hclk hup hreplay, resend_of_ge (by rwa [hlink])]
  rwa [hlink, hserved.rget (by decide) (by omega) (by decide)]

/-- Settles O43: flits are taken in order, and those of the buffer go again until the limit. -/
theorem flitsAndResends : Obligations.FlitsAndResends := by
  refine ⟨fun s l f hclk hup hcrc hdata hnak => ?_, fun s l f hclk => ⟨flitReceived_bad_crc hclk, flitReceived_uncorrectable hclk,
    fun fec hlow => ?_⟩, fun s l hclk hup hreplay => ⟨replayTimeout_of_lt hclk hup hreplay, replayTimeout_of_ge hclk hup hreplay⟩⟩
  · obtain ⟨v, hmet, hin, w, hexec, htimed⟩ := flitReceived_data (l := l) hclk hup hcrc hdata hnak
    have hlink : linkOf w l.val = linkOf (takeData v l f) l.val := linkOf_congr htimed.links _
    dsimp only
    simp only [Yields, hexec, Host.Outcome.next.injEq, exists_eq_left', hlink, htimed.mem, htimed.queues]
    refine ⟨fun hq => ?_, fun hq hle => ?_, fun hlt => ?_⟩
    · obtain ⟨hmet', hexpect, hnak'⟩ := takeData_next (hq.trans hin.expect.symm)
      exact ⟨hexpect.trans (congrArg (· + 1) hin.expect), hnak', hmet'.mem.trans hmet.mem, hmet'.queues.trans hmet.queues⟩
    · rw [takeData_past (by rwa [hin.expect]) (by rwa [hin.expect])]
      exact ⟨hin.expect, hin.rx, hin.part, hin.nak, hmet.mem⟩
    · obtain ⟨hmet', hnak', hexpect, hrx, -⟩ := enterNak_eq v l
      rw [takeData_ahead (by rwa [hin.expect])]
      exact ⟨hexpect.trans hin.expect, hrx.trans hin.rx, hnak', hmet'.mem.trans hmet.mem⟩
  · refine (congrArg Host.Outcome.next (live_of_clocked hclk _)).trans ?_
    rw [if_pos hlow]

end Sys2Proof.Machine
end

section
/-! PROOFS. Reads of storage (R187 to R191): how a range is cut, what a completion does, and the connections of targets. -/

namespace Sys2Proof.Machine

variable {s : State}

-- a range cut into Reads ----------------------------------------------------------------------------------------------

/-- Whole units from a to b, at most xfer of them at a time, are whole units. -/
theorem dvd_min_sub {blk xfer a b : Nat} (hx : blk ∣ xfer) (ha : blk ∣ a) (hb : blk ∣ b) (i : Nat) :
    blk ∣ a + i * xfer ∧ blk ∣ min xfer (b - (a + i * xfer)) := by
  have ho : blk ∣ a + i * xfer := Nat.dvd_add ha (hx.mul_left i)
  refine ⟨ho, ?_⟩
  rcases Nat.le_total xfer (b - (a + i * xfer)) with h | h
  · rwa [Nat.min_eq_left h]
  · rw [Nat.min_eq_right h]
    exact Nat.dvd_sub hb ho

/-- A piece that ceilDiv counts starts before the end. -/
theorem mul_lt_of_lt_ceilDiv {i n x : Nat} (hx : 0 < x) (h : i < ceilDiv n x) : i * x < n := by
  rw [ceilDiv, Nat.lt_div_iff_mul_lt hx] at h
  omega

/-- What lies in the range lies in a piece that ceilDiv counts. -/
theorem div_lt_ceilDiv {j n x : Nat} (hx : 0 < x) (h : j < n) : j / x < ceilDiv n x := by
  have := Nat.div_mul_le_self j x
  rw [ceilDiv, Nat.lt_div_iff_mul_lt hx]
  omega

/-- Rounding up does not fall short. -/
theorem le_ceilDiv_mul {n x : Nat} (hx : 0 < x) : n ≤ ceilDiv n x * x := by
  have hmod := Nat.mod_lt (n + x - 1) hx
  have hdiv := Nat.div_add_mod (n + x - 1) x
  rw [Nat.mul_comm] at hdiv
  rw [ceilDiv]
  omega

/-- Every Read of a range is of whole blocks, and none is longer than xfer. -/
theorem splitRange_whole {lo hi base blk xfer : Nat} (hx : blk ∣ xfer) (hpos : 0 < xfer) {c : Nat × Nat × Nat × Nat}
    (hc : c ∈ splitRange lo hi base blk xfer) : c.1 % blk = 0 ∧ c.2.1 % blk = 0 ∧ 0 < c.2.1 ∧ c.2.1 ≤ xfer := by
  simp only [splitRange, List.mem_map, List.mem_range] at hc
  obtain ⟨i, hi', rfl⟩ := hc
  obtain ⟨hoff, hlen⟩ := dvd_min_sub hx (Nat.dvd_mul_left blk ((base + lo) / blk)) (Nat.dvd_mul_left blk (ceilDiv (base + hi) blk)) i
  have hlt := mul_lt_of_lt_ceilDiv hpos hi'
  exact ⟨Nat.mod_eq_zero_of_dvd hoff, Nat.mod_eq_zero_of_dvd hlen, lt_min hpos (by omega), Nat.min_le_left _ _⟩

/-- Every byte of the range is served by one. -/
theorem splitRange_covers {lo hi base blk xfer b : Nat} (hblk : 0 < blk) (hpos : 0 < xfer) (hlo : lo ≤ b) (hhi : b < hi) :
    ∃ c ∈ splitRange lo hi base blk xfer, c.2.2.1 ≤ b ∧ b < c.2.2.2 ∧ c.1 ≤ base + b ∧ base + b < c.1 + c.2.1 := by
  have hstart : (base + lo) / blk * blk ≤ base + lo := Nat.div_mul_le_self _ _
  have hend : base + hi ≤ ceilDiv (base + hi) blk * blk := le_ceilDiv_mul hblk
  have hdiv := Nat.div_add_mod (base + b - (base + lo) / blk * blk) xfer
  have hmod := Nat.mod_lt (base + b - (base + lo) / blk * blk) hpos
  rw [Nat.mul_comm] at hdiv
  simp only [splitRange, List.mem_map, List.mem_range, exists_exists_and_eq_and]
  refine ⟨(base + b - (base + lo) / blk * blk) / xfer, div_lt_ceilDiv hpos (by omega), ?_⟩
  omega

-- completions ---------------------------------------------------------------------------------------------------------

@[simp] theorem millOf_setMill (s : State) (m : Nat) (k : MillSt) : millOf (setMill s m k) m = k := mapGet_mapSet_same ..

theorem millOf_congr {s t : State} (h : t.mill = s.mill) (m : Nat) : millOf t m = millOf s m := congrArg (mapGet · m MillSt.reset) h

/-- A completion of no command in flight is discarded. -/
theorem completion_of_none {m : MDie} {cid : Nat} (h : cmdOf s m.val cid = none) (st : NvmeStatus) (data : List Byte) :
    completion s m cid st data = s := by simp only [completion, h]

/-- One of a Read of a span brings its bytes. -/
theorem completion_ok {m : MDie} {cid : Nat} {c : MillCmd} {sp : MSpan} (h : cmdOf s m.val cid = some c) (hspan : c.span < loadSpan)
    (hsp : spanOf s m.val c = some sp) (data : List Byte) :
    completion s m cid .ok data = readDone s m.val c (rf sp.source 8 0 64 + sp.offset) data := by
  simp only [completion, h, if_neg (Nat.not_le.mpr hspan), hsp]

/-- A failed one goes again. -/
theorem completion_retryable {m : MDie} {cid : Nat} {c : MillCmd} (h : cmdOf s m.val cid = some c) (data : List Byte) :
    completion s m cid .retryable data = retryRead s m c := by simp only [completion, h]

theorem exec_nvmeCompletion (hclk : Clocked s) (m : MDie) (cid : Nat) (st : NvmeStatus) (data : List Byte) :
    exec (.nvmeCompletion m cid st data) s = .next (completion s m cid st data) :=
  congrArg Host.Outcome.next (live_of_clocked hclk _)

theorem exec_rdmaCompletion (hclk : Clocked s) (m : MDie) (cid : Nat) (ok : Bool) (data : List Byte) :
    exec (.rdmaCompletion m cid ok data) s = .next (completion s m cid (if ok then .ok else .retryable) data) :=
  congrArg Host.Outcome.next (live_of_clocked hclk _)

/-- A Read that leaves joins the commands of its die. -/
theorem putCmd_eq (s : State) (m : MDie) (c : MillCmd) : (millOf (putCmd s m c) m.val).cmds =
      (millOf s m.val).cmds ++ [{ c with cid := (millOf s m.val).nextCid % 65536, sentAt := s.time.cyc }] ∧
    (putCmd s m c).mem = s.mem ∧ (putCmd s m c).queues = s.queues := by
  refine ⟨?_, rfl, rfl⟩
  rw [putCmd]
  exact congrArg (·.cmds) (millOf_setMill ..)

/-- A Read that goes again takes the place of the one that failed. -/
theorem retryRead_of_lt {m : MDie} {c : MillCmd} (hc : c ∈ (millOf s m.val).cmds)
    (hlt : c.tries < rget s Reg.MILL_FETCH_RETRY_LIMIT m.val) :
    (∃ d ∈ (millOf (retryRead s m c) m.val).cmds, d.tries = c.tries + 1 ∧ d.off = c.off ∧ d.len = c.len ∧ d.ref = c.ref ∧ d.span = c.span) ∧
      (millOf (retryRead s m c) m.val).cmds.length ≤ (millOf s m.val).cmds.length ∧ (retryRead s m c).mem = s.mem ∧
      (retryRead s m c).queues = s.queues := by
  have shape : ∃ v, millOf v m.val = { millOf s m.val with cmds := (millOf s m.val).cmds.filter (fun x => x.cid != c.cid) } ∧
      v.mem = s.mem ∧ v.queues = s.queues ∧ retryRead s m c = putCmd v m { c with tries := c.tries + 1 } := by
    refine ⟨rinc (setMill s m.val { millOf s m.val with cmds := (millOf s m.val).cmds.filter (fun x => x.cid != c.cid) })
      Reg.MILL_FETCH_RETRIES m.val, ?_, rinc_mem .., rinc_queues .., ?_⟩
    · rw [millOf_congr (rinc_mill ..), millOf_setMill]
    · have hlimit (k : MillSt) : rget (setMill s m.val k) Reg.MILL_FETCH_RETRY_LIMIT m.val = rget s Reg.MILL_FETCH_RETRY_LIMIT m.val :=
        rget_rset_of_code _ (by decide) (by omega) (by decide) (by omega) (by decide) _
      simp only [retryRead, hlimit, if_pos hlt]
  obtain ⟨v, hmill, hmem, hqueues, heq⟩ := shape
  obtain ⟨hcmds, hmem', hqueues'⟩ := putCmd_eq v m { c with tries := c.tries + 1 }
  have hless : ((millOf s m.val).cmds.filter (fun x => x.cid != c.cid)).length < (millOf s m.val).cmds.length :=
    List.length_filter_lt_length_iff_exists.mpr ⟨c, hc, by simp⟩
  rw [heq, hcmds, hmill]
  refine ⟨⟨_, List.mem_append_right _ List.mem_cons_self, rfl, rfl, rfl, rfl, rfl⟩, ?_, hmem'.trans hmem, hqueues'.trans hqueues⟩
  rw [List.length_append]
  exact hless

-- connections ---------------------------------------------------------------------------------------------------------

/-- A target becomes ready. -/
theorem exec_targetConnectionReady (hclk : Clocked s) {m : MDie} {t : Fin 16} (n : BitVec 16) (h : rget s Reg.MILL_STATE m.val t.val = 1) :
    exec (.targetConnectionReady m t n) s = .next (rset (rset s Reg.MILL_STATE m.val t.val 2) Reg.MILL_MAX_XFER_KIB m.val t.val
      (min n.toNat 1024)) := by
  refine (congrArg Host.Outcome.next (live_of_clocked hclk _)).trans ?_
  rw [if_pos h]

/-- A target of no Read is lost. -/
theorem exec_targetConnectionLost (hclk : Clocked s) {m : MDie} {t : Fin 16} (h : rget s Reg.MILL_STATE m.val t.val ≠ 0)
    (hc : ∀ c ∈ (millOf s m.val).cmds ++ (millOf s m.val).backlog, c.target ≠ t.val) :
    exec (.targetConnectionLost m t) s = .next (rset s Reg.MILL_STATE m.val t.val 3) := by
  refine (congrArg Host.Outcome.next (live_of_clocked hclk _)).trans (congrArg Host.Outcome.next ?_)
  rw [if_neg h]
  refine (List.foldl_ext (g := fun s _ => s) _ _ fun v c hmem => ?_).trans (List.foldl_fixed _)
  rw [if_neg fun ht => hc c hmem ht.1]

/-- Settles O47: a range is cut into whole blocks, a completion brings its bytes or goes again, and targets come and go. -/
theorem storageReads : Obligations.StorageReads := by
  refine ⟨fun lo hi base blk xfer hblk hdvd hpos _ => ⟨fun c hc => splitRange_whole hdvd hpos hc, fun b hlo hhi =>
    splitRange_covers hblk hpos hlo hhi⟩, fun s m cid data hclk => ⟨fun hnone st => ?_, fun c sp hc hspan hsp => ?_, fun c hc hlt o ho => ?_,
    fun c hc => ?_⟩, fun s m t hclk => ⟨fun n h => ?_, fun h hkind => ?_, fun h hc => ?_, fun h => ?_⟩⟩
  · rw [exec_nvmeCompletion hclk, completion_of_none hnone]
  · rw [exec_nvmeCompletion hclk, exec_rdmaCompletion hclk, if_pos rfl, completion_ok hc hspan hsp]
    exact ⟨rfl, rfl⟩
  · have hexec : exec o s = .next (retryRead s m c) := by
      rw [List.mem_pair] at ho
      rcases ho with rfl | rfl
      · rw [exec_nvmeCompletion hclk, completion_retryable hc]
      · rw [exec_rdmaCompletion hclk, if_neg Bool.false_ne_true, completion_retryable hc]
    exact ⟨_, hexec, retryRead_of_lt (List.mem_of_find?_eq_some hc) hlt⟩
  · refine (congrArg Host.Outcome.next (live_of_clocked hclk _)).trans ?_
    simp only [hc]
  · refine ⟨_, exec_targetConnectionReady hclk n h, ?_, ?_, rfl⟩
    · rw [rget_rset_of_code _ (by decide) (by omega) (by omega) (by omega) (by omega), rget_rset_same]
      rfl
    · rw [rget_rset_same]
      exact Nat.mod_eq_of_lt ((Nat.min_le_right _ _).trans_lt (by decide))
  · refine (congrArg Host.Outcome.next (live_of_clocked hclk _)).trans ?_
    rw [if_pos ⟨h, hkind⟩]
  · exact ⟨_, exec_targetConnectionLost hclk h hc, rget_rset_same .., rfl, fun k hk => mapFind_mapSet_ne _ _ hk⟩
  · refine (congrArg Host.Outcome.next (live_of_clocked hclk _)).trans ?_
    rw [if_pos h]

end Sys2Proof.Machine
end

section
/-! PROOFS. Heads looked at again (R119, R140): all that can change then. -/

namespace Sys2Proof.Machine

variable {s t u : State}

/-- The codes of the fields that a look at the heads of a queue writes. -/
def headCodes : List Nat := accessFields.map (·.code) ++ [Reg.CLERK_LATE_RELEASES, Reg.HOPPER_INTAKE_WAITS].map (·.code)

/-- t differs from s in what an access may change but the bytes of memory, and in the queues. -/
structure Stirred (s t : State) : Prop where
  form : t = { s with
    regs := t.regs, ledger := t.ledger, out := t.out, health := t.health, pins := { s.pins with acked := t.pins.acked }, free := t.free
    poison := t.poison, fills := { s.fills with flaws := t.fills.flaws }, time := t.time, queues := t.queues, perturb := t.perturb
    msf := { s.msf with cache := t.msf.cache, dir := t.msf.dir } }
  kept : CodesKept headCodes s t

theorem Stirred.refl (s : State) : Stirred s s := ⟨rfl, codesKept_of_regs _ rfl⟩

theorem Stirred.trans (h : Stirred s t) (g : Stirred t u) : Stirred s u := by
  refine ⟨?_, h.kept.trans g.kept⟩
  rw [g.form, h.form]

theorem Stirred.mem (h : Stirred s t) : t.mem = s.mem := by rw [h.form]
theorem Stirred.links (h : Stirred s t) : t.links = s.links := by rw [h.form]

theorem Served.stirred (h : Served s t) : Stirred s t := by
  have hform := h.form
  rw [h.mem] at hform
  exact ⟨hform, h.regs.codesKept.mono (List.subset_append_left _ _)⟩

theorem stirred_ite {p : Prop} [Decidable p] (h : Stirred s t) (g : Stirred s u) : Stirred s (if p then t else u) := by
  split
  exacts [h, g]

theorem stirred_setQueue (s : State) (q : Nat) (l : List QEntry) : Stirred s (setQueue s q l) := ⟨rfl, codesKept_of_regs _ rfl⟩

theorem stirred_updEntry (s : State) (q : Nat) (r : DocketRef) (f : QEntry → QEntry) : Stirred s (updEntry s q r f) :=
  stirred_setQueue ..

theorem stirred_rinc (s : State) {f : Fld} (hf : f.code ∈ headCodes) {i : Nat} (hi : i < 16384) (n : Nat) :
    Stirred s (rinc s f i 0 n) := by
  obtain ⟨v, hv⟩ := rinc_eq_rset s f i 0 n
  rw [hv]
  exact ⟨rfl, codesKept_rset s hf hi (by decide) v⟩

theorem stirred_foldl {α : Type} {f : State → α → State} (hf : ∀ s x, Stirred s (f s x)) (l : List α) (s : State) :
    Stirred s (l.foldl f s) := by
  induction l generalizing s with
  | nil => exact Stirred.refl s
  | cons x l ih => exact (hf s x).trans (ih _)

theorem stirred_readCounters (s : State) (e : QEntry) : Stirred s (readCounters s e) :=
  stirred_ite (served_readLines s _).stirred (Stirred.refl s)

theorem stirred_counterPoison (s : State) (e : QEntry) : Stirred s (counterPoison s e).s := by
  suffices h : ∀ (l : List Nat) (x : Access), Stirred x.s (l.foldl (fun x k => x.poisoned k) x).s from h _ (e.access s)
  intro l
  induction l with
  | nil => exact fun x => Stirred.refl x.s
  | cons k l ih => exact fun x => (served_poisoned x k).stirred.trans (ih _)

theorem stirred_evalHead (s : State) (q : Nat) (e : QEntry) : Stirred s (evalHead s q e) := by
  have hx (s : State) : Stirred s (if countersReady s e.cluster e.tenant.val then counterPoison s e else e.access s).s := by
    split
    · exact stirred_counterPoison s e
    · exact Stirred.refl s
  unfold evalHead
  refine stirred_ite (Stirred.refl s) ?_
  refine Stirred.trans ?_ (stirred_updEntry ..)
  refine Stirred.trans ?_ (stirred_ite (stirred_rinc _ (f := Reg.HOPPER_INTAKE_WAITS) (by decide) (by omega) 1) (Stirred.refl _))
  refine Stirred.trans ?_ (stirred_ite (Stirred.refl _) (stirred_updEntry ..))
  exact (stirred_readCounters s e).trans (hx _)

/-- All that a look at a queue's heads can do. -/
theorem stirred_evalHeads (s : State) (q : Nat) : Stirred s (evalHeads s q) := by
  refine Stirred.trans ?_ (stirred_foldl (fun s e => stirred_evalHead s q e) _ _)
  refine Stirred.trans ?_ (stirred_setQueue ..)
  split
  · exact stirred_rinc s (f := Reg.CLERK_LATE_RELEASES) (by decide) (by omega) _
  · exact Stirred.refl s

theorem stirred_hopWake (s : State) : Stirred s (hopWake s) := (stirred_evalHeads s 2060).trans (stirred_evalHeads _ 2061)

end Sys2Proof.Machine
end

section
/-! PROOFS. Hoppers (R217 to R221, R231, R232): ENABLE, INIT, and a state block saved and taken back. -/

namespace Sys2Proof.Machine

variable {s t u : State}

-- ENABLE --------------------------------------------------------------------------------------------------------------

/-- ENABLE moves only where it changes. -/
theorem hopEnableApply_on (w : Writer) {h : Nat} (h0 : hopF s Reg.HOPPER_HOP_ENABLE h = 0) : hopEnableApply w h 1 s =
    if hopRoom s h < 2 ∨ !hopOwned s h then reportFld s (hopPage h) w Reg.HOPPER_HOP_ENABLE (h / 2) 2 1 0
    else hopSet (hopSet s Reg.HOPPER_HOP_ENABLE h 1) Reg.HOPPER_HOP_STATE h 1 := by
  simp [hopEnableApply, h0]

theorem hopEnableApply_off (w : Writer) {h : Nat} (h1 : hopF s Reg.HOPPER_HOP_ENABLE h = 1) : hopEnableApply w h 0 s =
    if hopInUse s h then reportFld s (hopPage h) w Reg.HOPPER_HOP_ENABLE (h / 2) 2 0 1
    else hopSet (hopSet s Reg.HOPPER_HOP_ENABLE h 0) Reg.HOPPER_HOP_STATE h 0 := by
  simp [hopEnableApply, h1]

theorem exec_hopperEnableWrite {w : Writer} {h : HopperId} (hl : Lands s w (hopPage h.val) Reg.HOPPER_HOP_ENABLE (h.val / 2) u) (en : Bool) :
    exec (.hopperEnableWrite w h en) s = .next (hopEnableApply w h.val (b2n en) u) :=
  congrArg Host.Outcome.next (gated_of_lands hl _ _)

-- the bytes of a control block ----------------------------------------------------------------------------------------

/-- Part of a number's bytes. -/
theorem take_natLe (n : Nat) {j k : Nat} (h : j ≤ k) : (natLe n k).take j = natLe n j := by
  induction k generalizing n j with
  | zero => rw [Nat.le_zero.mp h]; rfl
  | succ k ih =>
    cases j with
    | zero => rfl
    | succ j => rw [natLe, List.take_succ_cons, ih _ (Nat.le_of_succ_le_succ h), natLe]

/-- Pieces of one length stand one after the other. -/
theorem drop_take_flatMap {α β : Type} {f : α → List β} {n : Nat} (hf : ∀ a, (f a).length = n) (l : List α) {i : Nat} (h : i < l.length) :
    ((l.flatMap f).drop (n * i)).take n = f l[i] := by
  induction l generalizing i with
  | nil => exact absurd h (Nat.not_lt_zero i)
  | cons a l ih =>
    rw [List.flatMap_cons]
    cases i with
    | zero => simpa using List.take_left' (hf a)
    | succ i =>
      have hsplit : n * (i + 1) = (f a).length + n * i := by rw [hf, Nat.mul_succ, Nat.add_comm]
      rw [hsplit, List.drop_append, List.drop_eq_nil_of_le (by omega), Nat.add_sub_cancel_left, List.nil_append,
        ih (Nat.lt_of_succ_lt_succ h), List.getElem_cons_succ]

theorem length_flatMap_natLe {α : Type} (f : α → Nat) (k : Nat) (l : List α) : (l.flatMap fun x => natLe (f x) k).length = k * l.length := by
  simp [List.length_flatMap, Nat.mul_comm]

theorem length_hopBlock (seed w drawn : Nat) (expects : List Nat) : (hopBlock seed w drawn expects).length = 64 + 8 * expects.length := by
  simp only [hopBlock, List.length_append, length_natLe, List.length_replicate, length_flatMap_natLe]

theorem hopBlock_seed (seed w drawn : Nat) (expects : List Nat) : ((hopBlock seed w drawn expects).drop 0).take 8 = natLe seed 8 := by
  simp only [hopBlock, List.append_assoc, List.drop_zero]
  exact List.take_left' (length_natLe _ _)

theorem hopBlock_drawn (seed w drawn : Nat) (expects : List Nat) : ((hopBlock seed w drawn expects).drop 16).take 6 = natLe drawn 6 := by
  have hhead : (natLe seed 8 ++ natLe w 4 ++ natLe 0 4).length = 16 := by simp only [List.length_append, length_natLe]
  have hblock : hopBlock seed w drawn expects = (natLe seed 8 ++ natLe w 4 ++ natLe 0 4) ++ (natLe drawn 8 ++
      (List.replicate 40 0 ++ expects.flatMap (fun k => natLe (k % 2 ^ 48) 8))) := by simp only [hopBlock, List.append_assoc]
  rw [hblock, List.drop_left' hhead, List.take_append_of_le_length (by rw [length_natLe]; decide), take_natLe _ (by decide)]

theorem hopBlock_entry (seed w drawn : Nat) {expects : List Nat} {i : Nat} (h : i < expects.length) :
    ((hopBlock seed w drawn expects).drop (64 + 8 * i)).take 8 = natLe (expects[i] % 2 ^ 48) 8 := by
  have hhead : (natLe seed 8 ++ natLe w 4 ++ natLe 0 4 ++ natLe drawn 8 ++ List.replicate 40 (0 : Byte)).length = 64 := by
    simp only [List.length_append, length_natLe, List.length_replicate]
  rw [hopBlock, List.drop_append, List.drop_eq_nil_of_le (by omega), hhead, Nat.add_sub_cancel_left, List.nil_append]
  exact drop_take_flatMap (fun _ => length_natLe _ _) expects h

-- a control block in memory -------------------------------------------------------------------------------------------

/-- The codes of the fields that show a control block. -/
def showCodes : List Nat :=
  [Reg.HOPPER_HOP_STATE, Reg.HOPPER_HOP_DRAWN_LO, Reg.HOPPER_HOP_DRAWN_HI, Reg.HOPPER_HOP_EMPTY_SLOTS].map (·.code)

/-- Hopper h has its control block, is READY, and nothing else of memory has changed. -/
structure HopFilled (h seed drawn : Nat) (expects : List Nat) (s t : State) : Prop where
  block : memRead t.mem (hopBase s h) (64 + 8 * hopW s h) = hopBlock seed (hopW s h) drawn expects
  outside : SameOutside s t (hopBase s h) (64 + 8 * hopW s h)
  ready : hopF t Reg.HOPPER_HOP_STATE h = 2
  kept : CodesKept (headCodes ++ showCodes) s t
  links : t.links = s.links

theorem hopF_congr {l : List Nat} (h : CodesKept l s t) {f : Fld} (hf : f.code ∉ l) {n : Nat} (hn : n < 16) : hopF t f n = hopF s f n :=
  h f _ _ hf (by omega) (by omega)

theorem HopFilled.stirred {h seed drawn : Nat} {expects : List Nat} (hf : HopFilled h seed drawn expects s t) (g : Stirred t u)
    (hh : h < 16) : HopFilled h seed drawn expects s u := by
  refine ⟨by rw [g.mem, hf.block], fun a ha => by rw [g.mem, hf.outside a ha], ?_, hf.kept.trans (g.kept.mono (List.subset_append_left _ _)),
    g.links.trans hf.links⟩
  rw [hopF_congr g.kept (by decide) hh, hf.ready]

/-- What a part of the control block holds is read there. -/
theorem HopFilled.memNat {h seed drawn : Nat} {expects : List Nat} (hf : HopFilled h seed drawn expects s t) {i k : Nat}
    (hik : i + k ≤ 64 + 8 * hopW s h) :
    memNat t (hopBase s h + i) k = leNat (((hopBlock seed (hopW s h) drawn expects).drop i).take k) := by
  rw [Machine.memNat, ← memRead_slice t.mem (hopBase s h) hik, hf.block]

theorem HopFilled.base {h seed drawn : Nat} {expects : List Nat} (hf : HopFilled h seed drawn expects s t) (hh : h < 16) :
    hopBase t h = hopBase s h := by
  rw [hopBase, hopBase, hopF_congr hf.kept (by decide) hh]

theorem HopFilled.seed {h seed drawn : Nat} {expects : List Nat} (hf : HopFilled h seed drawn expects s t) (hh : h < 16)
    (hseed : seed < 2 ^ 64) : hopSeed t h = seed := by
  have := hf.memNat (i := 0) (k := 8) (by omega)
  rw [hopBlock_seed, leNat_natLe hseed] at this
  rw [hopSeed, hf.base hh, ← this, Nat.add_zero]

theorem HopFilled.drawn {h seed drawn : Nat} {expects : List Nat} (hf : HopFilled h seed drawn expects s t) (hh : h < 16)
    (hdrawn : drawn < 2 ^ 48) : hopDrawn t h = drawn := by
  rw [hopDrawn, hf.base hh, hf.memNat (by omega), hopBlock_drawn, leNat_natLe hdrawn]

/-- Every slot awaits its number, and is EMPTY. -/
theorem HopFilled.entry {h seed drawn : Nat} {expects : List Nat} (hf : HopFilled h seed drawn expects s t) (hh : h < 16)
    (hlen : expects.length = hopW s h) {i : Nat} (hi : i < expects.length) :
    hopExpect t h i = expects[i] % 2 ^ 48 ∧ hopState t h i = 0 := by
  have hlt : expects[i] % 2 ^ 48 < 2 ^ 48 := Nat.mod_lt _ (by decide)
  have hbytes := hopBlock_entry seed (hopW s h) drawn hi
  have haddr : hopEntryAt t h i = hopBase s h + (64 + 8 * i) := by rw [hopEntryAt, hf.base hh, Nat.add_assoc]
  constructor
  · have hsix : ((hopBlock seed (hopW s h) drawn expects).drop (64 + 8 * i)).take 6 = natLe (expects[i] % 2 ^ 48) 6 := by
      rw [← take_natLe _ (by decide : 6 ≤ 8), ← hbytes, List.take_take]
      rfl
    rw [hopExpect, haddr, hf.memNat (by omega), hsix, leNat_natLe hlt]
  · rw [hopState, haddr, hf.memNat (by omega), hbytes, leNat_natLe (hlt.trans (by decide)), bitsAt, Nat.shiftRight_eq_div_pow,
      Nat.div_eq_of_lt hlt]
    rfl

/-- The page shows the control block, and the Hopper is READY. -/
def showHopper (s : State) (h w : Nat) : State :=
  hopSet (hopSet (hopShowDrawn s h) Reg.HOPPER_HOP_EMPTY_SLOTS h w) Reg.HOPPER_HOP_STATE h 2

theorem kept_hopSet (s : State) {f : Fld} (hf : f.code ∈ showCodes) {h : Nat} (hh : h < 16) (n : Nat) :
    CodesKept (headCodes ++ showCodes) s (hopSet s f h n) :=
  codesKept_rset s (List.mem_append_right _ hf) (by omega) (by omega) n

theorem kept_showHopper (s : State) {h : Nat} (hh : h < 16) (w : Nat) : CodesKept (headCodes ++ showCodes) s (showHopper s h w) := by
  refine CodesKept.trans ?_ (kept_hopSet _ (f := Reg.HOPPER_HOP_STATE) (by decide) hh 2)
  refine CodesKept.trans ?_ (kept_hopSet _ (f := Reg.HOPPER_HOP_EMPTY_SLOTS) (by decide) hh w)
  refine CodesKept.trans ?_ (kept_hopSet _ (f := Reg.HOPPER_HOP_DRAWN_HI) (by decide) hh _)
  exact kept_hopSet s (f := Reg.HOPPER_HOP_DRAWN_LO) (by decide) hh _

theorem showHopper_ready (s : State) (h w : Nat) : hopF (showHopper s h w) Reg.HOPPER_HOP_STATE h = 2 := rget_rset_same ..
theorem showHopper_mem (s : State) (h w : Nat) : (showHopper s h w).mem = s.mem := rfl
theorem showHopper_links (s : State) (h w : Nat) : (showHopper s h w).links = s.links := rfl

/-- A write of a control block is shown where it met nothing. -/
def Access.shown (y : Access) (h w : Nat) : Access := if y.faults ≠ [] then y else { y with s := showHopper y.s h w }

theorem hopReady_eq (x : Access) (h seed drawn : Nat) (expects : List Nat) :
    x.hopReady h seed drawn expects = (x.wr (hopBase x.s h) (hopBlock seed (hopW x.s h) drawn expects)).shown h (hopW x.s h) := rfl

theorem shown_of_no_fault {y : Access} (hf : y.faults = []) (h w : Nat) : (y.shown h w).s = showHopper y.s h w := by
  rw [Access.shown, if_neg (not_not_intro hf)]

theorem shown_stalled (y : Access) (h w : Nat) : (y.shown h w).stalled = y.stalled := by
  unfold Access.shown
  split <;> rfl

/-- A control block written where nothing refuses it. -/
theorem hopReady_of_plain {x : Access} {h : Nat} {expects : List Nat} (seed drawn : Nat) (hh : h < 16) (hfaults : x.faults = [])
    (hlen : expects.length = hopW x.s h) (hp : Plain x.s x.tenant (hopBase x.s h) (64 + 8 * hopW x.s h)) :
    HopFilled h seed drawn expects x.s (x.hopReady h seed drawn expects).s ∧ (x.hopReady h seed drawn expects).stalled = x.stalled := by
  have hblock : (hopBlock seed (hopW x.s h) drawn expects).length = 64 + 8 * hopW x.s h := by rw [length_hopBlock, hlen]
  obtain ⟨hcalm, hstalled, hread, hout⟩ := plain_wr (x := x) (a := hopBase x.s h) (data := hopBlock seed (hopW x.s h) drawn expects)
    (by rwa [hblock])
  have hkept := (hcalm.state.regs.codesKept.mono (List.subset_append_left _ _ : _ ⊆ headCodes)).mono (List.subset_append_left _ showCodes)
  rw [hblock] at hread hout
  rw [hopReady_eq, shown_stalled, shown_of_no_fault (hcalm.faults.trans hfaults)]
  exact ⟨⟨by rw [showHopper_mem, hread], fun a ha => by rw [showHopper_mem, hout a ha], showHopper_ready .., hkept.trans (kept_showHopper _ hh _),
    by rw [showHopper_links, hcalm.state.links]⟩, hstalled⟩

/-- The docket that wrote it is finished, and the heads look again. -/
theorem hopFilled_finish {x y : Access} {h seed drawn : Nat} {expects : List Nat} (hf : HopFilled h seed drawn expects x.s y.s) (hh : h < 16)
    (hy : y.stalled = false) (v : State) (q : Nat) (e : QEntry) (digest : Nat) :
    HopFilled h seed drawn expects x.s (hopWake (finish v q e y 0 0 digest)) := by
  rw [finish_of_not_stalled hy]
  exact (hf.stirred (stirred_updEntry ..) hh).stirred (stirred_hopWake _) hh

-- INIT ----------------------------------------------------------------------------------------------------------------

/-- A sound INIT writes the control block. -/
theorem exec_init {h : HopperId} {e : QEntry} (hclk : Clocked s) (hrun : hopRunning s h.val 0 = some e) (href : hopRefuse s h.val e = 0)
    (hfill : hopFilling s h.val = false) : exec (.init h) s = .next (hopWake (finish s (hopQueue h.val) e
      ((e.access s).hopReady h.val (hdArg e.dk) 0 (List.range (hopW s h.val))) 0 0 (digestOf e []))) := by
  refine (congrArg Host.Outcome.next (live_of_clocked hclk _)).trans ?_
  simp only [hrun, href, hfill, ne_eq, not_true, if_false, Bool.false_eq_true]

/-- Settles O48: ENABLE moves only over owned regions and while no docket names the Hopper, and INIT fills its control block. -/
theorem hopperEnableAndInit : Obligations.HopperEnableAndInit := by
  refine ⟨fun s u w h hl => ⟨fun h0 hroom hown => ?_, fun h0 hno => ?_, fun h1 huse => ?_, fun h1 huse => ?_⟩,
    fun s h e hclk hrun href hW hp => ?_⟩
  · rw [exec_hopperEnableWrite hl, b2n, if_pos rfl, hopEnableApply_on w h0, if_neg (by simp [hown]; omega)]
  · rw [exec_hopperEnableWrite hl, b2n, if_pos rfl, hopEnableApply_on w h0, if_pos (by simpa using hno)]
  · rw [exec_hopperEnableWrite hl, b2n, if_neg Bool.false_ne_true, hopEnableApply_off w h1, huse, if_neg Bool.false_ne_true]
  · rw [exec_hopperEnableWrite hl, b2n, if_neg Bool.false_ne_true, hopEnableApply_off w h1, huse, if_pos rfl]
  · have hh : h.val < 16 := h.isLt
    have hlen : (List.range (hopW s h.val)).length = hopW s h.val := List.length_range
    obtain ⟨hf, hstalled⟩ := hopReady_of_plain (x := e.access s) (hdArg e.dk) 0 hh rfl hlen hp
    have hdone := hopFilled_finish hf hh hstalled s (hopQueue h.val) e (digestOf e [])
    refine ⟨_, exec_init hclk hrun href hp.not_fillStall, hdone.ready, hdone.seed hh (bitsAt_lt ..), hdone.drawn hh (by decide), fun i hi => ?_,
      hdone.outside, hdone.links⟩
    obtain ⟨hexpect, hstate⟩ := hdone.entry hh hlen (i := i) (by rwa [hlen])
    refine ⟨?_, hstate⟩
    rw [hexpect, List.getElem_range, Nat.mod_eq_of_lt (by omega)]

end Sys2Proof.Machine
end

section
/-! PROOFS. The state block of a Hopper saved to this device, and taken back (R231, R232). -/

namespace Sys2Proof.Machine

variable {s : State}

-- parts of a range ----------------------------------------------------------------------------------------------------

theorem not_hasHole_iff {a n : Nat} :
    hasHole a n = false ↔ ∀ l ∈ linesOf a n, (regionOf (64 * l) == .hole || regionOf (64 * l) == .reg) = false := by
  rw [hasHole, firstHole, Option.isSome_map, Option.isSome_eq_false_iff, Option.isNone_iff_eq_none, List.find?_eq_none]
  simp only [Bool.not_eq_true]

theorem linesOf_part {a n i k : Nat} (hik : i + k ≤ n) {l : Nat} (hl : l ∈ linesOf (a + i) k) : l ∈ linesOf a n := by
  rw [mem_linesOf] at hl ⊢
  omega

/-- Part of a plain range is plain. -/
theorem Plain.part {t a n i k : Nat} (h : Plain s t a n) (hk : k ≠ 0) (hik : i + k ≤ n) : Plain s t (a + i) k := by
  obtain ⟨-, hhole, hbusy, hdebug, hlines⟩ := h
  rw [not_hasHole_iff] at hhole
  exact ⟨hk, not_hasHole_iff.mpr fun l hl => hhole l (linesOf_part hik hl), hbusy, hdebug, fun l hl => hlines l (linesOf_part hik hl)⟩

theorem length_memRead (m : List Host.Cell) (a n : Nat) : (memRead m a n).length = n := by simp [memRead_eq]

theorem memRead_congr {m m' : List Host.Cell} {a n : Nat} (h : ∀ b, a ≤ b → b < a + n → memGet m' b = memGet m b) :
    memRead m' a n = memRead m a n := by
  rw [memRead_eq, memRead_eq]
  exact List.map_congr_left fun j hj => h _ (Nat.le_add_right a j) (Nat.add_lt_add_left (List.mem_range.mp hj) a)

/-- What a range holds once part of it has been written. -/
theorem memRead_of_part {m m' : List Host.Cell} {a n i : Nat} {data : List Byte} (hin : i + data.length ≤ n)
    (hdata : memRead m' (a + i) data.length = data) (hout : ∀ b, b < a + i ∨ a + i + data.length ≤ b → memGet m' b = memGet m b) :
    memRead m' a n = (memRead m a n).take i ++ data ++ (memRead m a n).drop (i + data.length) := by
  have hhead : (memRead m' a n).take i = (memRead m a n).take i := by
    have hpart (m : List Host.Cell) : (memRead m a n).take i = memRead m a i := by
      have := memRead_slice m a (n := n) (i := 0) (k := i) (by omega)
      rwa [List.drop_zero, Nat.add_zero] at this
    rw [hpart, hpart, memRead_congr fun b _ hb => hout b (.inl hb)]
  have htail : (memRead m' a n).drop (i + data.length) = (memRead m a n).drop (i + data.length) := by
    have hpart (m : List Host.Cell) :
        (memRead m a n).drop (i + data.length) = memRead m (a + (i + data.length)) (n - (i + data.length)) := by
      rw [← memRead_slice m a (n := n) (by omega), List.take_of_length_le (by rw [List.length_drop, length_memRead])]
    rw [hpart, hpart, memRead_congr fun b hb _ => hout b (.inr (by omega))]
  have hmid : ((memRead m' a n).drop i).take data.length = data := (memRead_slice m' a hin).trans hdata
  calc memRead m' a n
    _ = (memRead m' a n).take i ++ (memRead m' a n).drop i := (List.take_append_drop i _).symm
    _ = (memRead m' a n).take i ++ (((memRead m' a n).drop i).take data.length ++ ((memRead m' a n).drop i).drop data.length) := by
      rw [List.take_append_drop data.length]
    _ = _ := by rw [hmid, hhead, List.drop_drop, htail, List.append_assoc]

-- SAVE ----------------------------------------------------------------------------------------------------------------

/-- A state block as its mark makes it whole. -/
def markedBlock (b : List Byte) : List Byte := b.take 24 ++ stateMagic ++ List.replicate 32 0 ++ b.drop 64

/-- The three stores of a local SAVE. -/
def saveStores (x : Access) (a : Nat) (block : List Byte) : Access :=
  ((x.wr (a + 0x18) (natLe 0 8)).wr a block).wr (a + 0x18) stateMagic

/-- A state block stored where nothing refuses it: its mark stands last. -/
theorem saveStores_of_plain {x : Access} {a : Nat} {b : List Byte} (hb : 64 ≤ b.length) (hp : Plain x.s x.tenant a b.length) :
    memRead (saveStores x a (b.take 24 ++ List.replicate 40 0 ++ b.drop 64)).s.mem a b.length = markedBlock b ∧
      SameOutside x.s (saveStores x a (b.take 24 ++ List.replicate 40 0 ++ b.drop 64)).s a b.length ∧
      (saveStores x a (b.take 24 ++ List.replicate 40 0 ++ b.drop 64)).stalled = x.stalled := by
  have hlen : (b.take 24 ++ List.replicate 40 0 ++ b.drop 64).length = b.length := by
    simp only [List.length_append, List.length_take, List.length_replicate, List.length_drop]
    omega
  have hzero : (natLe 0 8).length = 8 := length_natLe 0 8
  have hmagic : stateMagic.length = 8 := by decide
  obtain ⟨hcalm₁, hstall₁, -, hout₁⟩ := plain_wr (x := x) (a := a + 0x18) (data := natLe 0 8)
    (by rw [hzero]; exact hp.part (by decide) (by omega))
  have hp₁ := hcalm₁.plain hp
  obtain ⟨hcalm₂, hstall₂, hread₂, hout₂⟩ := plain_wr (x := x.wr (a + 0x18) (natLe 0 8)) (a := a)
    (data := b.take 24 ++ List.replicate 40 0 ++ b.drop 64) (by rwa [hlen, hcalm₁.tenant])
  have hp₂ := hcalm₂.plain hp₁
  obtain ⟨hcalm₃, hstall₃, hread₃, hout₃⟩ := plain_wr
    (x := (x.wr (a + 0x18) (natLe 0 8)).wr a (b.take 24 ++ List.replicate 40 0 ++ b.drop 64)) (a := a + 0x18) (data := stateMagic)
    (by rw [hmagic, hcalm₂.tenant, hcalm₁.tenant]; exact hp₂.part (by decide) (by omega))
  rw [hlen] at hread₂ hout₂
  rw [hzero] at hout₁
  refine ⟨?_, fun c hc => ?_, hstall₃.trans (hstall₂.trans hstall₁)⟩
  · have hwhole := memRead_of_part (n := b.length) (by omega) hread₃ fun c hc => hout₃ c hc
    rw [hread₂, hmagic] at hwhole
    rw [saveStores, hwhole, markedBlock]
    have hhead : (b.take 24).length = 24 := by rw [List.length_take]; omega
    have htake : (b.take 24 ++ List.replicate 40 (0 : Byte) ++ b.drop 64).take 24 = b.take 24 := by
      rw [List.append_assoc, List.take_left' hhead]
    have hdrop : (b.take 24 ++ List.replicate 40 (0 : Byte) ++ b.drop 64).drop (24 + 8) = List.replicate 32 0 ++ b.drop 64 := by
      rw [← List.drop_drop, List.append_assoc, List.drop_left' hhead, List.drop_append_of_le_length (by simp), List.drop_replicate]
    rw [htake, hdrop, ← List.append_assoc]
  · rw [hmagic] at hout₃
    exact (hout₃ c (by omega)).trans ((hout₂ c hc).trans (hout₁ c (by omega)))

/-- A SAVE to this device that starts. -/
theorem exec_hopperSave {h : HopperId} {e : QEntry} (hclk : Clocked s) (hrun : hopRunning s h.val 2 = some e) (hst : e.started = false)
    (href : hopRefuse s h.val e = 0) (hdev : gDev (hdDst e.dk) = ownDev s) (hown : ownDev s % 4 = 0) :
    exec (.hopperSave h) s = .next (finish s (hopQueue h.val) e
      (saveStores (stateBlock (e.access s) h.val).2 (gLoc (hdDst e.dk)) (stateBlock (e.access s) h.val).1) 0 0
      (digestOf e [(0, (stateBlock (e.access s) h.val).1.take 24 ++ stateMagic ++ (stateBlock (e.access s) h.val).1.drop 32)])) := by
  refine (congrArg Host.Outcome.next (live_of_clocked hclk _)).trans ?_
  simp only [hrun, hst, href, hdev, hown, ne_eq, not_true, if_false, if_true, Bool.false_eq_true]
  rfl

/-- The control block that a SAVE reads where nothing refuses it. -/
theorem stateBlock_of_plain {e : QEntry} {h : Nat} (hp : Plain s e.tenant.val (hopBase s h) (64 + 8 * hopW s h)) :
    (stateBlock (e.access s) h).1 = (memRead s.mem (hopBase s h) (64 + 8 * hopW s h)).take 24 ++ List.replicate 40 0 ++
        (memRead s.mem (hopBase s h) (64 + 8 * hopW s h)).drop 64 ∧
      Calm (e.access s) (stateBlock (e.access s) h).2 ∧ (stateBlock (e.access s) h).2.s.mem = s.mem ∧
      (stateBlock (e.access s) h).2.stalled = false := by
  obtain ⟨hread, hcalm, hmem, hstalled⟩ := plain_rd (x := e.access s) hp
  exact ⟨congrArg (fun b : List Byte => b.take 24 ++ List.replicate 40 0 ++ b.drop 64) hread, hcalm, hmem, hstalled⟩

/-- What a SAVE to this device leaves. -/
theorem hopperSave_of_plain {h : HopperId} {e : QEntry} (hclk : Clocked s) (hrun : hopRunning s h.val 2 = some e) (hst : e.started = false)
    (href : hopRefuse s h.val e = 0) (hdev : gDev (hdDst e.dk) = ownDev s) (hown : ownDev s % 4 = 0)
    (hdst : Plain s e.tenant.val (gLoc (hdDst e.dk)) (64 + 8 * hopW s h.val))
    (hblk : Plain s e.tenant.val (hopBase s h.val) (64 + 8 * hopW s h.val)) : Yields (.hopperSave h) s (fun t =>
      memRead t.mem (gLoc (hdDst e.dk)) (64 + 8 * hopW s h.val) = markedBlock (memRead s.mem (hopBase s h.val) (64 + 8 * hopW s h.val)) ∧
        SameOutside s t (gLoc (hdDst e.dk)) (64 + 8 * hopW s h.val)) := by
  obtain ⟨hblock, hcalm, hmem, hstalled⟩ := stateBlock_of_plain hblk
  have hlen := length_memRead s.mem (hopBase s h.val) (64 + 8 * hopW s h.val)
  obtain ⟨hread, hout, hstall⟩ := saveStores_of_plain (x := (stateBlock (e.access s) h.val).2) (a := gLoc (hdDst e.dk))
    (b := memRead s.mem (hopBase s h.val) (64 + 8 * hopW s h.val)) (by omega) (by rw [hlen, hcalm.tenant]; exact hcalm.plain hdst)
  rw [hlen] at hread hout
  refine ⟨_, exec_hopperSave hclk hrun hst href hdev hown, ?_⟩
  rw [hblock, finish_of_not_stalled (hstall.trans hstalled)]
  exact ⟨hread, fun c hc => (hout c hc).trans (by rw [hmem])⟩

-- RESTORE -------------------------------------------------------------------------------------------------------------

/-- A Hopper filled from a state that an access left is filled from the state that it began with. -/
theorem HopFilled.of_calm {x y : Access} {t : State} {h seed drawn : Nat} {expects : List Nat} (hf : HopFilled h seed drawn expects y.s t)
    (hc : Calm x y) (hmem : y.s.mem = x.s.mem) (hh : h < 16) : HopFilled h seed drawn expects x.s t := by
  have hkept : CodesKept (headCodes ++ showCodes) x.s y.s :=
    (hc.state.regs.codesKept.mono (List.subset_append_left _ _ : _ ⊆ headCodes)).mono (List.subset_append_left _ showCodes)
  have hbase : hopBase y.s h = hopBase x.s h := by rw [hopBase, hopBase, hopF_congr hkept (by decide) hh]
  have hW : hopW y.s h = hopW x.s h := hopF_congr hkept (by decide) hh
  obtain ⟨hblock, hout, hready, hk, hl⟩ := hf
  rw [hbase, hW] at hblock hout
  exact ⟨hblock, fun c hc => (hout c hc).trans (by rw [hmem]), hready, hkept.trans hk, hl.trans hc.state.links⟩

/-- The numbers of a state block. -/
def blockNat (b : List Byte) (o n : Nat) : Nat := leNat ((b.drop o).take n)

theorem blockNat_lt (b : List Byte) (o n : Nat) : blockNat b o n < 2 ^ (8 * n) :=
  (leNat_lt _).trans_le (Nat.pow_le_pow_right (by decide) (Nat.mul_le_mul_left 8 (by simp)))

/-- The numbers that the slots of a state block expect. -/
def blockExpects (b : List Byte) (w : Nat) : List Nat := (List.range w).map fun i => blockNat b (0x40 + 8 * i) 6

/-- A sound state block sets the Hopper. -/
theorem applyState_of_sound {h : Nat} {e : QEntry} {x : Access} {b : List Byte} (hst : x.stalled = false) (hfill : hopFilling s h = false)
    (hf : x.faults = []) (hmagic : blockNat b 24 4 = 0x52504F48) (hver : blockNat b 28 2 = 1) (hw : blockNat b 8 4 = hopW s h) :
    applyState s h e x b = hopWake (finish s (hopQueue h) e (x.hopReady h (blockNat b 0 8) (blockNat b 16 6) (blockExpects b (hopW s h))) 0 0
      (digestOf e [])) := by
  have hbad : ¬ (leNat ((b.drop 24).take 4) ≠ 0x52504F48 ∨ leNat ((b.drop 28).take 2) ≠ 1 ∨ leNat ((b.drop 8).take 4) ≠ hopW s h) := by
    rintro (h | h | h)
    exacts [h hmagic, h hver, h hw]
  have hgo : ¬ (x.stalled = true ∨ hopFilling s h = true) := by simp [hst, hfill]
  simp only [applyState]
  rw [if_neg hgo, if_neg (not_not_intro hf), if_neg hbad]
  rfl

/-- A RESTORE from this device that starts. -/
theorem exec_hopperRestore {h : HopperId} {e : QEntry} (hclk : Clocked s) (hrun : hopRunning s h.val 3 = some e) (hst : e.started = false)
    (href : hopRefuse s h.val e = 0) (hdev : gDev (hdDst e.dk) = ownDev s) (hown : ownDev s % 4 = 0) :
    exec (.hopperRestore h) s = .next (applyState s h.val e ((e.access s).rd (gLoc (hdDst e.dk)) (64 + 8 * hopW s h.val)).2
      ((e.access s).rd (gLoc (hdDst e.dk)) (64 + 8 * hopW s h.val)).1) := by
  refine (congrArg Host.Outcome.next (live_of_clocked hclk _)).trans ?_
  simp only [hrun, hst, href, hdev, hown, ne_eq, not_true, if_false, if_true, Bool.false_eq_true]
  rfl

/-- What a RESTORE from this device leaves. -/
theorem hopperRestore_of_plain {h : HopperId} {e : QEntry} (hclk : Clocked s) (hrun : hopRunning s h.val 3 = some e) (hst : e.started = false)
    (href : hopRefuse s h.val e = 0) (hdev : gDev (hdDst e.dk) = ownDev s) (hown : ownDev s % 4 = 0) {b : List Byte}
    (hb : b = memRead s.mem (gLoc (hdDst e.dk)) (64 + 8 * hopW s h.val))
    (hsrc : Plain s e.tenant.val (gLoc (hdDst e.dk)) (64 + 8 * hopW s h.val))
    (hblk : Plain s e.tenant.val (hopBase s h.val) (64 + 8 * hopW s h.val))
    (hmagic : blockNat b 24 4 = 0x52504F48) (hver : blockNat b 28 2 = 1) (hw : blockNat b 8 4 = hopW s h.val) :
    Yields (.hopperRestore h) s (HopFilled h.val (blockNat b 0 8) (blockNat b 16 6) (blockExpects b (hopW s h.val)) s) := by
  obtain ⟨hread, hcalm, hmem, hstalled⟩ := plain_rd (x := e.access s) hsrc
  have hh : h.val < 16 := h.isLt
  have hkept := hcalm.state.regs.codesKept
  have hbase : hopBase ((e.access s).rd (gLoc (hdDst e.dk)) (64 + 8 * hopW s h.val)).2.s h.val = hopBase s h.val := by
    rw [hopBase, hopBase, hopF_congr hkept (by decide) hh]
    rfl
  have hW : hopW ((e.access s).rd (gLoc (hdDst e.dk)) (64 + 8 * hopW s h.val)).2.s h.val = hopW s h.val := hopF_congr hkept (by decide) hh
  obtain ⟨hf, hstall⟩ := hopReady_of_plain (x := ((e.access s).rd (gLoc (hdDst e.dk)) (64 + 8 * hopW s h.val)).2) (h := h.val)
    (expects := blockExpects b (hopW s h.val)) (blockNat b 0 8) (blockNat b 16 6) hh hcalm.faults (by simp [blockExpects, hW])
    (by rw [hbase, hW, hcalm.tenant]; exact hcalm.plain hblk)
  refine ⟨_, exec_hopperRestore hclk hrun hst href hdev hown, ?_⟩
  rw [show ((e.access s).rd (gLoc (hdDst e.dk)) (64 + 8 * hopW s h.val)).1 = b from hread.trans hb.symm,
    applyState_of_sound hstalled hblk.not_fillStall hcalm.faults hmagic hver hw]
  exact (hopFilled_finish hf hh (hstall.trans hstalled) s _ e _).of_calm hcalm hmem hh

/-- Settles O51: the state block stands with its mark, and one that is sound sets the Hopper again. -/
theorem saveAndRestoreAHopper : Obligations.SaveAndRestoreAHopper := by
  refine ⟨fun s h e hclk hrun hst href hdev hown _ => hopperSave_of_plain hclk hrun hst href hdev hown, ?_⟩
  intro s h e hclk hrun hst href hdev hown hW n b hsrc hblk hmagic hver hw
  have hh : h.val < 16 := h.isLt
  obtain ⟨t, hexec, hf⟩ := hopperRestore_of_plain hclk hrun hst href hdev hown (b := b) rfl hsrc hblk hmagic hver hw
  have hlen : (blockExpects b (hopW s h.val)).length = hopW s h.val := by simp [blockExpects]
  refine ⟨t, hexec, hf.ready, hf.seed hh (blockNat_lt b 0 8), hf.drawn hh (blockNat_lt b 16 6), fun i hi => ?_, hf.outside⟩
  obtain ⟨hexpect, hstate⟩ := hf.entry hh hlen (i := i) (by rwa [hlen])
  refine ⟨?_, hstate⟩
  have hlt : blockNat b (64 + 8 * i) 6 < 2 ^ 48 := blockNat_lt b (64 + 8 * i) 6
  have hi' : (blockExpects b (hopW s h.val))[i]'(by rwa [hlen]) = blockNat b (64 + 8 * i) 6 := by
    simp only [blockExpects, List.getElem_map, List.getElem_range]
  rw [hexpect, hi', Nat.mod_eq_of_lt hlt]
  rfl

end Sys2Proof.Machine
end

section
/-! PROOFS. Power input, package resets and reboots (R366, R417, R419, R445, R446), and the boot stages (R420). -/

namespace Sys2Proof.Machine

variable {s t u : State}

-- records -------------------------------------------------------------------------------------------------------------

theorem Noted.kept (h : Noted s t) : CodesKept (noteFields.map (·.code)) s t := h.regsKept.codesKept

theorem RegsOnly.mem (h : RegsOnly s t) : t.mem = s.mem := by rw [h]
theorem RegsOnly.queues (h : RegsOnly s t) : t.queues = s.queues := by rw [h]
theorem RegsOnly.boot (h : RegsOnly s t) : t.boot = s.boot := by rw [h]
theorem RegsOnly.flash (h : RegsOnly s t) : t.flash = s.flash := by rw [h]

theorem Noted.regsOnly (h : Noted s t) : RegsOnly s t := h.1

-- package resets ------------------------------------------------------------------------------------------------------

/-- The codes of the fields that note a reset. -/
def lastResetCodes : List Nat :=
  [Reg.RESET_RESETS, Reg.RESET_LAST_DOMAIN, Reg.RESET_LAST_INDEX, Reg.RESET_LAST_CAUSE].map (·.code) ++ noteFields.map (·.code)

/-- What noting a package reset leaves as it is. -/
theorem notePackage_noted (s : State) : RegsOnly s (notePackage s) ∧ CodesKept lastResetCodes s (notePackage s) ∧
    rget (notePackage s) Reg.RESET_LAST_DOMAIN = 8 := by
  obtain ⟨n, hn⟩ := rinc_eq_rset s Reg.RESET_RESETS 0 0 1
  have hkept : ∀ (s : State) {f : Fld} (v : Nat), f.code ∈ lastResetCodes → CodesKept lastResetCodes s (rset s f 0 0 v) :=
    fun s f v hf => codesKept_rset s hf (by decide) (by decide) v
  have hnoted : Noted (rset (rset (rset (rset s Reg.RESET_RESETS 0 0 n) Reg.RESET_LAST_DOMAIN 0 0 8) Reg.RESET_LAST_INDEX 0 0 0)
      Reg.RESET_LAST_CAUSE 0 0 0) (notePackage s) := by
    rw [notePackage, hn]
    exact noted_raise _ _
  refine ⟨?_, ?_, ?_⟩
  · rw [RegsOnly, hnoted.1]
    rfl
  · exact (hkept s (f := Reg.RESET_RESETS) n (by decide)).trans ((hkept _ (f := Reg.RESET_LAST_DOMAIN) 8 (by decide)).trans
      ((hkept _ (f := Reg.RESET_LAST_INDEX) 0 (by decide)).trans ((hkept _ (f := Reg.RESET_LAST_CAUSE) 0 (by decide)).trans
        (hnoted.kept.mono (List.subset_append_right _ _)))))
  · rw [hnoted.kept _ 0 0 (by decide) (by decide) (by decide)]
    simp (disch := decide) only [rget_rset_of_code, rget_rset_same]
    rfl

/-- The state that a package reset starts the boot in, before it sets the registers of the PMC island and drops the capacity ring. -/
def packageBase (s : State) : State :=
  { State.reset with
    pending := s.pending, out := s.out, free := s.free, regs := keptRegs s.regs
    time := { State.reset.time with cyc := s.time.cyc }
    sbus := s.sbus, ledger := s.ledger, freeze := s.freeze, health := s.health
    resets := { State.reset.resets with gens := allGens s, hangs := s.resets.hangs }
    power := { s.power with on := [136], tripped := false, sleep := [] }
    boot := { s.boot with mapped := [], bench := [], outOf := [], published := false, rerun := true }
    pins := { s.pins with pwrGood := s.pins.pwrGood && !s.power.tripped }
    flash := s.flash, smbus := s.smbus }

/-- Registers and the Ledger's state are all that is set afterwards. -/
theorem packageCore_shape (s : State) : ∃ n l, packageCore s = { rset (rset (rset (rset (rset (rset (rset (packageBase s)
    Reg.DIMTAB_READY 0 0 0) Reg.DIMTAB_SHAPE_OK 0 0 0) Reg.PMC_BOOT_STAGE 0 0 3) Reg.POWER_THROTTLE 0 0 n) Reg.LEDGER_CAP_EN 0 0 0)
      Reg.LEDGER_CAP_HEAD 0 0 0) Reg.LEDGER_CAP_TAIL 0 0 0 with ledger := l } := ⟨_, _, rfl⟩

theorem rget_ledger (s : State) (l : LedgerSt) (f : Fld) (i j : Nat) : rget { s with ledger := l } f i j = rget s f i j := rfl

/-- The registers that the core of a package reset sets last. -/
theorem packageCore_regs (s : State) : bootStage (packageCore s) = 3 ∧ rget (packageCore s) Reg.DIMTAB_READY = 0 ∧
    rget (packageCore s) Reg.LEDGER_CAP_EN = 0 := by
  obtain ⟨n, l, h⟩ := packageCore_shape s
  simp (disch := decide) only [bootStage, h, rget_ledger, rget_rset_of_code, rget_rset_same]
  exact ⟨rfl, rfl, rfl⟩

/-- What the core of a package reset clears and keeps. -/
theorem packageCore_parts (s : State) : (packageCore s).mem = [] ∧ (packageCore s).poison = [] ∧ (packageCore s).queues = [] ∧
    (packageCore s).rings = [] ∧ (packageCore s).links = [] ∧ (packageCore s).msf = State.reset.msf ∧ (packageCore s).power.on = [136] ∧
      (packageCore s).flash = s.flash ∧ (packageCore s).boot.image = s.boot.image ∧ (packageCore s).pending = s.pending := by
  obtain ⟨n, l, h⟩ := packageCore_shape s
  simp only [h, rset_mem, rset_poison, rset_queues, rset_rings, rset_links, rset_msf, rset_power, rset_flash, rset_boot, rset_pending,
    packageBase, and_true]
  exact ⟨rfl, rfl, rfl, rfl, rfl⟩

/-- What a package reset leaves. -/
theorem packageReset_of_image {i : Nat} (hi : s.boot.image = some i) (htrip : tripHolds s = false) :
    packageReset s = notePackage (packageCore s) := by
  rw [packageReset, if_neg (by simp [hi, htrip])]

/-- What a reboot leaves. -/
theorem rebootCore_parts (s : State) : bootStage (rebootCore s) = 0 ∧ (rebootCore s).mem = [] ∧ (rebootCore s).queues = [] ∧
    (rebootCore s).links = [] ∧ (rebootCore s).flash = s.flash ∧ (rebootCore s).boot.image = none ∧
      (rebootCore s).boot.svnUp = s.boot.svnUp ∧ (rebootCore s).boot.revoked = s.boot.revoked ∧ (rebootCore s).pending = s.pending := by
  obtain ⟨n, l, h⟩ := packageCore_shape s
  obtain ⟨hmem, -, hqueues, -, hlinks, -, -, hflash, -, hpending⟩ := packageCore_parts s
  have hboot : (packageCore s).boot = (packageBase s).boot := by simp only [h, rset_boot]
  simp only [rebootCore, bootStage, rget_rset_same, rset_mem, rset_queues, rset_links, rset_flash, rset_boot, rset_pending, hmem, hqueues, hlinks,
    hflash, hpending, hboot, packageBase, and_true]
  rfl

/-- Settles O5: what the resets keep is named in them. -/
theorem powerAndPackageResets : Obligations.PowerAndPackageResets := by
  refine ⟨⟨fun s h => ?_, fun s => ?_, fun s mv hclk => ?_⟩, fun s i hf hi htrip => ?_, fun s u w hl htrip => ?_⟩
  · exact congrArg Host.Outcome.next (if_neg (by simp [h]))
  · exact ⟨_, rfl, rfl, rfl, rfl, rfl, rfl, rfl, rfl, rfl, rfl, rfl⟩
  · have hn := noted_raise { s with pins := { s.pins with bladeLimit := some (50 * mv / 1000) } }
      { evOf Reg.POWER_POWER_W 0 12 0 15 none [50 * mv / 1000] with cls := some 1 }
    exact ⟨_, congrArg Host.Outcome.next (live_of_clocked hclk _), hn.regsOnly, hn.kept Reg.POWER_CAP_W 0 0 (by decide) (by decide) (by decide)⟩
  · obtain ⟨hstage, hready, hcap⟩ := packageCore_regs s
    obtain ⟨hform, hkept, hlast⟩ := notePackage_noted (packageCore s)
    have hreg {f : Fld} (hf : f.code ∉ lastResetCodes) : rget (notePackage (packageCore s)) f = rget (packageCore s) f :=
      hkept f 0 0 hf (by decide) (by decide)
    refine ⟨_, congrArg Host.Outcome.next ((if_neg (by simp [hf])).trans (packageReset_of_image hi htrip)), ?_⟩
    simp only [bootStage, hreg (f := Reg.PMC_BOOT_STAGE) (by decide), hreg (f := Reg.DIMTAB_READY) (by decide),
      hreg (f := Reg.LEDGER_CAP_EN) (by decide), hlast]
    rw [hform]
    obtain ⟨hmem, hpoison, hqueues, hrings, hlinks, hmsf, hon, hflash, himage, hpending⟩ := packageCore_parts s
    exact ⟨hstage, hmem, hpoison, hqueues, hrings, hlinks, hmsf, hon, hflash, himage.trans hi, hready, trivial, hpending, hcap⟩
  · obtain ⟨hstage, hmem, hqueues, hlinks, hflash, himage, hsvn, hrevoked, hpending⟩ := rebootCore_parts u
    exact ⟨_, congrArg Host.Outcome.next ((gated_of_lands hl _ _).trans (if_neg (by simp [htrip]))), hstage, hmem, hqueues, hlinks, hflash,
      himage, hsvn, hrevoked, hpending⟩

-- ROM -----------------------------------------------------------------------------------------------------------------

/-- A part at ROM whose minimum security version has been raised to 256. -/
def svnRaised : State := { State.reset with boot := { State.reset.boot with inRange := true, svnUp := 256 } }

/-- ROM shows all 16 bits of that version. -/
theorem rget_svnFuse_svnRaised (ht : exec (.rom 0 false) svnRaised = .next t) :
    rget t Reg.PMC_SVN_FUSE = max (Config.svnFused % 65) 256 % 65536 := by
  rw [← Host.Outcome.next.inj ht]
  rfl

/-- Refutes O6: SVN_FUSE holds 16 bits, so a version of 256 shows as it is, and not modulo 256. -/
theorem not_bootStages : ¬ Obligations.BootStages := by
  rintro ⟨⟨hrom, -⟩, -⟩
  obtain ⟨t, ht, -, -, -, hsvn, -⟩ := hrom svnRaised 0 false (by decide)
  have hfuse : fuseSvn svnRaised = max (Config.svnFused % 65) 256 := rfl
  rw [rget_svnFuse_svnRaised ht, hfuse] at hsvn
  omega

end Sys2Proof.Machine
end

section
/-! PROOFS. The boot flash behind the SMB page, and the fuses (R422, R462). -/

namespace Sys2Proof.Machine

variable {s t u : State}

-- fuses ---------------------------------------------------------------------------------------------------------------

theorem keyApply_of_free (w : Writer) {m : Nat} (hm : m < 16) (h : s.boot.image = none ∨ bitAt m (rget s Reg.PMC_KEY_SLOT) = false) :
    keyApply w m s = rset { s with boot := { s.boot with revoked := s.boot.revoked ||| m } } Reg.PMC_KEY_REVOKED 0 0
      (rget s Reg.PMC_KEY_REVOKED ||| m) := by
  have hnot : ¬ (s.boot.image.isSome = true ∧ bitAt m (rget s Reg.PMC_KEY_SLOT) = true) := by
    rintro ⟨hi, hb⟩
    rcases h with h | h
    · simp [h] at hi
    · simp [h] at hb
  simp only [keyApply, Nat.mod_eq_of_lt hm, if_neg hnot]

theorem keyApply_of_used (w : Writer) {m : Nat} (hm : m < 16) (hi : s.boot.image ≠ none) (hb : bitAt m (rget s Reg.PMC_KEY_SLOT) = true) :
    keyApply w m s = reportFld s pmcPage w Reg.PMC_KEY_REVOKE 0 2 m (rget s Reg.PMC_KEY_REVOKED) := by
  simp only [keyApply, Nat.mod_eq_of_lt hm, if_pos (And.intro (Option.isSome_iff_ne_none.mpr hi) hb)]

-- commands ------------------------------------------------------------------------------------------------------------

/-- A flash command of the register path begins where it can run. -/
theorem flashCmdApply_of_runs {n : Nat} (hn : n % 4 = n) (h0 : n ≠ 0) (h : flashRuns s 2 = true) :
    flashCmdApply n s = rset { s with flash := { s.flash with
      busy := some { cmd := n, addr := rget s Reg.SMB_FLASH_ADDR, data := flashBuffer s, smbus := false } } } Reg.SMB_FLASH_STATUS 0 0 1 := by
  rw [flashCmdApply, hn, if_neg h0, flashBegin, if_neg (by simp [h])]
  rfl

theorem flashCmdApply_of_not_runs {n : Nat} (hn : n % 4 = n) (h0 : n ≠ 0) (h : flashRuns s 2 = false) :
    flashCmdApply n s = rset s Reg.SMB_FLASH_STATUS 0 0 (setBit (rget s Reg.SMB_FLASH_STATUS) 1) := by
  rw [flashCmdApply, hn, if_neg h0, flashBegin, if_pos (by simp [h]), flashError]

-- bytes of the flash --------------------------------------------------------------------------------------------------

/-- A byte of the flash's map. -/
def flashGet (m : List (Nat × Byte)) (a : Nat) : Byte := (mapFind m a).getD 0xFF

theorem flashGet_flashPut (m : List (Nat × Byte)) (a c : Nat) (b : Byte) :
    flashGet (flashPut m a b) c = if c = a then b else flashGet m c := by
  unfold flashPut flashGet
  split
  · rw [mapFind_mapErase]
    split
    · next hb _ => exact hb.symm
    · rfl
  · rw [mapFind_mapSet]
    split <;> rfl

/-- Bytes put one after the other. -/
theorem flashGet_foldl_flashPut (m : List (Nat × Byte)) (addr n : Nat) (g : Nat → Byte) (c : Nat) :
    flashGet (((List.range n).map fun i => (addr + i, g i)).foldl (fun m b => flashPut m b.1 b.2) m) c =
      if addr ≤ c ∧ c < addr + n then g (c - addr) else flashGet m c := by
  induction n with
  | zero => rw [if_neg (by omega)]; rfl
  | succ n ih =>
    rw [List.range_succ, List.map_append, List.foldl_append]
    simp only [List.map_cons, List.map_nil, List.foldl_cons, List.foldl_nil]
    rw [flashGet_flashPut, ih]
    by_cases hc : c = addr + n
    · rw [if_pos hc, if_pos (by omega), hc, Nat.add_sub_cancel_left]
    · rw [if_neg hc]
      by_cases hin : addr ≤ c ∧ c < addr + n
      · rw [if_pos hin, if_pos (by omega)]
      · rw [if_neg hin, if_neg (by omega)]

/-- 32 bytes programmed, each by the bits that were set before. -/
theorem flashByte_flashStore (s : State) (addr : Nat) (data : BitVec 256) (a : Nat) : flashByte (flashStore s addr data) a =
    if addr ≤ a ∧ a < addr + 32 then flashByte s a &&& BitVec.ofNat 8 (bitsAt data.toNat (8 * (a - addr)) 8) else flashByte s a := by
  refine (flashGet_foldl_flashPut s.flash.bytes addr 32
    (fun i => flashByte s (addr + i) &&& BitVec.ofNat 8 (bitsAt data.toNat (8 * i) 8)) a).trans ?_
  split
  · next h => rw [Nat.add_sub_cancel' h.1]
  · rfl

/-- A sector erased. -/
theorem flashByte_flashErase (s : State) (addr a : Nat) :
    flashByte (flashErase s addr) a = if a / 65536 = addr / 65536 then 0xFF else flashByte s a := by
  have hfind : mapFind (flashErase s addr).flash.bytes a = if (a / 65536 != addr / 65536) = true then mapFind s.flash.bytes a else none :=
    mapFind_filter s.flash.bytes (fun b => b / 65536 != addr / 65536) a
  unfold flashByte
  rw [hfind]
  by_cases h : a / 65536 = addr / 65536
  · rw [if_neg (by simpa using h), if_pos h]
    rfl
  · rw [if_pos (by simpa using h), if_neg h]

/-- Words loaded into FLASH_DATA one after the other. -/
theorem flashLoad_foldl (s : State) (addr n : Nat) (hn : n ≤ 8) :
    ∃ t, (List.range n).foldl (fun s i => rset s Reg.SMB_FLASH_DATA 0 i (leNat (flashBytes s (addr + 4 * i) 4))) s = t ∧
      t = { s with regs := t.regs } ∧ CodesKept [Reg.SMB_FLASH_DATA.code] s t ∧
        ∀ i < n, rget t Reg.SMB_FLASH_DATA 0 i = leNat (flashBytes s (addr + 4 * i) 4) := by
  induction n with
  | zero => exact ⟨s, rfl, rfl, codesKept_of_regs _ rfl, fun i hi => absurd hi (Nat.not_lt_zero i)⟩
  | succ n ih =>
    obtain ⟨t, heq, hform, hkept, hread⟩ := ih (by omega)
    have hbytes : flashBytes t (addr + 4 * n) 4 = flashBytes s (addr + 4 * n) 4 := by rw [hform]; rfl
    refine ⟨rset t Reg.SMB_FLASH_DATA 0 n (leNat (flashBytes s (addr + 4 * n) 4)), ?_, ?_, ?_, fun i hi => ?_⟩
    · rw [List.range_succ, List.foldl_append, heq, List.foldl_cons, List.foldl_nil, hbytes]
    · rw [hform]
      rfl
    · exact hkept.trans (codesKept_rset t (by decide) (by decide) (by omega) _)
    · by_cases hin : i = n
      · subst hin
        rw [rget_rset_same]
        exact Nat.mod_eq_of_lt ((leNat_lt _).trans_le (by simp [flashBytes]; decide))
      · rw [rget_rset_ne _ _ _ _ _ _ _ _ fun hkey => hin (regKey_inj (by decide) (by decide) (by omega) (by omega) hkey).2.2]
        exact hread i (by omega)

/-- Bit 0 cleared. -/
theorem bitAt_clrBit_zero (n : Nat) : bitAt (clrBit n 0) 0 = false := by
  unfold clrBit
  split
  · next h =>
    simp only [bitAt, bitsAt, Nat.shiftRight_zero, beq_iff_eq, beq_eq_false_iff_ne] at h ⊢
    omega
  · next h => simpa using h

/-- The state in which an operation takes effect: busy has cleared. -/
def flashIdle (s : State) : State :=
  rset { s with flash := { s.flash with busy := none } } Reg.SMB_FLASH_STATUS 0 0 (clrBit (rget s Reg.SMB_FLASH_STATUS) 0)

theorem flashIdle_status (s : State) : bitAt (rget (flashIdle s) Reg.SMB_FLASH_STATUS) 0 = false := by
  have h := bitAt_clrBit_zero (rget s Reg.SMB_FLASH_STATUS)
  rw [flashIdle, rget_rset_same, bitAt, bitsAt_mod_two_pow _ (by decide)]
  exact h

theorem exec_flashOpDone {op : FlashOp} (h : s.flash.busy = some op) : exec .flashOpDone s = .next (match op.cmd with
    | 1 => flashLoad (flashIdle s) op.addr
    | 2 => flashStore (flashIdle s) op.addr op.data
    | _ => flashErase (flashIdle s) op.addr) := by
  simp only [exec, execFlashOpDone, h, flashIdle]
  rfl

/-- Settles O7: each fuse, and each flash operation by its command. -/
theorem flashAndFuses : Obligations.FlashAndFuses := by
  refine ⟨⟨fun s u w hl => ?_, fun s u w m hl hfree => ?_, fun s u w m hl hi hb => ?_⟩, fun s u w c n hc hl => ?_, fun s op hbusy => ?_⟩
  · exact congrArg Host.Outcome.next (gated_of_lands hl _ _)
  · exact congrArg Host.Outcome.next ((gated_of_lands hl _ _).trans (keyApply_of_free w m.isLt hfree))
  · exact congrArg Host.Outcome.next ((gated_of_lands hl _ _).trans (keyApply_of_used w m.isLt hi hb))
  · have hn : n % 4 = n ∧ n ≠ 0 ∧ exec c s = .next (flashCmdApply n u) := by
      simp only [List.mem_cons, Prod.mk.injEq, List.not_mem_nil, or_false] at hc
      rcases hc with ⟨rfl, rfl⟩ | ⟨rfl, rfl⟩ | ⟨rfl, rfl⟩
      · exact ⟨rfl, by decide, congrArg Host.Outcome.next (gated_of_lands hl _ _)⟩
      · exact ⟨rfl, by decide, congrArg Host.Outcome.next (gated_of_lands hl _ _)⟩
      · exact ⟨rfl, by decide, congrArg Host.Outcome.next (gated_of_lands hl _ _)⟩
    obtain ⟨hmod, h0, hexec⟩ := hn
    exact ⟨fun h => by rw [hexec, flashCmdApply_of_runs hmod h0 h], fun h => by rw [hexec, flashCmdApply_of_not_runs hmod h0 h]⟩
  · refine ⟨_, exec_flashOpDone hbusy, ?_⟩
    have hstatus := flashIdle_status s
    obtain ⟨cmd, addr, data, smbus⟩ := op
    dsimp only
    split
    · obtain ⟨t, heq, hform, hkept, hread⟩ := flashLoad_foldl (flashIdle s) addr 8 le_rfl
      rw [show flashLoad (flashIdle s) addr = t from heq]
      refine ⟨by rw [hform]; rfl, ?_, by rw [hform]; rfl, by rw [hform]; rfl, fun _ => ⟨by rw [hform]; rfl, fun i => hread i i.isLt⟩,
        fun h => absurd h (by decide), fun h => absurd h (by decide)⟩
      rw [hkept Reg.SMB_FLASH_STATUS 0 0 (by decide) (by decide) (by decide), hstatus]
    · exact ⟨rfl, hstatus, rfl, rfl, fun h => absurd h (by decide), fun _ a => flashByte_flashStore .., fun h => absurd h (by decide)⟩
    · next h1 h2 => exact ⟨rfl, hstatus, rfl, rfl, fun h => absurd h h1, fun h => absurd h h2, fun _ a => flashByte_flashErase ..⟩

end Sys2Proof.Machine
end

section
/-! PROOFS. The SMBus port (R460 to R463). -/

namespace Sys2Proof.Machine

variable {s t : State}

theorem smbusOn_of_inRange (h : s.boot.inRange = true) (k : State → State) : smbusOn s k = k s := if_pos h

theorem smbusWrite_of_pec (h : s.boot.inRange = true) (k : State → State) : smbusWrite s true k = k s := if_pos h

theorem smbusWrite_of_not_pec (h : s.boot.inRange = true) (k : State → State) :
    smbusWrite s false k = emit (rinc s Reg.SMB_PEC_ERRORS) (.smbus [] true) := if_pos h

/-- The bits of a cause that is acknowledged assert nothing. -/
theorem and_not_acked (x : Nat) (a : BitVec 4) : x &&& (~~~(a ||| BitVec.ofNat 4 x)).toNat = 0 := by
  refine Nat.eq_of_testBit_eq fun i => ?_
  rw [Nat.testBit_and, BitVec.testBit_toNat, Nat.zero_testBit]
  by_cases hi : i < 4
  · rw [BitVec.getLsbD_not, BitVec.getLsbD_or, BitVec.getLsbD_ofNat]
    cases x.testBit i <;> simp [hi]
  · rw [BitVec.getLsbD_of_ge _ _ (by omega), Bool.and_false]

/-- Settles O8: a read of the port is its reply, and a word goes through the bus where it can be reached. -/
theorem smbusReadsAndWords : Obligations.SmbusReadsAndWords := by
  refine ⟨fun s h => ?_, fun s h => ⟨fun off => ?_, fun hr => ⟨_, ?_, _, rfl, rfl⟩, fun hr => ?_, fun d hr ha => ?_, fun d hr => ?_⟩⟩
  · exact ⟨congrArg Host.Outcome.next (smbusOn_of_inRange h _), congrArg Host.Outcome.next (smbusOn_of_inRange h _),
      congrArg Host.Outcome.next (smbusOn_of_inRange h _), congrArg Host.Outcome.next (smbusOn_of_inRange h _),
      congrArg Host.Outcome.next (smbusOn_of_inRange h _)⟩
  · exact congrArg Host.Outcome.next (smbusWrite_of_pec h _)
  · exact congrArg Host.Outcome.next ((smbusOn_of_inRange h _).trans (if_pos hr))
  · exact congrArg Host.Outcome.next ((smbusOn_of_inRange h _).trans (if_neg (by simp [hr])))
  · refine congrArg Host.Outcome.next ((smbusWrite_of_pec h _).trans ?_)
    simp only [hr, ha]
    rfl
  · refine congrArg Host.Outcome.next ((smbusWrite_of_pec h _).trans ?_)
    simp only [hr]
    rfl

-- commands ------------------------------------------------------------------------------------------------------------

/-- Each command that carries a PEC, with one that does not match. -/
theorem exec_of_not_pec (h : s.boot.inRange = true) (off d : W32) (data : BitVec 256) {c : Instr}
    (hc : c ∈ [Instr.smbusSetOffset off false, .smbusWriteWord d false, .smbusWake false, .smbusReboot false, .smbusFlashAddr off false,
      .smbusFlashProgram data false, .smbusFlashErase false]) :
    exec c s = .next (emit (rinc s Reg.SMB_PEC_ERRORS) (.smbus [] true)) := by
  simp only [List.mem_cons, List.not_mem_nil, or_false] at hc
  rcases hc with rfl | rfl | rfl | rfl | rfl | rfl | rfl <;> exact congrArg Host.Outcome.next (smbusWrite_of_not_pec h _)

/-- A sleeping module leaves P4. -/
theorem wakeModule_of_asleep {n : Fin 5} (h : s.power.sleep = [(584, .asleep n)]) :
    wakeModule s = { s with power := { s.power with sleep := [(584, .leaving n)] } } := by
  have hfind : sleepOf s moduleUnit = some (.asleep n) := by rw [sleepOf, h]; rfl
  rw [wakeModule, hfind]
  simp only [setSleep, h]
  rfl

/-- A legal value is taken as it is. -/
theorem setClamped_of_legal (w : Writer) (p : Page) (f : Fld) (idx : Nat) {v : Nat} (hv : v < 2 ^ f.width)
    (h : clampRng f.rng p.inst v = v) : setClamped s w p f idx v = rset s f p.inst idx v := by
  simp only [setClamped, Nat.mod_eq_of_lt hv, h, if_true]

/-- A flash operation begins where it can run. -/
theorem flashBegin_of_runs {path : Nat} (h : flashRuns s path = true) (cmd : Nat) (data : BitVec 256) :
    flashBegin s path cmd data = rset { s with flash := { s.flash with
      busy := some { cmd, addr := rget s Reg.SMB_FLASH_ADDR, data, smbus := path == 1 } } } Reg.SMB_FLASH_STATUS 0 0 1 := by
  rw [flashBegin, if_neg (by simp [h])]

/-- FLASH_ADDR after a transfer, whatever FLASH_STATUS was set to. -/
theorem rget_flashAddrNext (s : State) (v : Nat) : rget (flashAddrNext (rset s Reg.SMB_FLASH_STATUS 0 0 v)) Reg.SMB_FLASH_ADDR =
    (rget s Reg.SMB_FLASH_ADDR + 32) % 2 ^ 26 := by
  rw [flashAddrNext, rget_rset_same, rget_rset_of_code _ (by decide) (by decide) (by decide) (by decide) (by decide)]
  rfl

/-- The causes of ALERT_N that stand are acknowledged. -/
def answered (s : State) : State :=
  let causes := BitVec.ofNat 4 (rget s Reg.SMB_ALERT_CAUSE &&& rget s Reg.SMB_ALERT_MASK)
  { s with pins := { s.pins with acked := s.pins.acked ||| causes } }

theorem alertAsserted_answered (s : State) : alertAsserted (answered s) = false := by
  have h := and_not_acked (rget s Reg.SMB_ALERT_CAUSE &&& rget s Reg.SMB_ALERT_MASK) s.pins.acked
  exact (bne_eq_false_iff_eq ..).mpr h

/-- Settles O9: each command by its own rule. -/
theorem smbusCommands : Obligations.SmbusCommands := by
  refine ⟨fun s off d data c h hc => exec_of_not_pec h off d data hc, fun s h => ⟨fun hclk n hn => ?_, fun hf ht => ?_,
    fun a hal hlt => ?_, fun hr => ?_, fun d hr => ?_, fun hr => ?_, ?_, fun ha => ?_, fun ha => ?_⟩⟩
  · exact congrArg Host.Outcome.next ((smbusWrite_of_pec h _).trans ((live_of_clocked hclk _).trans (wakeModule_of_asleep hn)))
  · refine congrArg Host.Outcome.next ((smbusWrite_of_pec h _).trans ?_)
    rw [hf, reboot, ht]
    rfl
  · refine congrArg Host.Outcome.next ((smbusWrite_of_pec h _).trans (setClamped_of_legal _ _ _ _ hlt ?_))
    exact Nat.div_mul_cancel (Nat.dvd_of_mod_eq_zero hal)
  · refine ⟨_, congrArg Host.Outcome.next ((smbusOn_of_inRange h _).trans (if_pos hr)), rfl, rget_flashAddrNext s 0, ?_⟩
    refine (rget_rset_of_code _ (by decide) (by decide) (by decide) (by decide) (by decide) _).trans ?_
    rw [rget_rset_same]
    rfl
  · exact ⟨_, congrArg Host.Outcome.next ((smbusWrite_of_pec h _).trans ((if_pos hr).trans (congrArg flashAddrNext (flashBegin_of_runs hr 2 d)))),
      rfl, rget_flashAddrNext _ 1, rfl, rfl⟩
  · refine ⟨_, congrArg Host.Outcome.next ((smbusWrite_of_pec h _).trans (flashBegin_of_runs hr 3 0)), rfl, ?_, rfl⟩
    rw [rget_rset_same]
    rfl
  · refine ⟨_, congrArg Host.Outcome.next (smbusOn_of_inRange h _), ?_, ?_, ?_⟩
    · rw [(noted_raise _ _).regsOnly]
    · rw [(noted_raise _ _).regsOnly.mem, ← rinc_mem s Reg.SMB_TIMEOUTS 0 0 1]
    · rw [(noted_raise _ _).regsOnly.queues, ← rinc_queues s Reg.SMB_TIMEOUTS 0 0 1]
  · exact ⟨smbusReply (answered s) [0xB4], congrArg Host.Outcome.next ((smbusOn_of_inRange h _).trans (if_pos ha)),
      alertAsserted_answered s, rfl, rfl⟩
  · exact congrArg Host.Outcome.next ((smbusOn_of_inRange h _).trans (if_neg (by simp [ha])))

end Sys2Proof.Machine
end

section
/-! PROOFS. The host's interface and the Ethernet ports (R451 to R454, R464). -/

namespace Sys2Proof.Machine

variable {s t : State}

-- PCIe ----------------------------------------------------------------------------------------------------------------

/-- An access addressed into a unit finds no unit asleep. -/
theorem rouse_of_awake (h : s.power.sleep = []) (l : List Nat) : rouse s l = s := by
  refine List.foldlRecOn l _ (motive := fun t => t = s) rfl fun t ht k _ => ?_
  have hawake : sleepOf t k = none := by rw [ht, sleepOf, h]; rfl
  simp only [hawake, exitDone]
  exact ht

theorem wakeUnits_of_awake (h : s.power.sleep = []) (l : List Nat) : wakeUnits s l = s := by
  refine List.foldlRecOn l _ (motive := fun t => t = s) rfl fun t ht k _ => ?_
  have hawake : sleepOf t k = none := by rw [ht, sleepOf, h]; rfl
  simp only [earlyWake, hawake, ite_self]
  exact ht

theorem arriveAt_of_awake (h : s.power.sleep = []) (a : Nat) : arriveAt s a = s := by
  rw [arriveAt, wakeUnits_of_awake h, rouse_of_awake h]

/-- An access through BAR4 within its size, with the function up. -/
theorem bar4_inRange {off : Nat} (hup : hostUp s = true) (h : off < apertureSize s) :
    ¬ ((!hostUp s) = true ∨ apertureSize s ≤ off) := by
  rw [hup]
  simpa using h

/-- Settles O10: each input of the host by its own rule. -/
theorem hostInterface : Obligations.HostInterface := by
  refine ⟨⟨fun s hp hclk => ?_, fun s => rfl, fun s hclk hp hr => ?_, fun s low => rfl, fun s => ⟨rfl, rfl, rfl⟩⟩,
    fun s hclk => ⟨fun off d hp hr => ?_, fun hp hr => ?_, fun up speed width fm hon => ?_, fun off n hup hlo hin => ?_,
      fun off d hup hlo hin => ?_, fun off d hup hlo hin hawake hgo => ?_⟩⟩
  · exact congrArg Host.Outcome.next ((if_neg (by simp [hp])).trans (live_of_clocked (s := functionDown { s with pins := { s.pins with perstN := false } }) hclk _))
  · exact congrArg Host.Outcome.next ((live_of_clocked hclk _).trans (if_neg (by simp [hp, hr])))
  · exact congrArg Host.Outcome.next ((live_of_clocked hclk _).trans ((if_neg (by simp [hp])).trans (if_pos hr)))
  · exact congrArg Host.Outcome.next ((live_of_clocked hclk _).trans ((if_neg (by simp [hp])).trans (if_neg (by simp [hr]))))
  · refine ⟨_, congrArg Host.Outcome.next ((live_of_clocked hclk _).trans (if_neg ?_)), ?_, ?_, ?_, ?_, rfl⟩
    · rintro ⟨hu, hd⟩
      rcases hon with h | h <;> simp_all
    · simp (disch := decide) only [rget_rset_of_code, rget_rset_same]
      cases up <;> rfl
    · rw [rget_rset_same]
      exact Nat.mod_eq_of_lt speed.isLt
    · simp (disch := decide) only [rget_rset_of_code, rget_rset_same]
      exact Nat.mod_eq_of_lt width.isLt
    · simp (disch := decide) only [rget_rset_of_code, rget_rset_same]
      cases fm <;> rfl
  · exact congrArg Host.Outcome.next ((live_of_clocked hclk _).trans ((if_neg (bar4_inRange hup hin)).trans (if_pos hlo)))
  · exact congrArg Host.Outcome.next ((live_of_clocked hclk _).trans ((if_neg (bar4_inRange hup hin)).trans
      ((if_pos (by omega)).trans (if_pos hlo))))
  · refine congrArg Host.Outcome.next ((live_of_clocked hclk _).trans ((if_neg (bar4_inRange hup hin)).trans
      ((if_neg (by omega)).trans ?_)))
    simp only [arriveAt_of_awake hawake, hgo]
    rfl

-- Ethernet ------------------------------------------------------------------------------------------------------------

theorem mapGet_updEth (s : State) (m : Nat) (f : EthSt → EthSt) :
    mapGet (updEth s m f).eth m EthSt.reset = f (mapGet s.eth m EthSt.reset) := by
  simp only [updEth, mapUpd, mapGet, mapFind_mapSet, if_true, Option.getD_some]

theorem mem_addOnce (l : List Nat) (x : Nat) : x ∈ addOnce l x := by
  unfold addOnce
  split
  · next h => exact List.contains_iff_mem.mp h
  · exact List.mem_cons_self ..

/-- Settles O11: each event of a port by its own rule. -/
theorem ethernetPortEvents : Obligations.EthernetPortEvents := by
  intro s m hclk
  refine ⟨fun ip hin => ?_, fun ip hout => ?_, ?_, fun k hk => ?_, fun up hup => ?_⟩
  · exact congrArg Host.Outcome.next ((live_of_clocked hclk _).trans (if_pos (List.contains_iff_mem.mpr hin)))
  · exact congrArg Host.Outcome.next ((live_of_clocked hclk _).trans (if_neg (mt List.contains_iff_mem.mp hout)))
  · obtain ⟨v, hv⟩ := rinc_eq_rset s Reg.ETH_CNP_RECEIVED m.val 0 1
    refine ⟨updEth (rset s Reg.ETH_CNP_RECEIVED m.val 0 v) m.val _, congrArg Host.Outcome.next ((live_of_clocked hclk _).trans
      (congrArg (updEth · m.val _) hv)), ?_, fun hlt => ?_, rfl, onlyField_rset s _ _ _ _⟩
    · rw [mapGet_updEth]
      rfl
    · refine Eq.trans (congrArg (rget · Reg.ETH_CNP_RECEIVED m.val) hv).symm (rget_rinc _ _ _ _ _ ?_)
      exact Nat.add_lt_of_lt_sub hlt
  · obtain ⟨v, hv⟩ := rinc_eq_rset s Reg.ETH_PFC_PAUSES m.val 0 1
    have hprio : rget (rset s Reg.ETH_PFC_PAUSES m.val 0 v) Reg.ETH_PFC_PRIORITY m.val = k.val := by
      rw [rget_rset_of_code _ (by decide) (by omega) (by omega) (by omega) (by omega)]
      exact hk
    refine ⟨updEth (rset s Reg.ETH_PFC_PAUSES m.val 0 v) m.val (fun e => { e with paused := addOnce e.paused k.val }), congrArg Host.Outcome.next ((live_of_clocked hclk _).trans ?_), ?_, rfl,
      onlyField_rset s _ _ _ _⟩
    · rw [hv]
      exact if_pos hprio
    · rw [mapGet_updEth]
      exact mem_addOnce _ _
  · exact congrArg Host.Outcome.next ((live_of_clocked hclk _).trans (if_neg hup))

end Sys2Proof.Machine
end

section
/-! PROOFS. Fabric Time, its references and its followers (R39 to R50, R456). -/

namespace Sys2Proof.Machine

variable {s t u : State}

-- bits of a field -----------------------------------------------------------------------------------------------------

theorem bitAt_eq_testBit (n i : Nat) : bitAt n i = n.testBit i := by
  simp only [bitAt, bitsAt, Nat.testBit_eq_decide_div_mod_eq, Nat.shiftRight_eq_div_pow, pow_one]
  rfl

theorem bitAt_setBit (n i : Nat) : bitAt (setBit n i) i = true := by
  rw [bitAt_eq_testBit, setBit, Nat.testBit_or, Nat.testBit_two_pow_self, Bool.or_true]

theorem bitAt_clrBit (n i : Nat) : bitAt (clrBit n i) i = false := by
  unfold clrBit
  split
  · next h =>
    have hsub : n.testBit i = true := by rw [← bitAt_eq_testBit]; exact h
    have hle : 2 ^ i ≤ n := Nat.ge_two_pow_of_testBit hsub
    have hdiv : (n - 2 ^ i) / 2 ^ i = n / 2 ^ i - 1 := by
      simpa using Nat.sub_mul_div n (2 ^ i) 1
    rw [bitAt_eq_testBit, Nat.testBit_eq_decide_div_mod_eq, hdiv, decide_eq_false_iff_not]
    rw [Nat.testBit_eq_decide_div_mod_eq, decide_eq_true_eq] at hsub
    omega
  · next h => simpa using h

theorem bitAt_rbit (s : State) (f : Fld) (i j : Nat) {n : Nat} (hn : n < f.width) (b : Bool) :
    bitAt (rget (rbit s f i j n b) f i j) n = b := by
  rw [rbit, rget_rset_same, bitAt_eq_testBit, Nat.testBit_mod_two_pow, decide_eq_true hn, Bool.true_and, ← bitAt_eq_testBit]
  cases b
  · exact bitAt_clrBit ..
  · exact bitAt_setBit ..

theorem codesKept_rbit {l : List Nat} (s : State) {f : Fld} (hf : f.code ∈ l) {i j : Nat} (hi : i < 16384) (hj : j < 1024) (n : Nat)
    (b : Bool) : CodesKept l s (rbit s f i j n b) := codesKept_rset s hf hi hj _

theorem Waited.kept (h : Waited [] s t) : CodesKept [] s t := fun f i j _ _ _ => by
  exact congrArg (Option.getD · _) (h.2.2 _ fun _ h => absurd h List.not_mem_nil)

-- crossing writes -----------------------------------------------------------------------------------------------------

/-- A crossing write with none of its field before it. -/
theorem cross_of_free {w : Writer} {p : Page} {f : Fld} {idx : Nat} (h : crossBusy s p f idx = false) (v : Nat) (k : State → State) :
    cross s w p f idx v k = crossing (k s) p f idx := if_neg (by simp [h])

theorem pagePending_crossing (s : State) (p : Page) (f : Fld) : pagePending (crossing s p f) p = true := by
  simp [pagePending, crossing]

/-- A clamp report leaves Fabric Time as it is. -/
theorem time_reportFld (s : State) (p : Page) (w : Writer) (f : Fld) (idx kind v a : Nat) : (reportFld s p w f idx kind v a).time = s.time := by
  unfold reportFld report
  dsimp only
  refine (congrArg State.time (noted_raise _ _).regsOnly).trans ?_
  split <;> rfl

-- commands ------------------------------------------------------------------------------------------------------------

theorem exec_roleWrite {w : Writer} {v : BitVec 2} (h : Lands s w ftimePage Reg.FTIME_ROLE 0 u) (hv : v ≠ 3)
    (hst : rget u Reg.FTIME_SYNC_STATE ≠ 4) (hc : crossBusy u ftimePage Reg.FTIME_ROLE = false) :
    exec (.roleWrite w v) s = .next (crossing (roleEntry (rset u Reg.FTIME_ROLE 0 0 v.toNat)) ftimePage Reg.FTIME_ROLE) := by
  have hlegal : v.toNat ≤ 2 := by
    have := v.isLt
    have : v.toNat ≠ 3 := fun h => hv (BitVec.eq_of_toNat_eq h)
    omega
  have hst' : rget (rset u Reg.FTIME_ROLE 0 0 v.toNat) Reg.FTIME_SYNC_STATE ≠ 4 := by
    rwa [rget_rset_of_code u (by decide) (by decide) (by decide) (by decide) (by decide)]
  refine congrArg Host.Outcome.next ((gated_of_lands h _ _).trans ((cross_of_free hc _ _).trans (congrArg (crossing · _ _) ?_)))
  rw [setClamped_of_legal w ftimePage Reg.FTIME_ROLE 0 v.isLt (if_neg (Nat.not_lt.mpr hlegal))]
  exact if_neg hst'

theorem rget_roleEntry (s : State) (v : Nat) : rget (roleEntry (rset s Reg.FTIME_ROLE 0 0 v)) Reg.FTIME_ROLE = v % 2 ^ 2 := by
  refine (rget_rset_of_code _ (f := Reg.FTIME_SYNC_STATE) (by decide) (by decide) (by decide) (by decide) (by decide) _).trans ?_
  exact rget_rset_same ..

theorem rget_roleEntry_state (s : State) : rget (roleEntry s) Reg.FTIME_SYNC_STATE = if rget s Reg.FTIME_ROLE = 2 then 1 else 0 := by
  refine (rget_rset_same ..).trans ?_
  split <;> rfl

/-- What a write of SET leaves of Fabric Time. -/
theorem exec_set {w : Writer} {hi lo : W32} (h : Lands s w ftimePage Reg.FTIME_SET_HI 0 u)
    (hc : crossBusy u ftimePage Reg.FTIME_SET_HI = false) (hrole : rget u Reg.FTIME_ROLE = 0) :
    ∃ x : State, x = rset64 (dropLow u ftimePage Reg.FTIME_SET_LO 0) Reg.FTIME_SET_LO Reg.FTIME_SET_HI 0 0 (hi ++ lo).toNat ∧
      exec (.set w hi (some lo)) s = .next (crossing (if u.time.joined ∧ hi ++ lo < u.time.ft then
        reportFld x ftimePage w Reg.FTIME_SET_HI 0 0 (hi ++ lo).toNat u.time.ft.toNat
      else { x with time := { u.time with ft := hi ++ lo, slew := 0, slewPhase := 0 } }) ftimePage Reg.FTIME_SET_HI) := by
  refine ⟨_, rfl, congrArg Host.Outcome.next ((gated_of_lands h _ _).trans ?_)⟩
  dsimp only
  rw [BitVec.ofNat_toNat, BitVec.setWidth_eq, setApply]
  refine (cross_of_free (s := rset64 (dropLow u ftimePage Reg.FTIME_SET_LO 0) Reg.FTIME_SET_LO Reg.FTIME_SET_HI 0 0 (hi ++ lo).toNat)
    hc _ _).trans (congrArg (crossing · _ _) (if_neg (not_not.mpr ?_)))
  rw [rset64, rget_rset_of_code _ (by decide) (by decide) (by decide) (by decide) (by decide),
    rget_rset_of_code _ (by decide) (by decide) (by decide) (by decide) (by decide)]
  exact hrole

/-- The instant that a difference of two times leads to. -/
theorem ofInt_add_toInt_sub (a b : W64) : BitVec.ofInt 64 (a.toNat + (b - a).toInt) = b := by
  rw [BitVec.ofInt_add, BitVec.ofInt_toInt, BitVec.ofInt_natCast, BitVec.ofNat_toNat, BitVec.setWidth_eq, add_sub_cancel]

-- time words ----------------------------------------------------------------------------------------------------------

/-- The offset that a time word shows. -/
def wordOffset (s : State) (l : LinkId) (w : W64) : Int := (w + BitVec.ofNat 64 (delayNs s l.val) - s.time.ft).toInt

/-- A word of the parent noted. -/
def wordNoted (s : State) (o : Int) : State :=
  { rset s Reg.FTIME_OFFSET 0 0 (twos 32 o) with time := { s.time with lastWord := s.time.cyc } }

/-- A follower takes a word of its parent, by whether it has stepped. -/
theorem exec_timeWordReceived {l : LinkId} (w : W64) (hf : frozen s = false) (hrole : rget s Reg.FTIME_ROLE = 2)
    (hparent : rget s Reg.FTIME_PARENT_LINK = l.val) (hst : rget s Reg.FTIME_SYNC_STATE ≠ 4) :
    exec (.timeWordReceived l w) s = .next (if s.time.stepped then followWord (wordNoted s (wordOffset s l w)) (wordOffset s l w) else
      let t := acquireStep (rset (wordNoted s (wordOffset s l w)) Reg.FTIME_SYNC_STATE 0 0 1) (wordOffset s l w)
      { t with time := { t.time with streak := if (wordOffset s l w).natAbs ≤ 4 then 1 else 0 } }) := by
  refine congrArg Host.Outcome.next (if_neg ?_)
  rintro (h | h | h | h)
  · exact absurd (hf.symm.trans h) (by decide)
  · exact h hrole
  · exact h hparent
  · exact hst h

theorem rget_wordNoted (s : State) (o : Int) : rget (wordNoted s o) Reg.FTIME_SYNC_STATE = rget s Reg.FTIME_SYNC_STATE :=
  rget_rset_of_code s (f := Reg.FTIME_OFFSET) (by decide) (by decide) (by decide) (by decide) (by decide) _

theorem rget_enterHoldover (s : State) : rget (enterHoldover s) Reg.FTIME_SYNC_STATE = 3 := by
  refine (rget_rset_of_code _ (f := Reg.FTIME_EVENTS) (by decide) (by decide) (by decide) (by decide) (by decide) _).trans ?_
  exact rget_rset_same ..

/-- A word far off sends a locked follower to HOLDOVER. -/
theorem followWord_of_far (h : rget s Reg.FTIME_SYNC_STATE = 2) {o : Int} (ho : 64 < o.natAbs) :
    rget (followWord s o) Reg.FTIME_SYNC_STATE = 3 ∧ (followWord s o).time.ft = s.time.ft ∧ (followWord s o).mem = s.mem := by
  have shape : ∃ (x : TimeSt) (e : Ev), x.ft = s.time.ft ∧
      followWord s o = raise (rbit (enterHoldover { s with time := x }) Reg.FTIME_EVENTS 0 0 3 true) e :=
    ⟨{ s.time with slew := if s.time.pause = 0 then o else 0, streak := if o.natAbs ≤ 4 then s.time.streak + 1 else 0 },
      evOf Reg.FTIME_EVENTS 0 8 0 15 none [twos 64 o], rfl, if_pos ⟨h, ho⟩⟩
  obtain ⟨x, e, hx, heq⟩ := shape
  rw [heq]
  have hnote := noted_raise (rbit (enterHoldover { s with time := x }) Reg.FTIME_EVENTS 0 0 3 true) e
  refine ⟨?_, ?_, ?_⟩
  · rw [hnote.kept _ _ _ (by decide) (by decide) (by decide), rbit,
      rget_rset_of_code _ (by decide) (by decide) (by decide) (by decide) (by decide), rget_enterHoldover]
  · rw [hnote.regsOnly]
    exact hx
  · rw [hnote.regsOnly.mem]
    rfl

/-- The sixteenth word close by locks a follower. -/
theorem followWord_of_near (h : rget s Reg.FTIME_SYNC_STATE = 1) {o : Int} (ho : o.natAbs ≤ 4) (hs : 15 ≤ s.time.streak)
    (hp : s.time.pause = 0) : followWord s o = rset { s with time := { s.time with slew := o, streak := s.time.streak + 1, joined := true } }
      Reg.FTIME_SYNC_STATE 0 0 2 := by
  have hst : rget { s with time := { s.time with slew := o, streak := s.time.streak + 1 } } Reg.FTIME_SYNC_STATE = 1 := h
  simp only [followWord, if_pos ho, if_pos hp, hst]
  rw [if_neg (fun hn => absurd hn.1 (by decide)), if_pos ⟨by decide, by omega⟩]
  rfl

/-- Both kinds of word, and the timeout. -/
theorem followers (l : LinkId) (w : W64) (hf : frozen s = false) (hrole : rget s Reg.FTIME_ROLE = 2)
    (hparent : rget s Reg.FTIME_PARENT_LINK = l.val) (hst : rget s Reg.FTIME_SYNC_STATE ≠ 4) :
    let o := (w + BitVec.ofNat 64 (delayNs s l.val) - s.time.ft).toInt
    (s.time.stepped = false → s.time.joined = false → Yields (.timeWordReceived l w) s (fun t =>
      t.time.ft = w + BitVec.ofNat 64 (delayNs s l.val) ∧ t.time.stepped = true ∧ rget t Reg.FTIME_SYNC_STATE = 1)) ∧
    (s.time.stepped = false → s.time.joined = true → o ≤ 0 → Yields (.timeWordReceived l w) s (fun t =>
      t.time.ft = s.time.ft ∧ t.time.pause = o.natAbs ∧ t.time.stepped = true)) ∧
    (s.time.stepped = true → rget s Reg.FTIME_SYNC_STATE = 1 → o.natAbs ≤ 4 → 15 ≤ s.time.streak → s.time.pause = 0 →
      Yields (.timeWordReceived l w) s (fun t =>
        rget t Reg.FTIME_SYNC_STATE = 2 ∧ t.time.joined = true ∧ t.time.slew = o ∧ t.time.ft = s.time.ft)) ∧
    (s.time.stepped = true → rget s Reg.FTIME_SYNC_STATE = 2 → 64 < o.natAbs →
      Yields (.timeWordReceived l w) s (fun t => rget t Reg.FTIME_SYNC_STATE = 3 ∧ t.time.ft = s.time.ft ∧ t.mem = s.mem)) ∧
    (rget s Reg.FTIME_SYNC_STATE ≠ 3 → Yields .holdoverTimeout s (fun t =>
      rget t Reg.FTIME_SYNC_STATE = 3 ∧ t.time.slew = 0 ∧ t.time.streak = 0 ∧ t.mem = s.mem)) := by
  intro o
  have hexec := exec_timeWordReceived w hf hrole hparent hst
  rw [show wordOffset s l w = o from rfl] at hexec
  refine ⟨fun h hj => ?_, fun h hj ho => ?_, fun h h1 ho hs hp => ?_, fun h h2 ho => ?_, fun h3 => ?_⟩
  · rw [h] at hexec
    have hstep : acquireStep (rset (wordNoted s o) Reg.FTIME_SYNC_STATE 0 0 1) o =
        { rset (wordNoted s o) Reg.FTIME_SYNC_STATE 0 0 1 with time := { s.time with
          lastWord := s.time.cyc, stepped := true, slew := 0, ft := BitVec.ofInt 64 (s.time.ft.toNat + o) } } :=
      if_pos (Or.inl (by simp [wordNoted, hj]))
    refine ⟨_, hexec, ?_⟩
    rw [if_neg (by decide), hstep]
    exact ⟨ofInt_add_toInt_sub _ _, rfl, rget_rset_same ..⟩
  · rw [h] at hexec
    have hstep : acquireStep (rset (wordNoted s o) Reg.FTIME_SYNC_STATE 0 0 1) o =
        { rset (wordNoted s o) Reg.FTIME_SYNC_STATE 0 0 1 with time := { s.time with
          lastWord := s.time.cyc, stepped := true, slew := 0, pause := o.natAbs } } :=
      if_neg (by simp [wordNoted, hj, ho])
    refine ⟨_, hexec, ?_⟩
    rw [if_neg (by decide), hstep]
    exact ⟨rfl, rfl, rfl⟩
  · rw [h, if_pos rfl, followWord_of_near ((rget_wordNoted ..).trans h1) ho hs hp] at hexec
    exact ⟨_, hexec, rget_rset_same .., rfl, rfl, rfl⟩
  · rw [h, if_pos rfl] at hexec
    obtain ⟨hr, hft, hmem⟩ := followWord_of_far ((rget_wordNoted s o).trans h2) ho
    exact ⟨_, hexec, hr, hft, hmem⟩
  · refine ⟨_, congrArg Host.Outcome.next (if_neg ?_), rget_enterHoldover _, rfl, rfl, ?_⟩
    · simp only [hf, hrole, h3, hst]
      decide
    · exact (served_advanceTo s _).mem

-- FTSYNC --------------------------------------------------------------------------------------------------------------

/-- The edge of FTSYNC that makes the run one longer. -/
def edgeTaken (s : State) (n : Nat) : State := { s with time := { s.time with sawPulse := true, missedSync := 0, goodSync := n } }

/-- FT slews to the mark where FTSYNC is its source. -/
theorem ite_slew (p : Prop) [Decidable p] (s : State) (x : Int) : ∃ y : Int,
    (if p then { s with time := { s.time with slew := x } } else s) = { s with time := { s.time with slew := y } } := by
  split
  · exact ⟨x, rfl⟩
  · exact ⟨s.time.slew, rfl⟩

theorem exec_ftsyncEdge (hf : frozen s = false) (n : Nat) : ∃ (k : Nat) (x : Int),
    (k = if (s.time.sawPulse && 24997500 ≤ n && n ≤ 25002500) then s.time.goodSync + 1 else 0) ∧
    ∃ t, t = (if 2 ≤ k then rbit (edgeTaken s k) Reg.FTIME_REF_READY 0 0 1 true else edgeTaken s k) ∧
      exec (.ftsyncEdge n) s = .next { t with time := { t.time with slew := x } } := by
  obtain ⟨k, hk⟩ : ∃ k, k = if (s.time.sawPulse && 24997500 ≤ n && n ≤ 25002500) then s.time.goodSync + 1 else 0 := ⟨_, rfl⟩
  obtain ⟨t, ht⟩ : ∃ t, t = if 2 ≤ k then rbit (edgeTaken s k) Reg.FTIME_REF_READY 0 0 1 true else edgeTaken s k := ⟨_, rfl⟩
  obtain ⟨x, hx⟩ := ite_slew (rget t Reg.FTIME_SOURCE = 1 ∧ rget t Reg.FTIME_ROLE = 1 ∧ bitAt (rget t Reg.FTIME_REF_READY) 1) t (toMark t.time.ft)
  refine ⟨k, x, hk, t, ht, congrArg Host.Outcome.next ((if_neg (by simp [hf])).trans (Eq.trans ?_ hx))⟩
  subst ht hk
  rfl

theorem ftsyncEdge_of_good (hf : frozen s = false) {n : Nat} (hp : s.time.sawPulse = true) (hlo : 24997500 ≤ n) (hhi : n ≤ 25002500)
    (hg : 1 ≤ s.time.goodSync) : Yields (.ftsyncEdge n) s (fun t =>
      bitAt (rget t Reg.FTIME_REF_READY) 1 = true ∧ t.time.goodSync = s.time.goodSync + 1 ∧ t.time.missedSync = 0 ∧
        t = { s with regs := t.regs, time := t.time } ∧ OnlyField s t Reg.FTIME_REF_READY 0 0) := by
  obtain ⟨k, x, hk, t, ht, hexec⟩ := exec_ftsyncEdge hf n
  rw [if_pos (by simp [hp, hlo, hhi])] at hk
  rw [if_pos (by omega), hk] at ht
  subst ht
  exact ⟨_, hexec, bitAt_rbit (edgeTaken s _) Reg.FTIME_REF_READY 0 0 (by decide) true, rfl, rfl, rfl, onlyField_rset s _ _ _ _⟩

theorem ftsyncEdge_of_bad (hf : frozen s = false) {n : Nat} (h : s.time.sawPulse = false ∨ n < 24997500 ∨ 25002500 < n) :
    Yields (.ftsyncEdge n) s (fun t =>
      t.time.goodSync = 0 ∧ t.time.sawPulse = true ∧ rget t Reg.FTIME_REF_READY = rget s Reg.FTIME_REF_READY) := by
  obtain ⟨k, x, hk, t, ht, hexec⟩ := exec_ftsyncEdge hf n
  have hbad : ¬ (s.time.sawPulse && 24997500 ≤ n && n ≤ 25002500) = true := by
    simp only [Bool.and_eq_true, decide_eq_true_eq]
    rintro ⟨⟨hp, hlo⟩, hhi⟩
    rcases h with h | h | h
    · exact absurd (hp.symm.trans h) (by decide)
    · omega
    · omega
  rw [if_neg hbad] at hk
  rw [if_neg (by omega), hk] at ht
  subst ht
  exact ⟨_, hexec, rfl, rfl, rfl⟩

/-- The loss of FTREF sends the source to XTAL. -/
theorem ftrefFallback_parts (s : State) (b : Nat) : (ftrefFallback s b).mem = s.mem ∧
    rget (ftrefFallback s b) Reg.FTIME_REF_READY = rget s Reg.FTIME_REF_READY ∧
    rget (ftrefFallback s b) Reg.FTIME_SOURCE = if rget s Reg.FTIME_SOURCE = 1 then 0 else rget s Reg.FTIME_SOURCE := by
  unfold ftrefFallback
  split
  · have hnote := noted_raise (rbit s Reg.FTIME_EVENTS 0 0 b true) (evOf Reg.FTIME_EVENTS 0 8 0)
    refine ⟨hnote.regsOnly.mem, ?_, rget_rset_same ..⟩
    refine (rget_rset_of_code _ (f := Reg.FTIME_SOURCE) (by decide) (by decide) (by decide) (by decide) (by decide) _).trans ?_
    refine (hnote.kept _ _ _ (by decide) (by decide) (by decide)).trans ?_
    exact rget_rset_of_code s (f := Reg.FTIME_EVENTS) (by decide) (by decide) (by decide) (by decide) (by decide) _
  · exact ⟨rfl, rfl, rfl⟩

theorem ftsyncMissed_of_second (hf : frozen s = false) (h : s.time.missedSync = 1) : Yields .ftsyncMissed s (fun t =>
    bitAt (rget t Reg.FTIME_REF_READY) 1 = false ∧
      rget t Reg.FTIME_SOURCE = (if rget s Reg.FTIME_SOURCE = 1 then 0 else rget s Reg.FTIME_SOURCE) ∧ t.mem = s.mem) := by
  obtain ⟨x, hx⟩ : ∃ x : State, x = { s with time := { s.time with missedSync := s.time.missedSync + 1, goodSync := 0 } } := ⟨_, rfl⟩
  have hregs : x.regs = s.regs := by rw [hx]
  have hmem : x.mem = s.mem := by rw [hx]
  have hexec : exec .ftsyncMissed s = .next (ftrefFallback (rbit x Reg.FTIME_REF_READY 0 0 1 false) 0) := by
    subst hx
    exact congrArg Host.Outcome.next ((if_neg (by simp [hf])).trans (if_pos (by rw [h])))
  obtain ⟨hm, hready, hsource⟩ := ftrefFallback_parts (rbit x Reg.FTIME_REF_READY 0 0 1 false) 0
  have hkept : rget (rbit x Reg.FTIME_REF_READY 0 0 1 false) Reg.FTIME_SOURCE = rget s Reg.FTIME_SOURCE :=
    (rget_rset_of_code x (by decide) (by decide) (by decide) (by decide) (by decide) _).trans (rget_congr hregs ..)
  refine ⟨_, hexec, ?_, by rw [hsource, hkept], hm.trans hmem⟩
  rw [hready]
  exact bitAt_rbit x Reg.FTIME_REF_READY 0 0 (by decide) false

-- PTP -----------------------------------------------------------------------------------------------------------------

/-- A port whose servo locks. -/
def ptpLock (s : State) (m : MDie) (o : Int) : State :=
  let e := mapGet s.eth m.val EthSt.reset
  rbit (rset (rset { s with eth := mapSet s.eth m.val { e with ptpStreak := e.ptpStreak + 1 } } Reg.ETH_PTP_OFFSET_NS m.val 0 (twos 32 o))
    Reg.ETH_PTP_LOCKED m.val 0 1) Reg.FTIME_REF_READY 0 0 (2 + m.val) true

theorem kept_ptpLock (s : State) (m : MDie) (o : Int) : CodesKept [Reg.ETH_PTP_OFFSET_NS.code, Reg.ETH_PTP_LOCKED.code,
    Reg.FTIME_REF_READY.code] s (ptpLock s m o) := by
  refine CodesKept.trans (t := rset s Reg.ETH_PTP_OFFSET_NS m.val 0 (twos 32 o)) (codesKept_rset s (by decide) (by omega) (by decide) _) ?_
  refine CodesKept.trans (codesKept_rset _ (f := Reg.ETH_PTP_LOCKED) (i := m.val) (j := 0) (by decide) (by omega) (by decide) 1) ?_
  exact codesKept_rset _ (f := Reg.FTIME_REF_READY) (i := 0) (j := 0) (by decide) (by decide) (by decide) _

theorem ptpLock_locked (s : State) (m : MDie) (o : Int) : rget (ptpLock s m o) Reg.ETH_PTP_LOCKED m.val = 1 := by
  refine (rget_rset_of_code _ (f := Reg.FTIME_REF_READY) (by decide) (by omega) (by omega) (by omega) (by omega) _).trans ?_
  exact rget_rset_same ..

theorem ptpLock_ready (s : State) (m : MDie) (o : Int) : bitAt (rget (ptpLock s m o) Reg.FTIME_REF_READY) (2 + m.val) = true :=
  bitAt_rbit _ Reg.FTIME_REF_READY 0 0 (show 2 + m.val < 4 by omega) true

theorem twos_lt (w : Nat) (o : Int) : twos w o < 2 ^ w := by
  have h := Int.emod_lt_of_pos o (show (0 : Int) < 2 ^ w by positivity)
  have h0 := Int.emod_nonneg o (show (2 ^ w : Int) ≠ 0 by positivity)
  rw [twos]
  have : ((o % 2 ^ w).toNat : Int) < (2 ^ w : Nat) := by rw [Int.toNat_of_nonneg h0]; push_cast; exact h
  exact_mod_cast this

theorem ptpLock_offset (s : State) (m : MDie) (o : Int) : rget (ptpLock s m o) Reg.ETH_PTP_OFFSET_NS m.val = twos 32 o := by
  refine (rget_rset_of_code _ (f := Reg.FTIME_REF_READY) (by decide) (by omega) (by omega) (by omega) (by omega) _).trans ?_
  refine (rget_rset_of_code _ (f := Reg.ETH_PTP_LOCKED) (by decide) (by omega) (by omega) (by omega) (by omega) _).trans ?_
  refine (rget_rset_same ..).trans ?_
  exact Nat.mod_eq_of_lt (twos_lt 32 o)

/-- A close Sync after fifteen others. -/
theorem exec_ptpSync (hf : frozen s = false) {m : MDie} {o : Int} (ns : W64) (hen : rget s Reg.ETH_PTP_EN m.val = 1) (ho : o.natAbs ≤ 50)
    (hn : 15 ≤ (mapGet s.eth m.val EthSt.reset).ptpStreak) : exec (.ptpSync m ⟨o, ns⟩) s =
      .next (if rget s Reg.FTIME_SOURCE = 2 + m.val ∧ rget s Reg.FTIME_ROLE ≠ 2 then ptpFollow (ptpLock s m o) ns else ptpLock s m o) := by
  rw [← kept_ptpLock s m o Reg.FTIME_SOURCE 0 0 (by decide) (by decide) (by decide),
    ← kept_ptpLock s m o Reg.FTIME_ROLE 0 0 (by decide) (by decide) (by decide)]
  refine congrArg Host.Outcome.next ((if_neg (by simp [hf, hen])).trans ?_)
  have hnear : ¬ 1000 < o.natAbs := by omega
  have hlong : 16 ≤ (mapGet s.eth m.val EthSt.reset).ptpStreak + 1 := by omega
  simp only [if_pos ho, hnear, and_false, if_false, if_pos hlong]
  rfl

/-- FT alone follows a port. -/
theorem ptpFollow_form (s : State) (ns : W64) : ptpFollow s ns = { s with time := (ptpFollow s ns).time } := by
  unfold ptpFollow stepFt
  dsimp only
  split
  · split <;> rfl
  · rfl

theorem ptpSync_of_locked (hf : frozen s = false) {m : MDie} {o : Int} (ns : W64) (hen : rget s Reg.ETH_PTP_EN m.val = 1)
    (ho : o.natAbs ≤ 50) (hn : 15 ≤ (mapGet s.eth m.val EthSt.reset).ptpStreak) : Yields (.ptpSync m ⟨o, ns⟩) s (fun t =>
      rget t Reg.ETH_PTP_LOCKED m.val = 1 ∧ bitAt (rget t Reg.FTIME_REF_READY) (2 + m.val) = true ∧
        rget t Reg.ETH_PTP_OFFSET_NS m.val = twos 32 o ∧ t = { s with regs := t.regs, time := t.time, eth := t.eth } ∧
        (rget s Reg.FTIME_SOURCE ≠ 2 + m.val ∨ rget s Reg.FTIME_ROLE = 2 → t.time = s.time) ∧
        (rget s Reg.FTIME_SOURCE = 2 + m.val → rget s Reg.FTIME_ROLE ≠ 2 → s.time.ptpStep = false → s.time.joined = false →
          t.time = { s.time with ft := ns, slew := 0, ptpStep := true }) ∧
        (rget s Reg.FTIME_SOURCE = 2 + m.val → rget s Reg.FTIME_ROLE ≠ 2 → s.time.ptpStep = true → s.time.pause = 0 →
          t.time = { s.time with slew := (ns - s.time.ft).toInt })) := by
  have hexec := exec_ptpSync hf ns hen ho hn
  obtain ⟨hlock, hready, hoff⟩ : _ ∧ _ ∧ _ := ⟨ptpLock_locked s m o, ptpLock_ready s m o, ptpLock_offset s m o⟩
  by_cases hsel : rget s Reg.FTIME_SOURCE = 2 + m.val ∧ rget s Reg.FTIME_ROLE ≠ 2
  · rw [if_pos hsel] at hexec
    have hform := ptpFollow_form (ptpLock s m o) ns
    have hregs : (ptpFollow (ptpLock s m o) ns).regs = (ptpLock s m o).regs := by rw [hform]
    refine ⟨_, hexec, (rget_congr hregs ..).trans hlock, ?_, (rget_congr hregs ..).trans hoff, ?_, fun h => ?_, fun _ _ hp hj => ?_,
      fun _ _ hp hpause => ?_⟩
    · rw [rget_congr hregs]
      exact hready
    · rw [hform]
      rfl
    · rcases h with h | h
      · exact absurd hsel.1 h
      · exact absurd h hsel.2
    · have hstep : ptpFollow (ptpLock s m o) ns = { ptpLock s m o with time := { s.time with
          ft := BitVec.ofInt 64 (s.time.ft.toNat + (ns - s.time.ft).toInt), slew := 0, ptpStep := true } } :=
        (if_pos (by simp [ptpLock, hp])).trans (if_pos (Or.inl (by simp [ptpLock, hj])))
      rw [hstep, ofInt_add_toInt_sub]
    · have hslew : ptpFollow (ptpLock s m o) ns = { ptpLock s m o with time := { s.time with
          slew := if s.time.pause = 0 then (ns - s.time.ft).toInt else 0 } } := if_neg (by simp [ptpLock, hp])
      rw [hslew, if_pos hpause]
  · rw [if_neg hsel] at hexec
    exact ⟨_, hexec, hlock, hready, hoff, rfl, fun _ => rfl, fun h1 h2 => absurd ⟨h1, h2⟩ hsel, fun h1 h2 => absurd ⟨h1, h2⟩ hsel⟩

theorem ptpSyncLoss_of_locked {m : MDie} (h : rget s Reg.ETH_PTP_LOCKED m.val = 1) : Yields (.ptpSyncLoss m) s (fun t =>
    rget t Reg.ETH_PTP_LOCKED m.val = 0 ∧ bitAt (rget t Reg.FTIME_REF_READY) (2 + m.val) = false ∧
      (mapGet t.eth m.val EthSt.reset).ptpStreak = 0 ∧ t = { s with regs := t.regs, eth := t.eth }) := by
  obtain ⟨x, hx⟩ : ∃ x : State, x = { s with eth := mapSet s.eth m.val { mapGet s.eth m.val EthSt.reset with ptpStreak := 0 } } := ⟨_, rfl⟩
  obtain ⟨v, hv⟩ := rinc_eq_rset (rset x Reg.ETH_PTP_LOCKED m.val 0 0) Reg.ETH_PTP_LOSSES m.val 0 1
  have hexec : exec (.ptpSyncLoss m) s = .next (rbit (rset (rset x Reg.ETH_PTP_LOCKED m.val 0 0) Reg.ETH_PTP_LOSSES m.val 0 v)
      Reg.FTIME_REF_READY 0 0 (2 + m.val) false) := by
    subst hx
    exact congrArg Host.Outcome.next ((if_pos h).trans (congrArg (rbit · Reg.FTIME_REF_READY 0 0 (2 + m.val) false) hv))
  refine ⟨_, hexec, ?_, bitAt_rbit _ Reg.FTIME_REF_READY 0 0 (show 2 + m.val < 4 by omega) false, ?_, ?_⟩
  · refine (rget_rset_of_code _ (f := Reg.FTIME_REF_READY) (by decide) (by omega) (by omega) (by omega) (by omega) _).trans ?_
    refine (rget_rset_of_code _ (f := Reg.ETH_PTP_LOSSES) (by decide) (by omega) (by omega) (by omega) (by omega) _).trans ?_
    exact rget_rset_same ..
  · subst hx
    refine (congrArg EthSt.ptpStreak (?_ : _ = { mapGet s.eth m.val EthSt.reset with ptpStreak := 0 }))
    exact mapGet_mapSet_same ..
  · subst hx
    rfl

/-- Settles O12: the writes through the crossing, the words by `followers`, the references by their edges and Syncs. -/
theorem fabricTime : Obligations.FabricTime := by
  refine ⟨⟨fun s u w v hl hv hst hc => ?_, fun s u w v hl hc => ⟨fun hr => ?_, fun hr => ?_⟩, fun s u w v hl hc => ?_,
    fun s u w hi lo hl hc hrole => ⟨fun h => ?_, fun hj hlt => ?_⟩⟩, fun s l w hf hrole hp hst => followers l w hf hrole hp hst,
    fun s hf => ⟨fun n hp hlo hhi hg => ftsyncEdge_of_good hf hp hlo hhi hg, fun n h => ftsyncEdge_of_bad hf h,
      ftsyncMissed_of_second hf, fun m o ns hen ho hn => ptpSync_of_locked hf ns hen ho hn, fun m h => ptpSyncLoss_of_locked h⟩⟩
  · refine ⟨_, exec_roleWrite hl hv hst hc, ?_, ?_, rfl, rfl, rfl, rfl⟩
    · exact (rget_roleEntry u v.toNat).trans (Nat.mod_eq_of_lt v.isLt)
    · refine (rget_roleEntry_state _).trans ?_
      rw [rget_rset_same, show v.toNat % 2 ^ Reg.FTIME_ROLE.width = v.toNat from Nat.mod_eq_of_lt v.isLt]
      exact if_congr (BitVec.toNat_inj (y := (2 : BitVec 2))) rfl rfl
  · refine ⟨_, congrArg Host.Outcome.next ((gated_of_lands hl _ _).trans ((cross_of_free hc _ _).trans
      (congrArg (crossing · _ _) (if_pos hr)))), ?_, rfl, pagePending_crossing .., rfl, onlyField_rset u _ _ _ _⟩
    exact (rget_rset_same ..).trans (Nat.mod_eq_of_lt v.isLt)
  · exact congrArg Host.Outcome.next ((gated_of_lands hl _ _).trans ((cross_of_free hc _ _).trans
      (congrArg (crossing · _ _) (if_neg (by simp [hr])))))
  · exact ⟨_, congrArg Host.Outcome.next ((gated_of_lands hl _ _).trans (if_pos hc)), ⟨_, rfl, rfl, rfl⟩, rfl⟩
  · obtain ⟨x, hx, hexec⟩ := exec_set (hi := hi) (lo := lo) hl hc hrole
    have hgo : ¬ (u.time.joined = true ∧ hi ++ lo < u.time.ft) := by
      rintro ⟨hj, hlt⟩
      rcases h with h | h
      · exact absurd (hj.symm.trans h) (by decide)
      · exact absurd hlt (BitVec.not_lt.mpr h)
    rw [if_neg hgo] at hexec
    subst hx
    exact ⟨_, hexec, rfl, rfl, rfl⟩
  · obtain ⟨x, hx, hexec⟩ := exec_set (hi := hi) (lo := lo) hl hc hrole
    rw [if_pos ⟨hj, hlt⟩] at hexec
    refine ⟨_, hexec, ?_⟩
    refine Eq.trans (b := x.time) ?_ (by rw [hx]; rfl)
    exact time_reportFld ..

end Sys2Proof.Machine
end

section
/-! PROOFS. Clock sources, relocks, meters and gates (R52 to R58). -/

namespace Sys2Proof.Machine

variable {s t u : State} {l : List Nat}

-- the clocks of a die -------------------------------------------------------------------------------------------------

theorem clockOf_setClock (s : State) (d e : Nat) (c : ClockSt) : clockOf (setClock s d c) e = if e = d then c else clockOf s e := by
  simp only [clockOf, setClock, mapGet, mapFind_mapSet]
  split <;> rfl

theorem clockOf_setClock_same (s : State) (d : Nat) (c : ClockSt) : clockOf (setClock s d c) d = c := by
  rw [clockOf_setClock, if_pos rfl]

theorem clockOf_congr (h : t.clocks = s.clocks) (d : Nat) : clockOf t d = clockOf s d := congrArg (mapGet · d ClockSt.reset) h

/-- Windows discarded: a change of `spoiled` at most. -/
theorem spoil_eq (s : State) (d : Nat) (ks : List Nat) : spoil s d ks = s ∨
    ∃ x, spoil s d ks = setClock s d { clockOf s d with spoiled := x } := by
  unfold spoil
  split
  · exact Or.inl rfl
  · exact Or.inr ⟨_, rfl⟩

-- what a meter and a relock may change --------------------------------------------------------------------------------

/-- t differs from s in registers, clocks and timers only, in no field whose code is not in l, and not in Fabric Time. -/
structure Metered (l : List Nat) (s t : State) : Prop where
  form : t = { s with regs := t.regs, clocks := t.clocks, time := t.time }
  ft : t.time.ft = s.time.ft
  kept : CodesKept l s t

theorem Metered.refl (l : List Nat) (s : State) : Metered l s s := ⟨rfl, rfl, codesKept_of_regs _ rfl⟩

theorem Metered.trans (h : Metered l s t) (g : Metered l t u) : Metered l s u := by
  refine ⟨?_, g.ft.trans h.ft, h.kept.trans g.kept⟩
  rw [g.form, h.form]

theorem metered_rset (s : State) {f : Fld} (hf : f.code ∈ l) {i j : Nat} (hi : i < 16384) (hj : j < 1024) (v : Nat) :
    Metered l s (rset s f i j v) := ⟨rfl, rfl, codesKept_rset s hf hi hj v⟩

theorem metered_rbit (s : State) {f : Fld} (hf : f.code ∈ l) {i j : Nat} (hi : i < 16384) (hj : j < 1024) (n : Nat) (b : Bool) :
    Metered l s (rbit s f i j n b) := metered_rset s hf hi hj _

theorem metered_setClock (s : State) (d : Nat) (c : ClockSt) : Metered l s (setClock s d c) := ⟨rfl, rfl, codesKept_of_regs _ rfl⟩

theorem metered_spoil (s : State) (d : Nat) (ks : List Nat) : Metered l s (spoil s d ks) := by
  rcases spoil_eq s d ks with h | ⟨x, h⟩
  · rw [h]
    exact Metered.refl l s
  · rw [h]
    exact metered_setClock ..

theorem metered_ftrefGood (s : State) (n : Nat) : Metered l s { s with time := { s.time with ftrefGood := n } } :=
  ⟨rfl, rfl, codesKept_of_regs _ rfl⟩

/-- The codes that the ready flags of a window may change. -/
def readyCodes : List Nat := [Reg.CLOCK_STATUS_XTAL_READY, Reg.CLOCK_SOURCE_SEL, Reg.FTIME_REF_READY].map (·.code)

theorem metered_startRelock (s : State) {d : Nat} (hd : d < 16384) (v : Nat) : Metered readyCodes s (startRelock d v s) :=
  (metered_rset s (f := Reg.CLOCK_SOURCE_SEL) (by decide) hd (by decide) v).trans ((metered_spoil _ d _).trans (metered_setClock _ d _))

theorem metered_xtalReady (s : State) {d : Nat} (hd : d < 16384) : Metered readyCodes s (xtalReady s d) := by
  unfold xtalReady
  dsimp only
  split
  · exact (metered_rset s (f := Reg.CLOCK_STATUS_XTAL_READY) (by decide) hd (by decide) 1).trans (metered_startRelock _ hd 1)
  · exact metered_rset s (f := Reg.CLOCK_STATUS_XTAL_READY) (by decide) hd (by decide) 1

/-- All that the ready flags of a window can do. -/
theorem metered_meterReady (s : State) {d : Nat} (hd : d < 16384) (m k r : Nat) (ppm : Int) : Metered readyCodes s (meterReady s d m k r ppm) := by
  have shape : ∃ (c : ClockSt) (n n' : Nat), meterReady s d m k r ppm =
      if k = 0 ∧ r = 1 then (if 4 ≤ n then xtalReady (setClock s d c) d else setClock s d c)
      else if d = 8 ∧ m = 1 ∧ k = 2 ∧ r = 0 then
        (if 4 ≤ n' then rbit { s with time := { s.time with ftrefGood := n' } } Reg.FTIME_REF_READY 0 0 0 true
          else { s with time := { s.time with ftrefGood := n' } })
      else s := ⟨_, _, _, rfl⟩
  obtain ⟨c, n, n', h⟩ := shape
  rw [h]
  split
  · split
    · exact (metered_setClock s d c).trans (metered_xtalReady _ hd)
    · exact metered_setClock s d c
  · split
    · split
      · exact (metered_ftrefGood s n').trans (metered_rbit _ (by decide) (by decide) (by decide) 0 true)
      · exact metered_ftrefGood s n'
    · exact Metered.refl _ s

theorem metered_ftrefRun (s : State) (d m k r : Nat) : Metered l s (ftrefRun s d m k r) := by
  unfold ftrefRun
  split
  · exact metered_ftrefGood s 0
  · exact Metered.refl l s

-- a relock ------------------------------------------------------------------------------------------------------------

/-- t differs from s in registers and clocks only; no PLL begins or ends a relock, or a coast. -/
structure Retuned (s t : State) : Prop where
  form : t = { s with regs := t.regs, clocks := t.clocks }
  plls : ∀ d, (clockOf t d).relock = (clockOf s d).relock ∧ (clockOf t d).coast = (clockOf s d).coast
  shown : ∀ d, d < 16384 → rget t Reg.CLOCK_STATUS_COAST d = rget s Reg.CLOCK_STATUS_COAST d

theorem Retuned.refl (s : State) : Retuned s s := ⟨rfl, fun _ => ⟨rfl, rfl⟩, fun _ _ => rfl⟩

theorem Retuned.trans (h : Retuned s t) (g : Retuned t u) : Retuned s u := by
  refine ⟨?_, fun d => ⟨(g.plls d).1.trans (h.plls d).1, (g.plls d).2.trans (h.plls d).2⟩, fun d hd => (g.shown d hd).trans (h.shown d hd)⟩
  rw [g.form, h.form]

theorem retuned_spoil (s : State) (d : Nat) (ks : List Nat) : Retuned s (spoil s d ks) := by
  rcases spoil_eq s d ks with h | ⟨x, h⟩
  · rw [h]
    exact Retuned.refl s
  · rw [h]
    refine ⟨rfl, fun e => ?_, fun _ _ => rfl⟩
    rw [clockOf_setClock]
    split
    · next he => subst he; exact ⟨rfl, rfl⟩
    · exact ⟨rfl, rfl⟩

theorem retuned_applied (s : State) (c v : Nat) : Retuned s (rset s Reg.POWER_CCLK_APPLIED 0 c v) := by
  refine ⟨rfl, fun _ => ⟨rfl, rfl⟩, fun d hd => rget_rset_ne _ _ _ _ _ _ _ _ ?_⟩
  have h1 : Reg.POWER_CCLK_APPLIED.code = 511 := rfl
  have h2 : Reg.CLOCK_STATUS_COAST.code = 81 := rfl
  simp only [regKey, h1, h2]
  omega

theorem retuned_setCclk (s : State) (c v : Nat) : Retuned s (setCclk s c v) := by
  unfold setCclk
  dsimp only
  refine Retuned.trans ?_ (retuned_applied _ c v)
  split
  · exact Retuned.refl s
  · exact retuned_spoil ..

theorem retuned_foldl {α : Type} {f : State → α → State} (hf : ∀ s x, Retuned s (f s x)) (a : List α) (s : State) :
    Retuned s (a.foldl f s) := by
  induction a generalizing s with
  | nil => exact Retuned.refl s
  | cons x a ih => exact (hf s x).trans (ih _)

/-- A relock of a die ends. -/
theorem exec_pllRelockDone {d : DieId} (h : (clockOf s d.val).relock = true) : ∃ (c : ClockSt) (y : State),
    (c.relock = false ∧ c.coast = []) ∧ Retuned (rset (setClock s d.val c) Reg.CLOCK_STATUS_COAST d.val 0 0) y ∧
      exec (.pllRelockDone d) s = .next (if d.val = 8 ∧ rget y Reg.FTIME_SYNC_STATE = 4 then roleEntry y else y) := by
  refine ⟨{ clockOf s d.val with relock := false, coast := [], src := rget s Reg.CLOCK_SOURCE_SEL d.val }, _, ⟨rfl, rfl⟩, ?_,
    congrArg Host.Outcome.next (if_neg (by simp [h]))⟩
  refine retuned_foldl (fun x k => ?_) (List.range 9) _
  split
  · split
    · exact retuned_setCclk ..
    · exact Retuned.refl x
  · exact Retuned.refl x

theorem roleEntry_parts (s : State) : roleEntry s = { s with regs := (roleEntry s).regs, time := (roleEntry s).time } ∧
    (roleEntry s).time.ft = s.time.ft ∧ CodesKept [Reg.FTIME_SYNC_STATE.code] s (roleEntry s) :=
  ⟨rfl, rfl, codesKept_rset s (by decide) (by decide) (by decide) _⟩

theorem pllRelockDone_parts {d : DieId} (h : (clockOf s d.val).relock = true) : Yields (.pllRelockDone d) s (fun t =>
    (clockOf t d.val).relock = false ∧ (clockOf t d.val).coast = [] ∧ rget t Reg.CLOCK_STATUS_COAST d.val = 0 ∧
      t.time.ft = s.time.ft ∧ t.mem = s.mem ∧ t.queues = s.queues) := by
  obtain ⟨c, y, ⟨hr, hc⟩, htuned, hexec⟩ := exec_pllRelockDone h
  have hplls := htuned.plls d.val
  have hclock : clockOf (rset (setClock s d.val c) Reg.CLOCK_STATUS_COAST d.val 0 0) d.val = c := clockOf_setClock_same s d.val c
  rw [hclock] at hplls
  have hd : d.val < 16384 := by omega
  have hcoast : rget y Reg.CLOCK_STATUS_COAST d.val = 0 := (htuned.shown d.val hd).trans (rget_rset_same ..)
  have hform := htuned.form
  refine ⟨_, hexec, ?_⟩
  split
  · obtain ⟨hre, hft, hkept⟩ := roleEntry_parts y
    have hclocks : (roleEntry y).clocks = y.clocks := rfl
    refine ⟨(congrArg ClockSt.relock (clockOf_congr hclocks _)).trans (hplls.1.trans hr),
      (congrArg ClockSt.coast (clockOf_congr hclocks _)).trans (hplls.2.trans hc), (hkept _ _ _ (by decide) hd (by decide)).trans hcoast,
      ?_, ?_, ?_⟩
    · rw [hft, hform]
      rfl
    · rw [hre, hform]
      rfl
    · rw [hre, hform]
      rfl
  · refine ⟨hplls.1.trans hr, hplls.2.trans hc, hcoast, ?_, ?_, ?_⟩ <;> (rw [hform]; rfl)

-- meters --------------------------------------------------------------------------------------------------------------

theorem meterNext_off (s : State) (d m : Nat) : (clockOf (meterNext s d m) d).off = (clockOf s d).off := by
  simp only [meterNext, clockOf_setClock_same]

theorem metered_meterNext (s : State) (d m : Nat) : Metered l s (meterNext s d m) := metered_setClock s d _

/-- A window that is discarded. -/
theorem meterWindowEnd_of_spoiled {d : DieId} {m : Fin 8} (n : W32) (hf : frozen s = false)
    (h : (clockOf s d.val).spoiled.contains m.val = true ∨ clockOff s d.val (meterCfg s d.val m.val).clk = true) :
    Yields (.meterWindowEnd d m n false) s (fun t =>
      t = { s with clocks := t.clocks, time := t.time } ∧ t.time.ft = s.time.ft ∧ (clockOf t d.val).off = (clockOf s d.val).off) := by
  refine ⟨_, congrArg Host.Outcome.next ((if_neg (by simp [hf])).trans (if_pos (by simpa using h))), ?_⟩
  split <;> exact ⟨rfl, rfl, meterNext_off ..⟩

/-- A window within the bands. -/
theorem meterWindowEnd_of_good {d : DieId} {m : Fin 8} {n : W32} (hf : frozen s = false) (hn : n ≠ 0) {ppm : Int}
    (hppm : ppm = meterPpm n.toNat (meterCfg s d.val m.val).mhz (nominalMHz s d.val (meterCfg s d.val m.val).ref))
    (hsp : (clockOf s d.val).spoiled.contains m.val = false) (hon : clockOff s d.val (meterCfg s d.val m.val).clk = false)
    (hwarn : ppm.natAbs ≤ (meterCfg s d.val m.val).warn) (hfail : ppm.natAbs ≤ (meterCfg s d.val m.val).fail) :
    Yields (.meterWindowEnd d m n false) s (fun t =>
      rget t Reg.CLOCK_METER_COUNT d.val m.val = n.toNat ∧ rget t Reg.CLOCK_METER_PPM d.val m.val = twos 32 ppm ∧
        t = { s with regs := t.regs, clocks := t.clocks, time := t.time } ∧ t.time.ft = s.time.ft) := by
  have hd : d.val < 16384 := by omega
  obtain ⟨y, hy⟩ : ∃ y, y = rset (rset s Reg.CLOCK_METER_PPM d.val m.val (twos 32 ppm)) Reg.CLOCK_METER_COUNT d.val m.val n.toNat := ⟨_, rfl⟩
  have hexec : exec (.meterWindowEnd d m n false) s = .next (meterNext (ftrefRun (meterReady y d.val m.val (meterCfg s d.val m.val).clk
      (meterCfg s d.val m.val).ref ppm) d.val m.val (meterCfg s d.val m.val).clk (meterCfg s d.val m.val).ref) d.val m.val) := by
    subst hy hppm
    refine congrArg Host.Outcome.next ((if_neg (by simp [hf])).trans ((if_neg (by rw [hsp, hon]; decide)).trans ?_))
    simp only [if_neg (Nat.not_lt.mpr hwarn)]
    rw [if_neg]
    rintro (h | h)
    · exact absurd hfail (Nat.not_le.mpr h)
    · exact hn h
  have hm := (metered_meterReady y hd m.val (meterCfg s d.val m.val).clk (meterCfg s d.val m.val).ref ppm).trans
    ((metered_ftrefRun _ d.val m.val (meterCfg s d.val m.val).clk (meterCfg s d.val m.val).ref).trans (metered_meterNext _ d.val m.val))
  refine ⟨_, hexec, (hm.kept _ _ _ (by decide) hd (by omega)).trans ?_, (hm.kept _ _ _ (by decide) hd (by omega)).trans ?_, hm.form.trans ?_,
    hm.ft.trans ?_⟩
  · rw [hy, rget_rset_same]
    exact Nat.mod_eq_of_lt n.isLt
  · rw [hy, rget_rset_of_code _ (by decide) hd (by omega) hd (by omega), rget_rset_same]
    exact Nat.mod_eq_of_lt (twos_lt 32 ppm)
  · rw [hy]
    rfl
  · rw [hy]
    rfl

-- gates ---------------------------------------------------------------------------------------------------------------

/-- The state in which a request for a single gate applies: GATE_SUBTREE is 0, and its write crosses. -/
def soleGate (s : State) (d : Nat) : State := crossing (rset s Reg.CLOCK_GATE_SUBTREE d 0 0) ⟨.clock, d⟩ Reg.CLOCK_GATE_SUBTREE

theorem crossBusy_soleGate {d : Nat} (hd : d < 16384) (h : crossBusy s ⟨.clock, d⟩ Reg.CLOCK_GATE_REQ = false) :
    crossBusy (soleGate s d) ⟨.clock, d⟩ Reg.CLOCK_GATE_REQ = false := by
  have hkey : regKey Reg.CLOCK_GATE_REQ d 0 ≠ regKey Reg.CLOCK_GATE_SUBTREE d 0 :=
    regKey_ne_of_code (by decide) hd hd (by decide) (by decide)
  simp only [crossBusy, soleGate, crossing, rset, List.contains_cons, Bool.or_eq_false_iff] at h ⊢
  exact ⟨⟨by simpa using hkey, h.1⟩, h.2⟩

theorem rget_soleGate {f : Fld} (hf : Reg.CLOCK_GATE_SUBTREE.code ≠ f.code) {d i : Nat} (hd : d < 16384) (hi : i < 16384) :
    rget (soleGate s d) f i = rget s f i :=
  rget_rset_of_code s hf.symm hd (by decide) hi (by decide) _

/-- A busy die refuses the same gates. -/
theorem refusers_soleGate {d : DieId} (g : Nat) : refusers (soleGate s d.val) d.val g = refusers s d.val g := by
  have hbusy (x : Nat) : gateBusy (soleGate s d.val) d.val x = gateBusy s d.val x := by
    unfold gateBusy
    rw [rget_soleGate (by decide) (by omega) (by omega)]
    rfl
  unfold refusers
  simp only [hbusy]
  rfl

/-- A request for the selected gate. -/
theorem exec_gateReqWrite {w : Writer} {d : DieId} (on : Bool) (h : Lands s w ⟨.clock, d.val⟩ Reg.CLOCK_GATE_REQ 0 u)
    (hreq : crossBusy u ⟨.clock, d.val⟩ Reg.CLOCK_GATE_REQ = false) (hsub : crossBusy u ⟨.clock, d.val⟩ Reg.CLOCK_GATE_SUBTREE = false) :
    exec (.gateReqWrite w d none false on) s = .next (crossing (gateOne (soleGate u d.val) d.val (rget u Reg.CLOCK_GATE_SEL d.val) on)
      ⟨.clock, d.val⟩ Reg.CLOCK_GATE_REQ) := by
  have hd : d.val < 16384 := by omega
  have hfirst : gateApply w d.val Reg.CLOCK_GATE_SUBTREE (b2n false) u = soleGate u d.val := by
    refine (cross_of_free hsub _ _).trans (congrArg (crossing · _ _) ?_)
    rw [if_neg (by decide)]
    exact setClamped_of_legal w _ _ _ (by decide) rfl
  have hon : (b2n on == 1) = on := by cases on <;> rfl
  have hgate : gateRequest d.val on (soleGate u d.val) = gateOne (soleGate u d.val) d.val (rget u Reg.CLOCK_GATE_SEL d.val) on := by
    have hzero : rget (soleGate u d.val) Reg.CLOCK_GATE_SUBTREE d.val = 0 := rget_rset_same ..
    simp only [gateRequest, hzero, rget_soleGate (s := u) (f := Reg.CLOCK_GATE_SEL) (by decide) hd hd]
    rfl
  refine congrArg Host.Outcome.next ((gated_of_lands h _ _).trans ?_)
  dsimp only
  rw [hfirst]
  refine (cross_of_free (crossBusy_soleGate hd hreq) _ _).trans (congrArg (crossing · _ _) ?_)
  rw [if_pos rfl, hon]
  exact hgate

theorem mem_dropAll (l : List Nat) (x : Nat) : x ∉ dropAll l x := by
  simp [dropAll]

theorem spoil_clocks (s : State) (d : Nat) (ks : List Nat) : ∃ x, spoil s d ks = { s with clocks := x } := by
  rcases spoil_eq s d ks with h | ⟨x, h⟩
  · exact ⟨s.clocks, h⟩
  · exact ⟨_, h⟩

/-- A gate turned on. -/
theorem gateOne_on (s : State) (d g : Nat) : ∃ x, gateOne s d g true = { s with clocks := x } ∧ g ∉ (mapGet x d ClockSt.reset).off := by
  refine ⟨_, rfl, ?_⟩
  rw [mapGet_mapSet_same]
  exact mem_dropAll (clockOf s d).off g

/-- A gate turned off, where nothing refuses. -/
theorem gateOne_off {d g : Nat} (h : refusers s d g = []) :
    ∃ x, gateOne s d g false = { s with clocks := x } ∧ g ∈ (mapGet x d ClockSt.reset).off := by
  obtain ⟨x, hx⟩ := spoil_clocks s d (gateClocks d g)
  simp only [gateOne, h, hx]
  refine ⟨_, rfl, ?_⟩
  rw [mapGet_mapSet_same]
  exact mem_addOnce (clockOf s d).off g

/-- A source selected. -/
theorem startRelock_parts (s : State) (d v : Nat) : ∃ x, startRelock d v s = { rset s Reg.CLOCK_SOURCE_SEL d 0 v with clocks := x } ∧
    (mapGet x d ClockSt.reset).relock = true := by
  obtain ⟨x, hx⟩ := spoil_clocks (rset s Reg.CLOCK_SOURCE_SEL d 0 v) d (pllsOf d)
  simp only [startRelock, hx]
  refine ⟨_, rfl, ?_⟩
  rw [mapGet_mapSet_same]

/-- Settles O13: a source and a gate through their crossings, a relock and a window by what they may change. -/
theorem clockTreeCommands : Obligations.ClockTreeCommands := by
  refine ⟨fun s u w d x hl hready hc => ?_, fun s u w d hl hx => ?_, fun s d h => pllRelockDone_parts h, fun s d m n => ?_,
    fun s d m n hf hn => ⟨fun hsp hon hw hfail => meterWindowEnd_of_good hf hn rfl hsp hon hw hfail, fun h => meterWindowEnd_of_spoiled n hf h⟩,
    fun s u w d sub hl hsub hreq hs href => ?_, fun s u w d hl hreq hs => ?_⟩
  · have hgo : ¬ (b2n x = 1 ∧ rget u Reg.CLOCK_STATUS_XTAL_READY d.val = 0) := by
      rintro ⟨h1, h0⟩
      rcases hready with hx | hr
      · rw [hx] at h1
        exact absurd h1 (by decide)
      · exact hr h0
    obtain ⟨c, heq, hrelock⟩ := startRelock_parts u d.val (b2n x)
    refine ⟨_, congrArg Host.Outcome.next ((gated_of_lands hl _ _).trans ((if_neg hgo).trans ((cross_of_free hc _ _).trans
      (congrArg (crossing · _ _) heq)))), ?_, hrelock, rfl, onlyField_rset u Reg.CLOCK_SOURCE_SEL d.val 0 _⟩
    refine (rget_rset_same u Reg.CLOCK_SOURCE_SEL d.val 0 _).trans ?_
    cases x <;> rfl
  · exact congrArg Host.Outcome.next ((gated_of_lands hl _ _).trans (if_pos ⟨rfl, hx⟩))
  · exact congrArg Host.Outcome.next (if_pos (Or.inr rfl))
  · subst hsub
    obtain ⟨c, heq, hmem⟩ := gateOne_off ((refusers_soleGate _).trans href)
    refine ⟨_, exec_gateReqWrite false hl hreq hs, ?_⟩
    rw [heq]
    exact ⟨hmem, rfl, onlyField_rset u Reg.CLOCK_GATE_SUBTREE d.val 0 0⟩
  · obtain ⟨c, heq, hmem⟩ := gateOne_on (soleGate u d.val) d.val (rget u Reg.CLOCK_GATE_SEL d.val)
    refine ⟨_, exec_gateReqWrite true hl hreq hs, ?_⟩
    rw [heq]
    exact ⟨hmem, rfl⟩

end Sys2Proof.Machine
end

section
/-! PROOFS. Freezes, their read-out, and the enabling of perturbation (R395 to R402). -/

namespace Sys2Proof.Machine

variable {s t u : State}

-- 64-bit fields -------------------------------------------------------------------------------------------------------

/-- A 64-bit field reads back. -/
theorem rget64_rset64 (s : State) {lo hi : Fld} (hlo : lo.width = 32) (hhi : hi.width = 32) (hne : lo.code ≠ hi.code) {v : Nat}
    (hv : v < 2 ^ 64) : rget64 (rset64 s lo hi 0 0 v) lo hi = v := by
  rw [rget64, rset64, rget_rset_of_code _ hne (by decide) (by decide) (by decide) (by decide), rget_rset_same, rget_rset_same, hlo, hhi]
  omega

theorem kept_rset64 {l : List Nat} (s : State) {lo hi : Fld} (hlo : lo.code ∈ l) (hhi : hi.code ∈ l) (v : Nat) :
    CodesKept l s (rset64 s lo hi 0 0 v) :=
  (codesKept_rset s hlo (by decide) (by decide) v).trans (codesKept_rset _ hhi (by decide) (by decide) _)

-- STATUS --------------------------------------------------------------------------------------------------------------

theorem bitAt_zero_setBit (n : Nat) {i : Nat} (hi : 0 < i) : bitAt (setBit n i) 0 = bitAt n 0 := by
  rw [bitAt_eq_testBit, bitAt_eq_testBit, setBit, Nat.testBit_or, Nat.testBit_two_pow_of_ne (by omega), Bool.or_false]

theorem bitAt_zero_clrBit (n : Nat) {i : Nat} (hi : 0 < i) : bitAt (clrBit n i) 0 = bitAt n 0 := by
  unfold clrBit
  split
  · next h =>
    rw [bitAt_eq_testBit] at h
    have hle : 2 ^ i ≤ n := Nat.ge_two_pow_of_testBit h
    obtain ⟨j, rfl⟩ : ∃ j, i = j + 1 := ⟨i - 1, by omega⟩
    rw [pow_succ] at hle ⊢
    rw [bitAt_eq_testBit, bitAt_eq_testBit, Nat.testBit_zero, Nat.testBit_zero]
    have hmod : (n - 2 ^ j * 2) % 2 = n % 2 := by omega
    rw [hmod]
  · rfl

/-- Bit 0 of STATUS stands through writes of the others. -/
theorem frozen_setStatus (s : State) {i : Nat} (hi : 0 < i) (b : Bool) : frozen (setStatus s i b) = frozen s := by
  have hzero (n : Nat) : bitAt (n % 2 ^ 5) 0 = bitAt n 0 := by
    rw [bitAt_eq_testBit, bitAt_eq_testBit, Nat.testBit_mod_two_pow, decide_eq_true (by decide), Bool.true_and]
  rw [frozen, setStatus, rbit, rget_rset_same, show Reg.FREEZE_STATUS.width = 5 from rfl, hzero]
  cases b
  · exact bitAt_zero_clrBit _ hi
  · exact bitAt_zero_setBit _ hi

theorem statusBit_setStatus (s : State) {i : Nat} (hi : i < 5) (b : Bool) : statusBit (setStatus s i b) i = b :=
  bitAt_rbit s Reg.FREEZE_STATUS 0 0 hi b

theorem frozen_setStatus_zero (s : State) (b : Bool) : frozen (setStatus s 0 b) = b := statusBit_setStatus s (by decide) b

theorem kept_setStatus (s : State) (i : Nat) (b : Bool) : CodesKept [Reg.FREEZE_STATUS.code] s (setStatus s i b) :=
  codesKept_rbit s (by decide) (by decide) (by decide) i b

theorem CodesKept.frozen {l : List Nat} (h : CodesKept l s t) (hl : Reg.FREEZE_STATUS.code ∉ l) :
    Machine.frozen t = Machine.frozen s :=
  congrArg (bitAt · 0) (h Reg.FREEZE_STATUS 0 0 hl (by decide) (by decide))

-- arming --------------------------------------------------------------------------------------------------------------

/-- A freeze armed at an instant. -/
theorem armApply_at {w : Writer} {v : W64} (hf : frozen u = false)
    (ht : t = armApply w 1 (rset64 u Reg.FREEZE_AT_LO Reg.FREEZE_AT_HI 0 0 v.toNat)) :
    rget t Reg.FREEZE_ARM = 1 ∧ freezeAt t = v.toNat ∧ statusBit t 4 = decide (v.toNat ≤ u.time.ft.toNat) ∧
      frozen t = false ∧ t = { u with regs := t.regs } := by
  obtain ⟨x, hx⟩ : ∃ x, x = rset64 u Reg.FREEZE_AT_LO Reg.FREEZE_AT_HI 0 0 v.toNat := ⟨_, rfl⟩
  rw [← hx] at ht
  have hxf : frozen x = false := by
    rw [hx]
    exact ((kept_rset64 (l := [Reg.FREEZE_AT_LO.code, Reg.FREEZE_AT_HI.code]) u (by decide) (by decide) _).frozen (by decide)).trans hf
  have hat (y : State) (hy : CodesKept [Reg.FREEZE_ARM.code, Reg.FREEZE_STATUS.code] x y) : freezeAt y = v.toNat := by
    rw [freezeAt, rget64, hy _ _ _ (by decide) (by decide) (by decide), hy _ _ _ (by decide) (by decide) (by decide), hx]
    exact rget64_rset64 u rfl rfl (by decide) v.isLt
  have harm : CodesKept [Reg.FREEZE_ARM.code, Reg.FREEZE_STATUS.code] x (rset x Reg.FREEZE_ARM 0 0 1) :=
    codesKept_rset x (by decide) (by decide) (by decide) 1
  have heq : t = setStatus (rset x Reg.FREEZE_ARM 0 0 1) 4 (decide (v.toNat ≤ u.time.ft.toNat)) := by
    have hft : x.time = u.time := by rw [hx]; rfl
    refine ht.trans ((if_neg (by simp [hxf])).trans ((if_neg (by decide)).trans ?_))
    rw [hat x (codesKept_of_regs _ rfl), hft]
  have hstatus := kept_setStatus (rset x Reg.FREEZE_ARM 0 0 1) 4 (decide (v.toNat ≤ u.time.ft.toNat))
  rw [heq]
  refine ⟨?_, hat _ (harm.trans (hstatus.mono (by decide))), statusBit_setStatus _ (by decide) _, ?_, ?_⟩
  · rw [hstatus _ _ _ (by decide) (by decide) (by decide), rget_rset_same]
    rfl
  · rw [frozen_setStatus _ (by decide)]
    exact ((codesKept_rset (l := [Reg.FREEZE_ARM.code]) x (by decide) (by decide) (by decide) 1).frozen (by decide)).trans hxf
  · rw [hx]
    rfl

-- the clocks stop -----------------------------------------------------------------------------------------------------

/-- Time passes to an instant ahead, and not short of it. -/
theorem advanceFt_reaches (s : State) (v : W64) : v.toNat ≤ (advanceFt s v).time.ft.toNat := by
  unfold advanceFt
  split
  · dsimp only
    split
    · exact le_rfl
    · next h => exact Nat.not_lt.mp h
  · next h => exact Nat.not_lt.mp h

/-- A record and its message. -/
theorem noted_freezeRecord (s : State) : Noted s (freezeRecord s) := (noted_msix s 132).trans (noted_raise _ _)

/-- A freeze marked in STATUS, with its instant. -/
def freezeMarked (s : State) (byPin byAt : Bool) : State :=
  let t := rset64 (rset (setStatus (setStatus (setStatus s 0 true) 2 byPin) 3 byAt) Reg.FREEZE_ARM 0 0 0)
    Reg.FREEZE_FROZEN_FT_LO Reg.FREEZE_FROZEN_FT_HI 0 0 s.time.ft.toNat
  { t with freeze := { t.freeze with pinAt := none, resumeAt := none } }

theorem freezeMarked_frozen (s : State) (byPin byAt : Bool) : frozen (freezeMarked s byPin byAt) = true := by
  have hkept := (codesKept_rset (l := [Reg.FREEZE_ARM.code, Reg.FREEZE_FROZEN_FT_LO.code, Reg.FREEZE_FROZEN_FT_HI.code])
    (setStatus (setStatus (setStatus s 0 true) 2 byPin) 3 byAt) (f := Reg.FREEZE_ARM) (i := 0) (j := 0) (by decide) (by decide) (by decide) 0).trans
      (kept_rset64 _ (lo := Reg.FREEZE_FROZEN_FT_LO) (hi := Reg.FREEZE_FROZEN_FT_HI) (by decide) (by decide) s.time.ft.toNat)
  refine (hkept.frozen (by decide)).trans ?_
  rw [frozen_setStatus _ (by decide), frozen_setStatus _ (by decide), frozen_setStatus_zero]

theorem freezeMarked_instant (s : State) (byPin byAt : Bool) :
    rget64 (freezeMarked s byPin byAt) Reg.FREEZE_FROZEN_FT_LO Reg.FREEZE_FROZEN_FT_HI = s.time.ft.toNat :=
  rget64_rset64 _ rfl rfl (by decide) s.time.ft.isLt

theorem freezeMarked_arm (s : State) (byPin byAt : Bool) : rget (freezeMarked s byPin byAt) Reg.FREEZE_ARM = 0 := by
  refine (kept_rset64 (l := [Reg.FREEZE_FROZEN_FT_LO.code, Reg.FREEZE_FROZEN_FT_HI.code]) _ (by decide) (by decide) s.time.ft.toNat
    Reg.FREEZE_ARM 0 0 (by decide) (by decide) (by decide)).trans ?_
  rw [rget_rset_same]
  rfl

/-- The registers that a follower's HOLDOVER writes. -/
def holdoverCodes : List Nat := [Reg.FTIME_SYNC_STATE.code, Reg.FTIME_EVENTS.code]

theorem kept_enterHoldover (s : State) : CodesKept holdoverCodes s (enterHoldover s) :=
  (codesKept_rset s (by decide) (by decide) (by decide) 3).trans (codesKept_rbit _ (by decide) (by decide) (by decide) 2 true)

/-- The start of a freeze: marks, a follower's HOLDOVER, and the record. -/
theorem freezeNow_shape (s : State) : ∃ (byPin byAt : Bool) (y : State), Noted y (freezeNow s) ∧
    y = { freezeMarked s byPin byAt with regs := y.regs } ∧ CodesKept holdoverCodes (freezeMarked s byPin byAt) y := by
  have shape : ∃ byPin byAt, freezeNow s = freezeRecord (if rget (freezeMarked s byPin byAt) Reg.FTIME_ROLE = 2 ∧
      rget (freezeMarked s byPin byAt) Reg.FTIME_SYNC_STATE ≠ 4 then enterHoldover (freezeMarked s byPin byAt)
      else freezeMarked s byPin byAt) := ⟨_, _, rfl⟩
  obtain ⟨byPin, byAt, h⟩ := shape
  refine ⟨byPin, byAt, _, h ▸ noted_freezeRecord _, ?_⟩
  split
  · exact ⟨rfl, kept_enterHoldover _⟩
  · exact ⟨rfl, codesKept_of_regs _ rfl⟩

/-- What a freeze that has started holds. -/
theorem freezeNow_parts (s : State) : frozen (freezeNow s) = true ∧
    rget64 (freezeNow s) Reg.FREEZE_FROZEN_FT_LO Reg.FREEZE_FROZEN_FT_HI = s.time.ft.toNat ∧ rget (freezeNow s) Reg.FREEZE_ARM = 0 ∧
      (freezeNow s).time = s.time ∧ (freezeNow s).freeze.pinAt = none ∧ (freezeNow s).mem = s.mem ∧ (freezeNow s).msf = s.msf ∧
        (freezeNow s).links = s.links := by
  obtain ⟨byPin, byAt, y, hnote, hform, hkept⟩ := freezeNow_shape s
  have hregs {f : Fld} (hf : f.code ∉ noteFields.map (·.code) ++ holdoverCodes) : rget (freezeNow s) f = rget (freezeMarked s byPin byAt) f :=
    (hnote.kept f 0 0 (fun h => hf (List.mem_append_left _ h)) (by decide) (by decide)).trans
      (hkept f 0 0 (fun h => hf (List.mem_append_right _ h)) (by decide) (by decide))
  have hall : freezeNow s = { freezeMarked s byPin byAt with
      regs := (freezeNow s).regs, ledger := (freezeNow s).ledger
      out := (freezeNow s).out, pins := { s.pins with acked := (freezeNow s).pins.acked } } := by
    refine hnote.regsOnly.trans ?_
    rw [hform]
    rfl
  refine ⟨(congrArg (bitAt · 0) (hregs (f := Reg.FREEZE_STATUS) (by decide))).trans (freezeMarked_frozen s byPin byAt), ?_,
    (hregs (by decide)).trans (freezeMarked_arm ..), ?_, ?_, ?_, ?_, ?_⟩
  · rw [rget64, hregs (by decide), hregs (by decide)]
    exact freezeMarked_instant s byPin byAt
  all_goals
    rw [hall]
    rfl

theorem exec_freezeTaken {v : Nat} (hf : frozen s = false) (hv : freezeInstant s = some v) (hlt : s.time.ft.toNat < v) :
    exec .freezeTaken s = .next (freezeNow (advanceFt s (BitVec.ofNat 64 v))) := by
  refine congrArg Host.Outcome.next ((if_neg (by simp [hf])).trans ?_)
  simp only [hv, if_neg (Nat.not_le.mpr hlt)]

theorem freezeTaken_parts {v : Nat} (hf : frozen s = false) (hv : freezeInstant s = some v) (hlt : s.time.ft.toNat < v) (hw : v < 2 ^ 64) :
    Yields .freezeTaken s (fun t =>
      frozen t = true ∧ rget64 t Reg.FREEZE_FROZEN_FT_LO Reg.FREEZE_FROZEN_FT_HI = t.time.ft.toNat ∧ v ≤ t.time.ft.toNat ∧
        rget t Reg.FREEZE_ARM = 0 ∧ t.freeze.pinAt = none ∧ t.mem = s.mem ∧ t.msf = s.msf ∧ t.links = s.links) := by
  obtain ⟨hfr, hft, harm, htime, hpin, hmem, hmsf, hlinks⟩ := freezeNow_parts (advanceFt s (BitVec.ofNat 64 v))
  have hreach := advanceFt_reaches s (BitVec.ofNat 64 v)
  rw [BitVec.toNat_ofNat, Nat.mod_eq_of_lt hw] at hreach
  have hwait := (waited_advanceFt [] s (BitVec.ofNat 64 v)).1
  refine ⟨_, exec_freezeTaken hf hv hlt, hfr, ?_, ?_, harm, hpin, ?_, ?_, ?_⟩
  · rw [hft, htime]
  · rw [htime]
    exact hreach
  · rw [hmem, hwait]
  · rw [hmsf, hwait]
  · rw [hlinks, hwait]

-- the clocks restart --------------------------------------------------------------------------------------------------

theorem frozen_setStatus_of_not (h : frozen s = false) (i : Nat) : frozen (setStatus s i false) = false := by
  rcases Nat.eq_zero_or_pos i with rfl | hi
  · exact frozen_setStatus_zero s false
  · exact (frozen_setStatus s hi false).trans h

theorem frozen_thaw (s : State) : frozen (thaw s) = false := by
  show frozen (setStatus (setStatus (setStatus (setStatus s 0 false) 2 false) 3 false) 4 false) = false
  iterate 3 refine frozen_setStatus_of_not ?_ _
  exact frozen_setStatus_zero s false

/-- In a freeze Fabric Time alone passes. -/
theorem advance_of_frozen (h : frozen s = true) (n : Nat) : advance s n = { s with time := ftAfter s n } := if_pos h

theorem ftAfter_cyc (s : State) (n : Nat) : (ftAfter s n).cyc = s.time.cyc := by
  unfold ftAfter
  dsimp only
  split <;> rfl

theorem advanceFt_of_frozen (h : frozen s = true) (v : W64) : ∃ x : TimeSt, advanceFt s v = { s with time := x } ∧ x.cyc = s.time.cyc := by
  unfold advanceFt
  rw [advance_of_frozen h]
  dsimp only
  split
  · split
    · exact ⟨_, rfl, ftAfter_cyc ..⟩
    · exact ⟨_, rfl, ftAfter_cyc ..⟩
  · exact ⟨_, rfl, rfl⟩

theorem resumeReached_parts {v : Nat} (hf : frozen s = true) (hv : thawInstant s = some v) (hth : s.power.thermLow = false) :
    Yields .resumeReached s (fun t =>
      ∃ u : State, frozen u = false ∧ u.freeze.resumeAt = none ∧ u.freeze.pinEnd = none ∧ u.mem = s.mem ∧ u.queues = s.queues ∧
        u.time.cyc = s.time.cyc ∧ t = (s.queues.map (·.1)).foldl evalHeads u) := by
  obtain ⟨x, hx, hcyc⟩ : ∃ x : TimeSt, (if v ≤ s.time.ft.toNat then advance s 1 else advanceFt s (BitVec.ofNat 64 v)) = { s with time := x } ∧
      x.cyc = s.time.cyc := by
    split
    · exact ⟨_, advance_of_frozen hf 1, ftAfter_cyc ..⟩
    · exact advanceFt_of_frozen hf _
  obtain ⟨y, hy⟩ : ∃ y, y = thaw { s with time := x } := ⟨_, rfl⟩
  have hnote := noted_freezeRecord y
  obtain ⟨z, hz⟩ : ∃ z, z = freezeRecord y := ⟨_, rfl⟩
  rw [← hz] at hnote
  have hqueues : z.queues = s.queues := by
    rw [hnote.regsOnly.queues, hy]
    rfl
  have hstir := stirred_foldl (fun s q => stirred_evalHeads s q) (s.queues.map (·.1)) z
  have hpower : ((s.queues.map (·.1)).foldl evalHeads z).power.thermLow = false := by
    rw [hstir.form, hnote.regsOnly, hy]
    exact hth
  refine ⟨(s.queues.map (·.1)).foldl evalHeads z, ?_, z, ?_, ?_, ?_, ?_, hqueues, ?_, rfl⟩
  · refine congrArg Host.Outcome.next ((if_neg (by simp [hf])).trans ?_)
    simp only [hv, hx, ← hy, ← hz, hqueues]
    exact if_neg (by simp [hpower])
  · refine (hnote.kept.frozen (by decide)).trans ?_
    rw [hy]
    exact frozen_thaw _
  · rw [hnote.regsOnly, hy]
    rfl
  · rw [hnote.regsOnly, hy]
    rfl
  · rw [hnote.regsOnly.mem, hy]
    rfl
  · rw [hnote.regsOnly, hy]
    exact hcyc

-- a freeze ended by a reset -------------------------------------------------------------------------------------------

theorem mapFind_mapMerge_of_absent {α : Type} (m r : SMap α) (k : Nat) (h : ∀ e ∈ r, e.1 ≠ k) : mapFind (mapMerge m r) k = mapFind m k := by
  unfold mapMerge
  induction r generalizing m with
  | nil => rfl
  | cons e r ih =>
    rw [List.foldl_cons, ih _ (fun x hx => h x (List.mem_cons_of_mem _ hx)), mapFind_mapSet_ne _ _ (h e List.mem_cons_self).symm]

/-- A key that a package reset keeps. -/
def keptKey (k : Nat) : Bool :=
  (codesOf (aoBlocks ++ pmcBlocks)).contains (keyCode k) ||
    ((Reg.hdrFields.map (·.code)).contains (keyCode k) && 0x906 ≤ keyPage k && keyPage k ≤ 0x90E)

/-- A package reset keeps STATUS. -/
theorem frozen_packageCore (h : frozen s = false) : frozen (packageCore s) = false := by
  obtain ⟨n, l, heq⟩ := packageCore_shape s
  have hstatus : rget (packageCore s) Reg.FREEZE_STATUS = rget (packageBase s) Reg.FREEZE_STATUS := by
    rw [heq]
    simp (disch := decide) only [rget_ledger, rget_rset_of_code]
  have hfind : mapFind (keptRegs s.regs) (regKey Reg.FREEZE_STATUS 0 0) = mapFind s.regs (regKey Reg.FREEZE_STATUS 0 0) := by
    refine (mapFind_mapMerge_of_absent _ _ _ fun e he hkey => ?_).trans ((mapFind_filter s.regs keptKey _).trans (if_pos (by decide +kernel)))
    have hcode := (List.mem_filter.mp he).2
    rw [hkey] at hcode
    exact absurd hcode (by decide)
  rw [frozen, hstatus]
  exact (congrArg (fun x : Option Nat => bitAt (x.getD 0) 0) hfind).trans h

/-- RESET in a freeze. -/
theorem freezeReset_parts {w : Writer} {i : Nat} (h : Lands s w freezePage Reg.FREEZE_RESET 0 u) (hf : frozen u = true)
    (hp : statusBit u 1 = false) (htrip : tripHolds u = false) (hi : u.boot.image = some i) : Yields (.freezeReset w) s (fun t =>
      frozen t = false ∧ bootStage t = 3 ∧ t.mem = [] ∧ t.queues = [] ∧ t.flash = u.flash ∧ t.boot.image = some i) := by
  obtain ⟨y, hy⟩ : ∃ y, y = thaw u := ⟨_, rfl⟩
  have hyi : y.boot.image = some i := by rw [hy]; exact hi
  have hyt : tripHolds y = false := by rw [hy]; exact htrip
  have hyf : y.flash = u.flash := by rw [hy]; rfl
  have hgo : ¬ resumeBarred u = true := by rw [resumeBarred, hf, hp]; decide
  refine ⟨_, congrArg Host.Outcome.next ((gated_of_lands h _ _).trans ((if_neg (by decide)).trans ((if_neg hgo).trans
    ((if_neg (by simp [htrip])).trans ((congrArg packageReset hy.symm).trans (packageReset_of_image hyi hyt)))))), ?_⟩
  obtain ⟨hstage, -, -⟩ := packageCore_regs y
  obtain ⟨hmem, -, hqueues, -, -, -, -, hflash, himage, -⟩ := packageCore_parts y
  obtain ⟨hform, hkept, -⟩ := notePackage_noted (packageCore y)
  refine ⟨(hkept.frozen (by decide)).trans (frozen_packageCore ?_), (hkept _ 0 0 (by decide) (by decide) (by decide)).trans hstage,
    hform.mem.trans hmem, hform.queues.trans hqueues, hform.flash.trans (hflash.trans hyf), ?_⟩
  · rw [hy]
    exact frozen_thaw u
  · rw [hform.boot]
    exact himage.trans hyi

-- perturbation --------------------------------------------------------------------------------------------------------

theorem debugEnApply_on (w : Writer) (d : Nat) (h : rget s Reg.PMC_DEBUG_PERMIT = 1) :
    debugEnApply w d (b2n true) s = rset s Reg.PERTURB_DEBUG_EN d 0 1 := by
  unfold debugEnApply
  exact (if_neg (by decide)).trans (if_pos h)

theorem debugEnApply_off (w : Writer) (d : Nat) (s : State) : debugEnApply w d (b2n false) s = clearPerturb s d := by
  unfold debugEnApply
  exact if_pos (by decide)

/-- Settles O14: each command by its own rule. -/
theorem freezeAndReadOut : Obligations.FreezeAndReadOut := by
  refine ⟨⟨fun s u w v hl hf => ⟨_, congrArg Host.Outcome.next (gated_of_lands hl _ _), armApply_at hf rfl⟩, fun s hp hf hprop => ?_,
    fun s hp => ?_, fun s v hf hv hlt hw => freezeTaken_parts hf hv hlt hw, fun s u w v hl hf hp => ?_,
    fun s v hf hv hth => resumeReached_parts hf hv hth, fun s u w i hl hf hp ht hi => freezeReset_parts hl hf hp ht hi⟩,
    fun s u w v hl hc => ?_, fun s w hr => ?_, fun s w hr => ?_, fun s w hf h13 h15 => ?_, fun s u w d hl hp => ?_, fun s u w d hl => ?_⟩
  · obtain ⟨x, hx⟩ : ∃ x, x = setStatus { s with freeze := { s.freeze with pinEnd := none } } 1 true := ⟨_, rfl⟩
    have hxf : frozen x = false := by
      rw [hx, frozen_setStatus _ (by decide)]
      exact hf
    have hxp : rget x Reg.FREEZE_PIN_PROPAGATE = 0 := by
      rw [hx]
      exact (kept_setStatus { s with freeze := { s.freeze with pinEnd := none } } 1 true _ _ _ (by decide) (by decide) (by decide)).trans hprop
    refine ⟨{ x with freeze := { x.freeze with pinAt := some (s.time.ft + 64) } }, ?_, ?_, ?_, ?_, ?_⟩
    · refine congrArg Host.Outcome.next ((if_neg (by simp [hp])).trans ?_)
      simp only [← hx, hxf, hxp]
      rw [hx]
      rfl
    · rw [hx]
      exact statusBit_setStatus { s with freeze := { s.freeze with pinEnd := none } } (by decide) true
    · rw [hx]
      rfl
    · rw [hx]
      rfl
    · rw [hx]
      exact onlyField_rset s Reg.FREEZE_STATUS 0 0 _
  · exact ⟨_, congrArg Host.Outcome.next (if_neg (by simp [hp])), statusBit_setStatus { s with freeze := _ } (by decide) false, rfl, rfl,
      onlyField_rset s Reg.FREEZE_STATUS 0 0 _⟩
  · obtain ⟨x, hx⟩ : ∃ x, x = rset64 u Reg.FREEZE_RESUME_AT_LO Reg.FREEZE_RESUME_AT_HI 0 0 v.toNat := ⟨_, rfl⟩
    have hkept : CodesKept [Reg.FREEZE_RESUME_AT_LO.code, Reg.FREEZE_RESUME_AT_HI.code] u x := by
      rw [hx]
      exact kept_rset64 u (by decide) (by decide) _
    have hxf : frozen x = true := (hkept.frozen (by decide)).trans hf
    have hgo : ¬ resumeBarred x = true := by
      rw [resumeBarred, hxf, statusBit, hkept _ _ _ (by decide) (by decide) (by decide)]
      simpa [statusBit] using hp
    have hat : rget64 x Reg.FREEZE_RESUME_AT_LO Reg.FREEZE_RESUME_AT_HI = v.toNat := by
      rw [hx]
      exact rget64_rset64 u rfl rfl (by decide) v.isLt
    refine ⟨{ x with freeze := { x.freeze with resumeAt := some v } }, ?_, rfl, hxf, ?_⟩
    · refine congrArg Host.Outcome.next ((gated_of_lands hl _ _).trans ?_)
      simp only [← hx]
      refine (if_neg (by decide)).trans ((if_neg hgo).trans ?_)
      simp only [hat, BitVec.ofNat_toNat, BitVec.setWidth_eq]
    · rw [hx]
      rfl
  · refine congrArg Host.Outcome.next ((gated_of_lands hl _ _).trans ?_)
    simp only [chainSelApply, Nat.mod_eq_of_lt v.isLt, if_pos hc, if_true]
  · exact congrArg Host.Outcome.next (if_neg (by simp [hr]))
  · exact congrArg Host.Outcome.next (if_neg (by simp [hr]))
  · have hr : reachesAo s w = false := by simp [reachesAo, hf, h13, h15]
    exact ⟨congrArg Host.Outcome.next (if_pos (by simp [hr])), congrArg Host.Outcome.next (if_pos (by simp [hr]))⟩
  · exact congrArg Host.Outcome.next ((gated_of_lands hl _ _).trans (debugEnApply_on w d.val hp))
  · exact congrArg Host.Outcome.next ((gated_of_lands hl _ _).trans (debugEnApply_off ..))

end Sys2Proof.Machine
end

section
/-! PROOFS. Switched domains, operating points, and the limits on power and temperature (R403 to R411). -/

namespace Sys2Proof.Machine

variable {s t u : State}

-- time ----------------------------------------------------------------------------------------------------------------

theorem advance_form (s : State) (n : Nat) : ∃ x q, advance s n = { s with time := x, queues := q } := by
  unfold advance
  split
  · exact ⟨_, s.queues, rfl⟩
  · exact ⟨_, _, rfl⟩

theorem advanceTo_form (s : State) (c : Nat) : ∃ x q, advanceTo s c = { s with time := x, queues := q } := by
  unfold advanceTo
  split
  · exact advance_form s _
  · exact ⟨s.time, s.queues, rfl⟩

/-- Outside a freeze the timers get there. -/
theorem advanceTo_reaches (h : frozen s = false) (c : Nat) : c ≤ (advanceTo s c).time.cyc := by
  unfold advanceTo
  split
  · rw [advance, if_neg (by simp [h])]
    exact Nat.le_of_eq (Nat.add_sub_cancel' (by omega)).symm
  · omega

-- domains -------------------------------------------------------------------------------------------------------------

theorem mem_domainsOn (s : State) (i : Nat) : domainOn (domainsOn s [i]) i = true :=
  List.contains_iff_mem.mpr (mem_addOnce s.power.on i)

/-- DOMAIN_ON of a domain that it switches, by what it asks. -/
theorem domainOnApply_on (w : Writer) {i : Nat} (hi : rget s Reg.POWER_DOMAIN_SEL = i) (hk : isQuad i = true ∨ isGroup i = true) :
    domainOnApply w (b2n true) s = domainsOn s [i] := by
  subst hi
  unfold domainOnApply
  refine (if_neg ?_).trans (if_pos rfl)
  rcases hk with hk | hk <;> simp [hk]

theorem domainOnApply_off (w : Writer) {i : Nat} (hi : rget s Reg.POWER_DOMAIN_SEL = i) (hk : isQuad i = true ∨ isGroup i = true)
    (hon : domainOn s i = true) : domainOnApply w (b2n false) s = if offRefused s i then
        raise (rset s Reg.POWER_DOMAIN_REFUSED 0 0 (i + 1)) (evOf Reg.POWER_DOMAIN_REFUSED 0 12 0 15 none [i])
      else domainsOff (if isQuad i then quadOff s i else s) [i] := by
  subst hi
  unfold domainOnApply
  refine (if_neg ?_).trans ((if_neg (by decide)).trans (if_neg (by simp [hon])))
  rcases hk with hk | hk <;> simp [hk]

-- CCLK ----------------------------------------------------------------------------------------------------------------

/-- A cluster's applied CCLK set. -/
theorem setCclk_form (s : State) (c v : Nat) : ∃ x, setCclk s c v = rset { s with clocks := x } Reg.POWER_CCLK_APPLIED 0 c v := by
  unfold setCclk
  dsimp only
  split
  · exact ⟨s.clocks, rfl⟩
  · obtain ⟨x, hx⟩ := spoil_clocks s (c / 8) [8 + physPos s c]
    exact ⟨x, congrArg (rset · Reg.POWER_CCLK_APPLIED 0 c v) hx⟩

/-- A step of the grid is its own nearest one. -/
theorem nearestStep_of_step {v : Nat} (hlo : 400 ≤ v) (hhi : v ≤ 2400) (h : v % 25 = 0) : nearestStep 25 400 2400 v = v := by
  have hclamp : clampNat 400 2400 v = v := by
    unfold clampNat
    omega
  have hdiv : v / 25 * 25 = v := by omega
  simp only [nearestStep, hclamp, hdiv, Nat.sub_self, Nat.zero_le, if_true]

theorem nearestStep_of_above {v : Nat} (h : 2400 < v) : nearestStep 25 400 2400 v = 2400 := by
  have hclamp : clampNat 400 2400 v = 2400 := by
    unfold clampNat
    omega
  rw [nearestStep, hclamp]
  decide

/-- A change of a cluster's CCLK begun. -/
def cclkBegun (s : State) (c n : Nat) : State :=
  let p := s.power
  rset { s with power := { p with cclk := mapSet p.cclk c { target := n, next := none, since := s.time.cyc } } } Reg.POWER_CCLK_MHZ 0 c n

/-- CCLK_MHZ written with a step, no change in progress. -/
theorem cclkApply_begun (w : Writer) {c v n : Nat} (hv : v < 4096) (hn : nearestStep 25 400 2400 v = n) (h : mapFind s.power.cclk c = none) :
    cclkApply w c v s = if n = v then cclkBegun s c n else reportFld (cclkBegun s c n) powerPage w Reg.POWER_CCLK_MHZ c 0 v n := by
  subst hn
  unfold cclkApply
  simp only [Nat.mod_eq_of_lt hv, h]
  rfl

/-- CCLK_MHZ written with a step behind a change in progress. -/
theorem cclkApply_queued (w : Writer) {c v : Nat} (hv : v < 4096) (hn : nearestStep 25 400 2400 v = v) {ch : CclkChange}
    (h : mapFind s.power.cclk c = some ch) : cclkApply w c v s = { s with power := { s.power with
      cclk := mapSet s.power.cclk c { ch with next := some v } } } := by
  have hclamp : clampRng Reg.POWER_CCLK_MHZ.rng 0 v = v := hn
  unfold cclkApply
  simp only [Nat.mod_eq_of_lt hv, h, hclamp, if_true]

/-- The state in which a change is done: the ramp is over, and the new CCLK applies. -/
theorem cclkChangeDone_shape {c : ClusterId} {ch : CclkChange} (hclk : Clocked s) (h : mapFind s.power.cclk c.val = some ch)
    (hcoast : coasting s c.val = false) (hheld : mapGet s.power.capHeld c.val 0 = 0) : ∃ x y q,
      advanceTo s (ch.since + rampNs s c.val ch.target) = { s with time := y, queues := q } ∧
      exec (.cclkChangeDone c) s = .next
        (let t := rset { s with time := y, queues := q, clocks := x } Reg.POWER_CCLK_APPLIED 0 c.val ch.target
        match ch.next with
        | none => { t with power := { t.power with cclk := mapErase t.power.cclk c.val } }
        | some v => cclkBegun t c.val v) := by
  obtain ⟨y, q, hadv⟩ := advanceTo_form s (ch.since + rampNs s c.val ch.target)
  obtain ⟨x, hx⟩ := setCclk_form { s with time := y, queues := q } c.val ch.target
  have hforce : cclkInForce { s with time := y, queues := q } c.val ch.target =
      rset { s with time := y, queues := q, clocks := x } Reg.POWER_CCLK_APPLIED 0 c.val ch.target := by
    refine (if_neg ?_).trans ((if_pos hheld).trans hx)
    exact (Bool.not_eq_true _).mpr hcoast
  refine ⟨x, y, q, hadv, congrArg Host.Outcome.next ((live_of_clocked hclk _).trans ?_)⟩
  simp only [h, hadv, hforce]
  rfl

/-- Settles O15: each write by its own rule, and the change by the ramp that ends. -/
theorem operatingPoints : Obligations.OperatingPoints := by
  refine ⟨fun s u w on hl => ⟨fun hk => ⟨?_, ?_, ?_, ?_⟩, fun hq hg => ?_⟩, fun s u w c v hl hlo hhi hstep => ⟨fun h => ?_, fun ch h => ?_⟩,
    fun s u w c v hl hhi h => ?_, fun s u c v b hclk h hcoast hheld hu => ?_, fun s c v n b hclk h hcoast hheld => ?_⟩
  · rintro rfl
    exact ⟨_, congrArg Host.Outcome.next ((gated_of_lands hl _ _).trans (domainOnApply_on w rfl hk)), mem_domainsOn u _, rfl⟩
  · rintro rfl hon hr
    have hnote := noted_raise (rset u Reg.POWER_DOMAIN_REFUSED 0 0 (rget u Reg.POWER_DOMAIN_SEL + 1))
      (evOf Reg.POWER_DOMAIN_REFUSED 0 12 0 15 none [rget u Reg.POWER_DOMAIN_SEL])
    refine ⟨_, congrArg Host.Outcome.next ((gated_of_lands hl _ _).trans ((domainOnApply_off w rfl hk hon).trans (if_pos hr))), ?_, ?_, ?_, ?_⟩
    · rw [hnote.regsOnly]
      rfl
    · rw [hnote.kept _ _ _ (by decide) (by decide) (by decide), rget_rset_same]
      rfl
    · rw [hnote.regsOnly]
      rfl
    · rw [hnote.regsOnly]
      rfl
  · rintro rfl hon hr hq
    refine congrArg Host.Outcome.next ((gated_of_lands hl _ _).trans ((domainOnApply_off w rfl hk hon).trans ((if_neg (by simp [hr])).trans ?_)))
    rw [if_neg (by simp [hq])]
  · rintro rfl hon hr hq
    refine congrArg Host.Outcome.next ((gated_of_lands hl _ _).trans ((domainOnApply_off w rfl hk hon).trans ((if_neg (by simp [hr])).trans ?_)))
    rw [if_pos hq]
  · refine congrArg Host.Outcome.next ((gated_of_lands hl _ _).trans ((if_pos (by simp [hq, hg])).trans ?_))
    cases on <;> rfl
  · exact congrArg Host.Outcome.next ((gated_of_lands hl _ _).trans
      ((cclkApply_begun w v.isLt (nearestStep_of_step hlo hhi hstep) h).trans (if_pos rfl)))
  · exact congrArg Host.Outcome.next ((gated_of_lands hl _ _).trans (cclkApply_queued w v.isLt (nearestStep_of_step hlo hhi hstep) h))
  · refine ⟨_, congrArg Host.Outcome.next ((gated_of_lands hl _ _).trans
      ((cclkApply_begun w v.isLt (nearestStep_of_above hhi) h).trans (if_neg (by omega)))), ?_⟩
    rw [(bused_reportFld (cclkBegun u c.val 2400) (p := powerPage) (by decide) w Reg.POWER_CCLK_MHZ c.val 0 v.toNat 2400).form]
    exact mapFind_mapSet_same ..
  · obtain ⟨x, y, q, hadv, hexec⟩ := cclkChangeDone_shape hclk h hcoast hheld
    have hreach := advanceTo_reaches hclk.1 (b + rampNs s c.val v)
    rw [← hu] at hreach
    rw [← hu] at hadv
    subst hadv
    exact ⟨_, hexec, rget_rset_same .., hreach, rfl, onlyField_rset s Reg.POWER_CCLK_APPLIED 0 c.val v⟩
  · obtain ⟨x, y, q, hadv, hexec⟩ := cclkChangeDone_shape hclk h hcoast hheld
    refine ⟨_, hexec, mapFind_mapSet_same .., ?_, rget_rset_same ..⟩
    refine (rget_rset_of_code _ (f := Reg.POWER_CCLK_MHZ) (by decide) (by decide) (by omega) (by decide) (by omega) _).trans ?_
    exact rget_rset_same ..

end Sys2Proof.Machine
end

section
/-! PROOFS. The limits on power and temperature (R408 to R411, R445). -/

namespace Sys2Proof.Machine

variable {s t u : State}

-- THROTTLE ------------------------------------------------------------------------------------------------------------

/-- THROTTLE shown: its four bits, and a message. -/
theorem showThrottle_shape (s : State) : ∃ a b : Bool,
    Noted (rset s Reg.POWER_THROTTLE 0 0 (b2n a + b2n b * 2 + b2n s.power.floor * 4 + b2n s.power.tripped * 8)) (showThrottle s) := by
  refine ⟨s.power.capHeld.any (fun e => bitAt e.2 0), s.power.capHeld.any (fun e => bitAt e.2 1) || s.power.hot != [], ?_⟩
  unfold showThrottle
  dsimp only
  split
  · exact noted_msix ..
  · exact Noted.refl _

/-- t differs from s in registers, the Ledger, outputs and acknowledged causes only; THROTTLE apart, in what a record writes. -/
structure Shown (s t : State) : Prop where
  form : RegsOnly s t
  kept : CodesKept (Reg.POWER_THROTTLE.code :: noteFields.map (·.code)) s t

theorem shown_showThrottle (s : State) : Shown s (showThrottle s) := by
  obtain ⟨a, b, h⟩ := showThrottle_shape s
  refine ⟨?_, (codesKept_rset s (by decide) (by decide) (by decide) _).trans (h.kept.mono (List.subset_cons_self _ _))⟩
  rw [RegsOnly, h.regsOnly]
  rfl

theorem Shown.power (h : Shown s t) : t.power = s.power := by rw [h.form]
theorem Shown.mem (h : Shown s t) : t.mem = s.mem := by rw [h.form]
theorem Shown.queues (h : Shown s t) : t.queues = s.queues := by rw [h.form]

-- clusters lowered ----------------------------------------------------------------------------------------------------

/-- A cluster above its lower bound is lowered and held. -/
theorem lowerCluster_of_above {c mhz i : Nat} (h : max 400 (rget s Reg.POWER_CCLK_APPLIED 0 c - mhz) < rget s Reg.POWER_CCLK_APPLIED 0 c) :
    ∃ x, lowerCluster s c mhz i = rset { s with
      clocks := x, power := { s.power with capHeld := mapUpd s.power.capHeld c 0 (setBit · i) } }
        Reg.POWER_CCLK_APPLIED 0 c (max 400 (rget s Reg.POWER_CCLK_APPLIED 0 c - mhz)) := by
  obtain ⟨x, hx⟩ := setCclk_form { s with power := { s.power with capHeld := mapUpd s.power.capHeld c 0 (setBit · i) } } c
    (max 400 (rget s Reg.POWER_CCLK_APPLIED 0 c - mhz))
  exact ⟨x, (if_neg (Nat.not_le.mpr h)).trans hx⟩

/-- t differs from s in clocks, held clusters and applied CCLKs only, those of the clusters in l. -/
structure Lowered (l : List Nat) (s t : State) : Prop where
  form : t = { s with regs := t.regs, clocks := t.clocks, power := { s.power with capHeld := t.power.capHeld } }
  kept : CodesKept [Reg.POWER_CCLK_APPLIED.code] s t
  apart : ∀ c, c ∉ l → c < 1024 →
    rget t Reg.POWER_CCLK_APPLIED 0 c = rget s Reg.POWER_CCLK_APPLIED 0 c ∧ mapGet t.power.capHeld c 0 = mapGet s.power.capHeld c 0

theorem Lowered.refl (l : List Nat) (s : State) : Lowered l s s := ⟨rfl, codesKept_of_regs _ rfl, fun _ _ _ => ⟨rfl, rfl⟩⟩

theorem Lowered.trans {l m : List Nat} (h : Lowered l s t) (g : Lowered m t u) : Lowered (l ++ m) s u := by
  refine ⟨?_, h.kept.trans g.kept, fun c hc hlt => ?_⟩
  · rw [g.form, h.form]
  · obtain ⟨hl, hm⟩ : c ∉ l ∧ c ∉ m := ⟨fun h => hc (List.mem_append_left _ h), fun h => hc (List.mem_append_right _ h)⟩
    exact ⟨(g.apart c hm hlt).1.trans (h.apart c hl hlt).1, (g.apart c hm hlt).2.trans (h.apart c hl hlt).2⟩

theorem lowered_lowerCluster (s : State) {c : Nat} (hc : c < 64) (mhz i : Nat) : Lowered [c] s (lowerCluster s c mhz i) := by
  by_cases h : rget s Reg.POWER_CCLK_APPLIED 0 c ≤ max 400 (rget s Reg.POWER_CCLK_APPLIED 0 c - mhz)
  · rw [show lowerCluster s c mhz i = s from if_pos h]
    exact Lowered.refl _ s
  · obtain ⟨x, hx⟩ := lowerCluster_of_above (i := i) (Nat.not_le.mp h)
    rw [hx]
    refine ⟨rfl, codesKept_rset s (by decide) (by decide) (by omega) _, fun e he hlt => ⟨?_, ?_⟩⟩
    · refine rget_rset_ne s Reg.POWER_CCLK_APPLIED Reg.POWER_CCLK_APPLIED 0 c 0 e _ fun hkey => he ?_
      exact List.mem_singleton.mpr (regKey_inj (by decide) (by decide) (by omega) (by omega) hkey).2.2
    · exact mapGet_mapSet_ne s.power.capHeld _ _ (fun h => he (List.mem_singleton.mpr h))

/-- The clusters of a list lowered one after the other. -/
theorem lowered_foldl (mhz i : Nat) (l : List Nat) (hl : ∀ c ∈ l, c < 64) (s : State) :
    Lowered l s (l.foldl (fun s c => lowerCluster s c mhz i) s) := by
  induction l generalizing s with
  | nil => exact Lowered.refl _ s
  | cons c l ih =>
    exact (lowered_lowerCluster s (hl c List.mem_cons_self) mhz i).trans (ih (fun x hx => hl x (List.mem_cons_of_mem c hx)) _)

/-- Each cluster of the list is lowered once. -/
theorem foldl_lowerCluster (mhz : Nat) {i : Nat} {l : List Nat} (hl : ∀ c ∈ l, c < 64) (hnd : l.Nodup) {c : Nat} (hc : c ∈ l) (s : State)
    {a : Nat} (ha : rget s Reg.POWER_CCLK_APPLIED 0 c = a) (hlt : max 400 (a - mhz) < a) (hw : a < 4096) :
    ∃ t, t = l.foldl (fun s c => lowerCluster s c mhz i) s ∧ rget t Reg.POWER_CCLK_APPLIED 0 c = max 400 (a - mhz) ∧
      mapGet t.power.capHeld c 0 = setBit (mapGet s.power.capHeld c 0) i := by
  refine ⟨_, rfl, ?_⟩
  subst ha
  induction l generalizing s with
  | nil => exact absurd hc List.not_mem_nil
  | cons d l ih =>
    have hrest := fun x hx => hl x (List.mem_cons_of_mem d hx)
    obtain ⟨hd, hnd⟩ := List.nodup_cons.mp hnd
    by_cases hcd : c = d
    · subst hcd
      have hafter := (lowered_foldl mhz i l hrest (lowerCluster s c mhz i)).apart c hd (by have := hl c hc; omega)
      obtain ⟨x, hx⟩ := lowerCluster_of_above (i := i) hlt
      rw [List.foldl_cons, hafter.1, hafter.2, hx]
      exact ⟨(rget_rset_same ..).trans (Nat.mod_eq_of_lt (show _ < 4096 by omega)), mapGet_mapSet_same ..⟩
    · have hkeep := (lowered_lowerCluster s (hl d List.mem_cons_self) mhz i).apart c (by simpa using hcd) (by have := hl c hc; omega)
      have hstep := ih hrest hnd ((List.mem_cons.mp hc).resolve_left hcd) (lowerCluster s d mhz i)
      rw [hkeep.1, hkeep.2] at hstep
      exact hstep hlt hw

-- the power cap -------------------------------------------------------------------------------------------------------

/-- A reading shown. -/
def readingShown (s : State) (watts : Nat) : State := rset (advanceTo s (nextGrid s 100000)) Reg.POWER_POWER_W 0 0 (min watts 4095)

theorem readingShown_form (s : State) (watts : Nat) : ∃ x q, readingShown s watts =
    { rset s Reg.POWER_POWER_W 0 0 (min watts 4095) with time := x, queues := q } := by
  obtain ⟨x, q, h⟩ := advanceTo_form s (nextGrid s 100000)
  exact ⟨x, q, congrArg (rset · Reg.POWER_POWER_W 0 0 (min watts 4095)) h⟩

theorem capW_readingShown (s : State) (watts : Nat) : capW (readingShown s watts) = capW s := by
  obtain ⟨x, q, h⟩ := readingShown_form s watts
  have hcap : rget (readingShown s watts) Reg.POWER_CAP_W = rget s Reg.POWER_CAP_W := by
    rw [h]
    exact rget_rset_of_code s (by decide) (by decide) (by decide) (by decide) (by decide) _
  unfold capW
  rw [hcap, h]
  rfl

theorem exec_powerMeasurement (hclk : Clocked s) (watts : Nat) : exec (.powerMeasurement watts) s = .next (if watts ≤ capW s then
      readingShown s watts else showThrottle (((List.range 64).filter (clusterOn (readingShown s watts))).foldl
        (fun s c => lowerCluster s c 25 0) (readingShown s watts))) := by
  rw [← capW_readingShown s watts]
  exact congrArg Host.Outcome.next (live_of_clocked hclk _)

theorem clusters_lt (s : State) : ∀ c ∈ (List.range 64).filter (clusterOn s), c < 64 :=
  fun _ hc => List.mem_range.mp (List.mem_filter.mp hc).1

/-- A reading within the limit, and one above it. -/
theorem powerMeasurement_within {watts : Nat} (hclk : Clocked s) (h : watts ≤ capW s) : Yields (.powerMeasurement watts) s (fun t =>
    rget t Reg.POWER_POWER_W = min watts 4095 ∧ OnlyField s t Reg.POWER_POWER_W 0 0 ∧ t.mem = s.mem ∧ t.power = s.power) := by
  obtain ⟨x, q, hform⟩ := readingShown_form s watts
  refine ⟨_, (exec_powerMeasurement hclk watts).trans (congrArg Host.Outcome.next (if_pos h)), ?_⟩
  rw [hform]
  refine ⟨(rget_rset_same s Reg.POWER_POWER_W 0 0 _).trans (Nat.mod_eq_of_lt (show _ < 4096 by omega)), onlyField_rset s _ 0 0 _, rfl, rfl⟩

theorem powerMeasurement_above {watts : Nat} {c : ClusterId} (hclk : Clocked s) (h : capW s < watts) (hon : clusterOn s c.val = true)
    (hlo : 425 ≤ rget s Reg.POWER_CCLK_APPLIED 0 c.val) (hhi : rget s Reg.POWER_CCLK_APPLIED 0 c.val < 4096) :
    Yields (.powerMeasurement watts) s (fun t =>
      rget t Reg.POWER_CCLK_APPLIED 0 c.val = rget s Reg.POWER_CCLK_APPLIED 0 c.val - 25 ∧
        bitAt (mapGet t.power.capHeld c.val 0) 0 = true ∧ t.mem = s.mem) := by
  obtain ⟨x, q, hform⟩ := readingShown_form s watts
  have happ : rget (readingShown s watts) Reg.POWER_CCLK_APPLIED 0 c.val = rget s Reg.POWER_CCLK_APPLIED 0 c.val := by
    rw [hform]
    exact rget_rset_of_code s (by decide) (by decide) (by decide) (by decide) (by omega) _
  have hmem : c.val ∈ (List.range 64).filter (clusterOn (readingShown s watts)) := by
    refine List.mem_filter.mpr ⟨List.mem_range.mpr c.isLt, ?_⟩
    rw [hform]
    exact hon
  obtain ⟨t, ht, hlow, hheld⟩ := foldl_lowerCluster 25 (i := 0) (clusters_lt _) (List.nodup_range.filter _) hmem (readingShown s watts) happ
    (by omega) hhi
  have hfold := lowered_foldl 25 0 _ (clusters_lt (readingShown s watts)) (readingShown s watts)
  have hshow := shown_showThrottle t
  refine ⟨showThrottle t, (exec_powerMeasurement hclk watts).trans (congrArg Host.Outcome.next ?_), ?_, ?_, ?_⟩
  · rw [if_neg (Nat.not_le.mpr h), ht]
  · rw [hshow.kept _ _ _ (by decide) (by decide) (by omega), hlow]
    omega
  · rw [hshow.power, hheld]
    exact bitAt_setBit ..
  · rw [hshow.mem, ht, hfold.form, hform]
    rfl

-- recovery ------------------------------------------------------------------------------------------------------------

/-- A step of the recovery, with no floor in force. -/
theorem exec_cclkRecoveryStep (hclk : Clocked s) (hfloor : s.power.floor = false) : ∃ x q, exec .cclkRecoveryStep s = .next
    (if 98 * capW s ≤ 100 * rget s Reg.POWER_POWER_W then { s with time := x, queues := q }
      else showThrottle (((s.power.capHeld.map (·.1)).filter (mayRaise s)).foldl raiseCluster { s with time := x, queues := q })) := by
  obtain ⟨x, q, hadv⟩ := advanceTo_form s (nextGrid s 1000000)
  have hoff : floorOff { s with time := x, queues := q } = { s with time := x, queues := q } := if_neg (by simp [hfloor])
  refine ⟨x, q, congrArg Host.Outcome.next ((live_of_clocked hclk _).trans ?_)⟩
  simp only [hadv, hoff]
  rfl

theorem raiseCluster_of_held {c : Nat} (hcoast : coasting s c = false)
    (hlt : rget s Reg.POWER_CCLK_APPLIED 0 c + 25 < rget s Reg.POWER_CCLK_MHZ 0 c) :
    ∃ x, raiseCluster s c = rset { s with clocks := x } Reg.POWER_CCLK_APPLIED 0 c (rget s Reg.POWER_CCLK_APPLIED 0 c + 25) := by
  obtain ⟨x, hx⟩ := setCclk_form s c (rget s Reg.POWER_CCLK_APPLIED 0 c + 25)
  have hmin : min (rget s Reg.POWER_CCLK_MHZ 0 c) (rget s Reg.POWER_CCLK_APPLIED 0 c + 25) = rget s Reg.POWER_CCLK_APPLIED 0 c + 25 := by omega
  refine ⟨x, Eq.trans ?_ hx⟩
  simp only [raiseCluster, hcoast, hmin]
  rw [if_neg (by decide), if_neg (by omega)]

/-- A held cluster rises by one step. -/
theorem cclkRecoveryStep_raises {c k : Nat} (hclk : Clocked s) (hfloor : s.power.floor = false)
    (hlow : 100 * rget s Reg.POWER_POWER_W < 98 * capW s) (hheld : s.power.capHeld = [(c, k)]) (hhot : s.power.hot = [])
    (hcoast : coasting s c = false) (hlt : rget s Reg.POWER_CCLK_APPLIED 0 c + 25 < rget s Reg.POWER_CCLK_MHZ 0 c)
    (hw : rget s Reg.POWER_CCLK_MHZ 0 c < 4096) (hc : c < 64) : Yields .cclkRecoveryStep s (fun t =>
      rget t Reg.POWER_CCLK_APPLIED 0 c = rget s Reg.POWER_CCLK_APPLIED 0 c + 25 ∧ t.power.capHeld = [(c, k)] ∧ t.mem = s.mem) := by
  obtain ⟨x, q, hexec⟩ := exec_cclkRecoveryStep hclk hfloor
  have hmay : mayRaise s c = true := by simp [mayRaise, hhot, hfloor]
  have hlist : (s.power.capHeld.map (·.1)).filter (mayRaise s) = [c] := by simp [hheld, hmay]
  obtain ⟨y, hraise⟩ := raiseCluster_of_held (s := { s with time := x, queues := q }) hcoast hlt
  rw [if_neg (Nat.not_le.mpr hlow), hlist, List.foldl_cons, List.foldl_nil, hraise] at hexec
  have hshow := shown_showThrottle (rset { s with time := x, queues := q, clocks := y } Reg.POWER_CCLK_APPLIED 0 c
    (rget s Reg.POWER_CCLK_APPLIED 0 c + 25))
  refine ⟨_, hexec, (hshow.kept _ _ _ (by decide) (by decide) (by omega)).trans ?_, ?_, hshow.mem⟩
  · exact (rget_rset_same ..).trans (Nat.mod_eq_of_lt (show _ < 4096 by omega))
  · exact (congrArg PowerSt.capHeld hshow.power).trans hheld

-- temperature ---------------------------------------------------------------------------------------------------------

/-- A report noted: the die's temperature, and the hottest one. -/
def reportNoted (s : State) (d celsius : Nat) : State :=
  let t := { s with power := { s.power with temp := mapSet s.power.temp d celsius } }
  rset t Reg.POWER_TEMP_MAX_C 0 0 (min 255 (tempMax t))

theorem rget_reportNoted (s : State) (d celsius : Nat) {f : Fld} (hf : f.code ≠ Reg.POWER_TEMP_MAX_C.code) :
    rget (reportNoted s d celsius) f = rget s f :=
  rget_rset_of_code _ hf (by decide) (by decide) (by decide) (by decide) _

theorem exec_dieTemperatureReport (hclk : Clocked s) (d : DieId) (celsius : Nat) : ∃ x, exec (.dieTemperatureReport d celsius) s = .next
    (if rget s Reg.POWER_TRIP_C ≤ celsius then trip (excursion (reportNoted s d.val celsius) d.val)
    else if rget s Reg.POWER_THROTTLE_C ≤ celsius then x
    else if celsius + 5 < rget s Reg.POWER_THROTTLE_C then showThrottle { reportNoted s d.val celsius with
      power := { (reportNoted s d.val celsius).power with hot := dropAll s.power.hot d.val } }
    else reportNoted s d.val celsius) := by
  rw [← rget_reportNoted s d.val celsius (f := Reg.POWER_TRIP_C) (by decide),
    ← rget_reportNoted s d.val celsius (f := Reg.POWER_THROTTLE_C) (by decide)]
  exact ⟨_, congrArg Host.Outcome.next ((if_neg (by simp [hclk.1])).trans (if_neg (fun h => absurd (hclk.2.symm.trans h) (by decide))))⟩

/-- A die that is no longer hot. -/
theorem dieTemperatureReport_cool {d : DieId} {celsius : Nat} (hclk : Clocked s) (h : celsius + 5 < rget s Reg.POWER_THROTTLE_C)
    (htrip : rget s Reg.POWER_THROTTLE_C ≤ rget s Reg.POWER_TRIP_C) : Yields (.dieTemperatureReport d celsius) s (fun t =>
      mapFind t.power.temp d.val = some celsius ∧ d.val ∉ t.power.hot ∧ t.power.tripped = false ∧
        rget t Reg.POWER_TEMP_MAX_C = min 255 (tempMax t) ∧ t.mem = s.mem ∧ t.queues = s.queues) := by
  obtain ⟨x, hexec⟩ := exec_dieTemperatureReport hclk d celsius
  rw [if_neg (by omega), if_neg (by omega), if_pos h] at hexec
  have hshow := shown_showThrottle { reportNoted s d.val celsius with
    power := { (reportNoted s d.val celsius).power with hot := dropAll s.power.hot d.val } }
  refine ⟨_, hexec, ?_, ?_, ?_, ?_, hshow.mem, hshow.queues⟩
  · rw [hshow.power]
    exact mapFind_mapSet_same ..
  · rw [hshow.power]
    exact mem_dropAll s.power.hot d.val
  · rw [hshow.power]
    exact hclk.2
  · rw [hshow.kept _ _ _ (by decide) (by decide) (by decide), tempMax, hshow.power]
    exact (rget_rset_same ..).trans (Nat.mod_eq_of_lt (show min 255 _ < 256 by omega))

theorem excursion_parts (s : State) (d : Nat) : (excursion s d).flash = s.flash ∧ bootStage (excursion s d) = bootStage s := by
  unfold excursion
  split
  · exact ⟨rfl, rfl⟩
  · have h := served_charge { s with power := { s.power with hot := s.power.hot ++ [d] } } 6 (diePart d)
    refine ⟨?_, h.regs.codesKept Reg.PMC_BOOT_STAGE 0 0 (by decide) (by decide) (by decide)⟩
    rw [h.form]

/-- The state that a trip leaves, before THROTTLE and the record. -/
def tripCore (s : State) : State :=
  let t := packageCore s
  let t := { t with
    resets := { t.resets with gens := s.resets.gens }, boot := s.boot
    power := { t.power with tripped := true }, pins := { t.pins with pwrGood := false } }
  rset (rset (rset t Reg.PMC_BOOT_STAGE 0 0 (bootStage s)) Reg.DIMTAB_READY 0 0 (rget s Reg.DIMTAB_READY))
    Reg.DIMTAB_SHAPE_OK 0 0 (rget s Reg.DIMTAB_SHAPE_OK)

theorem tripCore_parts (s : State) : (tripCore s).power.tripped = true ∧ (tripCore s).power.on = [136] ∧ (tripCore s).mem = [] ∧
    (tripCore s).queues = [] ∧ (tripCore s).pins.pwrGood = false ∧ (tripCore s).flash = s.flash ∧ bootStage (tripCore s) = bootStage s % 16 := by
  obtain ⟨hmem, -, hqueues, -, -, -, hon, hflash, -, -⟩ := packageCore_parts s
  refine ⟨rfl, ?_, ?_, ?_, rfl, ?_, ?_⟩
  · simp only [tripCore, rset_power, hon]
  · simp only [tripCore, rset_mem, hmem]
  · simp only [tripCore, rset_queues, hqueues]
  · simp only [tripCore, rset_flash, hflash]
  · simp (disch := decide) only [tripCore, bootStage, rget_rset_of_code, rget_rset_same]
    rfl

/-- A trip: its state, THROTTLE, and the record with its alert. -/
theorem trip_shape (s : State) : ∃ y, RegsOnly (tripCore s) (trip s) ∧ trip s = alert y 2 ∧
    bitAt (rget (trip s) Reg.POWER_THROTTLE) 3 = true ∧ bootStage (trip s) = bootStage (tripCore s) := by
  obtain ⟨a, b, hshow⟩ := showThrottle_shape (tripCore s)
  rw [show (tripCore s).power.tripped = true from rfl] at hshow
  obtain ⟨z, hz⟩ : ∃ z, z = rset (tripCore s) Reg.POWER_THROTTLE 0 0 (b2n a + b2n b * 2 + b2n (tripCore s).power.floor * 4 + b2n true * 8) :=
    ⟨_, rfl⟩
  have hnote : Noted z (trip s) := by
    rw [hz]
    exact hshow.trans ((noted_raise _ _).trans (noted_alert _ 2))
  refine ⟨_, ?_, rfl, ?_, ?_⟩
  · rw [RegsOnly, hnote.regsOnly, hz]
    rfl
  · rw [hnote.kept _ _ _ (by decide) (by decide) (by decide), hz, rget_rset_same]
    cases a <;> cases b <;> cases (tripCore s).power.floor <;> decide
  · rw [bootStage, hnote.kept _ _ _ (by decide) (by decide) (by decide), hz]
    exact rget_rset_of_code _ (by decide) (by decide) (by decide) (by decide) (by decide) _

theorem dieTemperatureReport_trips {d : DieId} {celsius : Nat} (hclk : Clocked s) (h : rget s Reg.POWER_TRIP_C ≤ celsius) :
    Yields (.dieTemperatureReport d celsius) s (fun t =>
      t.power.tripped = true ∧ t.power.on = [136] ∧ t.mem = [] ∧ t.queues = [] ∧ t.pins.pwrGood = false ∧ t.flash = s.flash ∧
        bitAt (rget t Reg.POWER_THROTTLE) 3 = true ∧ bitAt (rget t Reg.SMB_ALERT_CAUSE) 2 = true ∧ bootStage t = bootStage s % 16) := by
  obtain ⟨x, hexec⟩ := exec_dieTemperatureReport hclk d celsius
  rw [if_pos h] at hexec
  obtain ⟨e, he⟩ : ∃ e, e = excursion (reportNoted s d.val celsius) d.val := ⟨_, rfl⟩
  have hex := excursion_parts (reportNoted s d.val celsius) d.val
  rw [← he] at hexec hex
  obtain ⟨y, hform, halert, hthrottle, hstage⟩ := trip_shape e
  obtain ⟨htripped, hon, hmem, hqueues, hgood, hflash, hboot⟩ := tripCore_parts e
  refine ⟨_, hexec, ?_⟩
  refine ⟨?_, ?_, hform.mem.trans hmem, hform.queues.trans hqueues, ?_, hform.flash.trans (hflash.trans hex.1), hthrottle, ?_, ?_⟩
  · rw [hform]
    exact htripped
  · rw [hform]
    exact hon
  · rw [hform]
    exact hgood
  · rw [halert]
    exact bitAt_rbit y Reg.SMB_ALERT_CAUSE 0 0 (by decide) true
  · rw [hstage, hboot, hex.2]
    exact congrArg (· % 16) (rget_reportNoted s d.val celsius (by decide))

-- the floor -----------------------------------------------------------------------------------------------------------

/-- Domains off: clocks and the power of the domains. -/
theorem domainsOff_form (s : State) (l : List Nat) : ∃ x, domainsOff s l =
    { s with clocks := x, power := { s.power with on := s.power.on.filter (fun i => !l.contains i) } } := by
  have hfold : ∃ x : SMap ClockSt, l.foldl (fun s i => spoil s (domainClocks i).1 (domainClocks i).2) s = { s with clocks := x } := by
    refine List.foldlRecOn l _ (motive := fun t => ∃ x : SMap ClockSt, t = { s with clocks := x }) ⟨s.clocks, rfl⟩ ?_
    rintro t ⟨x, rfl⟩ i -
    exact spoil_clocks { s with clocks := x } (domainClocks i).1 (domainClocks i).2
  obtain ⟨x, hx⟩ := hfold
  exact ⟨x, by rw [domainsOff, hx]⟩

theorem floorOn_shape (s : State) : ∃ l, floorOn s = showThrottle (domainsOff ((List.range 64).foldl (fun s c => lowerCluster s c 4096 2)
    { s with power := { s.power with floor := true } }) l) := by
  unfold floorOn
  dsimp only
  exact ⟨_, rfl⟩

/-- The floor: every cluster at 400 MHz. -/
theorem floorOn_parts {c : ClusterId} (hlo : 400 < rget s Reg.POWER_CCLK_APPLIED 0 c.val) (hhi : rget s Reg.POWER_CCLK_APPLIED 0 c.val < 4096) :
    rget (floorOn s) Reg.POWER_CCLK_APPLIED 0 c.val = 400 ∧ (floorOn s).power.floor = true ∧ (floorOn s).mem = s.mem := by
  have hrange : ∀ c ∈ List.range 64, c < 64 := fun _ h => List.mem_range.mp h
  obtain ⟨t, ht, hlow, -⟩ := foldl_lowerCluster 4096 (i := 2) hrange List.nodup_range (List.mem_range.mpr c.isLt)
    { s with power := { s.power with floor := true } } (a := rget s Reg.POWER_CCLK_APPLIED 0 c.val) rfl (by omega) hhi
  have hfold := (lowered_foldl 4096 2 _ hrange { s with power := { s.power with floor := true } }).form
  rw [← ht] at hfold
  obtain ⟨l, hl⟩ := floorOn_shape s
  rw [← ht] at hl
  obtain ⟨x, hoff⟩ := domainsOff_form t l
  have hshow := shown_showThrottle (domainsOff t l)
  rw [← hl] at hshow
  refine ⟨?_, ?_, ?_⟩
  · rw [hshow.kept _ _ _ (by decide) (by decide) (by omega), hoff]
    exact hlow.trans (by omega)
  · rw [hshow.power, hoff]
    have hfloor := congrArg (fun t : State => t.power.floor) hfold
    exact hfloor
  · rw [hshow.mem, hoff]
    have hmem := congrArg State.mem hfold
    exact hmem

/-- Settles O16: readings, recovery, reports and the floor. -/
theorem powerAndTemperatureLimits : Obligations.PowerAndTemperatureLimits := by
  refine ⟨⟨fun s watts hclk h => powerMeasurement_within hclk h, fun s watts c hclk h hon hlo hhi => powerMeasurement_above hclk h hon hlo hhi,
    fun s hclk hfloor h => ?_, fun s c k hclk hfloor hlow hheld _ hhot hcoast hlt hw hc =>
      cclkRecoveryStep_raises hclk hfloor hlow hheld hhot hcoast hlt hw hc⟩,
    fun s d celsius hclk h htrip => dieTemperatureReport_cool hclk h htrip, fun s d celsius hclk h => dieTemperatureReport_trips hclk h,
    fun s hclk hstage => ?_, fun s c hlo hhi => floorOn_parts hlo hhi, fun s => rfl⟩
  · obtain ⟨x, q, hexec⟩ := exec_cclkRecoveryStep hclk hfloor
    rw [if_pos h] at hexec
    exact ⟨_, hexec, rfl, rfl, rfl⟩
  · exact congrArg Host.Outcome.next ((if_neg hstage).trans
      (live_of_clocked (s := { s with power := { s.power with thermLow := true } }) hclk _))

end Sys2Proof.Machine
end

section
/-! PROOFS. Power states (R412 to R416). -/

namespace Sys2Proof.Machine

variable {s t u : State}

-- links that lose their power -----------------------------------------------------------------------------------------

/-- t differs from s in what the links, the router and their counts hold, and in registers. -/
def Relinked (s t : State) : Prop :=
  t = { s with
    regs := t.regs, ledger := t.ledger, out := t.out, pins := { s.pins with acked := t.pins.acked }, links := t.links, route := t.route
    resets := { s.resets with lastSent := t.resets.lastSent }, perturb := t.perturb }

theorem Relinked.trans (h : Relinked s t) (g : Relinked t u) : Relinked s u := by
  unfold Relinked at *
  rw [g, h]

theorem Sent.relinked (h : Sent s t) : Relinked s t := h.form

theorem relinked_rset (s : State) (f : Fld) (i j v : Nat) : Relinked s (rset s f i j v) := rfl

theorem relinked_rinc (s : State) (f : Fld) (i j n : Nat) : Relinked s (rinc s f i j n) := by
  obtain ⟨v, hv⟩ := rinc_eq_rset s f i j n
  rw [hv]
  exact relinked_rset ..

theorem relinked_foldl {α : Type} {f : State → α → State} (hf : ∀ s x, Relinked s (f s x)) (l : List α) (s : State) :
    Relinked s (l.foldl f s) := by
  induction l generalizing s with
  | nil => rfl
  | cons x l ih => exact (hf s x).trans (ih _)

theorem relinked_showLanes (s : State) (l : Nat) : Relinked s (showLanes s l) := by
  refine relinked_foldl (fun s n => ?_) _ s
  dsimp only
  split <;> rfl

theorem relinked_loseFlits (s : State) (l : Nat) : Relinked s (loseFlits s l) :=
  (relinked_rinc s Reg.ZLINK_LOST_FLITS l 0 _).trans
    (Relinked.trans (t := setLink _ l _) rfl (relinked_foldl (fun s p => (sent_forward s none (unrouted s l p)).relinked) _ _))

/-- A link disabled. -/
theorem relinked_enableApply_zero (s : State) (l : Nat) : Relinked s (enableApply l 0 s) := by
  unfold enableApply
  dsimp only
  rw [if_neg (by decide)]
  split
  · rfl
  · exact (relinked_rset s Reg.ZLINK_ENABLE l 0 0).trans ((relinked_rset _ Reg.ZLINK_STATE l 0 0).trans
      ((relinked_loseFlits _ l).trans (relinked_showLanes _ l)))

theorem relinked_quadOff (s : State) (i : Nat) : Relinked s (quadOff s i) :=
  relinked_foldl (fun s l => relinked_enableApply_zero s l) _ s

theorem relinked_moduleDown (s : State) : Relinked s (moduleDown s) :=
  (relinked_foldl (fun s i => relinked_quadOff s i) _ s).trans (relinked_foldl (fun s i => relinked_rset s Reg.MILL_STATE (i / 16) (i % 16) 0) _ _)

theorem relinked_countEntry (s : State) (k : Nat) : Relinked s (countEntry s k) := by
  unfold countEntry
  split <;> rfl

-- entries and exits ---------------------------------------------------------------------------------------------------

theorem sleepOf_setSleep (s : State) (k : Nat) (x : Sleep) : sleepOf (setSleep s k (some x)) k = some x := mapFind_mapSet_same ..

/-- An entry ends: the unit's domains are off, and it sleeps or leaves. -/
theorem entryDone_shape {k : Nat} {n : Fin 5} {woken : Bool} (h : sleepOf s k = some (.entering n woken)) : ∃ y : State,
    y.mem = s.mem ∧ (k ≠ moduleUnit → ∀ i ∈ unitDomains s k, i ∉ y.power.on) ∧
      entryDone s k = setSleep y k (some (if woken then .leaving n else .asleep n)) := by
  obtain ⟨d, hd, hre⟩ : ∃ d, d = (if k = moduleUnit then moduleDown s else s) ∧ Relinked s d := by
    refine ⟨_, rfl, ?_⟩
    split
    · exact relinked_moduleDown s
    · rfl
  obtain ⟨x, hoff⟩ := domainsOff_form d (unitDomains d k)
  have hcount := relinked_countEntry (domainsOff d (unitDomains d k)) k
  refine ⟨countEntry (domainsOff d (unitDomains d k)) k, ?_, fun hk i hi => ?_, ?_⟩
  · have h1 : (countEntry (domainsOff d (unitDomains d k)) k).mem = (domainsOff d (unitDomains d k)).mem := by rw [hcount]
    have h2 : (domainsOff d (unitDomains d k)).mem = d.mem := by rw [hoff]
    have h3 : d.mem = s.mem := by rw [hre]
    exact h1.trans (h2.trans h3)
  · rw [if_neg hk] at hd
    subst hd
    have hon : (countEntry (domainsOff d (unitDomains d k)) k).power.on = d.power.on.filter (fun i => !(unitDomains d k).contains i) := by
      rw [hcount, hoff]
    rw [hon, List.mem_filter, not_and]
    intro _
    simpa using hi
  · rw [entryDone, h, hd]

/-- An exit ends: the unit is awake. -/
theorem sleepOf_exitDone {k : Nat} {n : Fin 5} (h : sleepOf s k = some (.leaving n)) : sleepOf (exitDone s k) k = none := by
  have hnone : mapFind (mapErase s.power.sleep k) k = none := by rw [mapFind_mapErase, if_pos rfl]
  rw [exitDone, h]
  dsimp only
  split <;> exact hnone

/-- Settles O17: each event by its own rule. -/
theorem powerStates : Obligations.PowerStates := by
  refine ⟨fun s u n hclk h => ?_, fun s u n hclk h => ?_, fun s u n ns hclk h hn => ?_, fun s u n hclk h => ⟨?_, sleepOf_exitDone h⟩,
    fun s n hclk h hw => ?_⟩
  · obtain ⟨y, hmem, hon, heq⟩ := entryDone_shape h
    exact ⟨_, congrArg Host.Outcome.next ((live_of_clocked hclk _).trans heq), sleepOf_setSleep .., hmem, fun i hi hk => hon hk i hi⟩
  · obtain ⟨y, hmem, -, heq⟩ := entryDone_shape h
    exact ⟨_, congrArg Host.Outcome.next ((live_of_clocked hclk _).trans heq), sleepOf_setSleep .., hmem⟩
  · refine congrArg Host.Outcome.next ((live_of_clocked hclk _).trans ?_)
    simp only [h, hn]
  · refine congrArg Host.Outcome.next ((live_of_clocked hclk _).trans ?_)
    simp only [h]
  · obtain ⟨v, hv⟩ : ∃ v, v = BitVec.ofNat 64 (rget64 s Reg.POWER_WAKE_AT_LO Reg.POWER_WAKE_AT_HI) := ⟨_, rfl⟩
    have hwait := (waited_advanceFt [] s v).1
    have hsleep : sleepOf (advanceFt s v) moduleUnit = some (.asleep n) := by
      rw [hwait]
      exact h
    have hwake : wakeModule (advanceFt s v) = setSleep (advanceFt s v) moduleUnit (some (.leaving n)) := by
      rw [wakeModule, hsleep]
    refine ⟨setSleep (advanceFt s v) moduleUnit (some (.leaving n)), ?_, sleepOf_setSleep .., ?_, ?_⟩
    · refine congrArg Host.Outcome.next ((live_of_clocked hclk _).trans ?_)
      simp only [h, if_neg hw, ← hv]
      exact hwake
    · exact (congrArg State.mem hwait).trans rfl
    · rw [← hv]
      exact advanceFt_reaches s v

end Sys2Proof.Machine
end

section
/-! PROOFS. The Ledger's tails, drain, buckets and summaries (R390 to R393, R401). -/

namespace Sys2Proof.Machine

variable {s t u : State}

-- records of a ring ---------------------------------------------------------------------------------------------------

theorem startBefore_zero {l : List (Nat × Nat)} (h : ∀ r ∈ l, 0 < r.2) : startBefore l 0 = 0 := by
  cases l with
  | nil => rfl
  | cons r l => exact if_neg (Nat.not_le.mpr (h r List.mem_cons_self))

theorem dropUnits_zero {l : List (Nat × Nat)} (h : ∀ r ∈ l, 0 < r.2) : dropUnits l 0 = l := by
  cases l with
  | nil => rfl
  | cons r l => exact if_neg (Nat.not_le.mpr (h r List.mem_cons_self))

/-- A tail moved over the oldest record. -/
theorem startBefore_cons (p n : Nat) {l : List (Nat × Nat)} (h : ∀ r ∈ l, 0 < r.2) : startBefore ((p, n) :: l) n = n := by
  rw [startBefore, if_pos le_rfl, Nat.sub_self, startBefore_zero h, Nat.add_zero]

theorem dropUnits_cons (p n : Nat) {l : List (Nat × Nat)} (h : ∀ r ∈ l, 0 < r.2) : dropUnits ((p, n) :: l) n = l := by
  rw [dropUnits, if_pos le_rfl, Nat.sub_self, dropUnits_zero h]

theorem le_usedUnits_cons (p n : Nat) (l : List (Nat × Nat)) : n ≤ usedUnits ((p, n) :: l) := Nat.le_add_right n _

theorem lostRecord_of_none (h : s.ledger.lost = 0) : lostRecord s = s := if_pos h

/-- The units from a tail to a place n further on, in a ring of size m. -/
theorem tail_distance {p n m : Nat} (h : p + n < m) : (p + n + m - p) % m = n := by
  rw [show p + n + m - p = n + m by omega, Nat.add_mod_right, Nat.mod_eq_of_lt (by omega)]

/-- AO_TAIL moved over the oldest record. -/
theorem aoTailApply_record (w : Writer) {p n : Nat} {rest : List (Nat × Nat)} (hcap : rget s Reg.LEDGER_CAP_EN = 0) (hlost : s.ledger.lost = 0)
    (hrecs : s.ledger.recs = (p, n) :: rest) (htail : rget s Reg.LEDGER_AO_TAIL = p) (hend : p + n < 4096) (hrest : ∀ r ∈ rest, 0 < r.2) :
    aoTailApply w (p + n) s = rset { s with ledger := { s.ledger with recs := rest } } Reg.LEDGER_AO_TAIL 0 0 (p + n) := by
  have hk : (p + n + aoUnits - p) % aoUnits = n := tail_distance hend
  have ht : (p + n) % aoUnits = p + n := Nat.mod_eq_of_lt hend
  have hgo : ¬ (0 = 1 ∨ usedUnits ((p, n) :: rest) < n) := by
    rintro (h | h)
    · exact absurd h (by decide)
    · exact absurd (le_usedUnits_cons p n rest) (Nat.not_le.mpr h)
  simp only [aoTailApply, hcap, hrecs, htail, hk, if_neg hgo, startBefore_cons p n hrest, dropUnits_cons p n hrest, ht, if_true]
  exact lostRecord_of_none hlost

/-- CAP_TAIL moved over the oldest record. -/
theorem capTailApply_record (w : Writer) {p n : Nat} {rest : List (Nat × Nat)} (hlost : s.ledger.lost = 0) (hcap : s.ledger.capLost = 0)
    (hrecs : s.ledger.capRecs = (p, n) :: rest) (htail : rget s Reg.LEDGER_CAP_TAIL = p) (hend : p + n < capUnits s) (hrest : ∀ r ∈ rest, 0 < r.2) :
    capTailApply w (p + n) s = rset { s with ledger := { s.ledger with capRecs := rest } } Reg.LEDGER_CAP_TAIL 0 0 (p + n) := by
  have hp : p % capUnits s = p := Nat.mod_eq_of_lt (by omega)
  have hk : (p + n + capUnits s - p) % capUnits s = n := tail_distance hend
  have ht : (p + n) % capUnits s = p + n := Nat.mod_eq_of_lt hend
  have hgo : ¬ (capUnits s ≤ p + n ∨ usedUnits ((p, n) :: rest) < n) := by
    rintro (h | h)
    · exact absurd hend (Nat.not_lt.mpr h)
    · exact absurd (le_usedUnits_cons p n rest) (Nat.not_le.mpr h)
  have hsum : s.ledger.lost + s.ledger.capLost = s.ledger.lost := by omega
  simp only [capTailApply, hrecs, htail, hp, hk, if_neg hgo, startBefore_cons p n hrest, dropUnits_cons p n hrest, ht, if_true, hsum]
  rw [hcap]
  exact lostRecord_of_none hlost

-- the drain -----------------------------------------------------------------------------------------------------------

/-- The drain moves the oldest record, or passes a PAD. -/
theorem exec_ledgerDrain {p n : Nat} {rest : List (Nat × Nat)} (hm : mayDrain s = true) (hrecs : s.ledger.recs = (p, n) :: rest) :
    exec .ledgerDrain s = .next
      (let bytes := memRead s.ledger.ao (16 * p) (16 * n)
      let x := if leNat ((bytes.drop 6).take 2) = 0xFFFF then Access.start s 15 none else capCollect s bytes n
      if x.stalled then s
      else lostRecord (rset { x.s with ledger := { x.s.ledger with recs := rest ++ x.s.ledger.recs.drop (rest.length + 1) } }
        Reg.LEDGER_AO_TAIL 0 0 ((p + n) % aoUnits))) := by
  refine congrArg Host.Outcome.next ((if_neg (by simp [hm])).trans ?_)
  simp only [hrecs, List.length_cons]

theorem ledgerDrain_pad {p n : Nat} {rest : List (Nat × Nat)} (hm : mayDrain s = true) (hrecs : s.ledger.recs = (p, n) :: rest)
    (hlost : s.ledger.lost = 0) (hpad : leNat (((memRead s.ledger.ao (16 * p) (16 * n)).drop 6).take 2) = 0xFFFF) : exec .ledgerDrain s =
      .next (rset { s with ledger := { s.ledger with recs := rest } } Reg.LEDGER_AO_TAIL 0 0 ((p + n) % 4096)) := by
  have hdrop : rest ++ s.ledger.recs.drop (rest.length + 1) = rest := by
    rw [hrecs, List.drop_of_length_le (by simp), List.append_nil]
  rw [exec_ledgerDrain hm hrecs]
  simp only [if_pos hpad, Access.start, hdrop]
  exact congrArg Host.Outcome.next (lostRecord_of_none hlost)

-- buckets -------------------------------------------------------------------------------------------------------------

theorem getD_set_same (l : List Nat) (p v : Nat) : (l.set p v).getD p 0 = if p < l.length then v else 0 := by
  rw [List.getD_eq_getElem?_getD, List.getElem?_set]
  simp only [if_true]
  split <;> rfl

theorem tokenRefill_parts (hf : frozen s = false) (p : Fin 8) : Yields (.tokenRefill p) s (fun t =>
    t.ledger.base.getD p.val 0 = (let b := s.ledger.base.getD p.val 0
      if p.val < s.ledger.base.length then min (b + 1) (max b (rget s Reg.LEDGER_DEPTH 0 p.val)) else 0) ∧
      (p.val < s.ledger.grid.length → t.ledger.grid.getD p.val 0 =
        s.ledger.grid.getD p.val 0 + 1000 * rget s Reg.LEDGER_REFILL_US 0 p.val) ∧ t.regs = s.regs ∧ t.mem = s.mem) := by
  obtain ⟨x, q, hadv⟩ := advanceTo_form s (s.ledger.grid.getD p.val 0)
  refine ⟨_, congrArg Host.Outcome.next (if_neg (by simp [hf])), ?_⟩
  dsimp only
  rw [hadv]
  refine ⟨getD_set_same .., fun hlt => ?_, rfl, rfl⟩
  exact (getD_set_same ..).trans (if_pos hlt)

-- summaries -----------------------------------------------------------------------------------------------------------

theorem supp_rinc (s : State) (f : Fld) (i j n : Nat) : (rinc s f i j n).ledger.supp = s.ledger.supp := by rw [rinc_ledger]

theorem supp_overwriteFor (s : State) (n fuel : Nat) : (overwriteFor s n fuel).ledger.supp = s.ledger.supp := by
  induction fuel generalizing s with
  | zero => rfl
  | succ fuel ih =>
    unfold overwriteFor
    split
    · rfl
    · split
      · rfl
      · dsimp only
        rw [ih]
        split
        · rfl
        · rw [supp_rinc]
          rfl

theorem supp_msix (s : State) (v : Nat) : (msix s v).ledger.supp = s.ledger.supp := by
  unfold msix
  split <;> rfl

theorem supp_placeRecord (s : State) (prio code : Nat) (sm : Bool) (ft : W64) (src loc body units : Nat) :
    (placeRecord s prio code sm ft src loc body units).ledger.supp = s.ledger.supp := by
  unfold placeRecord
  dsimp only
  split <;> split
  · exact supp_msix ..
  · rfl
  · exact supp_msix ..
  · rfl

theorem supp_collect (s : State) (prio code : Nat) (sm : Bool) (ft : W64) (src loc body units : Nat) :
    (collect s prio code sm ft src loc body units).ledger.supp = s.ledger.supp := by
  unfold collect
  dsimp only
  split
  · exact (supp_placeRecord ..).trans (supp_overwriteFor ..)
  · split
    · exact supp_placeRecord ..
    · exact supp_rinc ..

/-- t differs from s as a summary may change it: a record, SUMMARIES, and nothing of what is suppressed. -/
structure Summed (s t : State) : Prop where
  form : RegsOnly s t
  kept : CodesKept (Reg.LEDGER_SUMMARIES.code :: noteFields.map (·.code)) s t
  supp : t.ledger.supp = s.ledger.supp

theorem Summed.trans (h : Summed s t) (g : Summed t u) : Summed s u := by
  refine ⟨?_, h.kept.trans g.kept, g.supp.trans h.supp⟩
  have hform := h.form
  have gform := g.form
  unfold RegsOnly at *
  rw [gform, hform]

theorem summed_summaryOf (s : State) (b : Nat × Supp) : Summed s (summaryOf s b) := by
  have hcollect (prio code : Nat) (sm : Bool) (ft : W64) (src loc body units : Nat) : Summed s (collect s prio code sm ft src loc body units) :=
    ⟨(noted_collect ..).regsOnly, (noted_collect ..).kept.mono (List.subset_cons_self _ _), supp_collect ..⟩
  have hcount (t : State) : Summed t (rinc t Reg.LEDGER_SUMMARIES) := by
    obtain ⟨v, hv⟩ := rinc_eq_rset t Reg.LEDGER_SUMMARIES 0 0 1
    rw [hv]
    exact ⟨rfl, codesKept_rset t (by decide) (by decide) (by decide) v, rfl⟩
  unfold summaryOf
  dsimp only
  split
  · exact hcollect ..
  · exact (hcollect ..).trans (hcount _)

/-- All that closing an interval does. -/
theorem summed_summaries (s : State) : Summed { s with ledger := { s.ledger with supp := [] } } (summaries s) := by
  have hfold : ∀ (l : List (Nat × Supp)) (s : State), Summed s (l.foldl summaryOf s) := by
    intro l
    induction l with
    | nil => exact fun s => ⟨rfl, codesKept_of_regs _ rfl, rfl⟩
    | cons b l ih => exact fun s => (summed_summaryOf s b).trans (ih _)
  exact hfold ..

/-- Settles O18: tails, drain, buckets and summaries in turn. -/
theorem ledgerCommands : Obligations.LedgerCommands := by
  refine ⟨fun s u w p n rest hl hcap hlost hrecs htail hn hend hrest => ?_, fun s u w v hl hcap => ?_,
    fun s u w p n rest hl hlost hcap hrecs htail hn hend hw hrest => ?_, fun s p n rest hm hrecs hlost hpad => ledgerDrain_pad hm hrecs hlost hpad,
    fun s p n rest hm hrecs hpad => ⟨fun hst => ?_, fun hst => ?_⟩, fun s p hf => tokenRefill_parts hf p, fun s hf => ?_,
    fun s u w p v hl hv => ?_, fun s u w p v hl hv => ?_, fun s u w v hl hlo hhi => ?_⟩
  · have hv : (BitVec.ofNat 12 (p + n)).toNat = p + n := Nat.mod_eq_of_lt hend
    refine congrArg Host.Outcome.next ((gated_of_lands hl _ _).trans ?_)
    rw [hv]
    exact aoTailApply_record w hcap hlost hrecs htail hend hrest
  · exact congrArg Host.Outcome.next ((gated_of_lands hl _ _).trans (if_pos (Or.inl hcap)))
  · have hv : (BitVec.ofNat 26 (p + n)).toNat = p + n := Nat.mod_eq_of_lt hw
    refine congrArg Host.Outcome.next ((gated_of_lands hl _ _).trans ?_)
    rw [hv]
    exact capTailApply_record w hlost hcap hrecs htail hend hrest
  · rw [exec_ledgerDrain hm hrecs]
    simp only [if_neg hpad, hst, if_true]
  · rw [exec_ledgerDrain hm hrecs]
    simp only [if_neg hpad, hst]
    rfl
  · obtain ⟨x, q, hadv⟩ := advanceTo_form s s.ledger.sumEnd
    have hsum := summed_summaries (advanceTo s s.ledger.sumEnd)
    have hreg : rget (summaries (advanceTo s s.ledger.sumEnd)) Reg.LEDGER_SUMMARY_MS = rget s Reg.LEDGER_SUMMARY_MS := by
      rw [hsum.kept _ _ _ (by decide) (by decide) (by decide), hadv]
      rfl
    refine ⟨_, congrArg Host.Outcome.next (if_neg (by simp [hf])), ?_, ?_, ?_⟩
    · exact hsum.supp
    · exact congrArg (s.ledger.sumEnd + 1000000 * ·) hreg
    · refine hsum.form.mem.trans ?_
      rw [hadv]
  · have hpos : 0 < v.toNat := Nat.pos_of_ne_zero fun h => hv (BitVec.eq_of_toNat_eq h)
    have hset := setClamped_of_legal (s := u) w ledgerPage Reg.LEDGER_REFILL_US p.val v.isLt
      (show clampNat 1 16777215 v.toNat = v.toNat by have := v.isLt; unfold clampNat; omega)
    have hread : rget (rset u Reg.LEDGER_REFILL_US 0 p.val v.toNat) Reg.LEDGER_REFILL_US 0 p.val = v.toNat :=
      (rget_rset_same ..).trans (Nat.mod_eq_of_lt v.isLt)
    refine ⟨setGrid (rset u Reg.LEDGER_REFILL_US 0 p.val v.toNat) p.val (u.time.cyc + 1000 * v.toNat),
      congrArg Host.Outcome.next ((gated_of_lands hl _ _).trans ?_), hread, rfl, onlyField_rset u Reg.LEDGER_REFILL_US 0 p.val v.toNat⟩
    simp only [refillUsApply, hset]
    rw [show ledgerPage.inst = 0 from rfl, hread]
    rfl
  · have hpos : 0 < v.toNat := Nat.pos_of_ne_zero fun h => hv (BitVec.eq_of_toNat_eq h)
    have hset := setClamped_of_legal (s := u) w ledgerPage Reg.LEDGER_DEPTH p.val v.isLt
      (show clampNat 1 255 v.toNat = v.toNat by have := v.isLt; unfold clampNat; omega)
    have hread : rget (rset u Reg.LEDGER_DEPTH 0 p.val v.toNat) Reg.LEDGER_DEPTH 0 p.val = v.toNat :=
      (rget_rset_same ..).trans (Nat.mod_eq_of_lt v.isLt)
    refine ⟨mapTokens (rset u Reg.LEDGER_DEPTH 0 p.val v.toNat) p.val
        (fun t => min t (depthOf (rset u Reg.LEDGER_DEPTH 0 p.val v.toNat) p.val)),
      congrArg Host.Outcome.next ((gated_of_lands hl _ _).trans ?_), hread, onlyField_rset u Reg.LEDGER_DEPTH 0 p.val v.toNat, ?_, rfl⟩
    · simp only [depthApply, hset]
      rfl
    · exact congrArg (fun d => u.ledger.base.set p.val (min (u.ledger.base.getD p.val 0) d)) hread
  · obtain ⟨y, hy⟩ : ∃ y, y = summaries u := ⟨_, rfl⟩
    have hsum := summed_summaries u
    rw [← hy] at hsum
    have hset := setClamped_of_legal (s := y) w ledgerPage Reg.LEDGER_SUMMARY_MS 0 v.isLt
      (show clampNat 10 60000 v.toNat = v.toNat by unfold clampNat; omega)
    have hread : rget (rset y Reg.LEDGER_SUMMARY_MS 0 0 v.toNat) Reg.LEDGER_SUMMARY_MS = v.toNat :=
      (rget_rset_same ..).trans (Nat.mod_eq_of_lt v.isLt)
    have htime : y.time = u.time := by rw [hsum.form]
    refine ⟨_, congrArg Host.Outcome.next (gated_of_lands hl _ _), ?_⟩
    simp only [summaryMsApply, ← hy, hset]
    refine ⟨hread, hsum.supp, ?_, hsum.form.mem⟩
    rw [show ledgerPage.inst = 0 from rfl, hread]
    exact congrArg (fun x : TimeSt => x.cyc + 1000000 * v.toNat) htime

end Sys2Proof.Machine
end

section
/-! PROOFS. Writes of a ring's TAIL, COMP_HEAD and ENABLE, and the offsets of BAR2 (R122 to R125, R152, R155). -/

namespace Sys2Proof.Machine

variable {s t u : State}

-- BAR2 ----------------------------------------------------------------------------------------------------------------

/-- The offsets of a tenant's page, each with what it names. -/
theorem bar2At_named (t : TenantId) (r : CDie) :
    bar2At (BitVec.ofNat 17 (0x2000 * t.val + 8 * r.val)) = some (t, .tail r) ∧
    bar2At (BitVec.ofNat 17 (0x2000 * t.val + 8 * r.val + 4)) = some (t, .compHead r) ∧
    bar2At (BitVec.ofNat 17 (0x2000 * t.val + 0x1000 + 16 * r.val)) = some (t, .accept r) ∧
    bar2At (BitVec.ofNat 17 (0x2000 * t.val + 0x1004 + 16 * r.val)) = some (t, .recorded r) ∧
    bar2At (BitVec.ofNat 17 (0x2000 * t.val + 0x1008 + 16 * r.val)) = some (t, .state r) ∧
    bar2At (BitVec.ofNat 17 (0x2000 * t.val + 0x100C + 16 * r.val)) = some (t, .inflight r) := by
  revert t r
  decide +kernel

/-- A read of BAR2 returns the register that its offset names; the write-only indices read zero. -/
theorem bar2Read_of_named (s : State) {off : BitVec 17} {t : TenantId} {r : CDie} :
    (bar2At off = some (t, .accept r) → bar2Read s off = ringIdx s Reg.DOCK_RING_ACCEPT r.val t.val) ∧
    (bar2At off = some (t, .recorded r) → bar2Read s off = ringIdx s Reg.DOCK_RING_RECORDED r.val t.val) ∧
    (bar2At off = some (t, .state r) → bar2Read s off = ringIdx s Reg.DOCK_RING_STATE r.val t.val) ∧
    (bar2At off = some (t, .inflight r) → bar2Read s off = ringIdx s Reg.DOCK_RING_INFLIGHT r.val t.val) ∧
    (bar2At off = some (t, .tail r) → bar2Read s off = 0 ∧ (hostUp s = true → tailBy s (.bar2 off) r t = some ⟨12, t⟩)) ∧
    (bar2At off = some (t, .compHead r) → bar2Read s off = 0 ∧ (hostUp s = true → compHeadBy s (.bar2 off) r t = some ⟨12, t⟩)) := by
  refine ⟨fun h => ?_, fun h => ?_, fun h => ?_, fun h => ?_, fun h => ⟨?_, fun hup => if_pos ⟨h, hup⟩⟩, fun h => ⟨?_, fun hup => if_pos ⟨h, hup⟩⟩⟩ <;>
  · rw [bar2Read, h]
    rfl

-- the ring's own state ------------------------------------------------------------------------------------------------

@[simp] theorem ringOf_rset (s : State) (f : Fld) (i j v n t : Nat) : ringOf (rset s f i j v) n t = ringOf s n t := rfl

@[simp] theorem ringOf_updRing (s : State) (n t : Nat) (f : RingSt → RingSt) : ringOf (updRing s n t f) n t = f (ringOf s n t) :=
  mapGet_mapSet_same ..

@[simp] theorem rget_updRing (s : State) (n t : Nat) (f : RingSt → RingSt) (g : Fld) (i j : Nat) :
    rget (updRing s n t f) g i j = rget s g i j := rfl

/-- Two registers of a ring have places of their own. -/
theorem rget_rset_ring (s : State) {f g : Fld} (h : g.code ≠ f.code) (n : CDie) (t : TenantId) (v : Nat) :
    rget (rset s f n.val t.val v) g n.val t.val = rget s g n.val t.val :=
  rget_rset_of_code s h (by omega) (by omega) (by omega) (by omega) v

/-- STATE as it is shown. -/
theorem rget_showRing (s : State) (n t : Nat) : rget (showRing s n t) Reg.DOCK_RING_STATE n t =
    if rget s Reg.DOCK_RING_ENABLE n t = 1 then (if (ringOf s n t).stalled then 2 else 1) else 0 := by
  refine (rget_rset_same ..).trans ?_
  by_cases hen : rget s Reg.DOCK_RING_ENABLE n t = 1
  · rw [if_pos hen]
    cases hst : (ringOf s n t).stalled <;> simp [hen, Reg.DOCK_RING_STATE]
  · rw [if_neg hen]
    simp [hen]

@[simp] theorem ringOf_showRing (s : State) (n t i j : Nat) : ringOf (showRing s n t) i j = ringOf s i j := rfl

-- TAIL ----------------------------------------------------------------------------------------------------------------

theorem tailTake_of_behind (w : Writer) {n t : Nat} {v : W32} (h : behind v (ringIdx s Reg.DOCK_RING_TAIL n t) = true) :
    tailTake w n t v s = reportFld s (dockPage n) w Reg.DOCK_RING_TAIL t 2 v.toNat (ringIdx s Reg.DOCK_RING_TAIL n t).toNat := if_pos h

/-- A TAIL within the ring is taken; a ring that was stalled shows its state anew. -/
theorem tailTake_of_within (w : Writer) {n t : Nat} {v : W32} (h : behind v (ringIdx s Reg.DOCK_RING_TAIL n t) = false)
    (hin : (v - ringIdx s Reg.DOCK_RING_ACCEPT n t).toNat ≤ ringSlots s n t) :
    tailTake w n t v s = if (ringOf s n t).stalled then
        showRing (updRing (rset s Reg.DOCK_RING_TAIL n t v.toNat) n t (fun r => { r with stalled := false, retries := 0, fetched := [] })) n t
      else rset s Reg.DOCK_RING_TAIL n t v.toNat := by
  have hfar : ¬ ringSlots s n t < (v - ringIdx s Reg.DOCK_RING_ACCEPT n t).toNat := Nat.not_lt.mpr hin
  simp only [tailTake, h, if_neg hfar, Bool.false_eq_true, if_false, ringOf_rset]

theorem rings_reportFld (s : State) (p : Page) (w : Writer) (f : Fld) (idx kind v a : Nat) :
    (reportFld s p w f idx kind v a).rings = s.rings := by
  unfold reportFld report
  dsimp only
  refine (congrArg State.rings (noted_raise _ _).regsOnly).trans ?_
  split <;> rfl

/-- A TAIL beyond one ring is taken as the last that the ring has room for, and reported. -/
theorem tailTake_of_beyond (w : Writer) {n t : Nat} {v : W32} (h : behind v (ringIdx s Reg.DOCK_RING_TAIL n t) = false)
    (hfar : ringSlots s n t < (v - ringIdx s Reg.DOCK_RING_ACCEPT n t).toNat) (hst : (ringOf s n t).stalled = false) :
    tailTake w n t v s = reportFld
      (rset s Reg.DOCK_RING_TAIL n t (ringIdx s Reg.DOCK_RING_ACCEPT n t + BitVec.ofNat 32 (ringSlots s n t)).toNat) (dockPage n) w
      Reg.DOCK_RING_TAIL t 0 v.toNat (ringIdx s Reg.DOCK_RING_ACCEPT n t + BitVec.ofNat 32 (ringSlots s n t)).toNat := by
  have hrun (x : Nat) : (ringOf (reportFld (rset s Reg.DOCK_RING_TAIL n t x) (dockPage n) w Reg.DOCK_RING_TAIL t 0 v.toNat x) n t).stalled =
      false := by
    rw [ringOf, rings_reportFld]
    exact hst
  simp only [tailTake, h, if_pos hfar, Bool.false_eq_true, if_false, hrun]

/-- A ring after a TAIL within it was taken. -/
structure TailTaken (s t : State) (n : CDie) (i : TenantId) (v : W32) : Prop where
  tail : rget t Reg.DOCK_RING_TAIL n.val i.val = v.toNat
  running : (ringOf t n.val i.val).stalled = false
  shape : t = { s with regs := t.regs, rings := t.rings }
  acc : (ringOf t n.val i.val).acc = (ringOf s n.val i.val).acc

theorem tailTaken_of_within (w : Writer) {n : CDie} {i : TenantId} {v : W32}
    (h : behind v (ringIdx s Reg.DOCK_RING_TAIL n.val i.val) = false)
    (hin : (v - ringIdx s Reg.DOCK_RING_ACCEPT n.val i.val).toNat ≤ ringSlots s n.val i.val) :
    TailTaken s (tailTake w n.val i.val v s) n i v := by
  rw [tailTake_of_within w h hin]
  have hv : v.toNat % 2 ^ 32 = v.toNat := Nat.mod_eq_of_lt v.isLt
  cases hst : (ringOf s n.val i.val).stalled with
  | true =>
    rw [if_pos rfl]
    exact ⟨(rget_rset_ring _ (by decide) n i _).trans ((rget_rset_same ..).trans hv), by simp, rfl, by simp⟩
  | false => exact ⟨(rget_rset_same ..).trans hv, hst, rfl, rfl⟩

-- ENABLE --------------------------------------------------------------------------------------------------------------

/-- A ring while ENABLE is being set. -/
def ringOn (s : State) (n t : Nat) : State := showRing (rset s Reg.DOCK_RING_ENABLE n t 1) n t

theorem ringEnableApply_one (w : Writer) {n t : Nat} (h3 : rget s Reg.DOCK_RING_STATE n t ≠ 3)
    (hheld : rget s Reg.DOCK_RING_STATE n t ≠ 4 ∨ (ringOf s n t).heldTail = none) : ringEnableApply w n t 1 s = ringOn s n t := by
  have hone : ¬ 1 % 2 = 0 := by decide
  rw [ringEnableApply, if_neg hone, if_neg h3]
  by_cases h4 : rget s Reg.DOCK_RING_STATE n t = 4
  · rw [if_neg (not_not.mpr h4), ringOf_showRing, ringOf_rset, hheld.resolve_left (fun h => h h4)]
    rfl
  · exact if_pos h4

theorem ringEnableApply_held (w : Writer) {n t : Nat} {h : W32} (h4 : rget s Reg.DOCK_RING_STATE n t = 4)
    (hheld : (ringOf s n t).heldTail = some h) : ringEnableApply w n t 1 s =
      tailTake w n t h (updRing (ringOn s n t) n t (fun r => { r with heldTail := none })) := by
  have hone : ¬ 1 % 2 = 0 := by decide
  have h3 : rget s Reg.DOCK_RING_STATE n t ≠ 3 := by omega
  rw [ringEnableApply, if_neg hone, if_neg h3, if_neg (not_not.mpr h4), ringOf_showRing, ringOf_rset, hheld]
  rfl

theorem ringEnableApply_resetting (w : Writer) {n t : Nat} (h3 : rget s Reg.DOCK_RING_STATE n t = 3) :
    ringEnableApply w n t 1 s = reportFld s (dockPage n) w Reg.DOCK_RING_ENABLE t 2 1 0 := by
  have hone : ¬ 1 % 2 = 0 := by decide
  rw [ringEnableApply, if_neg hone, if_pos h3]

theorem rget_ringOn_state (s : State) (n t : Nat) : rget (ringOn s n t) Reg.DOCK_RING_STATE n t = if (ringOf s n t).stalled then 2 else 1 := by
  have hone : rget (rset s Reg.DOCK_RING_ENABLE n t 1) Reg.DOCK_RING_ENABLE n t = 1 := rget_rset_same ..
  rw [ringOn, rget_showRing, if_pos hone, ringOf_rset]

theorem rget_ringOn_of_code (s : State) {g : Fld} (he : g.code ≠ Reg.DOCK_RING_ENABLE.code) (hs : g.code ≠ Reg.DOCK_RING_STATE.code) (n : CDie)
    (t : TenantId) : rget (ringOn s n.val t.val) g n.val t.val = rget s g n.val t.val :=
  (rget_rset_ring _ hs n t _).trans (rget_rset_ring _ he n t _)

theorem rget_ringOn_enable (s : State) (n : CDie) (t : TenantId) :
    rget (ringOn s n.val t.val) Reg.DOCK_RING_ENABLE n.val t.val = 1 :=
  (rget_rset_ring _ (by decide) n t _).trans (rget_rset_same ..)

/-- ENABLE of a STOPPED ring takes the TAIL held aside. -/
theorem ringEnableApply_held_within (w : Writer) {n : CDie} {t : TenantId} {h : W32} (h4 : rget s Reg.DOCK_RING_STATE n.val t.val = 4)
    (hheld : (ringOf s n.val t.val).heldTail = some h) (hrun : (ringOf s n.val t.val).stalled = false)
    (hb : behind h (ringIdx s Reg.DOCK_RING_TAIL n.val t.val) = false)
    (hin : (h - ringIdx s Reg.DOCK_RING_ACCEPT n.val t.val).toNat ≤ ringSlots s n.val t.val) : ringEnableApply w n.val t.val 1 s =
      rset (updRing (ringOn s n.val t.val) n.val t.val (fun r => { r with heldTail := none })) Reg.DOCK_RING_TAIL n.val t.val h.toNat := by
  have hidx {g : Fld} (he : g.code ≠ Reg.DOCK_RING_ENABLE.code) (hs : g.code ≠ Reg.DOCK_RING_STATE.code) :
      ringIdx (updRing (ringOn s n.val t.val) n.val t.val (fun r => { r with heldTail := none })) g n.val t.val = ringIdx s g n.val t.val :=
    congrArg (BitVec.ofNat 32) (rget_ringOn_of_code s he hs n t)
  have hslots : ringSlots (updRing (ringOn s n.val t.val) n.val t.val (fun r => { r with heldTail := none })) n.val t.val =
      ringSlots s n.val t.val := congrArg (2 ^ ·) (rget_ringOn_of_code s (by decide) (by decide) n t)
  rw [ringEnableApply_held w h4 hheld, tailTake_of_within w (by rwa [hidx (by decide) (by decide)])
    (by rwa [hidx (by decide) (by decide), hslots]), ringOf_updRing]
  exact if_neg (by simp [ringOn, hrun])

/-- ENABLE cleared: the ring forgets what it fetched, and shows that it stands unless it is RESETTING or STOPPED. -/
theorem ringEnableApply_zero (w : Writer) (s : State) (n : CDie) (t : TenantId) : ∃ r : SMap Nat, ringEnableApply w n.val t.val 0 s =
      { updRing s n.val t.val (fun r => { r with fetched := [], retries := 0 }) with regs := r } ∧
    rget { s with regs := r } Reg.DOCK_RING_ENABLE n.val t.val = 0 ∧
    rget { s with regs := r } Reg.DOCK_RING_STATE n.val t.val =
      if 3 ≤ rget s Reg.DOCK_RING_STATE n.val t.val then rget s Reg.DOCK_RING_STATE n.val t.val else 0 := by
  rw [ringEnableApply, if_pos (Nat.zero_mod 2)]
  dsimp only
  have hzero : rget (rset s Reg.DOCK_RING_ENABLE n.val t.val 0) Reg.DOCK_RING_ENABLE n.val t.val = 0 := rget_rset_same ..
  split
  · exact ⟨_, rfl, hzero, rget_rset_ring _ (by decide) n t _⟩
  · refine ⟨_, rfl, (rget_rset_ring _ (by decide) n t _).trans hzero, (rget_showRing _ _ _).trans (if_neg ?_)⟩
    rw [rget_updRing, hzero]
    decide

/-- Settles O19: a TAIL is taken, clamped, refused or held by `tailTake`'s branches, and ENABLE shows STATE. -/
theorem ringIndexWrites : Obligations.RingIndexWrites := by
  unfold Obligations.RingIndexWrites
  refine ⟨⟨bar2At_named, fun s _ _ _ => bar2Read_of_named s, ?_⟩, ?_, ?_, ?_⟩
  · intro s d n t v
    exact ⟨fun h => congrArg Host.Outcome.next (by rw [h]), fun h => congrArg Host.Outcome.next (by rw [h])⟩
  · intro s u d w n t v hby hl
    have hexec : exec (.tailWrite d n t v) s = .next (tailApply w n.val t.val v u) :=
      congrArg Host.Outcome.next ((by rw [hby] : _ = _).trans (gated_of_lands hl _ _))
    have htake (h3 : rget u Reg.DOCK_RING_STATE n.val t.val < 3) : tailApply w n.val t.val v u = tailTake w n.val t.val v u :=
      if_neg (Nat.not_le.mpr h3)
    refine ⟨fun h3 hb hin => ?_, fun h3 hb hfar hst => ?_, fun h3 hb => ?_, fun h3 => ?_⟩
    · obtain ⟨htail, hrun, hshape, hacc⟩ := tailTaken_of_within w hb hin
      refine ⟨_, hexec.trans (congrArg Host.Outcome.next (htake h3)), htail, hrun, hshape, hacc, fun hst => ?_⟩
      rw [tailTake_of_within w hb hin, hst]
      exact ⟨rfl, onlyField_rset u _ _ _ _⟩
    · exact hexec.trans (congrArg Host.Outcome.next ((htake h3).trans (tailTake_of_beyond w hb hfar hst)))
    · exact hexec.trans (congrArg Host.Outcome.next ((htake h3).trans (tailTake_of_behind w hb)))
    · exact ⟨_, hexec.trans (congrArg Host.Outcome.next (if_pos h3)), congrArg RingSt.heldTail (ringOf_updRing ..), rfl⟩
  · intro s u d w n t v hby hl
    have hexec : exec (.compHeadWrite d n t v) s = .next (compHeadApply w n.val t.val v u) :=
      congrArg Host.Outcome.next ((by rw [hby] : _ = _).trans (gated_of_lands hl _ _))
    exact ⟨fun hb => hexec.trans (congrArg Host.Outcome.next (if_neg (by simp [hb]))),
      fun hb => hexec.trans (congrArg Host.Outcome.next (if_pos hb))⟩
  · intro s u w n t hl
    have hexec (en : Bool) : exec (.ringEnableWrite w n t en) s = .next (ringEnableApply w n.val t.val (b2n en) u) :=
      congrArg Host.Outcome.next (gated_of_lands hl _ _)
    refine ⟨fun h3 hheld => ?_, fun h hst hheld hrun hb hin => ?_, fun h3 => ?_, ?_⟩
    · refine ⟨_, (hexec true).trans (congrArg Host.Outcome.next (ringEnableApply_one w h3 hheld)), rget_ringOn_enable u n t, rfl,
        rget_ringOn_state ..⟩
    · refine ⟨_, (hexec true).trans (congrArg Host.Outcome.next (ringEnableApply_held_within w hst hheld hrun hb hin)),
        (rget_rset_ring _ (by decide) n t _).trans (rget_ringOn_enable u n t), (rget_rset_ring _ (by decide) n t _).trans ?_,
        (rget_rset_same ..).trans (Nat.mod_eq_of_lt h.isLt), by simp, rfl⟩
      rw [rget_updRing, rget_ringOn_state, hrun]
      rfl
    · exact (hexec true).trans (congrArg Host.Outcome.next (ringEnableApply_resetting w h3))
    · obtain ⟨r, hr, hen, hst⟩ := ringEnableApply_zero w u n t
      have hring := ringOf_updRing u n.val t.val (fun r => { r with fetched := [], retries := 0 })
      have hfetched := congrArg RingSt.fetched hring
      have hacc := congrArg RingSt.acc hring
      exact ⟨_, (hexec false).trans (congrArg Host.Outcome.next hr), hen, hst, hfetched, hacc, rfl⟩

end Sys2Proof.Machine
end

section
/-! PROOFS. Reads of the register space: read-to-clear counters, the snapshots of the 64-bit fields, and an input that must wait
(R17, R60, R428, R436 to R440). -/

namespace Sys2Proof.Machine

variable {s t u : State}

-- the bus -------------------------------------------------------------------------------------------------------------

/-- The beats of an input change the bus and the fields of its page only. -/
theorem busBeats_shape (s : State) (i n : Nat) (ctl : BusCtl) :
    busBeats s i n ctl = { s with regs := (busBeats s i n ctl).regs, sbus := (busBeats s i n ctl).sbus } ∧
      CodesKept (Reg.sbusFields.map (·.code)) s (busBeats s i n ctl) := by
  have hset (s : State) {f : Fld} (hf : f.code ∈ Reg.sbusFields.map (·.code)) (v : Nat) :
      CodesKept (Reg.sbusFields.map (·.code)) s (rset s f 0 0 v) := codesKept_rset s hf (by decide) (by decide) v
  obtain ⟨b, hb⟩ := rinc_eq_rset s Reg.SBUS_BUSY_CYCLES 0 0 n
  unfold busBeats
  dsimp only
  rw [hb]
  have howner (x y z : Nat) := (hset s (f := Reg.SBUS_BUSY_CYCLES) (by decide) b).trans <|
    (hset _ (f := Reg.SBUS_REQUESTS) (by decide) x).trans <|
    (hset _ (f := Reg.SBUS_LOCKED) (by decide) y).trans (hset _ (f := Reg.SBUS_OWNER_VALID) (by decide) z)
  split
  · exact ⟨rfl, howner _ _ _⟩
  · exact ⟨rfl, (howner _ _ _).trans (hset _ (f := Reg.SBUS_OWNER) (by decide) _)⟩

theorem frozen_awaitInput (s : State) (i : Nat) : frozen (awaitInput s i) = frozen s := by
  unfold awaitInput
  split
  · rfl
  · next c hc =>
    obtain ⟨x, q, hx⟩ := advanceTo_form s c
    dsimp only
    rw [hx]
    rfl

theorem frozen_busRow (h : frozen s = false) (w : Writer) : frozen (busRow s w) = false :=
  ((busBeats_shape ..).2.frozen (by decide)).trans ((frozen_awaitInput ..).trans h)

/-- A read that no lock keeps out reads after its command beat. -/
theorem readRow_of_free (h : frozen s = false) {w : Writer} (hl : lockedOut (awaitInput s w.input.val) w.input.val = false) (off : Nat)
    (inc : W32) : readRow s w off inc =
      emit (busRead (busRow s w) off inc).2 (.readData (BitVec.ofNat 32 (busRead (busRow s w) off inc).1)) := by
  have hgo : ¬ ((!frozen (awaitInput s w.input.val)) = true ∧ lockedOut (awaitInput s w.input.val) w.input.val = true) := by simp [hl]
  have hfr : ¬ frozen s = true := by simp [h]
  have hfr' : ¬ frozen (awaitInput s w.input.val) = true := by simp [frozen_awaitInput, h]
  unfold readRow
  dsimp only
  rw [if_neg hfr, if_neg hgo, if_neg hfr']
  rfl

/-- A read that a lock keeps out waits. -/
theorem readRow_of_lockedOut (h : frozen s = false) {w : Writer} (hl : lockedOut (awaitInput s w.input.val) w.input.val = true) (off : Nat)
    (inc : W32) : readRow s w off inc = awaitInput s w.input.val := by
  have hgo : (!frozen (awaitInput s w.input.val)) = true ∧ lockedOut (awaitInput s w.input.val) w.input.val = true := by
    simp [hl, frozen_awaitInput, h]
  have hfr : ¬ frozen s = true := by simp [h]
  unfold readRow
  dsimp only
  rw [if_neg hfr, if_pos hgo]

-- fields as they read -------------------------------------------------------------------------------------------------

/-- The fields that show other state than the register file's. -/
def shownFields : List Fld :=
  [Reg.LATHE_STATE, Reg.VEC_BUSY, Reg.PORT_BUSY, Reg.CLERK_QUEUE_FILL, Reg.CLERK_WAITING, Reg.UPDATE_STATE, Reg.TALLY_PART_BUSY,
    Reg.TALLY_IN_PROGRESS, Reg.CHEST_IN_PROGRESS, Reg.HOPPER_ACTIVE, Reg.HOPPER_STARVE_CYCLES, Reg.MILL_IN_PROGRESS,
    Reg.TENANT_RESET_CTL_RESET_BUSY, Reg.CLOCK_GATE_STATE, Reg.CLOCK_GATE_REQ, Reg.FTIME_NOW_LO, Reg.FTIME_NOW_HI, Reg.ZLINK_REPLAY_FILL,
    Reg.ROUTE_INDIRECT_BUSY, Reg.ROUTE_PEER_DATA, Reg.RESET_BUSY, Reg.RESET_GEN, Reg.HEALTH_ACT, Reg.HEALTH_WARN, Reg.HEALTH_SCORE,
    Reg.PERTURB_ACTIVE, Reg.FREEZE_CHAIN_LEN, Reg.FREEZE_READOUT_DATA, Reg.FREEZE_STORE_DATA, Reg.POWER_MODULE_STATE, Reg.POWER_DIE_P3,
    Reg.POWER_CLUSTER_P2_LO, Reg.POWER_CLUSTER_P2_HI, Reg.POWER_DOMAIN_PWR, Reg.POWER_DOMAIN_ON, Reg.LEDGER_CODE_PROFILE,
    Reg.LEDGER_CODE_CLASS]

/-- Every other field reads what the register file holds. -/
theorem fieldRead_of_held {p : Page} {f : Fld} (hb : f.blk ≠ .hdr) (hw : f.acc ≠ .wo) (hd : p.blk ≠ .dimtab) (h : f ∉ shownFields) (s : State)
    (i : Nat) : fieldRead s p f i = rget s f p.inst i := by
  simp only [shownFields, List.mem_cons, List.not_mem_nil, or_false, not_or] at h
  unfold fieldRead
  dsimp only
  rw [if_neg hb, if_neg hw]
  split
  case h_17 hx => exact absurd hx hd
  all_goals simp [h]

theorem fieldRead_of_dimtab {p : Page} {f : Fld} (hb : f.blk ≠ .hdr) (hw : f.acc ≠ .wo) (hd : p.blk = .dimtab) (s : State) (i : Nat) :
    fieldRead s p f i = if rget s Reg.DIMTAB_READY = 0 then 0 else rget s f p.inst i := by
  unfold fieldRead
  dsimp only
  rw [if_neg hb, if_neg hw, hd]

/-- A field that is not the upper word of a 64-bit one reads as it stands. -/
theorem busField_of_not_upper (s : State) (p : Page) {f : Fld} (h : ro64.any (fun x => x.2 == f) = false) (i : Nat) :
    busField s p f i = fieldRead s p f i := if_neg (by simp [h])

/-- The fields of a word have codes of their own, and repeat within their page. -/
theorem pageFields_codes (b : Blk) : ∀ f ∈ Reg.hdrFields ++ blkFields b, f.count ≤ 1024 ∧
    ∀ g ∈ Reg.hdrFields ++ blkFields b, g.code = f.code → g = f := by
  cases b <;> decide +kernel

theorem fieldsAt_eq {p : Page} {off : Nat} {x : Fld × Nat} (h : x ∈ fieldsAt p off) :
    x.1 ∈ Reg.hdrFields ++ blkFields p.blk ∧ x.1.at? off = some x.2 := by
  obtain ⟨g, hg, hat⟩ := List.mem_filterMap.mp h
  obtain ⟨i, hi, rfl⟩ := Option.map_eq_some_iff.mp hat
  exact ⟨hg, hi⟩

/-- A word holds one field of each code. -/
theorem fieldsAt_unique {p : Page} {off : Nat} {x y : Fld × Nat} (hx : x ∈ fieldsAt p off) (hy : y ∈ fieldsAt p off)
    (h : y.1.code = x.1.code) : y = x := by
  obtain ⟨hxf, hxi⟩ := fieldsAt_eq hx
  obtain ⟨hyf, hyi⟩ := fieldsAt_eq hy
  have hf := (pageFields_codes p.blk x.1 hxf).2 y.1 hyf h
  rw [hf, hxi] at hyi
  exact Prod.ext hf (Option.some.inj hyi.symm)

theorem fieldsAt_index {p : Page} {off : Nat} {x : Fld × Nat} (hx : x ∈ fieldsAt p off) : x.2 < 1024 := by
  obtain ⟨hf, hi⟩ := fieldsAt_eq hx
  have hcount := (pageFields_codes p.blk x.1 hf).1
  unfold Fld.at? at hi
  dsimp only at hi
  repeat' split at hi
  all_goals simp only [Option.some.injEq, reduceCtorEq] at hi
  all_goals omega

-- what a read does ----------------------------------------------------------------------------------------------------

/-- What a read of a word does to one of its fields. -/
def readField (p : Page) (inc : W32) (s : State) (x : Fld × Nat) : State :=
  let f := x.1
  if f.acc = .rc then
    rset (if f = Reg.HOPPER_STARVE_CYCLES then starveRead s p.inst else s) f p.inst x.2 (bitsAt inc.toNat f.lsb f.width)
  else if f = Reg.FTIME_NOW_LO then { s with time := { s.time with snap := s.time.ft } }
  else match ro64.find? (fun y => y.1 == f) with
    | none => s
    | some y =>
      { s with snaps := mapSet s.snaps (snapKey p (y.2.off + y.2.stride * x.2)) (fieldRead s p y.2 x.2) }

theorem readEffect_of_clocked (h : frozen s = false) (p : Page) (off : Nat) (inc : W32) :
    readEffect s p off inc = (fieldsAt p off).foldl (readField p inc) s := if_neg (by simp [h])

/-- A read changes the register file, the snapshots and the counts of the waits in progress at most. -/
def Snapped (s t : State) : Prop :=
  t = { s with regs := t.regs, snaps := t.snaps, time := { s.time with snap := t.time.snap }, hopper := t.hopper }

theorem Snapped.trans (h : Snapped s t) (g : Snapped t u) : Snapped s u := by
  rw [Snapped, g, h]

/-- A read that also answers. -/
theorem Snapped.emit (h : Snapped s t) (o : Out) : Machine.emit t o = { s with
    regs := (Machine.emit t o).regs, snaps := (Machine.emit t o).snaps, time := { s.time with snap := (Machine.emit t o).time.snap }
    hopper := (Machine.emit t o).hopper, out := (Machine.emit t o).out } :=
  congrArg (fun x : State => { x with out := o :: t.out }) h

theorem snapped_readField (p : Page) (inc : W32) (s : State) (x : Fld × Nat) : Snapped s (readField p inc s x) := by
  unfold readField
  dsimp only
  split
  · split
    · rfl
    · rfl
  · split
    · rfl
    · split
      · rfl
      · rfl

theorem snapped_readFields (p : Page) (inc : W32) (l : List (Fld × Nat)) (s : State) : Snapped s (l.foldl (readField p inc) s) := by
  induction l generalizing s with
  | nil => rfl
  | cons x l ih => exact (snapped_readField p inc s x).trans (ih _)

/-- A counter takes the increment of the same cycle; no other field is written. -/
theorem regs_readField (p : Page) (inc : W32) (s : State) (x : Fld × Nat) : (readField p inc s x).regs =
    if x.1.acc = .rc then mapSet s.regs (regKey x.1 p.inst x.2) (bitsAt inc.toNat x.1.lsb x.1.width % 2 ^ x.1.width) else s.regs := by
  unfold readField
  dsimp only
  split
  · split
    · rfl
    · rfl
  · split
    · rfl
    · split
      · rfl
      · rfl

theorem mapFind_readFields (p : Page) (inc : W32) {l : List (Fld × Nat)} {k : Nat} (h : ∀ x ∈ l, k ≠ regKey x.1 p.inst x.2) (s : State) :
    mapFind (l.foldl (readField p inc) s).regs k = mapFind s.regs k := by
  induction l generalizing s with
  | nil => rfl
  | cons x l ih =>
    refine (ih (fun y hy => h y (List.mem_cons_of_mem x hy)) _).trans ?_
    rw [regs_readField]
    split
    · exact mapFind_mapSet_ne s.regs _ (h x List.mem_cons_self)
    · rfl

theorem rget_readFields (p : Page) (inc : W32) {l : List (Fld × Nat)} {x : Fld × Nat} (hx : x ∈ l) (hrc : x.1.acc = .rc)
    (hne : ∀ y ∈ l, y ≠ x → regKey x.1 p.inst x.2 ≠ regKey y.1 p.inst y.2) (s : State) :
    rget (l.foldl (readField p inc) s) x.1 p.inst x.2 = bitsAt inc.toNat x.1.lsb x.1.width := by
  induction l generalizing s with
  | nil => cases hx
  | cons y l ih =>
    by_cases hl : x ∈ l
    · exact ih hl (fun z hz => hne z (List.mem_cons_of_mem y hz)) _
    · obtain rfl : x = y := (List.mem_cons.mp hx).resolve_right hl
      have hkept := mapFind_readFields p inc (l := l) (k := regKey x.1 p.inst x.2)
        (fun z hz => hne z (List.mem_cons_of_mem x hz) (fun he => hl (he ▸ hz))) (readField p inc s x)
      have hset := regs_readField p inc s x
      rw [if_pos hrc] at hset
      rw [rget, mapGet, List.foldl_cons, hkept, hset, mapFind_mapSet_same]
      exact Nat.mod_eq_of_lt (bitsAt_lt ..)

-- words ---------------------------------------------------------------------------------------------------------------

/-- The pages stand at the foot of the register space. -/
theorem pageAt_low {off : Nat} {p : Page} (h : pageAt off = some p) : off < 0x90F000 := by
  unfold pageAt at h
  dsimp only at h
  repeat' split at h
  all_goals cases h
  all_goals omega

/-- A word of a page that no read-out stands behind. -/
theorem busRead_of_page {off : Nat} {p : Page} (hp : pageAt off = some p)
    (hfr : p.blk = .freeze → off % 4096 ≠ Reg.FREEZE_READOUT_DATA.off ∧ off % 4096 ≠ Reg.FREEZE_STORE_DATA.off) (s : State) (inc : W32) :
    busRead s off inc = (pageWord s (busField s p) p (off % 4096), readEffect s p (off % 4096) inc) := by
  have hao : ¬ (0x3FF0000 ≤ off ∧ off < 0x4000000) := fun h => by
    have := pageAt_low hp
    omega
  rw [busRead, if_neg hao, hp]
  dsimp only
  rw [if_neg (fun h => (hfr h.1).1 h.2), if_neg (fun h => (hfr h.1).2 h.2)]

/-- A word with one field, on a page with no bench map. -/
theorem pageWord_of_one {p : Page} {off : Nat} {f : Fld} {i : Nat} (h : fieldsAt p off = [(f, i)])
    (hbench : p.blk = .dimtab → benchWord s off = 0) (g : Fld → Nat → Nat) : pageWord s g p off = (g f i % 2 ^ f.width) <<< f.lsb := by
  have hzero : (if p.blk = .dimtab ∧ rget s Reg.DIMTAB_READY = 1 then benchWord s off else 0) = 0 := by
    split
    · next hd => exact hbench hd.1
    · rfl
  rw [pageWord, hzero, wordOf, h]
  exact Nat.zero_or _

/-- The low words of the 64-bit fields: each fills its word alone, away from the bench map, and names its upper word. -/
theorem ro64_low : ∀ x ∈ ro64, x.1.width = 32 ∧ x.1.lsb = 0 ∧ x.1.acc ≠ .rc ∧ x.1 ≠ Reg.FTIME_NOW_LO ∧
    ro64.find? (fun y => y.1 == x.1) = some x ∧ ro64.any (fun y => y.2 == x.1) = false ∧ ro64.any (fun y => y.2 == x.2) = true ∧
    x.2.blk ≠ .hdr ∧ x.2.acc ≠ .wo ∧
    (∀ i < max 1 x.1.count, fieldsAt ⟨x.1.blk, 0⟩ (x.1.off + x.1.stride * i) = [(x.1, i)] ∧ x.1.off + x.1.stride * i < 0x800 ∧
      (x.1.blk = .freeze → x.1.off + x.1.stride * i ≠ Reg.FREEZE_READOUT_DATA.off ∧ x.1.off + x.1.stride * i ≠ Reg.FREEZE_STORE_DATA.off)) := by
  decide +kernel

/-- A read of the low word of a 64-bit field returns it, and its upper word stands as it was at that time. -/
theorem busRead_low {lo hi : Fld} {off i : Nat} {p : Page} (hx : (lo, hi) ∈ ro64) (hp : pageAt off = some p) (hb : p.blk = lo.blk)
    (ho : off % 4096 = lo.off + lo.stride * i) (hi' : i < max 1 lo.count) (hf : frozen s = false) :
    BitVec.ofNat 32 (busRead s off 0).1 = BitVec.ofNat 32 (fieldRead s p lo i) ∧
      (∃ x, (busRead s off 0).2 = { s with snaps := x }) ∧ ∀ o, busField { (busRead s off 0).2 with out := o } p hi i = fieldRead s p hi i := by
  obtain ⟨hw, hlsb, hrc, hnow, hfind, hlo, hhi, hhdr, hwo, hwords⟩ := ro64_low (lo, hi) hx
  obtain ⟨hfields, hoff, hfr⟩ := hwords i hi'
  dsimp only at *
  have hword : fieldsAt p (lo.off + lo.stride * i) = [(lo, i)] := by
    rw [← hfields, fieldsAt, fieldsAt, hb]
  have hbench : p.blk = .dimtab → benchWord s (lo.off + lo.stride * i) = 0 := by
    intro _
    have hlow : ¬ (0x800 ≤ lo.off + lo.stride * i ∧ lo.off + lo.stride * i < 0x840) := by omega
    have hstate : ¬ lo.off + lo.stride * i = 0x840 := by omega
    simp only [benchWord, if_neg hlow, if_neg hstate]
  have heff : readEffect s p (lo.off + lo.stride * i) 0 =
      { s with snaps := mapSet s.snaps (snapKey p (hi.off + hi.stride * i)) (fieldRead s p hi i) } := by
    rw [readEffect_of_clocked hf, hword, List.foldl_cons, List.foldl_nil, readField]
    dsimp only
    rw [if_neg hrc, if_neg hnow, hfind]
  have hread := busRead_of_page hp (fun h => ho ▸ hfr (hb ▸ h)) s 0
  rw [ho, pageWord_of_one hword hbench, heff, busField_of_not_upper s p hlo] at hread
  rw [hread]
  refine ⟨?_, ⟨_, rfl⟩, fun o => ?_⟩
  · dsimp only
    rw [hw, hlsb, Nat.shiftLeft_zero]
    exact BitVec.eq_of_toNat_eq (by simp)
  · by_cases hd : p.blk = .dimtab
    · rw [busField, if_neg (fun h => h.1 hd), fieldRead_of_dimtab hhdr hwo hd, fieldRead_of_dimtab hhdr hwo hd]
      rfl
    · rw [busField, if_pos ⟨hd, hhi⟩]
      exact mapGet_mapSet_same ..

-- counters ------------------------------------------------------------------------------------------------------------

/-- The fields that show other state, but STARVE_CYCLES, count nothing, nor do those of the freeze and the Dimension Table. -/
theorem shownFields_rc : ∀ f ∈ shownFields, f.acc = .rc → f = Reg.HOPPER_STARVE_CYCLES := by decide

theorem pages_without_rc : ∀ f ∈ Reg.freezeFields ++ Reg.dimtabFields, f.acc ≠ .rc := by decide

theorem ro64_rc : ∀ x ∈ ro64, x.2.acc ≠ .rc := by decide

/-- A read of a word with a counter. -/
theorem busRead_rc {off : Nat} {p : Page} {f : Fld} {i : Nat} (hoff : pageAt off = some p) (hrc : f.acc = .rc) (hb : f.blk ≠ .hdr)
    (hf : (f, i) ∈ fieldsAt p (off % 4096)) (hs : frozen s = false) (inc : W32) :
    busRead s off inc = (pageWord s (busField s p) p (off % 4096), (fieldsAt p (off % 4096)).foldl (readField p inc) s) ∧
      p.blk ≠ .dimtab ∧ (f ≠ Reg.HOPPER_STARVE_CYCLES → busField s p f i = rget s f p.inst i) := by
  have hmem := (mem_fieldsAt hf hb).1
  have hfreeze : p.blk ≠ .freeze := fun h => by
    rw [h] at hmem
    exact pages_without_rc f (List.mem_append_left _ hmem) hrc
  have hdim : p.blk ≠ .dimtab := fun h => by
    rw [h] at hmem
    exact pages_without_rc f (List.mem_append_right _ hmem) hrc
  have hupper : ro64.any (fun x => x.2 == f) = false := by
    refine Bool.eq_false_iff.mpr fun h => ?_
    obtain ⟨x, hx, he⟩ := List.any_eq_true.mp h
    exact ro64_rc x hx (eq_of_beq he ▸ hrc)
  refine ⟨?_, hdim, fun hne => ?_⟩
  · rw [busRead_of_page hoff (fun h => absurd h hfreeze), readEffect_of_clocked hs]
  · rw [busField_of_not_upper s p hupper]
    exact fieldRead_of_held hb (by rw [hrc]; decide) hdim (fun h => hne (shownFields_rc f h hrc)) s i

theorem ofNat_nowLo (s : State) :
    BitVec.ofNat 32 ((busField s ftimePage Reg.FTIME_NOW_LO 0 % 2 ^ Reg.FTIME_NOW_LO.width) <<< Reg.FTIME_NOW_LO.lsb) =
      BitVec.ofNat 32 s.time.ft.toNat := by
  have hread : busField s ftimePage Reg.FTIME_NOW_LO 0 = s.time.ft.toNat % 2 ^ 32 := rfl
  rw [hread]
  exact BitVec.eq_of_toNat_eq (by simp [Reg.FTIME_NOW_LO])

/-- The offset of a Hopper's DRAWN_LO. -/
def drawnLoOff (h : HopperId) : Nat :=
  (hopPage h.val).base + Reg.HOPPER_HOP_DRAWN_LO.off + Reg.HOPPER_HOP_DRAWN_LO.stride * (h.val / 2)

/-- Settles O26: a read is `readRow`'s, with the snapshots and counters of `readEffect`. -/
theorem registerReads : Obligations.RegisterReads := by
  unfold Obligations.RegisterReads
  refine ⟨fun s w hign => ?_, fun s w hf hl => ⟨?_, ?_, fun h => ?_, ?_⟩, ?_⟩
  · have hawait : awaitInput s w.input.val = s := by rw [awaitInput, hign]
    obtain ⟨hshape, hkept⟩ := busBeats_shape s w.input.val 1 plainBus
    rw [busRow, hawait]
    exact ⟨hshape, fun f i j hi hj hc => hkept f i j hc hi hj⟩
  · intro off inc p f i _ hp hrc hb hmem
    obtain ⟨hread, hdim, hheld⟩ := busRead_rc hp hrc hb hmem (frozen_busRow hf w) inc
    have hinst := (pageAt_bounds hp).2
    have hidx {x : Fld × Nat} (hx : x ∈ fieldsAt p (off % 4096)) := fieldsAt_index hx
    have hsnap := snapped_readFields p inc (fieldsAt p (off % 4096)) (busRow s w)
    refine ⟨_, congrArg Host.Outcome.next (readRow_of_free hf hl off inc), busRow s w, rfl, ?_, ?_, hheld, fun hone => ?_, fun k hk => ?_, ?_⟩
    · rw [hread]
      exact congrArg _ (congrArg State.out hsnap)
    · rw [hread]
      exact rget_readFields p inc hmem hrc (fun y hy hne => regKey_ne_of_code (fun hc => hne (fieldsAt_unique hmem hy hc.symm)) (by omega)
        (by omega) (hidx hmem) (hidx hy)) _
    · rw [hread, pageWord_of_one hone (fun h => absurd h hdim)]
      rfl
    · rw [hread]
      exact mapFind_readFields p inc (fun x hx => hk x.1 x.2 hx) _
    · rw [hread]
      exact hsnap.emit _
  · have hread : busRead (busRow s w) (ftimePage.base + Reg.FTIME_NOW_LO.off) 0 =
        (pageWord (busRow s w) (busField (busRow s w) ftimePage) ftimePage Reg.FTIME_NOW_LO.off,
          { busRow s w with time := { (busRow s w).time with snap := (busRow s w).time.ft } }) := by
      have hpage : pageAt (ftimePage.base + Reg.FTIME_NOW_LO.off) = some ftimePage := by decide
      have hword : fieldsAt ftimePage ((ftimePage.base + Reg.FTIME_NOW_LO.off) % 4096) = [(Reg.FTIME_NOW_LO, 0)] := by decide +kernel
      have h := busRead_of_page hpage (fun h => absurd h (by decide)) (busRow s w) 0
      rw [readEffect_of_clocked (frozen_busRow hf w), hword] at h
      exact h
    have hrow := readRow_of_free hf hl (ftimePage.base + Reg.FTIME_NOW_LO.off) 0
    rw [hread] at hrow
    refine ⟨_, congrArg Host.Outcome.next hrow, busRow s w, rfl, ?_, rfl⟩
    rw [pageWord_of_one (f := Reg.FTIME_NOW_LO) (i := 0) (by decide +kernel) (fun h => absurd h (by decide))]
    exact congrArg (fun x => emit _ (.readData x)) (ofNat_nowLo (busRow s w))
  · have hpage : ∀ h : HopperId, (Reg.HOPPER_HOP_DRAWN_LO, Reg.HOPPER_HOP_DRAWN_HI) ∈ ro64 ∧ h.val / 2 < max 1 Reg.HOPPER_HOP_DRAWN_LO.count ∧
        pageAt (drawnLoOff h) = some (hopPage h.val) ∧
        drawnLoOff h % 4096 = Reg.HOPPER_HOP_DRAWN_LO.off + Reg.HOPPER_HOP_DRAWN_LO.stride * (h.val / 2) := by decide
    obtain ⟨hx, hi', hp, ho⟩ := hpage h
    obtain ⟨hval, ⟨x, hx'⟩, hupper⟩ := busRead_low hx hp rfl ho hi' (frozen_busRow hf w)
    have hheld {f : Fld} (hb : f.blk ≠ .hdr) (hw : f.acc ≠ .wo) (hn : f ∉ shownFields) := fieldRead_of_held (p := hopPage h.val) hb hw
      (show Blk.hopper ≠ .dimtab by decide) hn (busRow s w) (h.val / 2)
    refine ⟨_, congrArg Host.Outcome.next (readRow_of_free hf hl (drawnLoOff h) 0), busRow s w, rfl, ?_,
      (hupper _).trans (hheld (by decide) (by decide) (by decide))⟩
    rw [hval, hx', hheld (by decide) (by decide) (by decide)]
    rfl
  · intro lo hi off p i hx hp hb ho hi'
    obtain ⟨hval, ⟨x, hx'⟩, hupper⟩ := busRead_low hx hp hb ho hi' (frozen_busRow hf w)
    refine ⟨_, congrArg Host.Outcome.next (readRow_of_free hf hl off 0), busRow s w, rfl, ?_, hupper _⟩
    rw [hval, hx']
    rfl
  · intro s w c off inc h hf hl hc
    have hrow := readRow_of_lockedOut hf hl
    simp only [List.mem_cons, List.not_mem_nil, or_false] at hc
    rcases hc with rfl | rfl | rfl | rfl <;> exact congrArg Host.Outcome.next (hrow ..)

end Sys2Proof.Machine
end

section
/-! PROOFS. Ownership of parts with their zero-fills, patrol reads, refresh windows and stack temperatures (R92 to R95, R163 to R173). -/

namespace Sys2Proof.Machine

variable {s t u : State}

-- nibbles -------------------------------------------------------------------------------------------------------------

/-- The bits put at a place are the ones read there, as long as the field reaches. -/
theorem bitsAt_putBits_mod {n lo w v W : Nat} (hv : v < 2 ^ w) (hW : lo + w ≤ W) : bitsAt (putBits n lo w v % 2 ^ W) lo w = v := by
  obtain ⟨k, rfl⟩ := Nat.exists_eq_add_of_le hW
  have hn : n = n % 2 ^ lo + 2 ^ lo * (n / 2 ^ lo % 2 ^ w) + 2 ^ lo * (2 ^ w * (n / 2 ^ lo / 2 ^ w)) := by
    have h1 := Nat.mod_add_div n (2 ^ lo)
    have h2 := Nat.mod_add_div (n / 2 ^ lo) (2 ^ w)
    calc n = n % 2 ^ lo + 2 ^ lo * (n / 2 ^ lo) := h1.symm
      _ = n % 2 ^ lo + 2 ^ lo * (n / 2 ^ lo % 2 ^ w + 2 ^ w * (n / 2 ^ lo / 2 ^ w)) := by rw [h2]
      _ = _ := by ring
  have hput : putBits n lo w v = n % 2 ^ lo + 2 ^ lo * (v + 2 ^ w * (n / 2 ^ lo / 2 ^ w)) := by
    have : bitsAt n lo w * 2 ^ lo = 2 ^ lo * (n / 2 ^ lo % 2 ^ w) := by rw [bitsAt, Nat.shiftRight_eq_div_pow, Nat.mul_comm]
    rw [putBits, this, Nat.mod_eq_of_lt hv, Nat.mul_add, Nat.mul_comm v]
    omega
  have hdiv : putBits n lo w v / 2 ^ lo = v + 2 ^ w * (n / 2 ^ lo / 2 ^ w) := by
    rw [hput, Nat.add_mul_div_left _ _ (Nat.two_pow_pos lo), Nat.div_eq_of_lt (Nat.mod_lt _ (Nat.two_pow_pos lo)), Nat.zero_add]
  rw [bitsAt, Nat.shiftRight_eq_div_pow, Nat.add_assoc, Nat.pow_add, Nat.mod_mul_right_div_self, hdiv,
    Nat.mod_mod_of_dvd _ (pow_dvd_pow 2 (Nat.le_add_right w k)), Nat.add_mul_mod_self_left, Nat.mod_eq_of_lt hv]

/-- The owners of a part's page, as one word of 64 bits: the low half holds the first eight, the high half the others. -/
theorem bitsAt_low {lo hi i : Nat} (h : i < 8) : bitsAt (lo + hi * 2 ^ 32) (4 * i) 4 = bitsAt lo (4 * i) 4 := by
  have hsplit : hi * 2 ^ 32 = 2 ^ (4 * i) * (2 ^ 4 * (hi * 2 ^ (28 - 4 * i))) := by
    rw [show (32 : Nat) = 4 * i + (4 + (28 - 4 * i)) by omega, Nat.pow_add, Nat.pow_add]
    ring_nf
  rw [bitsAt, bitsAt, Nat.shiftRight_eq_div_pow, Nat.shiftRight_eq_div_pow, hsplit, Nat.add_mul_div_left _ _ (Nat.two_pow_pos _),
    Nat.add_mul_mod_self_left]

theorem bitsAt_high {lo hi i : Nat} (hlo : lo < 2 ^ 32) (h : 8 ≤ i) : bitsAt (lo + hi * 2 ^ 32) (4 * i) 4 = bitsAt hi (4 * (i - 8)) 4 := by
  rw [bitsAt, bitsAt, Nat.shiftRight_eq_div_pow, Nat.shiftRight_eq_div_pow, show 4 * i = 32 + 4 * (i - 8) by omega, Nat.pow_add,
    ← Nat.div_div_eq_div_mul, Nat.add_mul_div_right _ _ (by decide), Nat.div_eq_of_lt hlo, Nat.zero_add]

theorem bitsAt_setNibble (s : State) {f : Fld} (hf : f.width = 32) (inst idx : Nat) {i v : Nat} (hi : i < 8) (hv : v < 16) :
    bitsAt (rget (setNibble s f inst idx i v) f inst idx) (4 * i) 4 = v := by
  rw [setNibble, rget_rset_same, hf]
  exact bitsAt_putBits_mod hv (by omega)

/-- An owner written into its half of a page's owners. -/
theorem bitsAt_owners (s : State) {lo hi : Fld} (hlo : lo.width = 32) (hhi : hi.width = 32) (hc : lo.code ≠ hi.code) {inst idx : Nat}
    (hi' : inst < 16384) (hj : idx < 1024) (hfit : rget s lo inst idx < 2 ^ 32) {w v : Nat} (hw : w < 16) (hv : v < 16) :
    bitsAt (rget64 (setNibble s (if w < 8 then lo else hi) inst idx (w % 8) v) lo hi inst idx) (4 * w) 4 = v := by
  split
  · next h =>
    rw [rget64, bitsAt_low h]
    exact (congrArg (fun k => bitsAt _ (4 * k) 4) (Nat.mod_eq_of_lt h).symm).trans (bitsAt_setNibble s hlo inst idx (Nat.mod_lt _ (by decide)) hv)
  · next h =>
    have hkept : rget (setNibble s hi inst idx (w % 8) v) lo inst idx = rget s lo inst idx := rget_rset_of_code s hc hi' hj hi' hj _
    rw [rget64, hkept, bitsAt_high hfit (by omega)]
    exact (congrArg (fun k => bitsAt _ (4 * k) 4) (show w - 8 = w % 8 by omega)).trans
      (bitsAt_setNibble s hhi inst idx (Nat.mod_lt _ (by decide)) hv)

-- owners --------------------------------------------------------------------------------------------------------------

/-- A part of the stores or of memory. -/
def Region.IsPart (r : Region) : Prop := r ≠ .reg ∧ r ≠ .hole

/-- Ownership written is the ownership that the part then has. -/
theorem owner_setOwner (h : OwnersFit s) {r : Region} (hr : r.InMap) (hp : r.IsPart) (valid : Bool) (t : TenantId) :
    owner (setOwner s r valid t.val) r = (valid, t.val) := by
  have ht := t.isLt
  have hfit {f : Fld} (hf : f ∈ [Reg.CSTORE_WAY_OWNER_LO, Reg.CSTORE_WAY_OWNER_HI, Reg.CSTORE_SEG_OWNER_LO, Reg.CSTORE_SEG_OWNER_HI,
      Reg.HBMC_SET_OWNER_LO, Reg.HBMC_SET_OWNER_HI, Reg.STORC_REGION_OWNER]) (i j : Nat) : rget s f i j < 2 ^ f.width := h f hf i j
  cases r with
  | near g =>
    have hg : g < 128 := hr
    refine Prod.ext ?_ ?_
    · refine Eq.trans (congrArg (bitAt · (g % 16)) ?_) (bitAt_rbit s Reg.HBMC_SET_VALID (g / 16) 0 (n := g % 16) (Nat.mod_lt _ (by decide)) valid)
      exact rget_rset_of_code _ (by split <;> decide) (by omega) (by decide) (by omega) (by decide) _
    · refine (congrArg (fun k => bitsAt (rget64 (setNibble _ _ _ _ k _) _ _ _) _ _) (show g % 8 = g % 16 % 8 by omega)).trans
        (bitsAt_owners _ rfl rfl (by decide) (by omega) (by decide) ?_ (Nat.mod_lt _ (by decide)) ht)
      rw [rbit, rget_rset_of_code _ (by decide) (by omega) (by decide) (by omega) (by decide)]
      exact hfit (f := Reg.HBMC_SET_OWNER_LO) (by decide) _ _
  | way c w =>
    obtain ⟨hc, hw⟩ : c < 64 ∧ w < 16 := hr
    refine Prod.ext ?_ ?_
    · refine Eq.trans (congrArg (bitAt · w) ?_) (bitAt_rbit s Reg.CSTORE_WAY_VALID c 0 (n := w) hw valid)
      exact rget_rset_of_code _ (by split <;> decide) (by omega) (by decide) (by omega) (by decide) _
    · refine bitsAt_owners _ rfl rfl (by decide) (by omega) (by decide) ?_ hw ht
      rw [rbit, rget_rset_of_code _ (by decide) (by omega) (by decide) (by omega) (by decide)]
      exact hfit (f := Reg.CSTORE_WAY_OWNER_LO) (by decide) _ _
  | seg k g =>
    obtain ⟨hk, hg⟩ : k < 512 ∧ g < 16 := hr
    refine Prod.ext ?_ ?_
    · refine Eq.trans (congrArg (bitAt · g) ?_) (bitAt_rbit s Reg.CSTORE_SEG_VALID (k / 8) (k % 8) (n := g) hg valid)
      exact rget_rset_of_code _ (by split <;> decide) (by omega) (by omega) (by omega) (by omega) _
    · refine bitsAt_owners _ rfl rfl (by decide) (by omega) (by omega) ?_ hg ht
      rw [rbit, rget_rset_of_code _ (by decide) (by omega) (by omega) (by omega) (by omega)]
      exact hfit (f := Reg.CSTORE_SEG_OWNER_LO) (by decide) _ _
  | room n =>
    have hn : n < 2048 := hr
    refine Prod.ext ?_ ?_
    · refine Eq.trans (congrArg (bitAt · (n % 32)) ?_)
        (bitAt_rbit s Reg.STORC_REGION_VALID 0 (n / 32) (n := n % 32) (Nat.mod_lt _ (by decide)) valid)
      exact rget_rset_of_code _ (by decide) (by omega) (by omega) (by omega) (by omega) _
    · exact bitsAt_setNibble _ rfl 0 (n / 8) (Nat.mod_lt _ (by decide)) ht
  | reg => exact absurd rfl hp.1
  | hole => exact absurd rfl hp.2

-- upkeep --------------------------------------------------------------------------------------------------------------

/-- The fields that hold the owners. -/
def ownerCodes : List Nat :=
  [Reg.CSTORE_WAY_VALID, Reg.CSTORE_WAY_OWNER_LO, Reg.CSTORE_WAY_OWNER_HI, Reg.CSTORE_SEG_VALID, Reg.CSTORE_SEG_OWNER_LO,
    Reg.CSTORE_SEG_OWNER_HI, Reg.HBMC_SET_VALID, Reg.HBMC_SET_OWNER_LO, Reg.HBMC_SET_OWNER_HI, Reg.STORC_REGION_VALID,
    Reg.STORC_REGION_OWNER].map (·.code)

/-- The fields that a fill and the counter ways show. -/
def upkeepCodes : List Nat :=
  [Reg.HBMC_FILL_BUSY, Reg.CSTORE_SCRUB_BUSY, Reg.CSTORE_SEG_SCRUB_BUSY, Reg.STORC_FILL_STATE_BUSY, Reg.STORC_FILL_STATE_REGION,
    Reg.MSF_INVAL_LINES, Reg.CSTORE_CTR_WAY_VALID, Reg.CSTORE_CTR_WAY_WAY].map (·.code)

/-- The owners stand where no field of theirs is written. -/
theorem CodesKept.owner {l : List Nat} (h : CodesKept l s t) (hl : ∀ c ∈ ownerCodes, c ∉ l) {r : Region} (hr : r.InMap) :
    Machine.owner t r = Machine.owner s r := by
  have hget {f : Fld} (hf : f.code ∈ ownerCodes) {i j : Nat} (hi : i < 16384) (hj : j < 1024) : rget t f i j = rget s f i j :=
    h f i j (hl _ hf) hi hj
  cases r <;> simp only [Region.InMap] at hr <;> simp only [Machine.owner, rget64]
  · rw [hget (by decide) (by omega) (by omega), hget (by decide) (by omega) (by omega), hget (by decide) (by omega) (by omega)]
  · rw [hget (by decide) (by omega) (by omega), hget (by decide) (by omega) (by omega), hget (by decide) (by omega) (by omega)]
  · rw [hget (by decide) (by omega) (by omega), hget (by decide) (by omega) (by omega), hget (by decide) (by omega) (by omega)]
  · rw [hget (by decide) (by omega) (by omega), hget (by decide) (by omega) (by omega)]

theorem memGet_memZero (m : List Host.Cell) (a n b : Nat) : memGet (memZero m a n) b = if a ≤ b ∧ b < a + n then 0 else memGet m b := by
  have h := mapFind_filter m (fun k => decide (k < a) || decide (k ≥ a + n)) b
  rw [memGet, memZero, h]
  by_cases hin : a ≤ b ∧ b < a + n
  · rw [if_pos hin, if_neg (by simp; omega)]
    rfl
  · rw [if_neg hin, if_pos (by simp; omega)]
    rfl

/-- t differs from s in the fields that a fill and the counter ways show, in bytes set to zero, in poison, errors and counter ways, and in the
caches only. -/
structure Upkept (s t : State) : Prop where
  form : t = { s with
    regs := t.regs, mem := t.mem, poison := t.poison, msf := { s.msf with cache := t.msf.cache, dir := t.msf.dir }
    fills := { s.fills with flaws := t.fills.flaws, counters := t.fills.counters } }
  regs : CodesKept upkeepCodes s t
  zeros : ∀ b, memGet s.mem b = 0 → memGet t.mem b = 0

theorem Upkept.refl (s : State) : Upkept s s := ⟨rfl, codesKept_of_regs _ rfl, fun _ h => h⟩

theorem Upkept.trans (h : Upkept s t) (g : Upkept t u) : Upkept s u := by
  refine ⟨?_, h.regs.trans g.regs, fun b hb => g.zeros b (h.zeros b hb)⟩
  rw [g.form, h.form]

theorem Upkept.queues (h : Upkept s t) : t.queues = s.queues := by rw [h.form]
theorem Upkept.links (h : Upkept s t) : t.links = s.links := by rw [h.form]
theorem Upkept.busy (h : Upkept s t) : t.fills.busy = s.fills.busy := by rw [h.form]
theorem Upkept.queued (h : Upkept s t) : t.fills.queued = s.fills.queued := by rw [h.form]

theorem Upkept.owner (h : Upkept s t) {r : Region} (hr : r.InMap) : Machine.owner t r = Machine.owner s r := h.regs.owner (by decide) hr

theorem upkept_foldl {α : Type} {f : State → α → State} {l : List α} (hf : ∀ s, ∀ x ∈ l, Upkept s (f s x)) (s : State) :
    Upkept s (l.foldl f s) := by
  induction l generalizing s with
  | nil => exact Upkept.refl s
  | cons x l ih => exact (hf s x List.mem_cons_self).trans (ih (fun s y hy => hf s y (List.mem_cons_of_mem x hy)) _)

theorem upkept_rset (s : State) {f : Fld} (hf : f.code ∈ upkeepCodes) {i j : Nat} (hi : i < 16384) (hj : j < 1024) (v : Nat) :
    Upkept s (rset s f i j v) := ⟨rfl, codesKept_rset s hf hi hj v, fun _ h => h⟩

theorem upkept_zeroRange (s : State) (a n : Nat) : Upkept s (zeroRange s a n) := by
  refine ⟨rfl, codesKept_of_regs _ rfl, fun b hb => ?_⟩
  refine (memGet_memZero s.mem a n b).trans ?_
  split
  · rfl
  · exact hb

theorem upkept_invalControl (s : State) (line : Nat) : Upkept s (invalControl s line) := by
  unfold invalControl
  split
  · exact Upkept.refl s
  · have hdrop (cache : SMap CacheLine) (dir : SMap Byte) : Upkept s { s with msf := { s.msf with cache := cache, dir := dir } } :=
      ⟨rfl, codesKept_of_regs _ rfl, fun _ h => h⟩
    have hcount (s : State) (n : Nat) : Upkept s (rinc s Reg.MSF_INVAL_LINES 0 0 n) := by
      obtain ⟨v, hv⟩ := rinc_eq_rset s Reg.MSF_INVAL_LINES 0 0 n
      rw [hv]
      exact upkept_rset s (by decide) (by decide) (by decide) v
    exact (hdrop _ _).trans (hcount _ _)

theorem upkept_showFill (s : State) {r : Region} (hr : r.InMap) (busy : Bool) : Upkept s (showFill s r busy) := by
  cases r <;> simp only [Region.InMap] at hr <;> unfold showFill <;> dsimp only
  · exact upkept_rset s (f := Reg.HBMC_FILL_BUSY) (by decide) (by omega) (by decide) _
  · exact upkept_rset s (f := Reg.CSTORE_SCRUB_BUSY) (by decide) (by omega) (by decide) _
  · exact upkept_rset s (f := Reg.CSTORE_SEG_SCRUB_BUSY) (by decide) (by omega) (by omega) _
  · exact Upkept.refl s
  · exact (upkept_rset s (f := Reg.STORC_FILL_STATE_BUSY) (by decide) (by decide) (by decide) _).trans
      (upkept_rset _ (f := Reg.STORC_FILL_STATE_REGION) (by decide) (by decide) (by decide) _)
  · exact Upkept.refl s

theorem upkept_counterWayUp (s : State) {c t : Nat} (hc : c < 64) (ht : t < 16) : Upkept s (counterWayUp s c t) := by
  have hvalid (s : State) (v : Nat) : Upkept s (rset s Reg.CSTORE_CTR_WAY_VALID c t v) := upkept_rset s (by decide) (by omega) (by omega) v
  have hway (s : State) (v : Nat) : Upkept s (rset s Reg.CSTORE_CTR_WAY_WAY c t v) := upkept_rset s (by decide) (by omega) (by omega) v
  have hcount (s : State) (l : List Nat) : Upkept s { s with fills := { s.fills with counters := l } } :=
    ⟨rfl, codesKept_of_regs _ rfl, fun _ h => h⟩
  unfold counterWayUp
  dsimp only
  split
  · exact Upkept.refl s
  · split
    · exact (hvalid s _).trans (hway _ _)
    · split
      · exact ((hvalid s _).trans (hway _ _)).trans ((upkept_zeroRange _ _ _).trans (hcount _ _))
      · exact (hvalid s _).trans (hway _ _)

theorem upkept_counterWays (s : State) {r : Region} (hr : r.InMap) : Upkept s ((wayClusters [r]).foldl counterWays s) := by
  refine upkept_foldl (fun s c hc => upkept_foldl (fun s t ht => upkept_counterWayUp s ?_ (List.mem_range.mp ht)) s) s
  cases r with
  | way c' w =>
    obtain rfl : c = c' := List.mem_singleton.mp hc
    exact hr.1
  | _ => cases hc

-- fills ---------------------------------------------------------------------------------------------------------------

/-- A part after its new owner was taken: its bytes are zero, and it is being filled. -/
structure Filled (s t : State) (r : Region) (o : Bool × Nat) : Prop where
  owner : Machine.owner t r = o
  busy : r.key ∈ t.fills.busy
  zero : ∀ b, (partRange r).1 ≤ b → b < (partRange r).1 + (partRange r).2 → memGet t.mem b = 0
  queues : t.queues = s.queues
  links : t.links = s.links

theorem Filled.upkept {r : Region} {o : Bool × Nat} (h : Filled s t r o) (hr : r.InMap) (g : Upkept t u) : Filled s u r o :=
  ⟨(g.owner hr).trans h.owner, g.busy ▸ h.busy, fun b hlo hhi => g.zeros b (h.zero b hlo hhi), g.queues.trans h.queues,
    g.links.trans h.links⟩

theorem setOwner_form (s : State) (r : Region) (valid : Bool) (t : Nat) : ∃ x, setOwner s r valid t = { s with regs := x } := by
  cases r <;> exact ⟨_, rfl⟩

theorem filled_startFill (h : OwnersFit s) {r : Region} (hr : r.InMap) (hp : r.IsPart) (valid : Bool) (t : TenantId) :
    Filled s (startFill s r valid t.val) r (valid, t.val) := by
  obtain ⟨x, hx⟩ := setOwner_form s r valid t.val
  have hown := owner_setOwner h hr hp valid t
  unfold startFill
  dsimp only
  have hzero : Upkept (setOwner s r valid t.val) (zeroRange (setOwner s r valid t.val) (partRange r).1 (partRange r).2) := upkept_zeroRange ..
  have hinval := upkept_foldl (l := (zeroRange (setOwner s r valid t.val) (partRange r).1 (partRange r).2).msf.dir.filter
      (fun e => (partRange r).1 ≤ 64 * e.1 && 64 * e.1 < (partRange r).1 + (partRange r).2))
    (f := fun s e => invalControl s e.1) (fun s e _ => upkept_invalControl s e.1)
    (zeroRange (setOwner s r valid t.val) (partRange r).1 (partRange r).2)
  refine Filled.upkept ?_ hr (upkept_showFill _ hr true)
  have hall := hzero.trans hinval
  refine ⟨(hall.owner hr).trans hown, mem_addOnce .., fun b hlo hhi => hinval.zeros b ?_, ?_, ?_⟩
  · exact (memGet_memZero ..).trans (if_pos ⟨hlo, hhi⟩)
  · exact hall.queues.trans (by rw [hx])
  · exact hall.links.trans (by rw [hx])

-- ownership writes ----------------------------------------------------------------------------------------------------

/-- The parts that the commands name are in the map. -/
theorem storeRegion_inMap (p : StorePart) : (storeRegion p).InMap ∧ (storeRegion p).IsPart := by
  cases p with
  | seg c g => exact ⟨⟨c.isLt, g.isLt⟩, by simp [storeRegion, Region.IsPart]⟩
  | way c w => exact ⟨⟨c.isLt, w.isLt⟩, by simp [storeRegion, Region.IsPart]⟩

theorem memRegion_inMap (p : MemPart) : (memRegion p).InMap ∧ (memRegion p).IsPart := by
  cases p with
  | set g => exact ⟨g.isLt, by simp [memRegion, Region.IsPart]⟩
  | region n => exact ⟨n.isLt, by simp [memRegion, Region.IsPart]⟩

theorem exec_ownership {w : Writer} {r : Region} {valid : Bool} {t : TenantId} {c : Instr}
    (hc : (∃ p : StorePart, r = storeRegion p ∧ c = .ownershipWrite w p valid t) ∨
      (∃ p : MemPart, r = memRegion p ∧ c = .setOwnershipWrite w p valid t))
    (hl : Lands s w (ownerField s r valid).1 (ownerField s r valid).2.1 (ownerField s r valid).2.2.1 u) :
    exec c s = .next ((wayClusters [r]).foldl counterWays (changeOwner u r valid t)) ∧ r.InMap ∧ r.IsPart := by
  rcases hc with ⟨p, rfl, rfl⟩ | ⟨p, rfl, rfl⟩
  · exact ⟨congrArg Host.Outcome.next (gated_of_lands hl _ (fun s => changeOwners s [(storeRegion p, valid, t)])), storeRegion_inMap p⟩
  · exact ⟨congrArg Host.Outcome.next (gated_of_lands hl _ (fun s => changeOwners s [(memRegion p, valid, t)])), memRegion_inMap p⟩

theorem exec_fillDone (h : Clocked s) {r : Region} {c : Instr}
    (hc : (∃ p : StorePart, r = storeRegion p ∧ c = .storeFillDone p) ∨ (∃ p : MemPart, r = memRegion p ∧ c = .memoryFillDone p)) :
    exec c s = .next (fillDone s r) ∧ r.InMap := by
  rcases hc with ⟨p, rfl, rfl⟩ | ⟨p, rfl, rfl⟩
  · exact ⟨congrArg Host.Outcome.next (live_of_clocked h _), (storeRegion_inMap p).1⟩
  · exact ⟨congrArg Host.Outcome.next (live_of_clocked h _), (memRegion_inMap p).1⟩

/-- The end of a fill with no write queued behind it opens the part. -/
theorem fillDone_of_last {r : Region} (hr : r.InMap) (hbusy : r.key ∈ s.fills.busy) (hq : mapFind s.fills.queued r.key = none) :
    r.key ∉ (fillDone s r).fills.busy ∧ (fillDone s r).mem = s.mem ∧ (fillDone s r).queues = s.queues ∧
      owner (fillDone s r) r = owner s r := by
  have hform : ∃ l : List Nat, fillDone s r =
      showFill { s with fills := { s.fills with counters := l, busy := dropAll s.fills.busy r.key } } r false := by
    have hgo : ¬ (!s.fills.busy.contains r.key) = true := by simpa using hbusy
    have hnil : mapGet s.fills.queued r.key [] = [] := by rw [mapGet, hq]; rfl
    cases r with
    | way c w =>
      refine ⟨s.fills.counters.filter (fun k => !(k / 16 == c && rget s Reg.CSTORE_CTR_WAY_WAY c (k % 16) == w)), ?_⟩
      unfold fillDone
      dsimp only
      rw [if_neg hgo, hnil]
    | _ =>
      refine ⟨s.fills.counters, ?_⟩
      unfold fillDone
      dsimp only
      rw [if_neg hgo, hnil]
  obtain ⟨l, hl⟩ := hform
  have hshow := upkept_showFill { s with fills := { s.fills with counters := l, busy := dropAll s.fills.busy r.key } } hr false
  rw [hl]
  refine ⟨?_, ?_, hshow.queues, hshow.owner hr⟩
  · rw [hshow.busy]
    exact mem_dropAll _ _
  · cases r <;> rfl

-- patrol --------------------------------------------------------------------------------------------------------------

/-- What a patrol read finds in a line, and what has befallen it besides. -/
def patrolLine (s : State) (line : Nat) (found : Ecc) : State :=
  match found with
  | .clean => readLine s line
  | .corrected => correctedLine (readLine s line) line
  | .uncorrectable => if (readLine s line).poison.contains line then readLine s line else poisonLine (readLine s line) line

theorem exec_patrol (h : Clocked s) (line : Nat) (found : Ecc) (raced : Bool) : exec (.patrolScrub line found raced) s =
    .next (if regionOf (64 * line) = .hole ∨ regionOf (64 * line) = .reg then s else patrolLine s line found) := by
  refine congrArg Host.Outcome.next ((live_of_clocked h _).trans ?_)
  cases regionOf (64 * line) <;> cases found <;> simp [patrolLine]

theorem readLine_of_none {line : Nat} (h : mapFind s.fills.flaws line = none) : readLine s line = s := by rw [readLine, h]

theorem correctedLine_parts (s : State) (line : Nat) : (correctedLine s line).mem = s.mem ∧ (correctedLine s line).poison = s.poison := by
  unfold correctedLine charge
  dsimp only
  rw [(flagged_setScore _ _ _).form]
  exact ⟨rinc_mem .., rinc_poison ..⟩

/-- A line found in error is poisoned and counted; what it held, and the queues, stand. -/
theorem poisonLine_parts {line : Nat} (h : line ∉ s.poison) :
    let p := faultPage (64 * line)
    (poisonLine s line).poison = line :: s.poison ∧ (poisonLine s line).mem = s.mem ∧ (poisonLine s line).queues = s.queues ∧
      (rget s (ueField p.blk) p.inst + 1 < 2 ^ (ueField p.blk).width →
        rget (poisonLine s line) (ueField p.blk) p.inst = rget s (ueField p.blk) p.inst + 1) := by
  intro p
  have hinst : p.inst < 16384 := faultPage_inst_lt _
  have hcodes : (ueField p.blk).code ∉ healthFields.map (·.code) ∧ (ueField p.blk).code ∉ noteFields.map (·.code) ∧
      ∀ f ∈ [Reg.HBMC_POISON_ADDR_LO, Reg.HBMC_POISON_ADDR_HI, Reg.STORC_POISON_ADDR_LO, Reg.STORC_POISON_ADDR_HI],
        (ueField p.blk).code ≠ f.code := by
    cases p.blk <;> decide
  obtain ⟨hhealth, hnote, haddr⟩ := hcodes
  let s1 : State := { s with poison := addOnce s.poison line }
  let s2 := rinc s1 (ueField p.blk) p.inst
  let s3 := match p.blk with
    | .hbmc => rset64 s2 Reg.HBMC_POISON_ADDR_LO Reg.HBMC_POISON_ADDR_HI p.inst 0 (64 * line)
    | .storc => rset64 s2 Reg.STORC_POISON_ADDR_LO Reg.STORC_POISON_ADDR_HI p.inst 0 (64 * line)
    | _ => s2
  have hset (s : State) (v : Nat) {lo hi : Fld} (hlo : (ueField p.blk).code ≠ lo.code) (hhi : (ueField p.blk).code ≠ hi.code) :
      rget (rset64 s lo hi p.inst 0 v) (ueField p.blk) p.inst = rget s (ueField p.blk) p.inst :=
    (rget_rset_of_code _ hhi hinst (by decide) hinst (by decide) _).trans (rget_rset_of_code _ hlo hinst (by decide) hinst (by decide) _)
  have h3 : (∃ x, s3 = { s2 with regs := x }) ∧ rget s3 (ueField p.blk) p.inst = rget s2 (ueField p.blk) p.inst := by
    simp only [s3]
    split
    · exact ⟨⟨_, rfl⟩, hset _ _ (haddr _ (by simp)) (haddr _ (by simp))⟩
    · exact ⟨⟨_, rfl⟩, hset _ _ (haddr _ (by simp)) (haddr _ (by simp))⟩
    · exact ⟨⟨_, rfl⟩, rfl⟩
  obtain ⟨⟨x, hx⟩, h3⟩ := h3
  have hnoted := noted_raise s3 (evOf (ueField p.blk) 0 p.die (lineUnit s3 (64 * line)) 15 none [64 * line, 0])
  obtain ⟨r, hr⟩ : ∃ r, r = raise s3 (evOf (ueField p.blk) 0 p.die (lineUnit s3 (64 * line)) 15 none [64 * line, 0]) := ⟨_, rfl⟩
  rw [← hr] at hnoted
  obtain ⟨v, hv⟩ : ∃ v, poisonLine s line = setScore r (linePart (64 * line)) v := by
    rw [hr]
    exact ⟨_, rfl⟩
  have hflag := flagged_setScore r (linePart (64 * line)) v
  rw [← hv] at hflag
  refine ⟨?_, ?_, ?_, fun hfit => ?_⟩
  · refine (congrArg State.poison hflag.form).trans ((congrArg State.poison hnoted.regsOnly).trans ?_)
    rw [hx]
    exact (rinc_poison ..).trans (if_neg (by simpa using h))
  · refine (congrArg State.mem hflag.form).trans (hnoted.regsOnly.mem.trans ?_)
    rw [hx]
    exact rinc_mem ..
  · refine (congrArg State.queues hflag.form).trans (hnoted.regsOnly.queues.trans ?_)
    rw [hx]
    exact rinc_queues ..
  · have hcount : rget s2 (ueField p.blk) p.inst = rget s (ueField p.blk) p.inst + 1 := by
      have hinc : s2 = rset s1 (ueField p.blk) p.inst 0 (rget s1 (ueField p.blk) p.inst + 1) := if_pos hfit
      rw [hinc]
      exact (rget_rset_same ..).trans (Nat.mod_eq_of_lt hfit)
    refine (hflag.regs.rget hhealth hinst (by decide)).trans ?_
    exact (hnoted.kept _ _ _ hnote hinst (by decide)).trans (h3.trans hcount)

-- refresh and temperature ---------------------------------------------------------------------------------------------

/-- A charge leaves memory, the queues and every field but HEALTH's as they are. -/
theorem charge_parts (s : State) (e part : Nat) : (charge s e part).mem = s.mem ∧ (charge s e part).queues = s.queues ∧
    CodesKept (healthFields.map (·.code)) s (charge s e part) := by
  have hflag := flagged_setScore s part (min (mapGet s.health.score part 0 + rget s Reg.HEALTH_WEIGHT 0 e) 16383)
  exact ⟨setScore_mem .., setScore_queues .., fun f i j hf hi hj => hflag.regs.codesKept f i j hf hi hj⟩

/-- A stack's bit of HOT. -/
def hotBit (s : State) (k : StackId) : Bool := bitAt (rget s Reg.HBMC_HOT (k.val / 2)) (k.val % 2)

def setHot (s : State) (k : StackId) (b : Bool) : State := rbit s Reg.HBMC_HOT (k.val / 2) 0 (k.val % 2) b

theorem hotBit_setHot (s : State) (k : StackId) (b : Bool) : hotBit (setHot s k b) k = b :=
  bitAt_rbit s Reg.HBMC_HOT (k.val / 2) 0 (n := k.val % 2) (Nat.mod_lt _ (by decide)) b

theorem hotReport_parts (h : Clocked s) (k : StackId) {celsius : Nat} (hc : 85 < celsius) : Yields (.stackTemperatureReport k celsius) s (fun t =>
    hotBit t k = true ∧ t.mem = s.mem ∧ t.queues = s.queues) := by
  have hlive : exec (.stackTemperatureReport k celsius) s = _ := congrArg Host.Outcome.next (live_of_clocked h _)
  by_cases hhot : hotBit s k = true
  · have hgo : ¬ (85 < celsius ∧ (!hotBit s k) = true) := by simp [hhot]
    have hcool : ¬ (celsius ≤ 80 ∧ hotBit s k = true) := by omega
    exact ⟨s, hlive.trans (congrArg Host.Outcome.next ((if_neg hgo).trans (if_neg hcool))), hhot, rfl, rfl⟩
  · have hgo : 85 < celsius ∧ (!hotBit s k) = true := by simp [hhot, hc]
    refine ⟨_, hlive.trans (congrArg Host.Outcome.next (if_pos hgo)), ?_⟩
    obtain ⟨r, hr⟩ : ∃ r, r = raise (setHot s k true)
      { evOf Reg.HBMC_HOT 0 (k.val / 2) k.val 15 none [celsius] with lsb := k.val % 2 } := ⟨_, rfl⟩
    have hnoted := noted_raise (setHot s k true) { evOf Reg.HBMC_HOT 0 (k.val / 2) k.val 15 none [celsius] with lsb := k.val % 2 }
    rw [← hr] at hnoted
    obtain ⟨hmem, hqueues, hkept⟩ := charge_parts r 6 (64 + k.val)
    rw [hr] at hmem hqueues hkept
    refine ⟨?_, hmem.trans (hr ▸ hnoted.regsOnly.mem), hqueues.trans (hr ▸ hnoted.regsOnly.queues)⟩
    refine Eq.trans ?_ (hotBit_setHot s k true)
    refine congrArg (bitAt · (k.val % 2)) ?_
    exact (hkept Reg.HBMC_HOT _ _ (by decide) (by omega) (by decide)).trans
      (hr ▸ hnoted.kept Reg.HBMC_HOT _ _ (by decide) (by omega) (by decide))

theorem coolReport_parts (h : Clocked s) (k : StackId) {celsius : Nat} (hc : celsius ≤ 80) : Yields (.stackTemperatureReport k celsius) s (fun t =>
    hotBit t k = false ∧ t.mem = s.mem ∧ t.queues = s.queues ∧ OnlyField s t Reg.HBMC_HOT (k.val / 2) 0) := by
  have hlive : exec (.stackTemperatureReport k celsius) s = _ := congrArg Host.Outcome.next (live_of_clocked h _)
  have hgo : ¬ (85 < celsius ∧ (!hotBit s k) = true) := by omega
  by_cases hhot : hotBit s k = true
  · exact ⟨setHot s k false, hlive.trans (congrArg Host.Outcome.next ((if_neg hgo).trans (if_pos ⟨hc, hhot⟩))), hotBit_setHot s k false, rfl,
      rfl, onlyField_rset s _ _ _ _⟩
  · exact ⟨s, hlive.trans (congrArg Host.Outcome.next ((if_neg hgo).trans (if_neg (fun h => hhot h.2)))), Bool.eq_false_iff.mpr hhot, rfl, rfl,
      OnlyField.of_eq rfl _ _ _⟩

theorem exec_refreshWindow (h : Clocked s) (v : RefreshUnit) : exec (.refreshWindow v) s = .next (if (refreshOf s v).2.2.2 then
    advance (advanceFt s (nextWindow s.time.ft (refreshOf s v).1 (refreshOf s v).2.2.1)) (refreshOf s v).2.1 else s) := by
  refine congrArg Host.Outcome.next ((live_of_clocked h _).trans ?_)
  dsimp only
  cases (refreshOf s v).2.2.2 <;> rfl

/-- Settles O28: an ownership write ends in `changeOwners` and a fill in `fillDone`; a patrol read does what `patrolLine` says. -/
theorem ownershipAndMemoryUpkeep : Obligations.OwnershipAndMemoryUpkeep := by
  unfold Obligations.OwnershipAndMemoryUpkeep
  refine ⟨⟨fun s u w r valid t c hc hl hfit => ?_, fun s r c hclk hc hbusy hq => ?_⟩, fun s hclk => ⟨fun line found raced hr => ?_,
    fun line raced hn => ?_, fun line raced hh hg => ⟨fun hf => ?_, fun hf => ?_⟩, fun line raced hh hg hn => ⟨?_, ?_⟩,
    fun line hh hg hn hp => ?_, exec_refreshWindow hclk, fun k _ => hotReport_parts hclk k, fun k _ => coolReport_parts hclk k⟩⟩
  · obtain ⟨hexec, hr, hp⟩ := exec_ownership hc hl
    have hways := upkept_counterWays (changeOwner u r valid t) hr
    refine ⟨fun hne hfree => ?_, fun hne hbusy => ?_, fun heq hfree => ?_⟩
    · have hchange : changeOwner u r valid t = startFill u r valid t.val := (if_neg hne).trans (if_neg (by rw [hfree]; decide))
      rw [hchange] at hexec hways
      obtain ⟨hown, hbusy, hzero, hqueues, hlinks⟩ := (filled_startFill hfit hr hp valid t).upkept hr hways
      exact ⟨_, hexec, hown, hbusy, hzero, hqueues, hlinks⟩
    · have hchange : changeOwner u r valid t =
          { u with fills := { u.fills with queued := mapUpd u.fills.queued r.key [] (· ++ [(valid, t)]) } } :=
        (if_neg hne).trans (if_pos hbusy)
      rw [hchange] at hexec hways
      refine ⟨_, hexec, ?_, hways.owner hr, hways.queues⟩
      rw [hways.queued]
      exact mapGet_mapSet_same ..
    · have hchange : changeOwner u r valid t = u := if_pos heq
      rw [hchange] at hexec hways
      exact ⟨_, hexec, hways.owner hr, hways.queues, hways.busy⟩
  · obtain ⟨hexec, hr⟩ := exec_fillDone hclk hc
    exact ⟨_, hexec, fillDone_of_last hr hbusy hq⟩
  · rw [exec_patrol hclk, if_pos hr]
  · rw [exec_patrol hclk, patrolLine, readLine_of_none hn, ite_self]
  · rw [exec_patrol hclk, if_neg (not_or.mpr ⟨hh, hg⟩), patrolLine, readLine, hf]
    rfl
  · rw [exec_patrol hclk, if_neg (not_or.mpr ⟨hh, hg⟩), patrolLine, readLine, hf]
    rfl
  · rw [exec_patrol hclk, if_neg (not_or.mpr ⟨hh, hg⟩), patrolLine, readLine_of_none hn]
  · exact correctedLine_parts s line
  · refine ⟨_, (exec_patrol hclk line .uncorrectable false).trans (by
      rw [if_neg (not_or.mpr ⟨hh, hg⟩), patrolLine, readLine_of_none hn, if_neg (by simpa using hp)]), poisonLine_parts hp⟩

end Sys2Proof.Machine
end

section
/-! PROOFS. WRITE and READ at their target: the units that hold the address wake, and a plain access stores or returns its bytes
(R270, R273, R278, R415). -/

namespace Sys2Proof.Machine

variable {s t u : State}

-- units that wake -----------------------------------------------------------------------------------------------------

/-- t differs from s in what the links, the router and their counts hold, in clocks and power, and in registers. -/
def Roused (s t : State) : Prop :=
  t = { s with
    regs := t.regs, ledger := t.ledger, out := t.out, pins := { s.pins with acked := t.pins.acked }, links := t.links, route := t.route
    resets := { s.resets with lastSent := t.resets.lastSent }, perturb := t.perturb, clocks := t.clocks, power := t.power }

theorem Roused.trans (h : Roused s t) (g : Roused t u) : Roused s u := by
  unfold Roused at *
  rw [g, h]

theorem Relinked.roused (h : Relinked s t) : Roused s t := by
  unfold Relinked Roused at *
  rw [h]

theorem Roused.mem (h : Roused s t) : t.mem = s.mem := by rw [h]
theorem Roused.queues (h : Roused s t) : t.queues = s.queues := by rw [h]
theorem Roused.sbus (h : Roused s t) : t.sbus = s.sbus := by rw [h]
theorem Roused.msf (h : Roused s t) : t.msf = s.msf := by rw [h]

theorem roused_foldl {α : Type} {f : State → α → State} (hf : ∀ s x, Roused s (f s x)) (l : List α) (s : State) : Roused s (l.foldl f s) := by
  induction l generalizing s with
  | nil => rfl
  | cons x l ih => exact (hf s x).trans (ih _)

theorem roused_setSleep (s : State) (k : Nat) (v : Option Sleep) : Roused s (setSleep s k v) := rfl

theorem roused_earlyWake (s : State) (k : Nat) : Roused s (earlyWake s k) := by
  unfold earlyWake
  split
  · rfl
  · split
    · exact (roused_setSleep s k _).trans (relinked_rinc ..).roused
    · exact (roused_setSleep s k _).trans (relinked_rinc ..).roused
    · rfl

theorem roused_domainsOff (s : State) (l : List Nat) : Roused s (domainsOff s l) := by
  obtain ⟨x, hx⟩ := domainsOff_form s l
  rw [hx]
  rfl

theorem roused_entryDone (s : State) (k : Nat) : Roused s (entryDone s k) := by
  unfold entryDone
  split
  · refine Roused.trans ?_ (roused_setSleep ..)
    refine Roused.trans ?_ (relinked_countEntry _ k).roused
    refine Roused.trans ?_ (roused_domainsOff ..)
    split
    · exact (relinked_moduleDown s).roused
    · rfl
  · rfl

theorem roused_exitDone (s : State) (k : Nat) : Roused s (exitDone s k) := by
  unfold exitDone
  split
  · dsimp only
    split <;> rfl
  · rfl

theorem roused_rouse (s : State) (l : List Nat) : Roused s (rouse s l) := by
  refine roused_foldl (fun s k => ?_) l s
  refine Roused.trans ?_ (roused_exitDone _ k)
  split
  · exact roused_entryDone s k
  · rfl

/-- An arrival wakes the units that hold its address, and does nothing else. -/
theorem roused_arriveAt (s : State) (a : Nat) : Roused s (arriveAt s a) := (roused_foldl roused_earlyWake _ s).trans (roused_rouse _ _)

-- accesses to plain ranges --------------------------------------------------------------------------------------------

theorem regionOf_eq_reg_iff (a : Nat) : regionOf a = .reg ↔ 0x030000000000 ≤ a ∧ a < 0x030004000000 := by
  unfold regionOf regBase roomBase
  repeat' split
  all_goals simp only [reduceCtorEq, false_iff, true_iff]
  all_goals omega

/-- A range with no hole has no register in it. -/
theorem inRegs_of_no_hole {a n : Nat} (h : hasHole a n = false) : inRegs a n = false := by
  by_cases hn : n = 0
  · simp [inRegs, hn]
  · have hline := not_hasHole_iff.mp h (a / 64) (mem_linesOf.mpr ⟨by omega, le_rfl, by omega⟩)
    have hreg : regionOf a ≠ .reg := fun hr => by
      rw [(regionOf_eq_reg_iff _).mpr (by have := (regionOf_eq_reg_iff a).mp hr; omega)] at hline
      exact absurd hline (by decide)
    simp [inRegs, hreg]

theorem invalControl_queues (s : State) (line : Nat) : (invalControl s line).queues = s.queues := (upkept_invalControl s line).queues

/-- A clear line of a write leaves the queues as they are. -/
theorem wrLine_queues {x : Access} {line : Nat} (h : ClearLine x.s x.tenant line) (hn : NoDebug x.s) (a : Nat) (data : List Byte) :
    (x.wrLine a data line).s.queues = x.s.queues := by
  obtain ⟨hmay, hout, hpoison, hflaw⟩ := h
  obtain ⟨hmp, -⟩ := meetLine_of_clear hflaw (WholeLine a data.length line)
  have hmeet : (meetLine x.s line (WholeLine a data.length line)).queues = x.s.queues := by
    unfold meetLine
    split
    · rfl
    · rw [readLine_of_no_flaw hflaw]
  have hnd := (served_meetLine x.s line (WholeLine a data.length line)).toAccessed.noDebug hn
  rw [wrLine_eq, if_neg (by simpa using hmay), if_neg (by simpa using hout),
    if_neg (by rw [hmp, List.contains_iff_mem]; exact fun hc => hpoison hc.2)]
  refine Eq.trans ?_ hmeet
  have hclear := (served_clearCaches (meetLine x.s line (WholeLine a data.length line)) line).toAccessed.noDebug hnd
  rw [storeLine, provokeEcc_of_noDebug ((accessed_store _ _ _).noDebug hclear)]
  show (clearCaches (meetLine x.s line (WholeLine a data.length line)) line).queues = _
  unfold clearCaches
  split
  · exact invalControl_queues ..
  · rfl

theorem foldl_wrLine_queues {x : Access} (a : Nat) (data : List Byte) {l : List Nat} (h : ∀ k ∈ l, ClearLine x.s x.tenant k)
    (hn : NoDebug x.s) : (l.foldl (fun x k => x.wrLine a data k) x).s.queues = x.s.queues := by
  induction l generalizing x with
  | nil => rfl
  | cons line l ih =>
    have hline := h line List.mem_cons_self
    obtain ⟨hcalm, -, -⟩ := calm_wrLine hline hn a data
    refine (ih (fun k hk => ?_) (hcalm.state.noDebug hn)).trans (wrLine_queues hline hn a data)
    rw [hcalm.tenant]
    exact hcalm.clearLine (h k (List.mem_cons_of_mem line hk))

/-- A write to clear lines waits for the refresh of those lines, and leaves the queues as the wait left them. -/
theorem wr_queues {x : Access} {a : Nat} {data : List Byte} (h : Clear x.s x.tenant a data.length) :
    (x.wr a data).s.queues = (awaitRefresh x.s (linesOf a data.length)).queues := by
  have hall : (linesOf a data.length).filter (fun l => mayAccess x.s x.tenant (regionOf (64 * l))) = linesOf a data.length :=
    List.filter_eq_self.mpr fun l hl => (h.lines l hl).1
  have hbegun := calm_begun x a data.length (linesOf a data.length)
  rw [wr_of_no_hole x h.noHole, hall]
  exact foldl_wrLine_queues a data (fun k hk => hbegun.clearLine (h.lines k hk)) (hbegun.state.noDebug h.noDebug)

-- WRITE and READ ------------------------------------------------------------------------------------------------------

/-- t differs from s in HEALTH's mirror and in what sending a packet changes. -/
structure Answered (s t : State) : Prop where
  mem : t.mem = s.mem
  queues : t.queues = s.queues
  posted : t.sbus.posted = s.sbus.posted

theorem Answered.trans (h : Answered s t) (g : Answered t u) : Answered s u :=
  ⟨g.mem.trans h.mem, g.queues.trans h.queues, g.posted.trans h.posted⟩

theorem Sent.answered (h : Sent s t) : Answered s t := ⟨h.mem, h.queues, by rw [h.form]⟩

theorem answered_noteRecord (s : State) (t a : Nat) (data : List Byte) : Answered s (noteRecord s t a data) := by
  unfold noteRecord
  dsimp only
  split
  · exact ⟨rfl, rfl, rfl⟩
  · split
    · split
      · exact ⟨rfl, rfl, rfl⟩
      · exact ⟨rfl, rfl, rfl⟩
    · exact ⟨rfl, rfl, rfl⟩

theorem answered_mirrorChunk (s : State) (t flow op : Nat) (data : List Byte) : Answered s (mirrorChunk s t flow op data) := by
  unfold mirrorChunk
  split
  · exact (sent_send ..).answered
  · exact ⟨rfl, rfl, rfl⟩

theorem drainPosted_of_nil (h : s.sbus.posted = []) : drainPosted s = { s with sbus := { s.sbus with posted := [] } } := by
  rw [drainPosted, h]
  rfl

/-- A chunk that landed with no fault is noted, mirrored and answered; no posted write waits. -/
theorem writeLanded_parts (p : Packet) (data : List Byte) (hw : pWiden p = false) (hp : s.sbus.posted = []) :
    (writeLanded s p data []).mem = s.mem ∧ (writeLanded s p data []).queues = s.queues := by
  obtain ⟨y, hy⟩ : ∃ y, y = mirrorChunk (noteRecord s (pTenant p) (pAddr p) data) (pTenant p) (pFlow p) (writeOp (pAddr p) (pSeq p).toNat
      (pf p 144 8) (pf p 152 8) 0 (pRetry p) (pArrive p) false (pCtr p) (pCluster p)) data := ⟨_, rfl⟩
  have hans : Answered s y := hy ▸ (answered_noteRecord ..).trans (answered_mirrorChunk ..)
  have hdef : writeLanded s p data [] = answerPacket (drainPosted y) p 3 (worst []) 0 [] := by
    unfold writeLanded
    dsimp only
    rw [countWiden, hw, if_neg Bool.false_ne_true, if_pos rfl, if_pos rfl, hy]
  rw [hdef, drainPosted_of_nil (hans.posted.trans hp)]
  exact ⟨(sent_answerPacket ..).mem.trans hans.mem, (sent_answerPacket ..).queues.trans hans.queues⟩

theorem worst_nil : worst [] = 0 := by decide

/-- Settles O36: a plain WRITE stores its bytes, and a plain READ answers with them. -/
theorem remoteAccessesAtTheirTarget : Obligations.RemoteAccessesAtTheirTarget := by
  unfold Obligations.RemoteAccessesAtTheirTarget
  refine ⟨fun s u l p hpass harr hwid hposted hplain => ?_, fun s u l p hpass hside hregs hplain => ?_⟩
  · have hrouse := roused_arriveAt u (pAddr p)
    obtain ⟨x, hx⟩ : ∃ x, x = Access.start (arriveAt u (pAddr p)) (pTenant p) none := ⟨_, rfl⟩
    have hxp : Plain x.s x.tenant (pAddr p) p.data.length := hx ▸ hplain
    obtain ⟨hcalm, hstalled, hread, hout⟩ := plain_wr hxp
    have hplace : x.place 11 (pAddr p) p.data = x.wr (pAddr p) p.data := if_neg (by rw [inRegs_of_no_hole hplain.2.1]; decide)
    have hx' : x.stalled = false ∧ x.faults = [] := hx ▸ ⟨rfl, rfl⟩
    have hrun : exec (.write l p) s = .next (writeLanded (x.wr (pAddr p) p.data).s p p.data []) := by
      refine (congrArg Host.Outcome.next (live_arrived hpass _)).trans ?_
      have hwid' : widened (arriveAt u (pAddr p)) p = (p.data, arriveAt u (pAddr p)) := if_pos (by rw [hwid]; rfl)
      simp only [hwid', placeChunk, harr, Bool.not_false, if_true, ← hx, hplace, hstalled, hx'.1, Bool.false_eq_true, if_false, Bool.not_true,
        hcalm.faults, hx'.2, Option.getD_some]
    have hposted' : (x.wr (pAddr p) p.data).s.sbus.posted = [] := by
      have h1 : (x.wr (pAddr p) p.data).s.sbus = x.s.sbus := by rw [hcalm.state.form]
      have h2 : u.sbus = s.sbus := by rw [hpass.met.form]
      rw [h1, hx, Access.start, hrouse.sbus, h2, hposted]
    obtain ⟨hmem, hqueues⟩ := writeLanded_parts (s := (x.wr (pAddr p) p.data).s) p p.data hwid hposted'
    have hstart : x.s.mem = s.mem := by rw [hx, Access.start, hrouse.mem, hpass.met.mem]
    refine ⟨_, hrun, fun j hj => ?_, fun b hb => ?_, ?_⟩
    · rw [hmem, (calm_wr hxp.clear).2.2.1 _ (Nat.le_add_right _ j) (by omega), Nat.add_sub_cancel_left]
      rfl
    · rw [hmem, hout b hb, hstart]
    · rw [hqueues, wr_queues hxp.clear, hx]
      rfl
  · have hrouse := roused_arriveAt u (pAddr p)
    obtain ⟨x, hx⟩ : ∃ x, x = Access.start (arriveAt u (pAddr p)) (pTenant p) none := ⟨_, rfl⟩
    have hxp : Plain x.s x.tenant (pAddr p) p.side := hx ▸ hplain
    obtain ⟨hread, hcalm, hmem, hstalled⟩ := plain_rd hxp
    have hx' : x.stalled = false ∧ x.faults = [] := hx ▸ ⟨rfl, rfl⟩
    have hstart : x.s.mem = s.mem := by rw [hx, Access.start, hrouse.mem, hpass.met.mem]
    have hend : (x.rd (pAddr p) p.side).2.s = awaitRefresh (arriveAt u (pAddr p)) (linesOf (pAddr p) p.side) := by
      rw [rd_snd_of_legible hxp.clear.toLegible, hx]
      rfl
    have hrun : exec (.read l p) s = .next (answerPacket (awaitRefresh (arriveAt u (pAddr p)) (linesOf (pAddr p) p.side)) p 2 0
        (if allParam (arriveAt u (pAddr p)) (pAddr p) p.side then 2 ^ 12 else 0) (memRead s.mem (pAddr p) p.side)) := by
      refine (congrArg Host.Outcome.next (live_arrived hpass _)).trans ?_
      simp only [if_neg hside, hregs, Bool.false_eq_true, if_false, ← hx, hstalled, hx'.1, hcalm.faults, hx'.2, hread, hstart, hend,
        Option.getD_some, worst_nil, true_and]
    refine ⟨_, hrun, ?_, rfl⟩
    rw [(sent_answerPacket ..).mem, ← hend, hmem, hstart]

end Sys2Proof.Machine
end

section
/-! PROOFS. Remote atomics and their resends, fences and invalidations (R268, R279, R283, R285). -/

namespace Sys2Proof.Machine

variable {s t u : State}

-- dockets and their SEQ -----------------------------------------------------------------------------------------------

theorem QEntry.is_toRef (e : QEntry) : e.is e.toRef = true := by simp [QEntry.is, QEntry.toRef]

theorem QEntry.tenant_of_is {e : QEntry} {r : DocketRef} (h : e.is r = true) : e.tenant = r.tenant := by
  simp only [QEntry.is, Bool.and_eq_true, beq_iff_eq] at h
  exact h.1.2

/-- A docket of a queue is found by its reference, or one of the same reference before it. -/
theorem entryOf_of_mem {q : Nat} {e : QEntry} (h : e ∈ queue s q) : ∃ f, entryOf s q e.toRef = some f ∧ f.tenant = e.tenant := by
  obtain ⟨f, hf⟩ := Option.isSome_iff_exists.mp (List.find?_isSome (p := (·.is e.toRef)) |>.mpr ⟨e, h, e.is_toRef⟩)
  exact ⟨f, hf, QEntry.tenant_of_is (by simpa using List.find?_some hf)⟩

theorem entryOf_of_unstarted {q : Nat} {g : QEntry → Bool} {e : QEntry} (h : unstarted s q g = some e) :
    ∃ f, entryOf s q e.toRef = some f ∧ f.tenant = e.tenant := entryOf_of_mem (List.mem_of_find?_eq_some h)

theorem queue_updEntry_of_ne (s : State) {q k : Nat} (h : k ≠ q) (r : DocketRef) (f : QEntry → QEntry) :
    queue (updEntry s q r f) k = queue s k := mapGet_mapSet_ne s.queues _ _ h

theorem issueSeq_parts (s : State) (n : Nat) : (issueSeq s n).2.mem = s.mem ∧ (issueSeq s n).2.queues = s.queues := by
  obtain ⟨b, x, hb⟩ : ∃ (b : Bool) (x : MsfSt), issueSeq s n =
      if b then (some (mapGet s.msf.nextSeq n 0), { s with msf := x }) else (none, rinc s Reg.MSF_SEQ_WAITS) := ⟨_, _, rfl⟩
  rw [hb]
  split
  · exact ⟨rfl, rfl⟩
  · exact ⟨rinc_mem .., rinc_queues ..⟩

/-- Taking a SEQ changes the sequencer and the docket that holds it only. -/
theorem seqFor_parts {q : Nat} {e : QEntry} {n : W32} (h : seqFor s q e = (some n, t)) : t.mem = s.mem ∧
    (∀ k, k ≠ q → queue t k = queue s k) ∧ ∀ f, entryOf s q e.toRef = some f → ∃ g, entryOf t q e.toRef = some g ∧ g.tenant = f.tenant := by
  obtain ⟨hmem, hqueues⟩ := issueSeq_parts s e.tenant.val
  unfold seqFor at h
  split at h
  · cases h
    exact ⟨rfl, fun _ _ => rfl, fun f hf => ⟨f, hf, rfl⟩⟩
  · rcases hi : issueSeq s e.tenant.val with ⟨m, v⟩
    rw [hi] at h hmem hqueues
    cases m with
    | none => cases h
    | some m =>
      cases h
      refine ⟨hmem, fun k hk => (queue_updEntry_of_ne _ hk _ _).trans (queue_congr hqueues k), fun f hf => ⟨_,
        entryOf_updEntry_of_some ((entryOf_congr hqueues q _).trans hf) (fun _ => rfl), rfl⟩⟩

-- operations ----------------------------------------------------------------------------------------------------------

theorem ropOf_congr (h : t.msf.ops = s.msf.ops) (n : Nat) (seq : W32) : ropOf t n seq = ropOf s n seq := by simp only [ropOf, h]

/-- An operation added under a free SEQ is found. -/
theorem ropOf_addRop (o : ROp) (h : ropOf s o.tenant.val o.seq = none) : ropOf (addRop s o) o.tenant.val o.seq = some o := by
  have hnone : s.msf.ops.find? (fun x => x.tenant.val == o.tenant.val && x.seq == o.seq) = none := h
  rw [ropOf, addRop]
  dsimp only
  rw [List.find?_append, hnone]
  simp

/-- An operation changed is found changed. -/
theorem ropOf_updRop {o x : ROp} (h : ropOf s o.tenant.val o.seq = some x) {f : ROp → ROp}
    (hf : ∀ y, (f y).tenant = y.tenant ∧ (f y).seq = y.seq) : ropOf (updRop s o f) o.tenant.val o.seq = some (f x) := by
  have hp : (fun y : ROp => y.tenant == o.tenant && y.seq == o.seq) = (fun y => y.tenant.val == o.tenant.val && y.seq == o.seq) := by
    funext y
    rw [Bool.eq_iff_iff]
    simp [Fin.ext_iff]
  have hfind := find?_updFirst (p := fun y : ROp => y.tenant.val == o.tenant.val && y.seq == o.seq) (f := f)
    (fun y => by rw [(hf y).1, (hf y).2]) s.msf.ops
  rw [ropOf, updRop, hp]
  refine hfind.trans ?_
  rw [show s.msf.ops.find? (fun y => y.tenant.val == o.tenant.val && y.seq == o.seq) = some x from h]
  rfl

-- RATOMIC -------------------------------------------------------------------------------------------------------------

theorem cacheForget_form (s : State) (n a len : Nat) : ∃ c, cacheForget s n a len = { s with msf := { s.msf with cache := c } } := by
  refine List.foldlRecOn (linesOf a len) _ (motive := fun t => ∃ c : SMap CacheLine, t = { s with msf := { s.msf with cache := c } }) ⟨s.msf.cache, rfl⟩ ?_
  rintro t ⟨c, rfl⟩ l -
  exact ⟨_, rfl⟩

/-- An atomic to another device that has a SEQ and whose docket stands leaves as a packet. -/
theorem startAtomic_remote {q : Nat} {e f : QEntry} {n : W32} (hdev : gDev (atomicReq e).addr % 4 = 0)
    (hne : gDev (atomicReq e).addr ≠ ownDev s) (hloc : gLoc (atomicReq e).addr < 2 ^ 43) (hpeer : peerFault s (gDev (atomicReq e).addr) = 0)
    (hseq : seqFor s q e = (some n, t)) (hf : entryOf t q e.toRef = some f) (hfree : ropOf t f.tenant.val n = none) : ∃ (y : State) (o : ROp) (p : Packet),
      startAtomic s q e = send y (some q) p ∧ y.mem = t.mem ∧ y.queues = (updEntry t q e.toRef (fun e => { e with started := true })).queues ∧
        ropOf y f.tenant.val n = some o ∧ o.kind = 2 ∧ o.unacked = [0] ∧ o.queue = q := by
  have hg : entryOf (updEntry t q e.toRef (fun e => { e with started := true })) q e.toRef = some { f with started := true } :=
    entryOf_updEntry_of_some hf (fun _ => rfl)
  obtain ⟨c, hc⟩ := cacheForget_form (updEntry t q e.toRef (fun e => { e with started := true })) (q / 256) (atomicReq e).addr 8
  obtain ⟨z, hz⟩ : ∃ z, z = cacheForget (updEntry t q e.toRef (fun e => { e with started := true })) (q / 256) (atomicReq e).addr 8 := ⟨_, rfl⟩
  obtain ⟨o, ho⟩ : ∃ o : ROp, startRemote z q { f with started := true } 2 (gDev (atomicReq e).addr) 1 n = addRop z o ∧
    o.tenant = f.tenant ∧ o.seq = n ∧ o.kind = 2 ∧ o.queue = q := ⟨_, rfl, rfl, rfl, rfl, rfl⟩
  obtain ⟨hadd, htenant, hseq', hkind, hqueue⟩ := ho
  have hzops : ropOf z o.tenant.val o.seq = none := by
    rw [htenant, hseq', ← hfree]
    exact ropOf_congr (by rw [hz, hc]; rfl) _ _
  have hrop := ropOf_addRop o hzops
  refine ⟨updRop (addRop z o) o (fun o => { o with nextChunk := 1, unacked := [0] }), { o with nextChunk := 1, unacked := [0] },
    atomicPacket (addRop z o) { f with started := true } o, ?_, ?_, ?_, ?_, hkind, rfl, hqueue⟩
  · unfold startAtomic
    dsimp only
    rw [if_neg (not_not.mpr hdev), if_neg hne, if_neg (not_not.mpr hpeer), if_neg (fun h => absurd h.2 (Nat.not_le.mpr hloc)), hseq]
    rw [htenant, hseq'] at hrop
    simp only [hg, if_neg hne, ← hz, hadd, hrop]
  · rw [← show z.mem = t.mem by rw [hz, hc]; rfl]
    rfl
  · have hq : z.queues = (updEntry t q e.toRef (fun e => { e with started := true })).queues := by rw [hz, hc]
    exact hq
  · have hupd := ropOf_updRop hrop (f := fun o => { o with nextChunk := 1, unacked := [0] }) (fun _ => ⟨rfl, rfl⟩)
    rw [← htenant, ← hseq']
    exact hupd

theorem startSignal_of_idle {core : Nat} (h : queue s (4 * core + 3) = []) : startSignal s core = s := by
  rw [startSignal, unstarted, h]
  rfl

-- RINVAL --------------------------------------------------------------------------------------------------------------

theorem invalRange_parts (s : State) (a n die : Nat) : (invalRange s a n die).mem = s.mem ∧ (invalRange s a n die).queues = s.queues ∧
    (invalRange s a n die).msf.windows = s.msf.windows ∧
    (invalRange s a n die).msf.cache = s.msf.cache.filter (fun c => !(c.1 / 2 ^ 60 == die && inRange a n (c.1 % 2 ^ 60))) := by
  obtain ⟨dir, ops, k, h⟩ : ∃ (dir : SMap Byte) (ops : List ROp) (k : Nat), invalRange s a n die = rinc { s with msf := { s.msf with
      cache := s.msf.cache.filter (fun c => !(c.1 / 2 ^ 60 == die && inRange a n (c.1 % 2 ^ 60))), dir := dir, ops := ops } }
      Reg.MSF_INVAL_LINES 0 0 k := ⟨_, _, _, rfl⟩
  rw [h, rinc_mem, rinc_queues, rinc_msf]
  exact ⟨rfl, rfl, rfl, rfl⟩

/-- The lines of a range leave the cache of every die of a list. -/
theorem invalRanges_parts (a n : Nat) (l : List Nat) (s : State) :
    let t := l.foldl (fun s d => invalRange s a n d) s
    t.mem = s.mem ∧ t.queues = s.queues ∧ t.msf.windows = s.msf.windows ∧ ∀ c ∈ t.msf.cache, c ∈ s.msf.cache ∧
      (c.1 / 2 ^ 60 ∈ l → inRange a n (c.1 % 2 ^ 60) = false) := by
  induction l generalizing s with
  | nil => exact ⟨rfl, rfl, rfl, fun c hc => ⟨hc, fun h => absurd h List.not_mem_nil⟩⟩
  | cons d l ih =>
    obtain ⟨hmem, hqueues, hwin, hcache⟩ := invalRange_parts s a n d
    obtain ⟨hmem', hqueues', hwin', hcache'⟩ := ih (invalRange s a n d)
    refine ⟨hmem'.trans hmem, hqueues'.trans hqueues, hwin'.trans hwin, fun c hc => ?_⟩
    obtain ⟨hin, hout⟩ := hcache' c hc
    rw [hcache, List.mem_filter] at hin
    refine ⟨hin.1, fun h => ?_⟩
    rcases List.mem_cons.mp h with hd | hl
    · rw [hd, beq_self_eq_true, Bool.true_and, Bool.not_eq_true'] at hin
      exact hin.2
    · exact hout hl

/-- Settles O39: an atomic leaves as one packet and goes again, a fence waits for `awaitedOf`, and RINVAL clears its range. -/
theorem remoteAtomicsAndFences : Obligations.RemoteAtomicsAndFences := by
  unfold Obligations.RemoteAtomicsAndFences
  refine ⟨⟨fun s v core e seq hclk hidle hun hdev hne hloc hpeer hseq hfree => ?_, ?_⟩, fun s core e hclk => ⟨fun hun hnil => ?_, fun hun hsome => ?_,
    fun hun hdev => ?_, fun hun hdev => ?_⟩⟩
  · obtain ⟨f, hf, hft⟩ := entryOf_of_unstarted hun
    obtain ⟨hmem, hqueue, hentry⟩ := seqFor_parts hseq
    obtain ⟨g, hg, hgt⟩ := hentry f hf
    have htenant : g.tenant = e.tenant := hgt.trans hft
    obtain ⟨y, o, p, hstart, hymem, hyq, hrop, hkind, hunacked, hoq⟩ := startAtomic_remote hdev hne hloc hpeer hseq hg (htenant ▸ hfree)
    have hsent := sent_send y (some (4 * core.val + 2)) p none
    have hqueues := hsent.queues.trans hyq
    have hsignal : queue (send y (some (4 * core.val + 2)) p) (4 * core.val + 3) = [] :=
      (queue_congr hqueues _).trans ((queue_updEntry_of_ne v (by omega) _ _).trans ((hqueue _ (by omega)).trans hidle))
    refine ⟨send y (some (4 * core.val + 2)) p, congrArg Host.Outcome.next ((live_of_clocked hclk _).trans ?_),
      ⟨o, (ropOf_congr (congrArg MsfSt.ops hsent.msf) _ _).trans (htenant ▸ hrop), hkind, hunacked, hoq⟩,
      ⟨_, (entryOf_congr hqueues _ _).trans (entryOf_updEntry_of_some hg (fun _ => rfl)), rfl⟩, hsent.mem.trans (hymem.trans hmem)⟩
    simp only [hun, hstart]
    exact startSignal_of_idle hsignal
  · intro s v core e o hclk hdue he hdone hcut hv hfence hvalid hgen
    refine congrArg Host.Outcome.next ((live_of_clocked hclk _).trans ?_)
    have hgo : ¬ (e.done = true ∨ e.cut = true) := by simp [hdone, hcut]
    have hends : peerEnds v o = none := by
      rw [peerEnds]
      rw [if_neg (by simp [hfence, hvalid]), if_pos hgen]
    simp only [hdue, he, if_neg hgo, ← hv, hends]
  · refine congrArg Host.Outcome.next ((live_of_clocked hclk _).trans ?_)
    simp only [hun, hnil, if_true]
    rfl
  · have hlist : (awaitedOf s core.val e == []) = false := by simpa using hsome
    have hrun : exec (.rfence core) s = .next (updEntry { s with msf := { s.msf with
        fences := mapSet s.msf.fences (4 * core.val + 2) (awaitedOf s core.val e) } } (4 * core.val + 2) e.toRef
        (fun e => { e with started := true, done := false })) := by
      refine congrArg Host.Outcome.next ((live_of_clocked hclk _).trans ?_)
      simp only [hun, if_neg hsome, hlist]
    refine ⟨_, hrun, mapFind_mapSet_same .., rfl, rfl, rfl, rfl⟩
  · refine congrArg Host.Outcome.next ((live_of_clocked hclk _).trans ?_)
    simp only [hun, if_pos hdev]
  · obtain ⟨f, hf, -⟩ := entryOf_of_unstarted hun
    obtain ⟨l, hl⟩ : ∃ l, l = (if dkf e.dk 0x30 0 1 = 1 then List.range 8 else [core.val / 64]) := ⟨_, rfl⟩
    obtain ⟨hmem, hqueues, hwin, hcache⟩ := invalRanges_parts (dkf e.dk 0x38 0 64) (dkf e.dk 0x40 0 40) l s
    have hrun : exec (.rinval core) s = .next (updEntry (l.foldl (fun s n => invalRange s (dkf e.dk 0x38 0 64) (dkf e.dk 0x40 0 40) n) s)
        (4 * core.val + 2) e.toRef (fun e => { e with started := true, done := true })) := by
      refine congrArg Host.Outcome.next ((live_of_clocked hclk _).trans ?_)
      simp only [hun, if_neg (not_not.mpr hdev), ← hl]
    refine ⟨_, hrun, hmem, hwin, ⟨_, entryOf_updEntry_of_some ((entryOf_congr hqueues _ _).trans hf) (fun _ => rfl), rfl, rfl⟩,
      fun c hc hdie => (hcache c hc).2 ?_⟩
    have hcore := core.isLt
    rw [hl]
    split
    · rw [List.mem_range]
      omega
    · next hwide => exact List.mem_singleton.mpr (hdie.resolve_right (fun h => hwide h.1))

end Sys2Proof.Machine
end

section
/-! PROOFS. Packets through the router: a REJECT of a module whose OWN_GEN is wider than its field (R251, R261). -/

namespace Sys2Proof.Machine

/-- A module whose register file holds 4096 as OWN_GEN, with group 0 for itself alone. -/
def wideGen : State := { State.reset with
  regs := [(regKey Reg.ROUTE_OWN_GEN 0 0, 4096)]
  route := { State.reset.route with groups := [(0, { valid := true, loc := true, mask := 0 })] } }

/-- A packet of another generation than the peer table's. -/
def strayGen : Packet := { hdr := 2 ^ 40, data := [], side := 0 }

/-- The REJECT that answers it carries bit 12 of OWN_GEN as its MCAST, and comes back to the inbox. -/
theorem inbox_wideGen {t : State} (h : exec (.packetForward (some 0) strayGen) wideGen = .next t) : t.route.inbox.length = 1 := by
  have hrun : (match exec (.packetForward (some 0) strayGen) wideGen with | .next t => t.route.inbox.length | _ => 0) = 1 := by decide +kernel
  rwa [h] at hrun

/-- Refutes O40: the header of a REJECT takes all of OWN_GEN, and a value past its 8 bits makes the packet a multicast one, which is kept. -/
theorem not_packetsAndPeers : ¬ Obligations.PacketsAndPeers := by
  rintro ⟨⟨-, hdrop, -⟩, -⟩
  obtain ⟨t, ht, -, hinbox, -⟩ := hdrop wideGen 0 strayGen (by decide) (by decide) (by decide +kernel) (by decide)
  have hlen := inbox_wideGen ht
  rw [hinbox] at hlen
  exact absurd hlen (by decide)

end Sys2Proof.Machine
end

section
/-! PROOFS. Links that come up, retrain and go down (R49, R239 to R241, R248, R264, R265). -/

namespace Sys2Proof.Machine

variable {s t u : State}

-- what sending leaves alone -------------------------------------------------------------------------------------------

/-- What one link sends changes no other link. -/
structure SentOn (l : Nat) (s t : State) : Prop extends Sent s t where
  others : ∀ n, n ≠ l → linkOf t n = linkOf s n

theorem SentOn.trans {l : Nat} (h : SentOn l s t) (g : SentOn l t u) : SentOn l s u :=
  ⟨h.toSent.trans g.toSent, fun n hn => (g.others n hn).trans (h.others n hn)⟩

theorem sentOn_of_links {l : Nat} (h : Sent s t) (hl : t.links = s.links) : SentOn l s t := ⟨h, fun n _ => linkOf_congr hl n⟩

theorem sentOn_setLink (s : State) {l : Nat} {k : LinkSt} (h : k.received = (linkOf s l).received) : SentOn l s (setLink s l k) :=
  ⟨sent_setLink s h, fun _ hn => linkOf_setLink_ne s k hn⟩

theorem sentOn_emit (s : State) (l : Nat) (o : Out) : SentOn l s (emit s o) := sentOn_of_links (sent_emit s o) rfl

theorem sentOn_foldl {α : Type} {l : Nat} {f : State → α → State} (hf : ∀ s x, SentOn l s (f s x)) (xs : List α) (s : State) :
    SentOn l s (xs.foldl f s) := by
  induction xs generalizing s with
  | nil => exact sentOn_of_links (Sent.refl s) rfl
  | cons x xs ih => exact (hf s x).trans (ih _)

theorem sentOn_sendSlot (s : State) (l : LinkId) : SentOn l.val s (sendSlot s l) := by
  unfold sendSlot
  dsimp only
  split
  · exact sentOn_setLink s (by rfl)
  · exact (sentOn_setLink s (by rfl)).trans (sentOn_emit ..)

theorem sentOn_nextFlit (s : State) (l : LinkId) (kind : Nat) (fseq : BitVec 12) (vc : Nat) (units : List Nat) :
    SentOn l.val s (nextFlit s l kind fseq vc units).2 := by
  unfold nextFlit
  dsimp only
  refine (sentOn_sendSlot s l).trans ?_
  split
  · exact (sentOn_setLink (sendSlot s l) (by rfl)).trans (sentOn_emit ..)
  · exact sentOn_setLink (sendSlot s l) (by rfl)

theorem sentOn_sendData (s : State) (l : LinkId) (vc : Nat) (units : List Nat) : SentOn l.val s (sendData s l vc units) :=
  (sentOn_nextFlit ..).trans ((sentOn_setLink _ (by rfl)).trans (sentOn_of_links (sent_pertFlit ..) (pertFlit_links ..)))

theorem sentOn_linkSend (s : State) (l : LinkId) (p : Packet) : SentOn l.val s (linkSend s l p) := by
  unfold linkSend
  dsimp only
  split
  · exact (sentOn_setLink s (by rfl)).trans ((sentOn_foldl (fun s g => sentOn_sendData s l _ g) _ _).trans (sentOn_emit ..))
  · exact sentOn_setLink s (by rfl)

-- a packet leaves on a live link --------------------------------------------------------------------------------------

theorem mem_of_pickHop {d : Option LinkId} {p : Packet} {cs : List Hop} {h : Hop} (hp : pickHop s d p cs = some h) : h ∈ cs := by
  have shape : ∃ here best : List Hop, (∀ x ∈ here, x ∈ cs) ∧ (∀ x ∈ best, x ∈ cs) ∧ pickHop s d p cs =
      if here ≠ [] then here[hashIndex p here.length]?
      else if rget s Reg.ROUTE_MODE = 0 then cs[hashIndex p cs.length]? else best[hashIndex p best.length]? := by
    refine ⟨_, _, ?_, ?_, rfl⟩
    · intro x hx
      split at hx
      · exact absurd hx List.not_mem_nil
      · exact List.mem_of_mem_filter hx
    · exact fun x hx => List.mem_of_mem_filter hx
  obtain ⟨here, best, hhere, hbest, heq⟩ := shape
  rw [heq] at hp
  split at hp
  · exact hhere h (List.mem_of_getElem? hp)
  · split at hp
    · exact List.mem_of_getElem? hp
    · exact hbest h (List.mem_of_getElem? hp)

theorem up_of_pickLink {d : Option LinkId} {p : Packet} {layer l : Nat} {ls : List Nat} (h : pickLink s d p layer ls = some l) :
    linkUp s l = true := by
  obtain ⟨hop, hpick, hhead⟩ := Option.bind_eq_some_iff.mp h
  obtain ⟨m, hm, rfl⟩ := List.mem_map.mp (mem_of_pickHop hpick)
  cases hhead
  exact (List.mem_filter.mp hm).2

theorem up_of_routeStep {d : Option LinkId} {p : Packet} {r : Nat × Nat} (h : routeStep s d p = some r) : linkUp s r.1 = true := by
  unfold routeStep at h
  dsimp only at h
  split at h
  · obtain ⟨l, hl, rfl⟩ := Option.map_eq_some_iff.mp h
    exact up_of_pickLink hl
  · obtain ⟨hop, -, hlink⟩ := Option.bind_eq_some_iff.mp h
    obtain ⟨l, hl, rfl⟩ := Option.map_eq_some_iff.mp hlink
    exact up_of_pickLink hl

/-- A packet that is sent on changes no link that is not UP. -/
theorem linkOf_forward {n : Nat} (h : linkUp s n = false) (d : Option LinkId) (p : Packet) : linkOf (forward s d p) n = linkOf s n := by
  have drop (f : Fld) : linkOf (routeRecord (rinc s f) f p) n = linkOf s n := by
    refine linkOf_congr ?_ n
    have hraise := (noted_raise (rinc s f) (evOf f 0 8 0 (pTenant p) none [pSrc p, pDst p])).1
    have : (routeRecord (rinc s f) f p).links = (rinc s f).links := by
      rw [routeRecord, hraise]
    rw [this, rinc_links]
  unfold forward
  split
  · exact drop _
  split
  · exact drop _
  split
  · exact drop _
  · next l layer hstep =>
    split
    · have hne : n ≠ l := by
        rintro rfl
        rw [up_of_routeStep hstep] at h
        exact absurd h (by decide)
      exact (sentOn_linkSend s ⟨l, _⟩ _).others n hne
    · rfl

theorem Sent.linkUp (h : Sent s t) {n : Nat} (hn : n < 16384) : linkUp t n = linkUp s n := by
  rw [Machine.linkUp, Machine.linkUp, h.kept Reg.ZLINK_STATE n 0 (by decide) hn (by decide)]

theorem linkOf_foldl_forward {α : Type} {n : Nat} (hn : n < 16384) (g : State → α → Packet) (xs : List α) (s : State)
    (h : linkUp s n = false) : linkOf (xs.foldl (fun s x => forward s none (g s x)) s) n = linkOf s n := by
  induction xs generalizing s with
  | nil => rfl
  | cons x xs ih =>
    exact (ih _ (((sent_forward s none (g s x)).linkUp hn).trans h)).trans (linkOf_forward h none _)

/-- What a link that has lost its flits holds. -/
def LinkSt.lost (k : LinkSt) : LinkSt :=
  { LinkSt.reset with
    failed := k.failed, slot := k.slot, marker := k.marker, timeAt := k.timeAt, tx := k.tx.filter pMcast }

theorem linkOf_loseFlits {l : Nat} (hl : l < 64) (h : linkUp s l = false) : linkOf (loseFlits s l) l = (linkOf s l).lost := by
  refine (linkOf_foldl_forward (by omega) (fun s p => unrouted s l p) _ _ ?_).trans (linkOf_setLink ..)
  obtain ⟨v, hv⟩ := rinc_eq_rset s Reg.ZLINK_LOST_FLITS l 0 (linkOf s l).replay.length
  refine Eq.trans ?_ h
  rw [linkUp, linkUp, hv]
  exact congrArg (· == 7) (rget_rset_of_code (f := Reg.ZLINK_LOST_FLITS) s (by decide) (by omega) (by decide) (by omega) (by decide) _)

theorem codesKept_loseFlits (s : State) {l : Nat} (hl : l < 64) : CodesKept (Reg.ZLINK_LOST_FLITS.code :: sendCodes) s (loseFlits s l) := by
  obtain ⟨v, hv⟩ := rinc_eq_rset s Reg.ZLINK_LOST_FLITS l 0 (linkOf s l).replay.length
  refine CodesKept.trans (t := rset s Reg.ZLINK_LOST_FLITS l 0 v) ?_ ?_
  · exact codesKept_rset (f := Reg.ZLINK_LOST_FLITS) s List.mem_cons_self (by omega) (by decide) v
  · rw [loseFlits, hv]
    exact ((met_setLink _ l _).trans (sent_foldl (fun s p => sent_forward s none (unrouted s l p)) _ _).toMet).kept.mono
      (List.subset_cons_self ..)

-- lanes ---------------------------------------------------------------------------------------------------------------

/-- The codes of the fields that show the lanes of a link. -/
def laneCodes : List Nat := [Reg.ZLINK_LANE_LOCK, Reg.ZLINK_LANE_MAP, Reg.ZLINK_LANE_INVERT].map (·.code)

/-- t shows other lanes than s. -/
structure Lit (s t : State) : Prop where
  form : t = { s with regs := t.regs }
  kept : CodesKept laneCodes s t

theorem Lit.trans (h : Lit s t) (g : Lit t u) : Lit s u := by
  refine ⟨?_, h.kept.trans g.kept⟩
  rw [g.form, h.form]

theorem lit_rset (s : State) {f : Fld} (hf : f.code ∈ laneCodes) {l : Nat} (hl : l < 64) (v : Nat) : Lit s (rset s f l 0 v) :=
  ⟨rfl, codesKept_rset s hf (by omega) (by decide) v⟩

/-- One lane of a link shown. -/
def showLane (k : LinkSt) (l : Nat) (s : State) (n : Nat) : State :=
  let a := laneOf k n
  let s := rbit s Reg.ZLINK_LANE_LOCK l 0 n a.locked
  if a.locked then
    let s := rset s Reg.ZLINK_LANE_MAP l 0 (putBits (rget s Reg.ZLINK_LANE_MAP l) (2 * n) 2 a.logical)
    rbit s Reg.ZLINK_LANE_INVERT l 0 n a.inverted
  else s

theorem lit_showLane (k : LinkSt) {l : Nat} (hl : l < 64) (s : State) (n : Nat) : Lit s (showLane k l s n) := by
  have hlock : Lit s (rbit s Reg.ZLINK_LANE_LOCK l 0 n (laneOf k n).locked) := lit_rset s (by decide) hl _
  unfold showLane
  dsimp only
  split
  · exact hlock.trans ((lit_rset _ (by decide) hl _).trans (lit_rset _ (by decide) hl _))
  · exact hlock

theorem lit_foldl_showLane (k : LinkSt) {l : Nat} (hl : l < 64) (ns : List Nat) (s : State) : Lit s (ns.foldl (showLane k l) s) := by
  induction ns generalizing s with
  | nil => exact ⟨rfl, codesKept_of_regs _ rfl⟩
  | cons n ns ih => exact (lit_showLane k hl s n).trans (ih _)

theorem lit_showLanes (s : State) {l : Nat} (hl : l < 64) : Lit s (showLanes s l) := lit_foldl_showLane (linkOf s l) hl (List.range 4) s

theorem Lit.linkOf (h : Lit s t) (n : Nat) : linkOf t n = linkOf s n := by rw [h.form]; rfl

theorem Lit.linkState (h : Lit s t) {n : Nat} (hn : n < 64) : linkState t n = linkState s n :=
  h.kept Reg.ZLINK_STATE n 0 (by decide) (by omega) (by decide)

theorem linkState_setLinkState (s : State) (l v : Nat) : linkState (setLinkState s l v) l = v % 2 ^ 3 := rget_rset_same ..

theorem all_locked_iff (k : LinkSt) : ((List.range 4).all (fun n => (laneOf k n).locked)) = true ↔ ∀ n : Fin 4, (laneOf k n.val).locked = true := by
  simp only [List.all_eq_true, List.mem_range]
  exact ⟨fun h n => h n.val n.isLt, fun h n hn => h ⟨n, hn⟩⟩

theorem laneOf_mapSet (k : LinkSt) (n m : Nat) (a : LaneSt) : laneOf { k with lanes := mapSet k.lanes n a } m = if m = n then a else laneOf k m := by
  split
  · next h => rw [h]; exact mapGet_mapSet_same ..
  · next h => exact mapGet_mapSet_ne _ _ _ h

/-- A lane's state replaced, and the link on to DESKEW once all lanes are locked. -/
theorem setLane_parts (s : State) {l : Nat} (hl : l < 64) (n : Nat) (a : LaneSt) :
    (∀ m, laneOf (linkOf (setLane s l n a) l) m = if m = n then a else laneOf (linkOf s l) m) ∧
      (setLane s l n a).mem = s.mem ∧ (setLane s l n a).queues = s.queues ∧
      linkState (setLane s l n a) l = if linkState s l = 3 ∧ ∀ m : Fin 4, (if m.val = n then a else laneOf (linkOf s l) m.val).locked = true then 4
        else linkState s l := by
  obtain ⟨k, hk⟩ : ∃ k, k = { linkOf s l with lanes := mapSet (linkOf s l).lanes n a } := ⟨_, rfl⟩
  have hshow := lit_showLanes (setLink s l k) hl
  have hlane (m : Nat) : laneOf k m = if m = n then a else laneOf (linkOf s l) m := by rw [hk, laneOf_mapSet]
  have heq : setLane s l n a = if linkState (showLanes (setLink s l k) l) l = 3 ∧ (List.range 4).all (fun n => (laneOf k n).locked) then
      setLinkState (setLink (showLanes (setLink s l k) l) l { k with cws := 0, good := 0, bad := 0 }) l 4
      else showLanes (setLink s l k) l := by rw [hk]; rfl
  have hstate : linkState (showLanes (setLink s l k) l) l = linkState s l := hshow.linkState hl
  have hiff : (linkState (showLanes (setLink s l k) l) l = 3 ∧ (List.range 4).all (fun n => (laneOf k n).locked) = true) ↔
      linkState s l = 3 ∧ ∀ m : Fin 4, (if m.val = n then a else laneOf (linkOf s l) m.val).locked = true := by
    rw [hstate, all_locked_iff]
    simp only [hlane]
  have hmem : (showLanes (setLink s l k) l).mem = s.mem := by rw [hshow.form]; rfl
  have hqueues : (showLanes (setLink s l k) l).queues = s.queues := by rw [hshow.form]; rfl
  rw [heq]
  by_cases h : linkState s l = 3 ∧ ∀ m : Fin 4, (if m.val = n then a else laneOf (linkOf s l) m.val).locked = true
  · rw [if_pos (hiff.mpr h), if_pos h]
    exact ⟨fun m => (congrArg (laneOf · m) (linkOf_setLink _ l _)).trans (hlane m), hmem, hqueues, linkState_setLinkState ..⟩
  · rw [if_neg (hiff.not.mpr h), if_neg h]
    refine ⟨fun m => ?_, hmem, hqueues, hstate⟩
    rw [hshow.linkOf, linkOf_setLink]
    exact hlane m

/-- All lanes are dropped, and the search begins again. -/
theorem restartSearch_parts (s : State) {l : Nat} (hl : l < 64) : linkState (restartSearch s l) l = 3 ∧
    (linkOf (restartSearch s l) l).lanes = [] ∧ (restartSearch s l).mem = s.mem ∧ (restartSearch s l).queues = s.queues := by
  obtain ⟨k, hk, hlanes⟩ : ∃ k, k = { linkOf s l with lanes := [], cws := 0, good := 0, bad := 0 } ∧ k.lanes = [] := ⟨_, rfl, rfl⟩
  obtain ⟨v, hv⟩ := rinc_eq_rset (setLinkState (setLink s l k) l 3) Reg.ZLINK_LOCK_RESTARTS l 0 1
  obtain ⟨x, hx⟩ : ∃ x, x = rset (setLinkState (setLink s l k) l 3) Reg.ZLINK_LOCK_RESTARTS l 0 v := ⟨_, rfl⟩
  have heq : restartSearch s l = showLanes x l := by rw [hx, ← hv, hk]; rfl
  have hshow := lit_showLanes x hl
  have hstate : linkState x l = 3 := by
    rw [hx]
    exact (rget_rset_of_code _ (f := Reg.ZLINK_LOCK_RESTARTS) (g := Reg.ZLINK_STATE) (by decide) (by omega) (by decide) (by omega) (by decide) _).trans
      (linkState_setLinkState ..)
  have hlink : (linkOf x l).lanes = [] := by
    rw [hx]
    exact (congrArg LinkSt.lanes (linkOf_setLink s l k)).trans hlanes
  have hmem : x.mem = s.mem := by rw [hx]; rfl
  have hqueues : x.queues = s.queues := by rw [hx]; rfl
  rw [heq]
  refine ⟨(hshow.linkState hl).trans hstate, ?_, ?_, ?_⟩
  · rw [hshow.linkOf, hlink]
  · rw [hshow.form]; exact hmem
  · rw [hshow.form]; exact hqueues

-- retrains ------------------------------------------------------------------------------------------------------------

/-- The codes of the fields in which a reset is noted. -/
def resetCodes : List Nat :=
  [Reg.RESET_RESETS, Reg.RESET_LAST_DOMAIN, Reg.RESET_LAST_INDEX, Reg.RESET_LAST_CAUSE].map (·.code) ++ noteFields.map (·.code)

/-- A reset that is noted changes the fields that note it. -/
theorem noteReset_parts (s : State) (code index cause : Nat) : RegsOnly s (noteReset s code index cause) ∧
    CodesKept resetCodes s (noteReset s code index cause) := by
  obtain ⟨v, hv⟩ := rinc_eq_rset s Reg.RESET_RESETS 0 0 1
  obtain ⟨x, hx⟩ : ∃ x, x = rset (rset (rset (rset s Reg.RESET_RESETS 0 0 v) Reg.RESET_LAST_DOMAIN 0 0 code) Reg.RESET_LAST_INDEX 0 0 index)
    Reg.RESET_LAST_CAUSE 0 0 cause := ⟨_, rfl⟩
  have hnoted := noted_raise x (evOf Reg.RESET_LAST_DOMAIN 0 12 0 15 none [code, index, cause])
  have heq : noteReset s code index cause = raise x (evOf Reg.RESET_LAST_DOMAIN 0 12 0 15 none [code, index, cause]) := by
    rw [hx, ← hv]
    rfl
  have hset (s : State) {f : Fld} (hf : f.code ∈ resetCodes) (v : Nat) : CodesKept resetCodes s (rset s f 0 0 v) :=
    codesKept_rset s hf (by decide) (by decide) v
  have hkept : CodesKept resetCodes s x := by
    rw [hx]
    exact (hset s (by decide) v).trans ((hset _ (by decide) _).trans ((hset _ (by decide) _).trans (hset _ (by decide) _)))
  have hform : RegsOnly s x := by
    rw [hx]
    rfl
  rw [heq]
  refine ⟨?_, hkept.trans (hnoted.kept.mono (List.subset_append_right _ _))⟩
  have h := hnoted.regsOnly
  rw [RegsOnly] at h hform ⊢
  rw [h, hform]

/-- A link whose retrain begins. -/
def LinkSt.retraining (k : LinkSt) (cyc : Nat) : LinkSt :=
  { k with
    lanes := [], cws := 0, good := 0, bad := 0, winCws := 0, winBad := 0, resends := 0, nakServed := none, bringing := true, since := cyc }

/-- A retrain begun and counted. -/
def retrainBegun (s : State) (l : Nat) : State :=
  rinc (showLanes (setLinkState (setLink s l ((linkOf s l).retraining s.time.cyc)) l (if 2 ≤ (linkOf s l).failed then 2 else 3)) l)
    Reg.ZLINK_RETRAINS l

theorem retrainBegun_parts (s : State) {l : Nat} (hl : l < 64) :
    linkState (retrainBegun s l) l = (if 2 ≤ (linkOf s l).failed then 2 else 3) ∧
      linkOf (retrainBegun s l) l = (linkOf s l).retraining s.time.cyc ∧
      (retrainBegun s l).mem = s.mem ∧ (retrainBegun s l).queues = s.queues := by
  obtain ⟨x, hx⟩ : ∃ x, x = setLinkState (setLink s l ((linkOf s l).retraining s.time.cyc)) l (if 2 ≤ (linkOf s l).failed then 2 else 3) := ⟨_, rfl⟩
  obtain ⟨v, hv⟩ := rinc_eq_rset (showLanes x l) Reg.ZLINK_RETRAINS l 0 1
  have heq : retrainBegun s l = rset (showLanes x l) Reg.ZLINK_RETRAINS l 0 v := by
    rw [← hv, hx]
    rfl
  have hshow := lit_showLanes x hl
  have hstate : linkState x l = if 2 ≤ (linkOf s l).failed then 2 else 3 := by
    rw [hx, linkState_setLinkState]
    split <;> rfl
  have hlink : linkOf x l = (linkOf s l).retraining s.time.cyc := by
    rw [hx]
    exact linkOf_setLink s l _
  have hmem : x.mem = s.mem := by rw [hx]; rfl
  have hqueues : x.queues = s.queues := by rw [hx]; rfl
  rw [heq]
  refine ⟨?_, (hshow.linkOf l).trans hlink, (congrArg State.mem hshow.form).trans hmem, (congrArg State.queues hshow.form).trans hqueues⟩
  exact (rget_rset_of_code _ (f := Reg.ZLINK_RETRAINS) (g := Reg.ZLINK_STATE) (by decide) (by omega) (by decide) (by omega) (by decide) _).trans
    ((hshow.linkState hl).trans hstate)

/-- A retrain that begins is counted, charged, and noted where the link itself asked. -/
theorem beginRetrain_eq (s : State) (l : Nat) (trigger : Bool) : ∃ r : ResetSt, beginRetrain s l trigger =
    if trigger then noteReset { charge (retrainBegun s l) 3 l with resets := r } 5 l 3 else charge (retrainBegun s l) 3 l :=
  ⟨_, rfl⟩

/-- A retrain begins at the search for lanes, or at ADAPT, and loses nothing. -/
theorem beginRetrain_parts (s : State) {l : Nat} (hl : l < 64) (trigger : Bool) :
    linkState (beginRetrain s l trigger) l = (if 2 ≤ (linkOf s l).failed then 2 else 3) ∧
      (linkOf (beginRetrain s l trigger) l).bringing = true ∧ (linkOf (beginRetrain s l trigger) l).replay = (linkOf s l).replay ∧
      (beginRetrain s l trigger).mem = s.mem ∧ (beginRetrain s l trigger).queues = s.queues := by
  obtain ⟨r, heq⟩ := beginRetrain_eq s l trigger
  obtain ⟨hstate, hlink, hmem, hqueues⟩ := retrainBegun_parts s hl
  obtain ⟨hcmem, hcqueues, hckept⟩ := charge_parts (retrainBegun s l) 3 l
  have hclink := (linkOf_congr (served_charge (retrainBegun s l) 3 l).toAccessed.links l).trans hlink
  have hcstate : linkState (charge (retrainBegun s l) 3 l) l = _ :=
    (hckept Reg.ZLINK_STATE l 0 (by decide) (by omega) (by decide)).trans hstate
  obtain ⟨c, hc⟩ : ∃ c, c = charge (retrainBegun s l) 3 l := ⟨_, rfl⟩
  have hm := hcmem.trans hmem
  have hq := hcqueues.trans hqueues
  rw [← hc] at heq hclink hcstate hm hq
  rw [heq]
  split
  · obtain ⟨hform, hkept⟩ := noteReset_parts { c with resets := r } 5 l 3
    have hnlink : linkOf (noteReset { c with resets := r } 5 l 3) l = linkOf c l := by
      rw [hform]
      rfl
    rw [hnlink, hclink]
    exact ⟨(hkept Reg.ZLINK_STATE l 0 (by decide) (by omega) (by decide)).trans hcstate, rfl, rfl, hform.mem.trans hm, hform.queues.trans hq⟩
  · rw [hclink]
    exact ⟨hcstate, rfl, rfl, hm, hq⟩

-- ENABLE, and the time to come up ---------------------------------------------------------------------------------------

/-- A link enabled is DOWN, and begins to come up. -/
theorem enableApply_one_parts {l : Nat} (hl : l < 64) (h : linkState u l = 0) : linkState (enableApply l 1 u) l = 1 ∧
    rget (enableApply l 1 u) Reg.ZLINK_ENABLE l = 1 ∧ (linkOf (enableApply l 1 u) l).bringing = true ∧
    (linkOf (enableApply l 1 u) l).since = u.time.cyc ∧ (enableApply l 1 u).mem = u.mem ∧ (enableApply l 1 u).queues = u.queues := by
  obtain ⟨k, hk, hbringing, hsince⟩ : ∃ k, k = { LinkSt.reset with failed := (linkOf u l).failed, bringing := true, since := u.time.cyc } ∧
    k.bringing = true ∧ k.since = u.time.cyc := ⟨_, rfl, rfl, rfl⟩
  obtain ⟨x, hx⟩ : ∃ x, x = setLinkState (setLink (rset u Reg.ZLINK_ENABLE l 0 1) l k) l 1 := ⟨_, rfl⟩
  have heq : enableApply l 1 u = msix x 131 := by
    unfold enableApply
    dsimp only
    rw [if_pos rfl, if_neg (by simp [h]), hx, hk]
    rfl
  have hlink : linkOf (msix x 131) l = k := by
    refine (linkOf_congr (msix_links x 131) l).trans ?_
    rw [hx]
    exact linkOf_setLink _ l k
  have hget (f : Fld) : rget (msix x 131) f l = rget x f l := rget_congr (msix_regs x 131) f l 0
  rw [heq, hlink, msix_mem, msix_queues, linkState, hget, hget]
  refine ⟨?_, ?_, hbringing, hsince, ?_, ?_⟩
  · rw [hx]
    exact rget_rset_same ..
  · rw [hx]
    refine (rget_rset_of_code _ (f := Reg.ZLINK_STATE) (g := Reg.ZLINK_ENABLE) (by decide) (by omega) (by decide) (by omega) (by decide) _).trans ?_
    exact rget_rset_same ..
  · rw [hx]; rfl
  · rw [hx]; rfl

/-- A link that is not UP loses its flits and its lanes. -/
theorem lostLink_parts (s : State) {l : Nat} (hl : l < 64) (h : linkUp s l = false) :
    linkOf (showLanes (loseFlits s l) l) l = (linkOf s l).lost ∧ (showLanes (loseFlits s l) l).mem = s.mem ∧
      (showLanes (loseFlits s l) l).queues = s.queues ∧
      CodesKept (laneCodes ++ Reg.ZLINK_LOST_FLITS.code :: sendCodes) s (showLanes (loseFlits s l) l) := by
  have hshow := lit_showLanes (loseFlits s l) hl
  have hform := (relinked_loseFlits s l).trans (relinked_showLanes (loseFlits s l) l)
  refine ⟨(hshow.linkOf l).trans (linkOf_loseFlits hl h), ?_, ?_, ?_⟩
  · rw [hform]
  · rw [hform]
  · exact ((codesKept_loseFlits s hl).mono (List.subset_append_right _ _)).trans (hshow.kept.mono (List.subset_append_left _ _))

/-- A link disabled is off, and keeps its waiting multicast packets only. -/
theorem enableApply_zero_parts {l : Nat} (hl : l < 64) (h : linkState u l ≠ 0) : linkState (enableApply l 0 u) l = 0 ∧
    rget (enableApply l 0 u) Reg.ZLINK_ENABLE l = 0 ∧ linkOf (enableApply l 0 u) l = (linkOf u l).lost ∧
    (enableApply l 0 u).mem = u.mem ∧ (enableApply l 0 u).queues = u.queues := by
  obtain ⟨x, hx⟩ : ∃ x, x = setLinkState (rset u Reg.ZLINK_ENABLE l 0 0) l 0 := ⟨_, rfl⟩
  have heq : enableApply l 0 u = showLanes (loseFlits x l) l := by
    unfold enableApply
    dsimp only
    rw [if_neg (by decide), if_neg h, hx]
  have hoff : linkState x l = 0 := by
    rw [hx]
    exact linkState_setLinkState ..
  have hen : rget x Reg.ZLINK_ENABLE l = 0 := by
    rw [hx]
    refine (rget_rset_of_code _ (f := Reg.ZLINK_STATE) (g := Reg.ZLINK_ENABLE) (by decide) (by omega) (by decide) (by omega) (by decide) _).trans ?_
    exact rget_rset_same ..
  have hdown : linkUp x l = false := congrArg (· == 7) hoff
  obtain ⟨hlink, hmem, hqueues, hkept⟩ := lostLink_parts x hl hdown
  have hxlink : linkOf x l = linkOf u l := by rw [hx]; rfl
  rw [heq]
  refine ⟨(hkept Reg.ZLINK_STATE l 0 (by decide) (by omega) (by decide)).trans hoff,
    (hkept Reg.ZLINK_ENABLE l 0 (by decide) (by omega) (by decide)).trans hen, hlink.trans (congrArg LinkSt.lost hxlink), hmem.trans ?_, hqueues.trans ?_⟩
  · rw [hx]; rfl
  · rw [hx]; rfl

/-- A link that did not come up in time goes DOWN. -/
def linkFailed (s : State) (l : Nat) : State :=
  setLinkState (setLink s l { linkOf s l with failed := (linkOf s l).failed + 1 }) l 1

theorem exec_bringupTimeout {l : LinkId} (hclk : Clocked s) (h : (linkOf s l.val).bringing = true) : ∃ (c : Nat) (e : Ev),
    exec (.bringupTimeout l) s = .next (charge (msix (raise (showLanes (loseFlits (linkFailed (advanceTo s c) l.val) l.val) l.val) e) 131) 4 l.val) := by
  have hlink (c : Nat) : linkOf (advanceTo s c) l.val = linkOf s l.val := linkOf_congr (served_advanceTo s c).links l.val
  refine ⟨(linkOf s l.val).since + 1000000 * rget s Reg.ZLINK_BRINGUP_TIMEOUT_MS l.val, evOf Reg.ZLINK_STATE 0 (8 + l.val % 2) l.val,
    congrArg Host.Outcome.next ((live_of_clocked hclk _).trans ((if_neg (by simp [h])).trans ?_))⟩
  rw [linkFailed, hlink]

theorem bringupTimeout_parts {l : LinkId} (hclk : Clocked s) (h : (linkOf s l.val).bringing = true) : Yields (.bringupTimeout l) s (fun t =>
    linkState t l.val = 1 ∧ (linkOf t l.val).bringing = false ∧ (linkOf t l.val).failed = (linkOf s l.val).failed + 1 ∧
      (linkOf t l.val).tx = (linkOf s l.val).tx.filter pMcast ∧ t.mem = s.mem) := by
  obtain ⟨c, e, hexec⟩ := exec_bringupTimeout hclk h
  have hadv := served_advanceTo s c
  have hstate : linkState (linkFailed (advanceTo s c) l.val) l.val = 1 := linkState_setLinkState ..
  have hfailed : linkOf (linkFailed (advanceTo s c) l.val) l.val = { linkOf s l.val with failed := (linkOf s l.val).failed + 1 } := by
    rw [← linkOf_congr hadv.links l.val]
    exact linkOf_setLink ..
  have hmem : (linkFailed (advanceTo s c) l.val).mem = s.mem := hadv.mem
  obtain ⟨x, hx⟩ : ∃ x, x = linkFailed (advanceTo s c) l.val := ⟨_, rfl⟩
  rw [← hx] at hexec hstate hfailed hmem
  obtain ⟨hlost, hlmem, -, hkept⟩ := lostLink_parts x l.isLt (congrArg (· == 7) hstate)
  obtain ⟨y, hy⟩ : ∃ y, y = showLanes (loseFlits x l.val) l.val := ⟨_, rfl⟩
  rw [← hy] at hexec hlost hlmem hkept
  have hnoted := (noted_raise y e).trans (noted_msix _ 131)
  have hsent := hnoted.sent
  obtain ⟨z, hz⟩ : ∃ z, z = msix (raise y e) 131 := ⟨_, rfl⟩
  rw [← hz] at hexec hnoted
  obtain ⟨hcmem, -, hckept⟩ := charge_parts z 4 l.val
  have hclink := linkOf_congr (served_charge z 4 l.val).toAccessed.links l.val
  have hzlink : linkOf z l.val = linkOf y l.val := linkOf_congr (by rw [hnoted.1]) l.val
  refine ⟨_, hexec, ?_, ?_, ?_, ?_, hcmem.trans (hnoted.mem.trans (hlmem.trans hmem))⟩
  · exact (hckept Reg.ZLINK_STATE l.val 0 (by decide) (by omega) (by decide)).trans ((hnoted.kept Reg.ZLINK_STATE l.val 0 (by decide) (by omega) (by decide)).trans
      ((hkept Reg.ZLINK_STATE l.val 0 (by decide) (by omega) (by decide)).trans hstate))
  all_goals rw [hclink, hzlink, hlost, hfailed]; rfl

-- flits on the way up -------------------------------------------------------------------------------------------------

theorem foldl_add_dvd (m : Nat) (g : Nat → Nat) (hg : ∀ i, m ∣ g i) (ns : List Nat) (a : Nat) (ha : m ∣ a) :
    m ∣ ns.foldl (fun acc i => acc + g i) a := by
  induction ns generalizing a with
  | nil => exact ha
  | cons n ns ih => exact ih _ (Nat.dvd_add ha (hg n))

theorem bitsAt_ofNat (x : Nat) {n lo w : Nat} (h : lo + w ≤ n) : bitsAt (BitVec.ofNat n x).toNat lo w = bitsAt x lo w := by
  rw [BitVec.toNat_ofNat, bitsAt_mod_two_pow x h]

/-- A flit bears its KIND. -/
theorem kind_mkFlit (fseq ack : BitVec 12) (nak : Bool) {kind : Nat} (hkind : kind < 4) (time : Option W64) (cr0 cr1 vc : Nat) (units : List Nat) :
    ff (mkFlit fseq ack nak kind time cr0 cr1 vc units) 26 2 = kind := by
  have shape : ∃ low z x, low < 2 ^ 26 ∧ x = low + 2 ^ 26 * kind + 2 ^ 32 * z ∧
      mkFlit fseq ack nak kind time cr0 cr1 vc units = BitVec.ofNat 5120 x := by
    obtain ⟨us, hus⟩ := foldl_add_dvd (2 ^ 192) (fun i => units.getD i 0 * 2 ^ (192 + 256 * i))
      (fun i => Dvd.dvd.mul_left (Nat.pow_dvd_pow 2 (by omega)) _) (List.range units.length) 0 (Nat.dvd_zero _)
    obtain ⟨vcs, hvcs⟩ : ∃ v, v = (List.range units.length).foldl (fun acc i => acc + vc * 2 ^ (3 * i)) 0 := ⟨_, rfl⟩
    obtain ⟨crc, hcrc⟩ : 2 ^ 32 ∣ crc64 (natLe (fseq.toNat + ack.toNat * 2 ^ 12 + b2n nak * 2 ^ 24 + b2n time.isSome * 2 ^ 25 + kind * 2 ^ 26
        + cr0 * 2 ^ 32 + cr1 * 2 ^ 48 + (time.getD 0).toNat * 2 ^ 64 + vcs * 2 ^ 128 + units.length * 2 ^ 185 + 2 ^ 192 * us) 632) * 2 ^ 5056 :=
      Dvd.dvd.mul_left (Nat.pow_dvd_pow 2 (by omega)) _
    have hbit (b : Bool) : b2n b ≤ 1 := by cases b <;> decide
    have hnak := hbit nak
    have htw := hbit time.isSome
    refine ⟨fseq.toNat + ack.toNat * 2 ^ 12 + b2n nak * 2 ^ 24 + b2n time.isSome * 2 ^ 25,
      cr0 + cr1 * 2 ^ 16 + (time.getD 0).toNat * 2 ^ 32 + vcs * 2 ^ 96 + units.length * 2 ^ 153 + 2 ^ 160 * us + crc, _, ?_, rfl, ?_⟩
    · have := fseq.isLt
      have := ack.isLt
      omega
    · rw [mkFlit, hus, ← hvcs, hcrc]
      refine congrArg (BitVec.ofNat 5120) ?_
      ring
  obtain ⟨low, z, x, hlow, hx, hflit⟩ := shape
  have hx28 : x = low + 2 ^ 26 * (kind + 2 ^ 6 * z) := by rw [hx]; ring
  rw [ff, hflit, bitsAt_ofNat x (by omega), hx28, show (26 : Nat) = 26 + 0 from rfl, bitsAt_add_two_pow_mul_high hlow,
    bitsAt_add_two_pow_mul _ _ (by decide)]
  exact Nat.mod_eq_of_lt hkind

/-- A control flit leaves. -/
theorem sendControl_out (s : State) (l : LinkId) (n : Nat) : ∃ f, Out.flit l f ∈ (sendControl s l n).out ∧ ff f 26 2 = 2 :=
  ⟨_, List.mem_cons_self, kind_mkFlit _ _ _ (by decide) _ _ _ _ _⟩

-- time words ----------------------------------------------------------------------------------------------------------

theorem timeDue_sendSlot (s : State) (l : LinkId) : timeDue (sendSlot s l) l = timeDue s l := by
  have hsent := sent_sendSlot s l
  have hat : (linkOf (sendSlot s l) l.val).timeAt = (linkOf s l.val).timeAt := by
    unfold sendSlot
    dsimp only
    split
    · rw [linkOf_setLink]
    · rw [linkOf_emit, linkOf_setLink]
  rw [timeDue, timeDue, hat, hsent.time, hsent.kept Reg.ZLINK_STATE l.val 0 (by decide) (by omega) (by decide),
    hsent.kept Reg.FTIME_SYNC_STATE 0 0 (by decide) (by decide) (by decide)]

/-- An idle flit carries the time word that is due. -/
theorem sendIdle_timeWord {l : LinkId} {v : W64} (h : timeDue s l = some v) : Out.timeWord l v ∈ (sendIdle s l).out := by
  have hdue : timeDue (sendSlot s l) l = some v := (timeDue_sendSlot s l).trans h
  refine List.mem_cons_of_mem _ ?_
  unfold nextFlit
  simp only [hdue]
  exact List.mem_cons_self

theorem timeDue_of_lt {l : LinkId} (hup : 6 ≤ linkState s l.val) (hsync : rget s Reg.FTIME_SYNC_STATE ≠ 4)
    (h : (linkOf s l.val).timeAt < s.time.ft.toNat / 4096) : timeDue s l = some s.time.ft :=
  if_neg (by
    rw [linkState] at hup
    omega)

theorem timeDue_of_eq {l : LinkId} (h : (linkOf s l.val).timeAt = s.time.ft.toNat / 4096) : timeDue s l = none :=
  if_pos (Or.inr (Or.inr h.ge))

theorem advanceFt_form (s : State) (v : W64) : ∃ x q, advanceFt s v = { s with time := x, queues := q } := by
  unfold advanceFt
  split
  · obtain ⟨x, q, h⟩ := advance_form s (v.toNat - s.time.ft.toNat)
    dsimp only
    rw [h]
    split <;> exact ⟨_, _, rfl⟩
  · exact ⟨_, _, rfl⟩

theorem timeWordSend_now {l : LinkId} (hclk : Clocked s) (hup : 6 ≤ linkState s l.val) (hsync : rget s Reg.FTIME_SYNC_STATE ≠ 4)
    (h : (linkOf s l.val).timeAt < s.time.ft.toNat / 4096) : Yields (.timeWordSend l) s (fun t =>
      Out.timeWord l s.time.ft ∈ t.out ∧ t.time = s.time ∧ t.mem = s.mem ∧ t.queues = s.queues) := by
  have hdue := timeDue_of_lt hup hsync h
  have hsent := sent_sendIdle s l
  refine ⟨_, congrArg Host.Outcome.next ((live_of_clocked hclk _).trans ((if_neg ?_).trans ?_)), sendIdle_timeWord hdue, hsent.time, hsent.mem, hsent.queues⟩
  · rw [linkState] at hup
    omega
  · dsimp only
    rw [hdue]
    rfl

theorem timeWordSend_next {l : LinkId} (hclk : Clocked s) (hup : 6 ≤ linkState s l.val) (hsync : rget s Reg.FTIME_SYNC_STATE ≠ 4)
    (h : (linkOf s l.val).timeAt = s.time.ft.toNat / 4096) (hroom : s.time.ft.toNat + 4096 < 2 ^ 64) : Yields (.timeWordSend l) s (fun t =>
      (∃ v, Out.timeWord l v ∈ t.out ∧ (s.time.ft.toNat / 4096 + 1) * 4096 ≤ v.toNat) ∧ t.mem = s.mem) := by
  obtain ⟨v, hv⟩ : ∃ v, v = BitVec.ofNat 64 ((s.time.ft.toNat / 4096 + 1) * 4096) := ⟨_, rfl⟩
  have hvn : v.toNat = (s.time.ft.toNat / 4096 + 1) * 4096 := by
    rw [hv, BitVec.toNat_ofNat]
    exact Nat.mod_eq_of_lt (by omega)
  obtain ⟨x, q, hform⟩ := advanceFt_form s v
  have hreach := advanceFt_reaches s v
  have hexec : exec (.timeWordSend l) s = .next (sendIdle (advanceFt s v) l) := by
    refine congrArg Host.Outcome.next ((live_of_clocked hclk _).trans ((if_neg ?_).trans ?_))
    · rw [linkState] at hup
      omega
    · dsimp only
      rw [timeDue_of_eq h, ← hv]
      rfl
  obtain ⟨a, ha⟩ : ∃ a, a = advanceFt s v := ⟨_, rfl⟩
  rw [← ha] at hform hreach hexec
  have hstate : linkState a l.val = linkState s l.val := by rw [hform]; rfl
  have hsyn : rget a Reg.FTIME_SYNC_STATE = rget s Reg.FTIME_SYNC_STATE := by rw [hform]; rfl
  have hat : (linkOf a l.val).timeAt = (linkOf s l.val).timeAt := by rw [hform]; rfl
  have hmem : a.mem = s.mem := by rw [hform]
  have hdue := timeDue_of_lt (s := a) (l := l) (by rwa [hstate]) (by rwa [hsyn]) (by omega)
  exact ⟨_, hexec, ⟨_, sendIdle_timeWord hdue, by omega⟩, (sent_sendIdle a l).mem.trans hmem⟩

-- the phases ----------------------------------------------------------------------------------------------------------

theorem sent_returnBuffer (s : State) (l : LinkId) : Sent s (returnBuffer s l) := by
  have give (s : State) (v n : Nat) : Sent s (sendControl (setLink s l.val { linkOf s l.val with toReturn := [(v, n)] }) l ctlCredit) :=
    (sent_setLink s (by rfl)).trans (sent_sendControl ..)
  unfold returnBuffer
  dsimp only
  refine Sent.trans ?_ (sent_setLink _ (by rfl))
  exact (sent_foldl (fun s v => give s v _) _ _).trans (sent_foldl (fun s i => give s 0 _) _ _)

/-- The codes of the fields that a resend writes. -/
def resendCodes : List Nat := Reg.ZLINK_RETRIES.code :: sendCodes ++ healthFields.map (·.code)

/-- A resend leaves how the link came up as it is. -/
theorem resendFlits_parts (s : State) (l : LinkId) : CodesKept resendCodes s (resendFlits s l) ∧
    (linkOf (resendFlits s l) l.val).bringing = (linkOf s l.val).bringing ∧ (linkOf (resendFlits s l) l.val).failed = (linkOf s l.val).failed ∧
    (resendFlits s l).mem = s.mem ∧ (resendFlits s l).queues = s.queues := by
  have shape : resendFlits s l = s ∨ ∃ (v : State) (k : LinkSt), Sent (setLink s l.val k) v ∧ k.bringing = (linkOf s l.val).bringing ∧
      k.failed = (linkOf s l.val).failed ∧ resendFlits s l = charge (rinc v Reg.ZLINK_RETRIES l.val) 2 l.val := by
    by_cases h : (linkOf s l.val).replay = []
    · exact Or.inl (by simp only [resendFlits, if_pos h])
    · refine Or.inr ⟨_, { linkOf s l.val with
        ackAt := s.time.cyc, nakServed := some (linkOf s l.val).ack
        resendEnd := s.time.cyc + ceilDiv (6071 * (linkOf s l.val).replay.length) 1000 },
        (resent_foldl l (linkOf s l.val) (linkOf s l.val).replay _).toSent, rfl, rfl, ?_⟩
      simp only [resendFlits, if_neg h]
  obtain heq | ⟨v, k, hv, hbringing, hfailed, heq⟩ := shape
  · rw [heq]
    exact ⟨codesKept_of_regs _ rfl, rfl, rfl, rfl, rfl⟩
  · obtain ⟨n, hn⟩ := rinc_eq_rset v Reg.ZLINK_RETRIES l.val 0 1
    rw [hn] at heq
    obtain ⟨hcmem, hcqueues, hckept⟩ := charge_parts (rset v Reg.ZLINK_RETRIES l.val 0 n) 2 l.val
    have hlink := linkOf_congr (served_charge (rset v Reg.ZLINK_RETRIES l.val 0 n) 2 l.val).toAccessed.links l.val
    have hkept := hv.heard l.val
    rw [linkOf_setLink] at hkept
    rw [heq, hlink]
    refine ⟨?_, (congrArg LinkSt.bringing hkept).trans hbringing, (congrArg LinkSt.failed hkept).trans hfailed, hcmem.trans hv.mem,
      hcqueues.trans hv.queues⟩
    refine CodesKept.trans (t := v) ?_ (CodesKept.trans (codesKept_rset (f := Reg.ZLINK_RETRIES) (l := resendCodes) v (by decide) (by omega) (by decide) n)
      (hckept.mono (List.subset_append_right _ _)))
    exact (CodesKept.trans (t := setLink s l.val k) (codesKept_of_regs _ rfl) hv.kept).mono (by decide)

/-- A link that has come UP. -/
def upMarked (s : State) (l : Nat) (trips : List Nat) : State :=
  setLink (setLinkState (rset s Reg.FTIME_LINK_DELAY 0 l (meanDelay trips (linkOf s l).farTurn)) l 7) l { linkOf s l with
    used := [], pool := 0, toReturn := [], bringing := false, failed := 0, upOnce := true, resends := 0, ackAt := s.time.cyc }

theorem linkComesUp_eq (s : State) (l : LinkId) (trips : List Nat) : linkComesUp s l trips =
    pumpMcast (pump (resendFlits (returnBuffer (msix (upMarked s l.val trips) 131) l) l) l) := rfl

theorem linkComesUp_parts (s : State) (l : LinkId) (trips : List Nat) : linkState (linkComesUp s l trips) l.val = 7 ∧
    rget (linkComesUp s l trips) Reg.FTIME_LINK_DELAY 0 l.val = meanDelay trips (linkOf s l.val).farTurn % 2 ^ 32 ∧
    (linkOf (linkComesUp s l trips) l.val).bringing = false ∧ (linkOf (linkComesUp s l trips) l.val).failed = 0 ∧
    (linkComesUp s l trips).mem = s.mem ∧ (linkComesUp s l trips).queues = s.queues := by
  have hstate : linkState (upMarked s l.val trips) l.val = 7 := linkState_setLinkState ..
  have hdelay : rget (upMarked s l.val trips) Reg.FTIME_LINK_DELAY 0 l.val = meanDelay trips (linkOf s l.val).farTurn % 2 ^ 32 := by
    refine (rget_rset_of_code _ (f := Reg.ZLINK_STATE) (g := Reg.FTIME_LINK_DELAY) (by decide) (by omega) (by decide) (by decide) (by omega) _).trans ?_
    exact rget_rset_same ..
  have hlink : (linkOf (upMarked s l.val trips) l.val).bringing = false ∧ (linkOf (upMarked s l.val trips) l.val).failed = 0 := by
    rw [upMarked, linkOf_setLink]
    exact ⟨rfl, rfl⟩
  have hmem : (upMarked s l.val trips).mem = s.mem := rfl
  have hqueues : (upMarked s l.val trips).queues = s.queues := rfl
  rw [linkComesUp_eq]
  obtain ⟨x, hx⟩ : ∃ x, x = upMarked s l.val trips := ⟨_, rfl⟩
  rw [← hx] at hstate hdelay hlink hmem hqueues ⊢
  have h1 := (noted_msix x 131).sent.trans (sent_returnBuffer (msix x 131) l)
  obtain ⟨y, hy⟩ : ∃ y, y = returnBuffer (msix x 131) l := ⟨_, rfl⟩
  rw [← hy] at h1 ⊢
  obtain ⟨hrkept, hrbringing, hrfailed, hrmem, hrqueues⟩ := resendFlits_parts y l
  have h2 := (sent_pump (resendFlits y l) l).trans (sent_pumpMcast (pump (resendFlits y l) l))
  have hget {f : Fld} (hf : f.code ∉ sendCodes) (hf' : f.code ∉ resendCodes) {i j : Nat} (hi : i < 16384) (hj : j < 1024) :
      rget (pumpMcast (pump (resendFlits y l) l)) f i j = rget x f i j :=
    (h2.kept f i j hf hi hj).trans ((hrkept f i j hf' hi hj).trans (h1.kept f i j hf hi hj))
  have hb2 := congrArg LinkSt.bringing (h2.heard l.val)
  have hf2 := congrArg LinkSt.failed (h2.heard l.val)
  have hb1 := congrArg LinkSt.bringing (h1.heard l.val)
  have hf1 := congrArg LinkSt.failed (h1.heard l.val)
  exact ⟨(hget (by decide) (by decide) (by omega) (by decide)).trans hstate, (hget (by decide) (by decide) (by decide) (by omega)).trans hdelay,
    hb2.trans (hrbringing.trans (hb1.trans hlink.1)), hf2.trans (hrfailed.trans (hf1.trans hlink.2)),
    h2.mem.trans (hrmem.trans (h1.mem.trans hmem)), h2.queues.trans (hrqueues.trans (h1.queues.trans hqueues))⟩

section phases

variable {l : LinkId} (dev : BitVec 16) (far : Fin 64) (d : DelayReport)

theorem linkPhaseDone_next (hclk : Clocked s) (hb : (linkOf s l.val).bringing = true)
    (h : linkState s l.val = 2 ∨ (linkState s l.val = 1 ∧ domainOn s (quadDomain l.val) = true)) :
    exec (.linkPhaseDone l dev far d) s = .next (setLinkState s l.val (linkState s l.val + 1)) := by
  refine congrArg Host.Outcome.next ((live_of_clocked hclk _).trans ((if_neg (by simp [hb])).trans ?_))
  rcases h with h | ⟨h, hon⟩
  · simp only [h]
  · simp only [h, hon, if_true]

theorem linkPhaseDone_search (hclk : Clocked s) (hb : (linkOf s l.val).bringing = true) (h : linkState s l.val = 3) :
    exec (.linkPhaseDone l dev far d) s = .next (if ∀ n : Fin 4, (laneOf (linkOf s l.val) n.val).locked = true then
      setLinkState (setLink s l.val { linkOf s l.val with cws := 0, good := 0, bad := 0 }) l.val 4 else s) := by
  refine congrArg Host.Outcome.next ((live_of_clocked hclk _).trans ((if_neg (by simp [hb])).trans ?_))
  simp only [h, all_locked_iff]

theorem linkPhaseDone_deskew (hclk : Clocked s) (hb : (linkOf s l.val).bringing = true) (h : linkState s l.val = 4) :
    exec (.linkPhaseDone l dev far d) s = .next (if 64 ≤ (linkOf s l.val).good then enterParam s l else s) := by
  refine congrArg Host.Outcome.next ((live_of_clocked hclk _).trans ((if_neg (by simp [hb])).trans ?_))
  simp only [h]

/-- What the far end reports is kept. -/
def farKept (s : State) (l dev far turn : Nat) : State :=
  rset (setLink (rset s Reg.ZLINK_PEER_DEV l 0 dev) l { linkOf s l with farTurn := turn }) Reg.ZLINK_PEER_LINK l 0 far

theorem linkPhaseDone_param (hclk : Clocked s) (hb : (linkOf s l.val).bringing = true) (h : linkState s l.val = 5) :
    exec (.linkPhaseDone l dev far d) s = .next (setLinkState (farKept s l.val dev.toNat far.val d.turnaround.toNat) l.val 6) := by
  refine congrArg Host.Outcome.next ((live_of_clocked hclk _).trans ((if_neg (by simp [hb])).trans ?_))
  simp only [h, farKept]

theorem linkPhaseDone_delay (hclk : Clocked s) (hb : (linkOf s l.val).bringing = true) (h : linkState s l.val = 6)
    (hn : d.trips.length = 64) (hheld : linkHeld s l.val = false) :
    exec (.linkPhaseDone l dev far d) s = .next (linkComesUp s l d.trips) := by
  refine congrArg Host.Outcome.next ((live_of_clocked hclk _).trans ((if_neg (by simp [hb])).trans ?_))
  simp only [h]
  rw [if_neg (by simp [hn, hheld])]

end phases

theorem phase_setLinkState (s : State) {l v : Nat} (hv : v < 8) : linkState (setLinkState s l v) l = v ∧
    setLinkState s l v = { s with regs := (setLinkState s l v).regs } :=
  ⟨(linkState_setLinkState s l v).trans (Nat.mod_eq_of_lt hv), rfl⟩

/-- What the far end reports is in its registers, and the link is at DELAY. -/
theorem farKept_parts (s : State) {l dev far turn : Nat} (hl : l < 64) (hdev : dev < 2 ^ 16) (hfar : far < 64) :
    linkState (setLinkState (farKept s l dev far turn) l 6) l = 6 ∧
      rget (setLinkState (farKept s l dev far turn) l 6) Reg.ZLINK_PEER_DEV l = dev ∧
      rget (setLinkState (farKept s l dev far turn) l 6) Reg.ZLINK_PEER_LINK l = far ∧
      (linkOf (setLinkState (farKept s l dev far turn) l 6) l).farTurn = turn := by
  have hset (x : State) {f g : Fld} (h : g.code ≠ f.code) (v : Nat) : rget (rset x f l 0 v) g l = rget x g l :=
    rget_rset_of_code x h (by omega) (by decide) (by omega) (by decide) v
  refine ⟨linkState_setLinkState .., ?_, ?_, ?_⟩
  · refine (hset _ (f := Reg.ZLINK_STATE) (by decide) 6).trans ((hset _ (f := Reg.ZLINK_PEER_LINK) (by decide) far).trans ?_)
    exact (rget_rset_same ..).trans (Nat.mod_eq_of_lt hdev)
  · refine (hset _ (f := Reg.ZLINK_STATE) (by decide) 6).trans ?_
    exact (rget_rset_same ..).trans (Nat.mod_eq_of_lt hfar)
  · exact congrArg LinkSt.farTurn (linkOf_setLink (rset s Reg.ZLINK_PEER_DEV l 0 dev) l _)

theorem enterParam_parts (s : State) (l : LinkId) : linkState (enterParam s l) l.val = 5 ∧
    (∃ f, Out.flit l f ∈ (enterParam s l).out ∧ ff f 26 2 = 2) ∧ (enterParam s l).mem = s.mem ∧ (enterParam s l).queues = s.queues := by
  have hsent := sent_sendControl (setLinkState s l.val 5) l (paramUnit s l)
  exact ⟨(hsent.kept Reg.ZLINK_STATE l.val 0 (by decide) (by omega) (by decide)).trans (linkState_setLinkState ..), sendControl_out .., hsent.mem,
    hsent.queues⟩

-- markers -------------------------------------------------------------------------------------------------------------

theorem markerSlot_free {l : LinkId} {lane : Fin 4} {n : Nat} (inv : Bool) (lg : Fin 4) (c : BitVec 16) (hclk : Clocked s) (hn : n ≤ 8)
    (h : linkState s l.val = 3) (ha : (laneOf (linkOf s l.val) lane.val).locked = false) :
    exec (.markerSlotReceived l lane n inv lg c true) s = .next (setLane s l.val lane.val
      ⟨(laneOf (linkOf s l.val) lane.val).hits + 1, decide (4 ≤ (laneOf (linkOf s l.val) lane.val).hits + 1), inv, lg.val, c, 0⟩) := by
  refine congrArg Host.Outcome.next ((live_of_clocked hclk _).trans ((if_neg (by omega)).trans ((if_neg (by simp [ha])).trans ?_)))
  rw [if_neg (by simp [h]), if_pos (Or.inr rfl)]

theorem markerSlot_parts {l : LinkId} {lane : Fin 4} {n : Nat} (inv : Bool) (lg : Fin 4) (c : BitVec 16) (hclk : Clocked s) (hn : n ≤ 8)
    (h : linkState s l.val = 3) (ha : (laneOf (linkOf s l.val) lane.val).locked = false) :
    Yields (.markerSlotReceived l lane n inv lg c true) s (fun t =>
      laneOf (linkOf t l.val) lane.val =
          ⟨(laneOf (linkOf s l.val) lane.val).hits + 1, decide (4 ≤ (laneOf (linkOf s l.val) lane.val).hits + 1), inv, lg.val, c, 0⟩ ∧
        (∀ k : Fin 4, k ≠ lane → laneOf (linkOf t l.val) k.val = laneOf (linkOf s l.val) k.val) ∧
        linkState t l.val = (if 3 ≤ (laneOf (linkOf s l.val) lane.val).hits ∧
          ∀ k : Fin 4, k ≠ lane → (laneOf (linkOf s l.val) k.val).locked = true then 4 else 3) ∧
        t.mem = s.mem ∧ t.queues = s.queues) := by
  obtain ⟨a, ha'⟩ : ∃ a : LaneSt, a = ⟨(laneOf (linkOf s l.val) lane.val).hits + 1, decide (4 ≤ (laneOf (linkOf s l.val) lane.val).hits + 1), inv, lg.val, c, 0⟩ :=
    ⟨_, rfl⟩
  have hlocked : a.locked = true ↔ 3 ≤ (laneOf (linkOf s l.val) lane.val).hits := by
    rw [ha']
    simp
  obtain ⟨hlane, hmem, hqueues, hstate⟩ := setLane_parts s l.isLt lane.val a
  have hne (k : Fin 4) (hk : k ≠ lane) : k.val ≠ lane.val := fun he => hk (Fin.ext he)
  have hiff : (∀ m : Fin 4, (if m.val = lane.val then a else laneOf (linkOf s l.val) m.val).locked = true) ↔
      3 ≤ (laneOf (linkOf s l.val) lane.val).hits ∧ ∀ k : Fin 4, k ≠ lane → (laneOf (linkOf s l.val) k.val).locked = true := by
    constructor
    · intro hall
      refine ⟨hlocked.mp ?_, fun k hk => ?_⟩
      · simpa using hall lane
      · simpa [hne k hk] using hall k
    · rintro ⟨hhits, hothers⟩ m
      by_cases hm : m = lane
      · rw [if_pos (congrArg Fin.val hm)]
        exact hlocked.mpr hhits
      · rw [if_neg (hne m hm)]
        exact hothers m hm
  refine ⟨_, (markerSlot_free inv lg c hclk hn h ha).trans (congrArg (fun x => Host.Outcome.next (setLane s l.val lane.val x)) ha'.symm),
    ((hlane lane.val).trans (if_pos rfl)).trans ha', fun k hk => (hlane k.val).trans (if_neg (hne k hk)), hstate.trans ?_, hmem, hqueues⟩
  simp only [hiff, h, true_and]

theorem laneMarkerMissed_parts {l : LinkId} {lane : Fin 4} (hclk : Clocked s) (h : linkState s l.val = 7)
    (hm : (laneOf (linkOf s l.val) lane.val).missed < 3) : Yields (.laneMarkerMissed l lane) s (fun t =>
      laneOf (linkOf t l.val) lane.val =
          { laneOf (linkOf s l.val) lane.val with missed := (laneOf (linkOf s l.val) lane.val).missed + 1 } ∧ linkState t l.val = 7 ∧ t.mem = s.mem) := by
  obtain ⟨hlane, hmem, -, hstate⟩ := setLane_parts s l.isLt lane.val
    { laneOf (linkOf s l.val) lane.val with missed := (laneOf (linkOf s l.val) lane.val).missed + 1 }
  refine ⟨_, congrArg Host.Outcome.next ((live_of_clocked hclk _).trans ((if_pos h).trans (if_neg (by omega)))),
    (hlane lane.val).trans (if_pos rfl), hstate.trans ((if_neg (by omega)).trans h), hmem⟩

/-- Settles O42: each event of a link by its own rule. -/
theorem linksComeUp : Obligations.LinksComeUp := by
  refine ⟨⟨fun s u w l hlands h => ?_, fun s u w l hlands h => ?_, fun s l dev far turn trips hclk hb => ⟨fun h => ?_, fun h hall => ?_, fun h hex => ?_,
    fun h hgood => ?_, fun h hgood => ?_, fun h => ?_, fun h hn hheld => ?_⟩, fun s l hclk hb => bringupTimeout_parts hclk hb,
    fun s l hclk h => ?_, fun s u w l hlands h => ?_, fun s l hclk hup hsync => ⟨timeWordSend_now hclk hup hsync, timeWordSend_next hclk hup hsync⟩⟩,
    fun s l lane hclk => ⟨fun n inv on lg c hn => ?_, fun n inv lg c hn h ha => markerSlot_parts inv lg c hclk hn h ha,
      fun h hm => laneMarkerMissed_parts hclk h hm, fun h hm => ?_, fun h4 h7 => ?_⟩⟩
  · exact ⟨_, congrArg Host.Outcome.next (gated_of_lands hlands _ _), enableApply_one_parts l.isLt h⟩
  · obtain ⟨hstate, hen, hlink, hmem, hqueues⟩ := enableApply_zero_parts l.isLt h
    have hexec : exec (.linkEnableWrite w l false) s = .next (enableApply l.val 0 u) := congrArg Host.Outcome.next (gated_of_lands hlands _ _)
    refine ⟨_, hexec, hstate, hen, ?_⟩
    rw [hlink]
    exact ⟨rfl, rfl, rfl, hmem, hqueues⟩
  · exact ⟨_, linkPhaseDone_next dev far _ hclk hb h, phase_setLinkState s (by omega)⟩
  · refine ⟨_, (linkPhaseDone_search dev far _ hclk hb h).trans (congrArg Host.Outcome.next (if_pos hall)), linkState_setLinkState .., ?_, rfl⟩
    exact congrArg LinkSt.good (linkOf_setLink s l.val _)
  · obtain ⟨n, hn⟩ := hex
    refine (linkPhaseDone_search dev far _ hclk hb h).trans (congrArg Host.Outcome.next (if_neg fun hall => ?_))
    rw [hall n] at hn
    exact absurd hn (by decide)
  · exact ⟨_, (linkPhaseDone_deskew dev far _ hclk hb h).trans (congrArg Host.Outcome.next (if_pos hgood)), enterParam_parts s l⟩
  · exact (linkPhaseDone_deskew dev far _ hclk hb h).trans (congrArg Host.Outcome.next (if_neg (by omega)))
  · obtain ⟨hstate, hdev, hfar, hturn⟩ := farKept_parts s (turn := turn.toNat) l.isLt dev.isLt far.isLt
    exact ⟨_, linkPhaseDone_param dev far _ hclk hb h, hstate, hdev, hfar, hturn, rfl⟩
  · obtain ⟨hstate, hdelay, hrest⟩ := linkComesUp_parts s l trips
    refine ⟨_, linkPhaseDone_delay dev far ⟨turn, trips⟩ hclk hb h hn hheld, hstate, ?_, hrest⟩
    rw [hdelay, meanDelay, hn]
    rfl
  · refine ⟨_, congrArg Host.Outcome.next ((live_of_clocked hclk _).trans ((if_pos h).trans (if_neg (by decide)))), beginRetrain_parts s l.isLt true⟩
  · simp only [List.mem_cons, List.not_mem_nil, or_false, not_or] at h
    exact congrArg Host.Outcome.next ((gated_of_lands hlands _ _).trans ((if_neg h.2).trans (if_neg fun g => h.1 g.1)))
  · exact congrArg Host.Outcome.next ((live_of_clocked hclk _).trans (if_pos (Or.inl hn)))
  · exact congrArg Host.Outcome.next ((live_of_clocked hclk _).trans ((if_pos h).trans (if_pos (by omega))))
  · refine ⟨_, congrArg Host.Outcome.next ((live_of_clocked hclk _).trans ((if_neg (by omega)).trans (if_pos h4))), restartSearch_parts s l.isLt⟩

end Sys2Proof.Machine
end

section
/-! PROOFS. Media ingest: a plan that is taken, spans, pipes and decode groups (R179 to R196, R405). -/

namespace Sys2Proof.Machine

variable {s t u : State}

-- the plan ------------------------------------------------------------------------------------------------------------

/-- Settles O45: the docket's checks, one after another. -/
theorem ingestTakesItsPlan : Obligations.IngestTakesItsPlan := by
  intro s m r e hclk he hrun hstarted hdone hcut
  have hfilter : (entryOf s (2060 + m.val) r).filter (fun e => e.running && !e.started && !e.done && !e.cut) = some e := by
    rw [he]
    simp [hrun, hstarted, hdone, hcut]
  have hlive : exec (.ingest m r) s = _ := congrArg Host.Outcome.next (live_of_clocked hclk _)
  refine ⟨fun f hf hne => ?_, fun x spans hf hplan hstall hfaults hn hroom => ?_⟩
  · rw [hlive]
    simp only [hfilter, hf, ne_eq, hne, not_false_eq_true, if_true]
  · obtain ⟨hlow, hhigh⟩ := List.mem_range'_1.mp hn
    rw [hlive]
    simp only [hfilter, hf, hplan, hstall, hfaults, ne_eq, not_true_eq_false, if_false, Bool.false_eq_true]
    rw [if_neg (by omega)]

-- spans ---------------------------------------------------------------------------------------------------------------

section spans

variable {m : MDie} {r : DocketRef} {i : Nat} {sp : MSpan} {e : QEntry}

/-- A video span is looked at, and no audio span after it. -/
theorem spanStart_video (hclk : Clocked s) (hn : nextSpan (millOf s m.val) false = some (r, i, sp)) {w : State} (hw : startSpan s m r i sp = w)
    (hq : audioBusy (millOf w m.val) = true ∨ nextSpan (millOf w m.val) true = none) : exec (.spanStart m) s = .next w := by
  have hnone : (if audioBusy (millOf w m.val) then none else nextSpan (millOf w m.val) true) = none := by
    rcases hq with h | h
    · rw [if_pos h]
    · rw [h, ite_self]
  refine congrArg Host.Outcome.next ((live_of_clocked hclk _).trans ?_)
  simp only [hn, hw, hnone]
  exact if_pos rfl

/-- An audio span is looked at, where no video span waits. -/
theorem spanStart_audio (hclk : Clocked s) (hn : nextSpan (millOf s m.val) false = none) (hb : audioBusy (millOf s m.val) = false)
    (ha : nextSpan (millOf s m.val) true = some (r, i, sp)) : exec (.spanStart m) s = .next (startSpan s m r i sp) := by
  refine congrArg Host.Outcome.next ((live_of_clocked hclk _).trans ?_)
  have hsome : (if audioBusy (millOf s m.val) then none else nextSpan (millOf s m.val) true) = some (r, i, sp) := by rw [hb, ha]; rfl
  simp only [hn, hsome]

theorem startSpan_refused (he : entryOf s (2060 + m.val) r = some e) (h : targetRefused s m.val e sp = true) :
    startSpan s m r i sp = endIngest s m.val r 2 := by
  simp only [startSpan, he, h, if_true]

theorem startSpan_grey (he : entryOf s (2060 + m.val) r = some e) (h : targetRefused s m.val e sp = false) (ha : sp.audio = false)
    (hc : spanCause sp ≠ 0) (hr : readsCaptions e sp = false) : startSpan s m r i sp = greySpan s m.val e r i sp (spanCause sp) := by
  have hgo : (!sp.audio && spanCause sp != 0 && !readsCaptions e sp) = true := by simp [ha, hc, hr]
  simp only [startSpan, he, h, hgo, Bool.false_eq_true, if_false, if_true]

/-- A span whose bytes are read. -/
theorem startSpan_read (he : entryOf s (2060 + m.val) r = some e) (h : targetRefused s m.val e sp = false)
    (hr : sp.audio = true ∨ spanCause sp = 0 ∨ readsCaptions e sp = true) : startSpan s m r i sp =
      if rget s Reg.MILL_STATE m.val (targetOf sp.source) = 3 then failFetch s m.val r sp.addr
      else if rget s Reg.MILL_STATE m.val (targetOf sp.source) ≠ 2 then s
      else if sp.audio then (if sp.len = 0 then audioSpanDone s m.val r i sp else startFetch s m e r i sp)
      else takePipe s m e r i sp := by
  have hgo : (!sp.audio && spanCause sp != 0 && !readsCaptions e sp) = false := by
    rcases hr with hr | hr | hr <;> simp [hr]
  simp only [startSpan, he, h, hgo, Bool.false_eq_true, if_false]

theorem startSpan_audio (he : entryOf s (2060 + m.val) r = some e) (h : targetRefused s m.val e sp = false) (ha : sp.audio = true)
    (hstate : rget s Reg.MILL_STATE m.val (targetOf sp.source) = 2) (hlen : sp.len ≠ 0) : startSpan s m r i sp = startFetch s m e r i sp := by
  rw [startSpan_read he h (Or.inl ha), if_neg (by omega), if_neg (by omega), if_pos ha, if_neg hlen]

theorem startSpan_failed (he : entryOf s (2060 + m.val) r = some e) (h : targetRefused s m.val e sp = false)
    (hr : spanCause sp = 0 ∨ readsCaptions e sp = true) (hstate : rget s Reg.MILL_STATE m.val (targetOf sp.source) = 3) :
    startSpan s m r i sp = failFetch s m.val r sp.addr := by
  rw [startSpan_read he h (Or.inr hr), if_pos hstate]

theorem startSpan_pipe (he : entryOf s (2060 + m.val) r = some e) (h : targetRefused s m.val e sp = false) (ha : sp.audio = false)
    (hr : spanCause sp = 0 ∨ readsCaptions e sp = true) (hstate : rget s Reg.MILL_STATE m.val (targetOf sp.source) = 2) :
    startSpan s m r i sp = takePipe s m e r i sp := by
  rw [startSpan_read he h (Or.inr hr), if_neg (by omega), if_neg (by omega), if_neg (by simp [ha])]

/-- A pipe taken. -/
def pipeTaken (s : State) (m p : Nat) (r : DocketRef) (i need : Nat) : State :=
  setMill s m { millOf s m with
    pipes := mapSet (millOf s m).pipes p (r, i), reserved := mapSet (millOf s m).reserved p need
    waiting := (millOf s m).waiting.filter (· != (r, i)), idleFrom := mapErase (millOf s m).idleFrom (p / 4) }

theorem takePipe_refused {p a : Nat} (hp : freePipe s m.val = some p) (h : workRefused s m.val = some a) :
    takePipe s m e r i sp = endIngest ((e.access s).refused a).s m.val r 2 := by
  simp only [takePipe, hp, h]

theorem takePipe_free {p : Nat} (hp : freePipe s m.val = some p) (h : workRefused s m.val = none)
    (hroom : ((millOf s m.val).reserved.map (·.2)).sum + (if spanCause sp = 0 then reservation sp.source else 0) ≤
      rget s Reg.MILL_WORK_SETS m.val * 0x180000000) :
    takePipe s m e r i sp =
      if domainOn s (groupDomain m.val (p / 4)) then startFetch (pipeTaken s m.val p r i (if spanCause sp = 0 then reservation sp.source else 0)) m e r i sp
      else updSpan (pipeTaken s m.val p r i (if spanCause sp = 0 then reservation sp.source else 0)) m.val r i (fun x => { x with stage := 1 }) := by
  simp only [takePipe, hp, h]
  exact if_neg (by omega)

theorem exec_spanComplete {p : Fin 32} {j : MillJob} (hclk : Clocked s) (hp : mapFind (millOf s m.val).pipes p.val = some (r, i))
    (he : entryOf s (2060 + m.val) r = some e) (hj : (millOf s m.val).jobs.find? (fun j => j.ref == r) = some j) (hsp : j.spans[i]? = some sp)
    (hstage : sp.stage = 3) : exec (.spanComplete m p) s = .next (spanDone s m.val p.val e r i sp) := by
  refine congrArg Host.Outcome.next ((live_of_clocked hclk _).trans ?_)
  simp only [hp, he, hj, Option.bind_some, hsp]
  exact if_pos hstage

end spans

-- decode groups -------------------------------------------------------------------------------------------------------

/-- t differs from s in the Mill dies, registers and outputs only. -/
def Milled (s t : State) : Prop := t = { s with mill := t.mill, regs := t.regs, out := t.out }

theorem Milled.trans (h : Milled s t) (g : Milled t u) : Milled s u := by
  unfold Milled at *
  rw [g, h]

theorem milled_sendCmd (s : State) (m : MDie) (c : MillCmd) : Milled s (sendCmd s m c) := by
  unfold sendCmd
  dsimp only
  split <;> rfl

theorem milled_foldl {α : Type} {f : State → α → State} (hf : ∀ s x, Milled s (f s x)) (xs : List α) (s : State) : Milled s (xs.foldl f s) := by
  induction xs generalizing s with
  | nil => rfl
  | cons x xs ih => exact (hf s x).trans (ih _)

theorem milled_startFetch (s : State) (m : MDie) (e : QEntry) (r : DocketRef) (i : Nat) (sp : MSpan) : Milled s (startFetch s m e r i sp) :=
  Milled.trans (t := updSpan s m.val r i _) rfl (milled_foldl (fun s _ => milled_sendCmd s m _) _ _)

theorem domainOn_of_mem {n : Nat} (h : n ∈ s.power.on) : domainOn s n = true := List.contains_iff_mem.mpr h

/-- A group whose spans wait for it gets its power. -/
theorem decodeGroupPowered_parts {m : MDie} {g : Fin 8} (hclk : Clocked s)
    (h : ∃ p ∈ (millOf s m.val).pipes, p.1 / 4 = g.val ∧ pipeStage (millOf s m.val) p.2 = 1) :
    Yields (.decodeGroupPowered m g) s (fun t => domainOn t (groupDomain m.val g.val) = true ∧ t.mem = s.mem ∧ t.queues = s.queues) := by
  obtain ⟨p, hp, hg, hstage⟩ := h
  obtain ⟨ps, hps⟩ : ∃ ps, ps = (millOf s m.val).pipes.filter (fun p => p.1 / 4 == g.val && pipeStage (millOf s m.val) p.2 == 1) := ⟨_, rfl⟩
  have hne : ps ≠ [] := List.ne_nil_of_mem (by rw [hps, List.mem_filter]; exact ⟨hp, by simp [hg, hstage]⟩)
  obtain ⟨v, hv⟩ : ∃ v, v = { s with power := { s.power with on := addOnce s.power.on (groupDomain m.val g.val) } } := ⟨_, rfl⟩
  have hexec : ∃ t, exec (.decodeGroupPowered m g) s = .next t ∧ Milled v t := by
    refine ⟨_, congrArg Host.Outcome.next ((live_of_clocked hclk _).trans (if_neg (hps ▸ hne))), ?_⟩
    rw [← hv, ← hps]
    refine milled_foldl (fun s p => ?_) ps v
    split
    · exact milled_startFetch ..
    · rfl
  obtain ⟨t, ht, hform⟩ := hexec
  rw [hv] at hform
  refine ⟨t, ht, domainOn_of_mem ?_, ?_, ?_⟩
  · rw [hform]
    exact mem_addOnce ..
  · rw [hform]
  · rw [hform]

/-- An idle group loses its power, and no other domain does. -/
theorem decodeGroupIdleOff_parts {m : MDie} {g : Fin 8} (hclk : Clocked s) (h : ∀ p ∈ (millOf s m.val).pipes, p.1 / 4 ≠ g.val)
    (hon : domainOn s (groupDomain m.val g.val) = true) : Yields (.decodeGroupIdleOff m g) s (fun t => domainOn t (groupDomain m.val g.val) = false ∧
      (∀ i, i ≠ groupDomain m.val g.val → domainOn t i = domainOn s i) ∧ t.mem = s.mem ∧ t.regs = s.regs) := by
  have hany : (millOf s m.val).pipes.any (fun p => p.1 / 4 == g.val) = false := by
    simpa using h
  have hexec : ∃ (v : State) (x : TimeSt) (q : SMap (List QEntry)), v = { s with time := x, queues := q } ∧
      exec (.decodeGroupIdleOff m g) s = .next { v with power := { v.power with on := dropAll v.power.on (groupDomain m.val g.val) } } := by
    have hstay : ¬ ((millOf s m.val).pipes.any (fun p => p.1 / 4 == g.val) = true ∨ (!domainOn s (groupDomain m.val g.val)) = true) := by
      simp [hany, hon]
    by_cases hfloor : s.power.floor = true ∧ 2 ≤ g.val
    · refine ⟨s, s.time, s.queues, rfl, congrArg Host.Outcome.next ((live_of_clocked hclk _).trans ((if_neg hstay).trans ?_))⟩
      rw [if_pos hfloor]
    · obtain ⟨x, q, hform⟩ := advanceTo_form s (mapGet (millOf s m.val).idleFrom g.val 0 + 1000 * rget s Reg.POWER_MILL_IDLE_US)
      refine ⟨_, x, q, hform, congrArg Host.Outcome.next ((live_of_clocked hclk _).trans ((if_neg hstay).trans ?_))⟩
      rw [if_neg hfloor]
  obtain ⟨v, x, q, hv, hexec⟩ := hexec
  have hdomains : v.power.on = s.power.on := by rw [hv]
  refine ⟨_, hexec, ?_, fun i hi => ?_, ?_, ?_⟩
  · rw [domainOn, Bool.eq_false_iff]
    exact fun hc => mem_dropAll _ _ (List.contains_iff_mem.mp hc)
  · rw [domainOn, domainOn, ← hdomains, Bool.eq_iff_iff, List.contains_iff_mem, List.contains_iff_mem]
    simp [dropAll, hi]
  · rw [hv]
  · rw [hv]

/-- Settles O46: each kind of span by its own rule, and the groups by their pipes. -/
theorem spansAndPipes : Obligations.SpansAndPipes := by
  refine ⟨fun s m r i p sp e hclk hn ha he => ?_, fun s m r i sp e hclk hn hb hnext ha he => ⟨fun h => ?_, fun h hstate hlen => ?_⟩,
    fun s m hclk => ⟨fun p r i e j sp hp he hj hsp hstage => exec_spanComplete hclk hp he hj hsp hstage,
      fun g h => decodeGroupPowered_parts hclk h, fun g h hon => decodeGroupIdleOff_parts hclk h hon⟩⟩
  · refine ⟨fun h => spanStart_video hclk hn (startSpan_refused he h), fun h hc hr => spanStart_video hclk hn (startSpan_grey he h ha hc hr),
      fun h hr hstate => spanStart_video hclk hn (startSpan_failed he h hr hstate), fun h hr hstate hp => ⟨fun a hw => ?_, fun hw hroom => ⟨fun hon => ?_, fun hoff => ?_⟩⟩⟩
    all_goals have hpipe := startSpan_pipe (i := i) he h ha hr hstate
    · exact spanStart_video hclk hn (hpipe.trans (takePipe_refused hp hw))
    · exact spanStart_video hclk hn (hpipe.trans ((takePipe_free hp hw hroom).trans (if_pos hon)))
    · exact spanStart_video hclk hn (hpipe.trans ((takePipe_free hp hw hroom).trans (if_neg (by simp [hoff]))))
  · rw [spanStart_audio hclk hn hb hnext, startSpan_refused he h]
  · rw [spanStart_audio hclk hn hb hnext, startSpan_audio he h ha hstate hlen]

end Sys2Proof.Machine
end

section
/-! PROOFS. Draws of a Hopper (R225 to R229). -/

namespace Sys2Proof.Machine

variable {s t u : State}

-- the frame -----------------------------------------------------------------------------------------------------------

/-- The codes of the fields that a draw writes. -/
def drawCodes : List Nat :=
  headCodes ++ sendCodes ++ [Reg.MSF_SEQ_WAITS, Reg.HOPPER_STARVE_CYCLES, Reg.HOPPER_DRAWS, Reg.HOPPER_VOIDS_DRAWN].map (·.code)

/-- What goes on around a draw stores no byte, and leaves every register that it does not name. -/
structure Drawing (s t : State) : Prop where
  mem : t.mem = s.mem
  kept : CodesKept drawCodes s t

theorem Drawing.refl (s : State) : Drawing s s := ⟨rfl, codesKept_of_regs _ rfl⟩
theorem Drawing.trans (h : Drawing s t) (g : Drawing t u) : Drawing s u := ⟨g.mem.trans h.mem, h.kept.trans g.kept⟩

theorem drawing_of_regs (hm : t.mem = s.mem) (hr : t.regs = s.regs) : Drawing s t := ⟨hm, codesKept_of_regs _ hr⟩

theorem Stirred.drawing (h : Stirred s t) : Drawing s t :=
  ⟨h.mem, h.kept.mono (List.Subset.trans (List.subset_append_left _ _) (List.subset_append_left _ _))⟩

theorem Served.drawing (h : Served s t) : Drawing s t := h.stirred.drawing

theorem Sent.drawing (h : Sent s t) : Drawing s t :=
  ⟨h.mem, h.kept.mono (List.Subset.trans (List.subset_append_right _ _) (List.subset_append_left _ _))⟩

theorem drawing_rinc (s : State) {f : Fld} (hf : f.code ∈ drawCodes) {i : Nat} (hi : i < 16384) (n : Nat) : Drawing s (rinc s f i 0 n) := by
  obtain ⟨v, hv⟩ := rinc_eq_rset s f i 0 n
  rw [hv]
  exact ⟨rfl, codesKept_rset s hf hi (by decide) v⟩

theorem drawing_ite {p : Prop} [Decidable p] (h : Drawing s t) (g : Drawing s u) : Drawing s (if p then t else u) := by
  split
  exacts [h, g]

theorem drawing_foldl {α : Type} {f : State → α → State} (hf : ∀ s x, Drawing s (f s x)) (xs : List α) (s : State) : Drawing s (xs.foldl f s) := by
  induction xs generalizing s with
  | nil => exact Drawing.refl s
  | cons x xs ih => exact (hf s x).trans (ih _)

-- a draw begins -------------------------------------------------------------------------------------------------------

theorem drawing_issueSeq (s : State) (n : Nat) : Drawing s (issueSeq s n).2 := by
  obtain ⟨b, x, hb⟩ : ∃ (b : Bool) (x : MsfSt), issueSeq s n =
      if b then (some (mapGet s.msf.nextSeq n 0), { s with msf := x }) else (none, rinc s Reg.MSF_SEQ_WAITS) := ⟨_, _, rfl⟩
  rw [hb]
  split
  · exact drawing_of_regs rfl rfl
  · exact drawing_rinc s (by decide) (by decide) 1

theorem drawing_issueSeqs (n k : Nat) (s : State) : Drawing s (issueSeqs s n k).2 := by
  induction k generalizing s with
  | zero => exact Drawing.refl s
  | succ k ih =>
    unfold issueSeqs
    dsimp only
    split
    · exact drawing_issueSeq s n
    · exact (drawing_issueSeq s n).trans (ih _)

theorem drawing_pumpDraw (h : Nat) (e : QEntry) (d : HopDraw) (seq : W32) (fuel : Nat) (s : State) : Drawing s (pumpDraw s h e d seq fuel) := by
  induction fuel generalizing s with
  | zero => exact Drawing.refl s
  | succ fuel ih =>
    unfold pumpDraw
    split
    · exact Drawing.refl s
    · next o ho =>
      dsimp only
      split
      · exact ((drawing_of_regs (s := s) (t := takeHop s o) rfl rfl).trans (sent_send ..).drawing).trans (ih _)
      · exact Drawing.refl s

theorem drawing_startDraw (s : State) (h : Nat) (e : QEntry) (d : HopDraw) : Drawing s (startDraw s h e d) := by
  have hend (c a : Nat) : Drawing s (endDraw s h e c a) := drawing_of_regs rfl rfl
  unfold startDraw
  dsimp only
  split
  · exact hend ..
  split
  · exact hend ..
  obtain ⟨r, hr, hdraw⟩ : ∃ r, r = (if e.seqs.length = (drawDests e d.j).countP (takesSeq s e) then (some e.seqs, s)
      else issueSeqs s e.tenant.val ((drawDests e d.j).countP (takesSeq s e))) ∧ Drawing s r.2 := by
    refine ⟨_, rfl, ?_⟩
    split
    · exact Drawing.refl s
    · exact drawing_issueSeqs ..
  rw [← hr]
  split
  · exact ⟨rfl, hdraw.kept⟩
  · next seqs _ =>
    refine (hdraw.trans (drawing_of_regs (t := { updEntry r.2 (hopQueue h) e.toRef (fun e => { e with seqs := seqs }) with
      hopper := mapSet r.2.hopper h d }) rfl rfl)).trans (drawing_foldl (fun s x => ?_) _ _)
    split
    · split
      · exact Drawing.refl s
      · split
        · exact Drawing.refl s
        · next q _ _ _ e _ =>
          exact (drawing_of_regs (s := s) (t := startRemote s (hopQueue h) e 0 (gDev x.1) (ceilDiv d.data.length 4096) q) rfl rfl).trans (drawing_pumpDraw ..)
    · exact Drawing.refl s

theorem reads_rdNat (x : Access) (a n : Nat) : Reads x (x.rdNat a n).2 := reads_rd x a n

theorem drawData_eq (x : Access) (h i : Nat) : drawData x h i =
    if bitsAt (x.rdNat (hopEntryAt x.s h i) 8).1 48 2 = 3 then
      (voidHeader ((x.rdNat (hopEntryAt x.s h i) 8).1 % 2 ^ 48), (x.rdNat (hopEntryAt x.s h i) 8).2)
    else ((x.rdNat (hopEntryAt x.s h i) 8).2.rdNat (hopSlot x.s h i + 0x10) 4).2.rd (hopSlot x.s h i)
      (ceilDiv ((x.rdNat (hopEntryAt x.s h i) 8).2.rdNat (hopSlot x.s h i + 0x10) 4).1 64 * 64) := rfl

theorem reads_ite_pair {p : Prop} [Decidable p] {b : List Byte} {x y : Access} {z : List Byte × Access} (h : Reads x y) (g : Reads x z.2) :
    Reads x (if p then (b, y) else z).2 := by
  split
  exacts [h, g]

theorem reads_drawData (x : Access) (h i : Nat) : Reads x (drawData x h i).2 := by
  rw [drawData_eq]
  exact reads_ite_pair (reads_rdNat ..) ((reads_rdNat ..).trans ((reads_rdNat ..).trans (reads_rd ..)))

/-- A draw that waits looks at its slot: it stays, ends on a fault, or starts. -/
theorem evalDraw_eq (s : State) (h : Nat) (e : QEntry) (d : HopDraw) : ∃ (r : List Byte × Access) (t : State),
    r = drawData (e.access s) h (hopDrawSlot s h d.j) ∧
    t = startDraw r.2.s h e { d with
      copying := true, src := if hopState s h (hopDrawSlot s h d.j) = 2 then hopSlot s h (hopDrawSlot s h d.j) else 0, data := r.1 } ∧
    evalDraw s h e d =
      if d.copying = true ∨ hopState s h (hopDrawSlot s h d.j) < 2 ∨ hopFilling s h = true ∨ r.2.stalled = true then s
      else if r.2.faults ≠ [] then endDraw (starveEnd r.2.s h d) h e (worst (e.status :: r.2.faults)) (r.2.bad.getD 0)
      else if (mapFind t.hopper h).any (fun x => !x.copying) then t else starveEnd t h d := ⟨_, _, rfl, rfl, rfl⟩

theorem drawing_evalDraw (s : State) (h : Nat) (e : QEntry) (d : HopDraw) : Drawing s (evalDraw s h e d) := by
  obtain ⟨r, t, hr, ht, heq⟩ := evalDraw_eq s h e d
  have hread : Reads (e.access s) r.2 := hr ▸ reads_drawData (e.access s) h (hopDrawSlot s h d.j)
  have hserved : Drawing s r.2.s := (Served.mk hread.state hread.mem).drawing
  have hstart : Drawing s t := ht ▸ hserved.trans (drawing_startDraw ..)
  have hstarve (s : State) : Drawing s (starveEnd s h d) := drawing_rinc s (f := Reg.HOPPER_STARVE_CYCLES) (by decide) (by omega) _
  rw [heq]
  exact drawing_ite (Drawing.refl s) (drawing_ite ((hserved.trans (hstarve _)).trans (drawing_of_regs rfl rfl))
    (drawing_ite hstart (hstart.trans (hstarve t))))

theorem drawing_beginDraw (s : State) (h : Nat) (e : QEntry) (j : Nat) : Drawing s (beginDraw s h e j) := by
  unfold beginDraw
  split
  · exact drawing_of_regs rfl rfl
  · exact (drawing_of_regs (s := s) (t := { s with hopper := mapSet s.hopper h _ }) rfl rfl).trans (drawing_evalDraw ..)

-- a draw counts -------------------------------------------------------------------------------------------------------

/-- A range is plain still where what makes it so has not changed. -/
theorem Plain.of_kept {l : List Nat} {n a k : Nat} (h : Plain s n a k) (hk : CodesKept l s t) (howner : ∀ c ∈ ownerCodes, c ∉ l)
    (hdebug : Reg.PERTURB_DEBUG_EN.code ∉ l) (hfills : t.fills = s.fills) (hpoison : t.poison = s.poison) (hboot : t.boot = s.boot)
    (hresets : t.resets = s.resets) : Plain t n a k := by
  obtain ⟨hn, hhole, hbusy, hdeb, hlines⟩ := h
  refine ⟨hn, hhole, hfills ▸ hbusy, fun d => (hk Reg.PERTURB_DEBUG_EN d.val 0 hdebug (by omega) (by decide)).trans (hdeb d), fun m hm => ?_⟩
  obtain ⟨hmay, hout, hheld, hflaw, hpois⟩ := hlines m hm
  refine ⟨?_, ?_, ?_, hfills ▸ hflaw, hpoison ▸ hpois⟩
  · simpa only [mayAccess, hk.owner howner (regionOf_inMap (64 * m))] using hmay
  · simpa only [outOfService, hboot] using hout
  · simpa only [heldByReset, inReset, hresets] using hheld

theorem hopEntry_form (x : Access) (h i k : Nat) : ∃ v, x.hopEntry h i k 0 =
    { x.wr (hopEntryAt x.s h i) (natLe (k % 2 ^ 48) 8) with
      s := hopSet (x.wr (hopEntryAt x.s h i) (natLe (k % 2 ^ 48) 8)).s Reg.HOPPER_HOP_EMPTY_SLOTS h v } := by
  rw [Access.hopEntry, Nat.zero_mul, Nat.add_zero]
  exact ⟨_, rfl⟩

/-- Steps 4 and 5 of a draw, where nothing refuses them. -/
theorem countStores_of_plain {h : Nat} (hh : h < 16) {e : QEntry} {d : HopDraw} {x : Access} (hlist : hdList e.dk = 0) (hfaults : x.faults = [])
    (hentry : Plain x.s x.tenant (hopEntryAt x.s h (hopDrawSlot x.s h d.j)) 8) (hdrawn : Plain x.s x.tenant (hopBase x.s h + 16) 8) :
    CodesKept (headCodes ++ showCodes) x.s (countStores h e d x).s ∧
      memRead (countStores h e d x).s.mem (hopBase x.s h + 16) 8 = natLe ((d.j + 1) % 2 ^ 48) 8 ∧
      memRead (countStores h e d x).s.mem (hopEntryAt x.s h (hopDrawSlot x.s h d.j)) 8 = natLe ((hopW x.s h + d.j) % 2 ^ 48) 8 ∧
      ∀ a, (a < hopBase x.s h + 16 ∨ hopBase x.s h + 24 ≤ a) →
        (a < hopEntryAt x.s h (hopDrawSlot x.s h d.j) ∨ hopEntryAt x.s h (hopDrawSlot x.s h d.j) + 8 ≤ a) →
        memGet (countStores h e d x).s.mem a = memGet x.s.mem a := by
  obtain ⟨i, hi⟩ : ∃ i, i = hopDrawSlot x.s h d.j := ⟨_, rfl⟩
  rw [← hi] at hentry ⊢
  obtain ⟨k, hk⟩ : ∃ k, k = (hopW x.s h + d.j) % 2 ^ 48 := ⟨_, rfl⟩
  obtain ⟨j, hj⟩ : ∃ j, j = (d.j + 1) % 2 ^ 48 := ⟨_, rfl⟩
  obtain ⟨y₁, hy₁⟩ : ∃ y, y = x.wr (hopEntryAt x.s h i) (natLe k 8) := ⟨_, rfl⟩
  obtain ⟨y, hy⟩ : ∃ y, y = x.hopEntry h i (hopW x.s h + d.j) 0 := ⟨_, rfl⟩
  obtain ⟨v, hys⟩ := hopEntry_form x h i (hopW x.s h + d.j)
  rw [← hy, ← hk, ← hy₁] at hys
  obtain ⟨z₁, hz₁⟩ : ∃ z, z = y.wr (hopBase y.s h + 16) (natLe j 8) := ⟨_, rfl⟩
  obtain ⟨z, hz, hzs⟩ : ∃ z : Access, z = y.hopDrawn h (d.j + 1) ∧ z = { z₁ with s := hopShowDrawn z₁.s h } := by
    refine ⟨_, rfl, ?_⟩
    rw [hz₁, hj]
    rfl
  have hlen (n : Nat) : (natLe n 8).length = 8 := length_natLe n 8
  obtain ⟨hcalm₁, -, hread₁, hout₁⟩ := plain_wr (x := x) (a := hopEntryAt x.s h i) (data := natLe k 8) (by rwa [hlen])
  rw [← hy₁, hlen] at hread₁ hout₁
  rw [← hy₁] at hcalm₁
  have hyset : CodesKept showCodes y₁.s y.s := by
    rw [hys]
    exact codesKept_rset _ (by decide) (by omega) (by omega) v
  have hykept : CodesKept (headCodes ++ showCodes) x.s y.s :=
    ((hcalm₁.state.regs.codesKept.mono (List.subset_append_left _ _ : _ ⊆ headCodes)).mono (List.subset_append_left _ showCodes)).trans
      (hyset.mono (List.subset_append_right _ _))
  have hybase : hopBase y.s h = hopBase x.s h := by rw [hopBase, hopBase, hopF_congr hykept (by decide) hh]
  have hplain : Plain y.s y.tenant (hopBase y.s h + 16) 8 := by
    have hten : y.tenant = x.tenant := by
      rw [hys]
      exact hcalm₁.tenant
    rw [hybase, hten]
    refine (hcalm₁.plain hdrawn).of_kept hyset (by decide) (by decide) ?_ ?_ ?_ ?_ <;> rw [hys] <;> rfl
  obtain ⟨hcalm₂, -, hread₂, hout₂⟩ := plain_wr (x := y) (a := hopBase y.s h + 16) (data := natLe j 8) (by rwa [hlen])
  rw [← hz₁, hlen] at hread₂ hout₂
  rw [← hz₁] at hcalm₂
  have hyf : y.faults = [] := by
    rw [hys]
    exact hcalm₁.faults.trans hfaults
  have hstores : countStores h e d x = z := by
    have heq : countStores h e d x = if y.faults ≠ [] then y else if z.faults ≠ [] ∨ hdList e.dk = 0 then z
        else z.wr (hdList e.dk + 16 * (d.j - hdFirst e.dk)) (natLe (hopExpect x.s h i) 8 ++ natLe i 8) := by
      rw [hz, hy, hi]
      rfl
    rw [heq, if_neg (by simp [hyf]), if_pos (Or.inr hlist)]
  have hzmem : z.s.mem = z₁.s.mem := by rw [hzs]; rfl
  have hymem : y.s.mem = y₁.s.mem := by rw [hys]; rfl
  have haddr : hopEntryAt x.s h i = hopBase x.s h + 64 + 8 * i := rfl
  rw [hstores, hzmem]
  rw [hybase] at hread₂ hout₂
  refine ⟨hykept.trans ?_, hj ▸ hread₂, ?_, fun a ha hb => ?_⟩
  · refine ((hcalm₂.state.regs.codesKept.mono (List.subset_append_left _ _ : _ ⊆ headCodes)).mono (List.subset_append_left _ showCodes)).trans ?_
    rw [hzs]
    exact (kept_hopSet _ (f := Reg.HOPPER_HOP_DRAWN_LO) (by decide) hh _).trans (kept_hopSet _ (f := Reg.HOPPER_HOP_DRAWN_HI) (by decide) hh _)
  · rw [memRead_congr fun b hb hb' => (hout₂ b (by omega)).trans (congrArg (memGet · b) hymem), hread₁, hk]
  · exact (hout₂ a ha).trans ((congrArg (memGet · a) hymem).trans (hout₁ a hb))

theorem drawing_resolveSeqs (s : State) (n : Nat) (l : List W32) : Drawing s (resolveSeqs s n l) := drawing_of_regs rfl rfl

theorem drawing_drawOver (s : State) (h q : Nat) (r : DocketRef) (f : QEntry → QEntry) :
    Drawing s (updEntry { s with hopper := mapErase s.hopper h } q r f) := drawing_of_regs rfl rfl

theorem drawing_updEntry (s : State) (q : Nat) (r : DocketRef) (f : QEntry → QEntry) : Drawing s (updEntry s q r f) := drawing_of_regs rfl rfl

theorem Drawing.wake (h : Drawing s t) : Drawing s (hopWake t) := h.trans (stirred_hopWake t).drawing

/-- What follows the stores of a draw that counts leaves memory as it is. -/
theorem drawing_countDraw (h : Nat) (e : QEntry) (d : HopDraw) (x : Access) : Drawing (countStores h e d x).s (countDraw h e d x) := by
  have hcount (s : State) (b : Prop) [Decidable b] {f : Fld} (hf : f.code ∈ drawCodes) : Drawing s (if b then rinc s f (h % 2) else s) :=
    drawing_ite (drawing_rinc s hf (by omega) 1) (Drawing.refl s)
  -- The definition is unfolded by itself: on the applied function the kernel would first look into the queue that the match reads.
  obtain ⟨count, hdef⟩ : ∃ f, f = countDraw := ⟨_, rfl⟩
  rw [← hdef]
  delta countDraw at hdef
  subst hdef
  beta_reduce
  obtain ⟨y, hy⟩ : ∃ y, y = countStores h e d x := ⟨_, rfl⟩
  rw [← hy]
  extract_lets +onlyGivenNames q z counted a b c off dig g
  have ha : Drawing y.s a := (drawing_updEntry ..).trans (drawing_resolveSeqs ..)
  have hc : Drawing y.s c := ha.trans ((hcount a counted (by decide)).trans (hcount b _ (by decide)))
  have hg : Drawing y.s g := hc.trans (drawing_drawOver ..)
  obtain ⟨w, hw⟩ : ∃ w, w = g := ⟨_, rfl⟩
  rw [← hw] at hg ⊢
  split
  · exact hg.wake
  · exact (drawing_ite (hg.trans (drawing_beginDraw ..)) (hg.trans (drawing_updEntry ..))).wake

-- a draw waits, and copies --------------------------------------------------------------------------------------------

theorem hopSlots_congr (hm : t.mem = s.mem) (hr : t.regs = s.regs) (h i : Nat) : hopDrawSlot t h i = hopDrawSlot s h i ∧
    hopState t h i = hopState s h i ∧ hopSlot t h i = hopSlot s h i ∧ hopEntryAt t h i = hopEntryAt s h i := by
  have hget (f : Fld) (i j : Nat) := rget_congr hr f i j
  have hnat (a n : Nat) : memNat t a n = memNat s a n := by rw [memNat, memNat, hm]
  have hbase : hopBase t h = hopBase s h := by rw [hopBase, hopBase, hopF, hopF, hget]
  have hwin : hopW t h = hopW s h := by rw [hopW, hopW, hopF, hopF, hget]
  have hentry : hopEntryAt t h i = hopEntryAt s h i := by rw [hopEntryAt, hopEntryAt, hbase]
  refine ⟨?_, ?_, ?_, hentry⟩
  · rw [hopDrawSlot, hopDrawSlot, hwin, hopSeed, hopSeed, hbase, hnat]
  · rw [hopState, hopState, hentry, hnat]
  · rw [hopSlot, hopSlot, hopSlotBytes, hopSlotBytes, hbase, hwin, hopF, hopF, hget]

theorem foldl_fixed {α β : Type} {f : β → α → β} {u : β} {l : List α} (h : ∀ x ∈ l, f u x = u) : l.foldl f u = u := by
  induction l with
  | nil => rfl
  | cons x l ih =>
    rw [List.foldl_cons, h x List.mem_cons_self]
    exact ih fun y hy => h y (List.mem_cons_of_mem _ hy)

/-- A draw that copies, with no SEQ. -/
def drawStarted (s : State) (h : Nat) (e : QEntry) (d : HopDraw) : State :=
  { updEntry s (hopQueue h) e.toRef (fun e => { e with seqs := [] }) with hopper := mapSet s.hopper h d }

/-- A draw whose destinations are all here, with no arrival to count, starts at once. -/
theorem startDraw_here {h : Nat} {e : QEntry} {d : HopDraw} (harr : hdArriveEn e.dk = false) (hown : ownDev s % 4 = 0)
    (hdev : ∀ ga ∈ drawDests e d.j, gDev ga = ownDev s) (hseqs : e.seqs = []) :
    (startDraw s h e d).mem = s.mem ∧ mapFind (startDraw s h e d).hopper h = some d := by
  have hbad : (drawDests e d.j).findSome? (badDest s d.data.length) = none := by
    refine List.findSome?_eq_none_iff.mpr fun ga hga => ?_
    simp [badDest, hdev ga hga, hown]
  have hpeer : (drawDests e d.j).find? (fun ga => gDev ga != ownDev s && peerFault s (gDev ga) != 0) = none := by
    refine List.find?_eq_none.mpr fun ga hga => ?_
    simp [hdev ga hga]
  have hcount : (drawDests e d.j).countP (takesSeq s e) = 0 := by
    refine List.countP_eq_zero.mpr fun ga hga => ?_
    simp [takesSeq, harr, hdev ga hga]
  have hnone (t : State) (ht : ownDev t = ownDev s) (l : List Nat) (hl : ∀ ga ∈ l, gDev ga = ownDev s) :
      ∀ x ∈ destSeqs t e l [], x.2 = none := by
    induction l with
    | nil => exact fun x hx => absurd hx List.not_mem_nil
    | cons ga l ih =>
      have htakes : takesSeq t e ga = false := by simp [takesSeq, harr, ht, hl ga List.mem_cons_self]
      intro x hx
      rw [destSeqs, if_neg (by simp [htakes])] at hx
      rcases List.mem_cons.mp hx with rfl | hx
      · rfl
      · exact ih (fun ga hga => hl ga (List.mem_cons_of_mem _ hga)) x hx
  have heq : startDraw s h e d = drawStarted s h e d := by
    simp only [startDraw, hbad, hpeer, hcount, hseqs, List.length_nil, if_true]
    refine foldl_fixed fun x hx => ?_
    have hseq := hnone (drawStarted s h e d) rfl _ hdev x hx
    simp only [hseq]
  rw [heq]
  exact ⟨rfl, mapFind_mapSet_same ..⟩

theorem rdNat_fst (x : Access) (a n : Nat) : (x.rdNat a n).1 = leNat (x.rd a n).1 := rfl
theorem rdNat_snd (x : Access) (a n : Nat) : (x.rdNat a n).2 = (x.rd a n).2 := rfl

/-- What a FULL slot gives, where nothing refuses it. -/
theorem drawData_full {x : Access} {h i : Nat} (hstate : hopState x.s h i = 2) (hen : Plain x.s x.tenant (hopEntryAt x.s h i) 8)
    (hhead : Plain x.s x.tenant (hopSlot x.s h i + 0x10) 4)
    (hrec : Plain x.s x.tenant (hopSlot x.s h i) (ceilDiv (memNat x.s (hopSlot x.s h i + 0x10) 4) 64 * 64)) :
    (drawData x h i).1 = memRead x.s.mem (hopSlot x.s h i) (ceilDiv (memNat x.s (hopSlot x.s h i + 0x10) 4) 64 * 64) ∧
      Calm x (drawData x h i).2 ∧ (drawData x h i).2.s.mem = x.s.mem ∧ (drawData x h i).2.stalled = x.stalled := by
  obtain ⟨hread₁, hcalm₁, hmem₁, hstall₁⟩ := plain_rd hen
  obtain ⟨y, hy⟩ : ∃ y, y = x.rdNat (hopEntryAt x.s h i) 8 := ⟨_, rfl⟩
  have hy1 : y.1 = memNat x.s (hopEntryAt x.s h i) 8 := by rw [hy, rdNat_fst, hread₁, memNat]
  have hy2 : y.2 = (x.rd (hopEntryAt x.s h i) 8).2 := by rw [hy, rdNat_snd]
  rw [← hy2] at hcalm₁ hmem₁ hstall₁
  obtain ⟨hread₂, hcalm₂, hmem₂, hstall₂⟩ := plain_rd (x := y.2) (a := hopSlot x.s h i + 0x10) (n := 4)
    (by rw [hcalm₁.tenant]; exact hcalm₁.plain hhead)
  obtain ⟨z, hz⟩ : ∃ z, z = y.2.rdNat (hopSlot x.s h i + 0x10) 4 := ⟨_, rfl⟩
  have hz1 : z.1 = memNat x.s (hopSlot x.s h i + 0x10) 4 := by
    rw [hz, rdNat_fst, hread₂, hmem₁, memNat]
  have hz2 : z.2 = (y.2.rd (hopSlot x.s h i + 0x10) 4).2 := by rw [hz, rdNat_snd]
  rw [← hz2] at hcalm₂ hmem₂ hstall₂
  have hcalm := hcalm₁.trans hcalm₂
  obtain ⟨hread₃, hcalm₃, hmem₃, hstall₃⟩ := plain_rd (x := z.2) (a := hopSlot x.s h i)
    (n := ceilDiv (memNat x.s (hopSlot x.s h i + 0x10) 4) 64 * 64) (by rw [hcalm.tenant]; exact hcalm.plain hrec)
  have hne : ¬ bitsAt y.1 48 2 = 3 := by
    rw [hy1, ← hopState, hstate]
    decide
  rw [drawData_eq, ← hy, if_neg hne, ← hz, hz1]
  exact ⟨hread₃.trans (by rw [hmem₂, hmem₁]), hcalm.trans hcalm₃, hmem₃.trans (hmem₂.trans hmem₁), hstall₃.trans (hstall₂.trans hstall₁)⟩

/-- What a VOID slot gives. -/
theorem drawData_void {x : Access} {h i : Nat} (hstate : hopState x.s h i = 3) (hen : Plain x.s x.tenant (hopEntryAt x.s h i) 8) :
    (drawData x h i).1 = voidHeader (memNat x.s (hopEntryAt x.s h i) 8 % 2 ^ 48) ∧
      Calm x (drawData x h i).2 ∧ (drawData x h i).2.s.mem = x.s.mem ∧ (drawData x h i).2.stalled = x.stalled := by
  obtain ⟨hread₁, hcalm₁, hmem₁, hstall₁⟩ := plain_rd hen
  obtain ⟨y, hy⟩ : ∃ y, y = x.rdNat (hopEntryAt x.s h i) 8 := ⟨_, rfl⟩
  have hy1 : y.1 = memNat x.s (hopEntryAt x.s h i) 8 := by rw [hy, rdNat_fst, hread₁, memNat]
  have hy2 : y.2 = (x.rd (hopEntryAt x.s h i) 8).2 := by rw [hy, rdNat_snd]
  rw [← hy2] at hcalm₁ hmem₁ hstall₁
  have heq : bitsAt y.1 48 2 = 3 := by rw [hy1, ← hopState, hstate]
  rw [drawData_eq, ← hy, if_pos heq, hy1]
  exact ⟨rfl, hcalm₁, hmem₁, hstall₁⟩

/-- A waiting draw whose slot can be read copies it. -/
theorem evalDraw_copies {h : Nat} {e : QEntry} {d : HopDraw} {r : List Byte × Access} (hr : r = drawData (e.access s) h (hopDrawSlot s h d.j))
    (hcopy : d.copying = false) (hstate : 2 ≤ hopState s h (hopDrawSlot s h d.j)) (hfill : hopFilling s h = false) (hcalm : Calm (e.access s) r.2)
    (hmem : r.2.s.mem = s.mem) (hstall : r.2.stalled = false) (harr : hdArriveEn e.dk = false) (hown : ownDev s % 4 = 0)
    (hdev : ∀ ga ∈ drawDests e d.j, gDev ga = ownDev s) (hseqs : e.seqs = []) :
    (evalDraw s h e d).mem = s.mem ∧ mapFind (evalDraw s h e d).hopper h = some { d with
      copying := true, src := if hopState s h (hopDrawSlot s h d.j) = 2 then hopSlot s h (hopDrawSlot s h d.j) else 0, data := r.1 } := by
  obtain ⟨r', t, hr', ht, heq⟩ := evalDraw_eq s h e d
  rw [← hr] at hr'
  subst hr'
  obtain ⟨d', hd', hcopies⟩ : ∃ d' : HopDraw, d' = { d with
    copying := true, src := if hopState s h (hopDrawSlot s h d.j) = 2 then hopSlot s h (hopDrawSlot s h d.j) else 0, data := r'.1 } ∧
    d'.copying = true := ⟨_, rfl, rfl⟩
  rw [← hd'] at ht ⊢
  have hj : d'.j = d.j := by rw [hd']
  have hdevice : ownDev r'.2.s = ownDev s := hcalm.state.rget (by decide) (by decide) (by decide)
  obtain ⟨htmem, hthop⟩ := startDraw_here (s := r'.2.s) (h := h) (d := d') harr (by rwa [hdevice]) (by rwa [hdevice, hj]) hseqs
  rw [← ht] at htmem hthop
  have hwait : ¬ (d.copying = true ∨ hopState s h (hopDrawSlot s h d.j) < 2 ∨ hopFilling s h = true ∨ r'.2.stalled = true) := by
    simp only [hcopy, hfill, hstall, Bool.false_eq_true, false_or, or_false]
    omega
  have hnew : (mapFind t.hopper h).any (fun x => !x.copying) = false := by rw [hthop, Option.any_some, hcopies]; rfl
  have hf : r'.2.faults = [] := hcalm.faults
  have hstarve : (starveEnd t h d).mem = t.mem ∧ (starveEnd t h d).hopper = t.hopper := ⟨rinc_mem .., rinc_hopper ..⟩
  rw [heq, if_neg hwait, if_neg (not_not_intro hf), if_neg (by simp [hnew])]
  exact ⟨hstarve.1.trans (htmem.trans hmem), (congrArg (mapFind · h) hstarve.2).trans hthop⟩

theorem evalDraw_waits {h : Nat} {e : QEntry} {d : HopDraw} (hstate : hopState s h (hopDrawSlot s h d.j) < 2) : evalDraw s h e d = s := by
  obtain ⟨r, t, -, -, heq⟩ := evalDraw_eq s h e d
  rw [heq, if_pos (Or.inr (Or.inl hstate))]

/-- The first wait of a docket's draws. -/
def firstWait (s : State) (e : QEntry) (j : Nat) : HopDraw :=
  { ref := e.toRef, j, copying := false, waitFrom := s.time.cyc, starved := 0, src := 0, data := [] }

/-- A docket whose draws begin. -/
def QEntry.drawing (e : QEntry) : QEntry := { e with started := true, idx := [0], digest := 0 }

/-- The state in which its first draw looks at its slot. -/
def drawBegun (s : State) (h : Nat) (e : QEntry) (j : Nat) : State :=
  { updEntry s (hopQueue h) e.toRef QEntry.drawing with hopper := mapSet s.hopper h (firstWait s e j) }

theorem exec_draw {h : HopperId} {e : QEntry} (hclk : Clocked s) (hrun : hopRunning s h.val 1 = some e)
    (he : entryOf s (hopQueue h.val) e.toRef = some e) (hst : e.started = false) (href : hopRefuse s h.val e = 0) (hfill : hopFilling s h.val = false)
    (hlow : hdFirst e.dk ≤ hopDrawn s h.val) (hhigh : hopDrawn s h.val < hdFirst e.dk + hdCount e.dk) (hlast : hopDrawn s h.val < 2 ^ 48 - 1) :
    exec (.draw h) s = .next (evalDraw (drawBegun s h.val e (hopDrawn s h.val)) h.val e.drawing (firstWait s e (hopDrawn s h.val))) := by
  obtain ⟨j, hj⟩ : ∃ j, j = hopDrawn s h.val := ⟨_, rfl⟩
  have hentry : entryOf (updEntry s (hopQueue h.val) e.toRef QEntry.drawing) (hopQueue h.val) e.toRef = some e.drawing :=
    entryOf_updEntry_of_some he (fun _ => rfl)
  have hbegin : beginDraw (updEntry s (hopQueue h.val) e.toRef QEntry.drawing) h.val e.drawing j =
      evalDraw (drawBegun s h.val e j) h.val e.drawing (firstWait s e j) := if_neg (by omega)
  refine congrArg Host.Outcome.next ((live_of_clocked hclk _).trans ?_)
  rw [← hj] at hlow hhigh hlast ⊢
  simp only [hrun, hst, href, hfill, ne_eq, not_true_eq_false, Bool.false_eq_true, false_or, if_false]
  rw [if_neg (by omega), if_neg (by omega)]
  have hform : updEntry s (hopQueue h.val) e.toRef QEntry.drawing =
      updEntry s (hopQueue h.val) e.toRef (fun e => { e with started := true, idx := [0], digest := 0 }) := rfl
  rw [hform] at hentry hbegin
  simp only [hentry]
  exact hbegin

/-- A docket's first draw waits, or copies what its slot holds. -/
theorem draw_begins {h : HopperId} {e : QEntry} (hclk : Clocked s) (hrun : hopRunning s h.val 1 = some e)
    (he : entryOf s (hopQueue h.val) e.toRef = some e) (hst : e.started = false) (hseqs : e.seqs = []) (href : hopRefuse s h.val e = 0)
    (hfill : hopFilling s h.val = false) (hlow : hdFirst e.dk ≤ hopDrawn s h.val) (hhigh : hopDrawn s h.val < hdFirst e.dk + hdCount e.dk)
    (hlast : hopDrawn s h.val < 2 ^ 48 - 1) {i a n : Nat} (hi : i = hopDrawSlot s h.val (hopDrawn s h.val)) (ha : a = hopSlot s h.val i)
    (hn : n = ceilDiv (memNat s (a + 0x10) 4) 64 * 64) :
    (hopState s h.val i < 2 → Yields (.draw h) s (fun t => mapFind t.hopper h.val = some (firstWait s e (hopDrawn s h.val)) ∧ t.mem = s.mem)) ∧
    (hdArriveEn e.dk = false → ownDev s % 4 = 0 → (∀ ga ∈ drawDests e (hopDrawn s h.val), gDev ga = ownDev s) →
      Plain s e.tenant.val (hopEntryAt s h.val i) 8 →
      (hopState s h.val i = 2 → Plain s e.tenant.val (a + 0x10) 4 → Plain s e.tenant.val a n →
        Yields (.draw h) s (fun t => mapFind t.hopper h.val = some { firstWait s e (hopDrawn s h.val) with
          copying := true, src := a, data := memRead s.mem a n } ∧ t.mem = s.mem)) ∧
      (hopState s h.val i = 3 →
        Yields (.draw h) s (fun t => mapFind t.hopper h.val = some { firstWait s e (hopDrawn s h.val) with
          copying := true, data := voidHeader (memNat s (hopEntryAt s h.val i) 8 % 2 ^ 48) } ∧ t.mem = s.mem))) := by
  have hexec := exec_draw hclk hrun he hst href hfill hlow hhigh hlast
  obtain ⟨j, hj⟩ : ∃ j, j = hopDrawn s h.val := ⟨_, rfl⟩
  obtain ⟨d, hd, hdj, hdsrc, hdcopy⟩ : ∃ d : HopDraw, d = firstWait s e j ∧ d.j = j ∧ d.src = 0 ∧ d.copying = false := ⟨_, rfl, rfl, rfl, rfl⟩
  obtain ⟨w, hw⟩ : ∃ w, w = drawBegun s h.val e j := ⟨_, rfl⟩
  have hmem : w.mem = s.mem := by rw [hw]; rfl
  have hregs : w.regs = s.regs := by rw [hw]; rfl
  have hwait : mapFind w.hopper h.val = some d := by
    rw [hw, hd]
    exact mapFind_mapSet_same ..
  have hfills : hopFilling w h.val = hopFilling s h.val := by rw [hw]; rfl
  have hplain {b m : Nat} (hp : Plain s e.tenant.val b m) : Plain w e.tenant.val b m := by
    refine hp.of_kept (codesKept_of_regs [] hregs) (fun c _ => List.not_mem_nil) List.not_mem_nil ?_ ?_ ?_ ?_ <;> rw [hw] <;> rfl
  rw [← hj] at hi hexec ⊢
  rw [← hd, ← hw] at hexec
  rw [← hd]
  have hi' : hopDrawSlot w h.val d.j = i := by
    rw [hdj, hi]
    exact (hopSlots_congr hmem hregs h.val j).1
  obtain ⟨-, hstate, hsaddr, hentry⟩ := hopSlots_congr hmem hregs h.val i
  have hnat (b m : Nat) : memNat w b m = memNat s b m := by rw [memNat, memNat, hmem]
  have hown' : ownDev w = ownDev s := rget_congr hregs ..
  refine ⟨fun hlow => ?_, fun harr hown hdev hen => ?_⟩
  · rw [evalDraw_waits (by rw [hi', hstate]; exact hlow)] at hexec
    exact ⟨w, hexec, hwait, hmem⟩
  · obtain ⟨r, hr⟩ : ∃ r, r = drawData (e.drawing.access w) h.val i := ⟨_, rfl⟩
    have copies (hst : 2 ≤ hopState s h.val i) (hcalm : Calm (e.drawing.access w) r.2) (hrmem : r.2.s.mem = w.mem)
        (hstall : r.2.stalled = false) := evalDraw_copies (s := w) (h := h.val) (e := e.drawing) (d := d) (r := r) (by rw [hi']; exact hr) hdcopy
      (by rw [hi', hstate]; exact hst) (hfills.trans hfill) hcalm hrmem hstall harr (hown'.symm ▸ hown) (by rw [hown', hdj]; exact hdev) hseqs
    simp only [hi', hstate, hsaddr] at copies
    refine ⟨fun hfull hhead hrec => ?_, fun hvoid => ?_⟩
    · have hrec' : Plain w e.tenant.val (hopSlot w h.val i) (ceilDiv (memNat w (hopSlot w h.val i + 0x10) 4) 64 * 64) := by
        rw [hsaddr, hnat, ← ha, ← hn]
        exact hplain hrec
      obtain ⟨hdata, hcalm, hrmem, hstall⟩ := drawData_full (x := e.drawing.access w) (h := h.val) (i := i) (hstate.trans hfull)
        (hentry.symm ▸ hplain hen) (hsaddr.symm ▸ ha ▸ hplain hhead) hrec'
      rw [← hr] at hdata hcalm hrmem hstall
      have hbytes : r.1 = memRead w.mem (hopSlot w h.val i) (ceilDiv (memNat w (hopSlot w h.val i + 0x10) 4) 64 * 64) := hdata
      rw [hmem, hsaddr, hnat, ← ha, ← hn] at hbytes
      obtain ⟨htmem, hthop⟩ := copies (by omega) hcalm hrmem hstall
      refine ⟨_, hexec, hthop.trans ?_, htmem.trans hmem⟩
      rw [if_pos hfull, hbytes, ← ha]
    · obtain ⟨hdata, hcalm, hrmem, hstall⟩ := drawData_void (x := e.drawing.access w) (h := h.val) (i := i) (hstate.trans hvoid)
        (hentry.symm ▸ hplain hen)
      rw [← hr] at hdata hcalm hrmem hstall
      have hbytes : r.1 = voidHeader (memNat w (hopEntryAt w h.val i) 8 % 2 ^ 48) := hdata
      rw [hnat, hentry] at hbytes
      obtain ⟨htmem, hthop⟩ := copies (by omega) hcalm hrmem hstall
      refine ⟨_, hexec, hthop.trans ?_, htmem.trans hmem⟩
      rw [if_neg (by omega), hbytes]
      dsimp only
      rw [hdsrc]

/-- A copying draw whose chunks have all landed. -/
theorem exec_drawLanded {h : HopperId} {e : QEntry} {d : HopDraw} (hclk : Clocked s) (hrun : hopRunning s h.val 1 = some e)
    (hd : mapFind s.hopper h.val = some d) (hes : e.is d.ref = true) (hcopy : d.copying = true) (hack : drawAcked s e = true)
    (hfill : hopFilling s h.val = false) {l : HopLand} (hl : landDraw s e d = l) (hstall : l.x.stalled = false) (hall : l.all = true) :
    exec (.drawLanded h) s = .next (if worst (e.status :: l.x.faults) ≠ 0 then drainPosted (endDraw l.x.s h.val e (worst (e.status :: l.x.faults))
        (if e.status = 4 then e.badAddr else l.x.bad.getD e.badAddr))
      else if (countStores h.val e d l.x).stalled then s else drainPosted (countDraw h.val e d l.x)) := by
  refine congrArg Host.Outcome.next ((live_of_clocked hclk _).trans ?_)
  simp only [hrun, hd, hl]
  rw [if_neg (by simp [hes, hcopy, hack, hfill]), if_neg (by simp [hstall]), if_neg (by simp [hall])]

/-- A draw that counts: DRAWN moves on, and its slot is EMPTY and expects the number W further on. -/
theorem countDraw_of_plain {h : Nat} (hh : h < 16) {e : QEntry} {d : HopDraw} {x : Access} (hlist : hdList e.dk = 0) (hfaults : x.faults = [])
    (hentry : Plain x.s x.tenant (hopEntryAt x.s h (hopDrawSlot x.s h d.j)) 8) (hdrawn : Plain x.s x.tenant (hopBase x.s h + 16) 8) :
    hopDrawn (countDraw h e d x) h = (d.j + 1) % 2 ^ 48 ∧
      hopExpect (countDraw h e d x) h (hopDrawSlot x.s h d.j) = (hopW x.s h + d.j) % 2 ^ 48 ∧
      hopState (countDraw h e d x) h (hopDrawSlot x.s h d.j) = 0 ∧
      ∀ a, (a < hopBase x.s h + 16 ∨ hopBase x.s h + 24 ≤ a) →
        (a < hopEntryAt x.s h (hopDrawSlot x.s h d.j) ∨ hopEntryAt x.s h (hopDrawSlot x.s h d.j) + 8 ≤ a) →
        memGet (countDraw h e d x).mem a = memGet x.s.mem a := by
  obtain ⟨hkept, hd, he, hout⟩ := countStores_of_plain hh hlist hfaults hentry hdrawn
  obtain ⟨hmem, hdraw⟩ := drawing_countDraw h e d x
  obtain ⟨t, ht⟩ : ∃ t, t = countDraw h e d x := ⟨_, rfl⟩
  obtain ⟨i, hi⟩ : ∃ i, i = hopDrawSlot x.s h d.j := ⟨_, rfl⟩
  rw [← ht] at hmem hdraw ⊢
  rw [← hmem] at hd he hout
  rw [← hi] at he hout ⊢
  have hbase : hopBase t h = hopBase x.s h := by
    rw [hopBase, hopBase, hopF_congr hdraw (by decide) hh, hopF_congr hkept (by decide) hh]
  have haddr : hopEntryAt t h i = hopEntryAt x.s h i := by rw [hopEntryAt, hopEntryAt, hbase]
  have hlt (n : Nat) : n % 2 ^ 48 < 2 ^ (8 * 6) := Nat.mod_lt _ (by decide)
  have part {a n : Nat} (hr : memRead t.mem a 8 = natLe n 8) : memRead t.mem a 6 = natLe n 6 := by
    have hslice := memRead_slice t.mem a (n := 8) (i := 0) (k := 6) (by decide)
    rw [Nat.add_zero, List.drop_zero, hr, take_natLe n (by decide)] at hslice
    exact hslice.symm
  refine ⟨?_, ?_, ?_, hout⟩
  · rw [hopDrawn, hbase, memNat, part hd, leNat_natLe (hlt _)]
  · rw [hopExpect, haddr, memNat, part he, leNat_natLe (hlt _)]
  · rw [hopState, haddr, memNat, he, leNat_natLe ((hlt _).trans (by decide)), bitsAt, Nat.shiftRight_eq_div_pow, Nat.div_eq_of_lt (hlt _)]
    rfl

/-- Settles O50: a draw at its slot, on its landing, and as it counts. -/
theorem drawsTakeTheirSlots : Obligations.DrawsTakeTheirSlots := by
  refine ⟨fun s h e hclk hrun he hst hseqs href hfill hlow hhigh hlast => ?_, fun s h e d hclk hrun hd hes => ?_,
    fun s h e d hclk hrun hd hes hcopy hack hfill => ?_, fun h e d x hlist hfaults => ?_⟩
  · obtain ⟨hwait, hcopy⟩ := draw_begins hclk hrun he hst hseqs href hfill hlow hhigh hlast rfl rfl rfl
    refine ⟨hwait, fun hfull ⟨harr, hown, hdev⟩ hen => (hcopy harr hown hdev hen).1 hfull, fun hvoid ⟨harr, hown, hdev⟩ hen => ?_⟩
    exact (hcopy harr hown hdev hen).2 hvoid
  · refine congrArg Host.Outcome.next ((live_of_clocked hclk _).trans ?_)
    simp only [hrun, hd, hes, if_true]
  · intro l f hstall hall
    have hexec := exec_drawLanded hclk hrun hd hes hcopy hack hfill (l := l) rfl hstall hall
    refine ⟨fun hf hstores => ?_, fun hf => ?_⟩
    · rw [hexec, if_neg (not_not_intro hf), if_neg (by simp [hstores])]
    · rw [hexec, if_pos hf]
  · exact fun hen hdr => countDraw_of_plain h.isLt hlist hfaults hen hdr

end Sys2Proof.Machine
end

section
/-! PROOFS. Collectives (R287 to R306, R308, R312). -/

namespace Sys2Proof.Machine

variable {s t u : State} {r : DocketRef}

-- a collective starts -------------------------------------------------------------------------------------------------

theorem reads_contributions (x : Access) (d : Docket) : Reads x (contributions x d).2 := by
  have hfold (l : List Nat) (acc : List (List FVal) × Access) : Reads acc.2 (l.foldl (fun acc i =>
      let r := acc.2.rd (coSrc d + i * coStride d) (coBytes d (coCount d))
      (acc.1 ++ [decodeAll (coIn d) r.1 (coCount d)], r.2)) acc).2 := by
    induction l generalizing acc with
    | nil => exact Reads.refl _
    | cons i l ih =>
      obtain ⟨y, hy⟩ : ∃ y, y = acc.2.rd (coSrc d + i * coStride d) (coBytes d (coCount d)) := ⟨_, rfl⟩
      rw [List.foldl_cons]
      exact (reads_rd acc.2 _ _).trans (ih (_, (acc.2.rd (coSrc d + i * coStride d) (coBytes d (coCount d))).2))
  exact hfold _ ([], x)

theorem reads_firstVec (x : Access) (d : Docket) (n rank : Nat) : Reads x (firstVec x d n rank).2 := by
  unfold firstVec
  split
  · exact reads_contributions x d
  · exact reads_contributions x d
  · exact reads_rd ..
  · split
    · exact reads_rd ..
    · exact Reads.refl x
  · exact reads_rd ..

/-- What comes before a collective stands in the list: memory and the collectives as they were, and its docket in its queue. -/
structure Begun (r : DocketRef) (s t : State) : Prop where
  mem : t.mem = s.mem
  colls : t.colls = s.colls
  entry : (entryOf s 2056 r).isSome → (entryOf t 2056 r).isSome

theorem Begun.refl (s : State) : Begun r s s := ⟨rfl, rfl, id⟩
theorem Begun.trans (h : Begun r s t) (g : Begun r t u) : Begun r s u := ⟨g.mem.trans h.mem, g.colls.trans h.colls, fun x => g.entry (h.entry x)⟩

theorem Served.begun (h : Served s t) : Begun r s t := by
  refine ⟨h.mem, by rw [h.form], fun hs => ?_⟩
  obtain ⟨e, he⟩ := Option.isSome_iff_exists.mp hs
  obtain ⟨n, hn⟩ := h.toAccessed.entryOf he
  exact Option.isSome_iff_exists.mpr ⟨_, hn⟩

theorem begun_updEntry (s : State) {f : QEntry → QEntry} (hf : ∀ e, (f e).is r = e.is r) (q : DocketRef) (hq : q = r) :
    Begun r s (updEntry s 2056 q f) := by
  subst hq
  exact ⟨rfl, rfl, fun h => by rwa [entryOf_updEntry s 2056 q hf, Option.isSome_map]⟩

theorem begun_noteColl (s : State) (x : Access) (n k : Nat) : Begun r s (noteColl s r x n k) :=
  begun_updEntry s (f := fun e => { e with
    status := worst (e.status :: x.faults), badAddr := if e.status = 4 then e.badAddr else x.bad.getD e.badAddr
    nonfinite := e.nonfinite + n, flushed := e.flushed + k }) (fun _ => rfl) r rfl

theorem Reads.begun {e : QEntry} {x : Access} (h : Reads (e.access s) x) : Begun r s x.s := (Served.mk h.state h.mem).begun

theorem begun_clampP (s : State) {e : QEntry} (he : e.toRef = r) (l : Nat) : Begun r s (clampP s e l).1 := by
  unfold clampP
  obtain ⟨a, ha⟩ : ∃ a, a = (if coP e.dk = 0 then l else min (2 ^ 24) (max (coP e.dk) l)) := ⟨_, rfl⟩
  dsimp only
  rw [← ha]
  by_cases hp : coP e.dk = 0 ∨ coP e.dk = a ∨ (!coReduces e.dk) = true
  · rw [if_pos hp]
    exact Begun.refl s
  · rw [if_neg hp]
    exact (noted_raise s _).served.begun.trans (begun_updEntry _ (f := fun e => { e with clamped := true }) (fun _ => rfl) _ he)

theorem QEntry.toRef_of_is {e : QEntry} (h : e.is r = true) : e.toRef = r := by
  simp only [QEntry.is, Bool.and_eq_true, beq_iff_eq] at h
  obtain ⟨⟨hdie, htenant⟩, hseq⟩ := h
  rw [QEntry.toRef, hdie, htenant, hseq]

theorem toRef_of_entryOf {q : Nat} {e : QEntry} (h : entryOf s q r = some e) : e.toRef = r :=
  QEntry.toRef_of_is (by simpa using List.find?_some h)

theorem exec_collective {c : Instr} {op : Nat} (hclk : Clocked s)
    (hc : (c, op) ∈ [(Instr.reduceScatter r, 0), (.allGather r, 1), (.allReduce r, 2), (.broadcast r, 3), (.anchorMax r, 4)]) :
    exec c s = .next (startColl s op r) := by
  simp only [List.mem_cons, Prod.mk.injEq, List.not_mem_nil, or_false] at hc
  obtain ⟨rfl, rfl⟩ | ⟨rfl, rfl⟩ | ⟨rfl, rfl⟩ | ⟨rfl, rfl⟩ | ⟨rfl, rfl⟩ := hc <;>
    exact congrArg Host.Outcome.next (live_of_clocked hclk _)

/-- The docket that a collective's command starts. -/
theorem filter_of_startable {op : Nat} {e : QEntry} (he : entryOf s 2056 r = some e) (hrun : e.running = true) (hstarted : e.started = false)
    (hdone : e.done = false) (hcut : e.cut = false) (hop : dkOp e.dk = op) :
    (entryOf s 2056 r).filter (fun e => e.running && !e.started && !e.done && !e.cut && dkOp e.dk == op) = some e := by
  rw [he]
  simp [hrun, hstarted, hdone, hcut, hop]

theorem startColl_small {op : Nat} {e : QEntry}
    (he : (entryOf s 2056 r).filter (fun e => e.running && !e.started && !e.done && !e.cut && dkOp e.dk == op) = some e)
    (h : rget s Reg.TALLY_PART_MIB 0 e.tenant.val < 4 ∨ rget s Reg.TALLY_PART_MIB 1 e.tenant.val < 4) :
    startColl s op r = endColl s r 2 := by
  unfold startColl
  rw [he]
  exact if_pos h

/-- A collective whose partitions, group and peers are sound, and whose first vector reads. -/
theorem startColl_sound {op : Nat} {e : QEntry} {gr : Nat × Access} {v : List Int × Access} {devs : List Nat} {rank : Nat}
    (he : (entryOf s 2056 r).filter (fun e => e.running && !e.started && !e.done && !e.cut && dkOp e.dk == op) = some e)
    (hroom : ¬(rget s Reg.TALLY_PART_MIB 0 e.tenant.val < 4 ∨ rget s Reg.TALLY_PART_MIB 1 e.tenant.val < 4))
    (hgr : gr = (e.access s).rdNat (coGroup e.dk) 128) (hdevs : devs = groupDevs (readGroup gr.1))
    (hrank : rank = firstIdx devs (· == ownDev s)) (hv : v = firstVec gr.2 e.dk devs.length rank)
    (hstalled : gr.2.stalled = false) (hfaults : gr.2.faults = [])
    (hgroup : ¬(groupBad (readGroup gr.1) ∨ devs.length ≤ rank ∨ countBad e.dk (readGroup gr.1) ∨ (dkOp e.dk = 3 ∧ devs.length ≤ coRoot e.dk)))
    (hpeers : ∀ d ∈ devs, d ≠ ownDev s → peerFault s d = 0) (hvs : v.2.stalled = false) :
    ∃ (x : State) (k : Coll), startColl s op r = goOn (setColls x (x.colls ++ [k])) r true collFuel ∧
      x = updEntry (clampP (noteColl v.2.s r v.2 0 0) e (spanL e.dk (readGroup gr.1))).1 2056 r (fun e => { e with started := true }) ∧
      k.ref = r ∧ k.devs = devs ∧ k.rank = rank ∧ k.stages = stagesOf e.dk (readGroup gr.1) rank ∧ k.vec = v.1 := by
  have hnone : devs.filterMap (fun x => if x = ownDev s then none else if peerFault s x = 0 then none else some 8) = [] := by
    rw [List.filterMap_eq_nil_iff]
    intro d hd
    by_cases hown : d = ownDev s
    · exact if_pos hown
    · rw [if_neg hown, if_pos (hpeers d hd hown)]
  have hstay : ({ gr.2 with faults := [], stalled := false } : Access) = gr.2 := by rw [← hstalled, ← hfaults]
  rw [ownDev] at hnone hrank
  unfold startColl
  rw [he]
  dsimp only
  rw [if_neg hroom, ← hgr, hstalled, if_neg Bool.false_ne_true, hfaults, if_neg (by simp), ← hdevs, ← hrank, if_neg hgroup, hnone, if_neg (by simp),
    hstay, ← hv, hvs, if_neg Bool.false_ne_true]
  exact ⟨_, _, rfl, rfl, rfl, rfl, rfl, rfl, rfl⟩

/-- Settles O52: the command of a docket that may start runs `startColl`; the reads before it store nothing and keep the docket in its queue. -/
theorem collectivesStart : Obligations.CollectivesStart := by
  intro s c op r e hclk hc he hrun hstarted hdone hcut hop
  have hfilter := filter_of_startable he hrun hstarted hdone hcut hop
  refine ⟨fun h => (exec_collective hclk hc).trans (congrArg Host.Outcome.next (startColl_small hfilter h)), ?_⟩
  intro h₀ h₁
  obtain ⟨gr, hgr⟩ : ∃ gr, gr = (e.access s).rdNat (coGroup e.dk) 128 := ⟨_, rfl⟩
  obtain ⟨devs, hdevs⟩ : ∃ devs, devs = groupDevs (readGroup gr.1) := ⟨_, rfl⟩
  obtain ⟨rank, hrank⟩ : ∃ rank, rank = firstIdx devs (· == ownDev s) := ⟨_, rfl⟩
  obtain ⟨v, hv⟩ : ∃ v, v = firstVec gr.2 e.dk devs.length rank := ⟨_, rfl⟩
  dsimp only
  rw [← hgr, ← hdevs, ← hrank, ← hv]
  intro hstalled hfaults hgroup hlt hcount hroot hpeers hvs
  obtain ⟨x, k, hrunning, hx, href, hkdevs, hkrank, hstages, hvec⟩ := startColl_sound hfilter (by omega) hgr hdevs hrank hv hstalled hfaults
    (by simp only [hgroup, hcount, Bool.false_eq_true, false_or, not_or, not_and, not_le]; exact ⟨hlt, fun h => hroot (hop ▸ h)⟩) hpeers hvs
  have href' := toRef_of_entryOf he
  have hgread : Reads (e.access s) gr.2 := by rw [hgr]; exact reads_rdNat ..
  have hread : Reads (e.access s) v.2 := hgread.trans (by rw [hv]; exact reads_firstVec ..)
  have hbegun : Begun r s (clampP (noteColl v.2.s r v.2 0 0) e (spanL e.dk (readGroup gr.1))).1 :=
    (hread.begun.trans (begun_noteColl ..)).trans (begun_clampP _ href' _)
  obtain ⟨f, hf⟩ := Option.isSome_iff_exists.mp (hbegun.entry (Option.isSome_iff_exists.mpr ⟨e, he⟩))
  refine ⟨_, (exec_collective hclk hc).trans (congrArg Host.Outcome.next hrunning), x, k, rfl, href, hkdevs, hkrank, hstages, hvec, ?_, ?_,
    { f with started := true }, ?_, rfl⟩
  · exact hx ▸ hbegun.mem
  · exact hx ▸ hbegun.colls
  · exact hx ▸ entryOf_updEntry_of_some hf (fun _ => rfl)

end Sys2Proof.Machine
end

section
/-! PROOFS. Tally chunks and partitions (R297 to R301, R305, R308, R312). -/

namespace Sys2Proof.Machine

variable {s t u : State}

-- chunks --------------------------------------------------------------------------------------------------------------

/-- A data or anchor chunk that is admitted. -/
theorem tallyArrival_of_admitted {l : LinkId} {p : Packet} (h : admitPacket s (some l) p = (u, true)) (anchor : Bool) :
    (collFor u p = none → tallyArrival s l p anchor = staleChunk u (tpChunk p)) ∧
    ∀ (k : Coll) (e : QEntry), collFor u p = some (k, e) → inStage p (stageOf k) anchor = true →
      firstIdx (stageOf k).members (· == tpRank p) < (stageOf k).members.length → (mapFind k.slots (tpChunk p)).isSome = true →
      tallyArrival s l p anchor = if crc32c (natLe (pf p 128 96) 12 ++ p.data) = tpCrc p then
        takeChunk u k e (stageOf k) (firstIdx (stageOf k).members (· == tpRank p)) (tpChunk p) p.data
      else crcFail u l k e (stageOf k) (firstIdx (stageOf k).members (· == tpRank p)) (tpChunk p) := by
  refine ⟨fun hc => ?_, fun k e hc hstage hplace hslot => ?_⟩ <;> unfold tallyArrival <;> dsimp only <;>
    rw [h, if_neg (by simp)]
  · simp only [hc]
  · simp only [hc, hstage, hslot, hplace, decide_true, Bool.and_self, if_true, ite_not]

theorem exec_tally {c : Instr} {l : LinkId} {p : Packet} {anchor : Bool} (hclk : Clocked s)
    (hc : (c = .tallyData l p ∧ pOpc p = 8 ∧ anchor = false) ∨ (c = .tallyAnchor l p ∧ pOpc p = 9 ∧ anchor = true)) :
    exec c s = .next (tallyArrival s l p anchor) := by
  obtain ⟨rfl, hopc, rfl⟩ | ⟨rfl, hopc, rfl⟩ := hc <;>
    exact congrArg Host.Outcome.next ((live_of_clocked hclk _).trans (if_pos hopc))

/-- A chunk already taken is answered and not added again. -/
theorem takeChunk_dup {k : Coll} {e : QEntry} {g : CStage} {place c : Nat} {data : List Byte} {sl : CSlot}
    (hslot : mapFind k.slots c = some sl) (hgot : ∃ x ∈ sl.got, x.1 = place) :
    takeChunk s k e g place c data = answer (rinc s Reg.TALLY_DUP_CHUNKS (c % 2)) k g 11 place c := by
  obtain ⟨x, hx, hplace⟩ := hgot
  have hany : sl.got.any (fun x => x.1 == place) = true := List.any_eq_true.mpr ⟨x, hx, by simp [hplace]⟩
  simp only [takeChunk, hslot, hany, if_true]

/-- A response of the exchange that is admitted and not dropped. -/
theorem tallyResponse_of_admitted {p : Packet} {k : Coll} {e : QEntry} {n : Nat} (hopc : pOpc p = n) (hadmit : admitPacket s none p = (u, true))
    (hpert : pertResponse u 8 n (pTenant p) = (false, u)) (hcoll : collFor u p = some (k, e)) (f : State → Coll → QEntry → State) :
    tallyResponse s p n f = f u k e := by
  unfold tallyResponse
  dsimp only
  rw [hadmit, hpert, if_neg (by simp [hopc]), hcoll]

-- partitions ----------------------------------------------------------------------------------------------------------

section partition'

variable {w : Writer} {f : FDie} {i : TenantId} {b : BitVec 11} {m : BitVec 7}

theorem partitionFits_congr (hmib : ∀ x, x ≠ i.val → x < 16 → rget t Reg.TALLY_PART_MIB f.val x = rget s Reg.TALLY_PART_MIB f.val x)
    (hbase : ∀ x, x ≠ i.val → x < 16 → rget t Reg.TALLY_PART_BASE f.val x = rget s Reg.TALLY_PART_BASE f.val x) (base mib : Nat) :
    partitionFits t f.val i.val base mib = partitionFits s f.val i.val base mib := by
  rw [Bool.eq_iff_iff]
  unfold partitionFits
  dsimp only
  rw [Bool.and_eq_true, Bool.and_eq_true, List.all_eq_true, List.all_eq_true]
  refine and_congr_right fun _ => forall₂_congr fun x hx => ?_
  by_cases hi : x = i.val
  · simp [hi]
  · rw [partBytes, partBytes, hmib x hi (List.mem_range.mp hx), hbase x hi (List.mem_range.mp hx)]

/-- Base and size of a partition as written, before it is known whether they fit. -/
def partWritten (s : State) (f : FDie) (i : TenantId) (b : BitVec 11) (m : BitVec 7) : State :=
  rset (rset s Reg.TALLY_PART_BASE f.val i.val b.toNat) Reg.TALLY_PART_MIB f.val i.val m.toNat

theorem partitionFits_written (s : State) (f : FDie) (i : TenantId) (b : BitVec 11) (m : BitVec 7) (base mib : Nat) :
    partitionFits (partWritten s f i b m) f.val i.val base mib = partitionFits s f.val i.val base mib := by
  refine partitionFits_congr (fun x hx hlt => ?_) (fun x hx hlt => ?_) base mib
  · rw [partWritten, rget_rset_ne _ _ _ _ _ _ _ _ fun hkey => hx (regKey_inj (by omega) (by omega) (by omega) (by omega) hkey).2.2,
      rget_rset_of_code _ (by decide) (by omega) (by omega) (by omega) (by omega)]
  · rw [partWritten, rget_rset_of_code _ (by decide) (by omega) (by omega) (by omega) (by omega),
      rget_rset_ne _ _ _ _ _ _ _ _ fun hkey => hx (regKey_inj (by omega) (by omega) (by omega) (by omega) hkey).2.2]

theorem partitionSet_of_legal (hb : b.toNat ≤ 1535) (hm : m = 0 ∨ 4 ≤ m.toNat ∧ m.toNat ≤ 96) :
    partitionSet w f.val i.val b.toNat m.toNat s = if partitionFits s f.val i.val b.toNat m.toNat then partWritten s f i b m
      else reportFld (rset (partWritten s f i b m) Reg.TALLY_PART_MIB f.val i.val 0) (tallyPage f.val) w Reg.TALLY_PART_MIB i.val 0 (m.toNat % 128) 0 := by
  have hbase := setClamped_of_legal (s := s) w (tallyPage f.val) Reg.TALLY_PART_BASE i.val b.isLt
    (show clampNat 0 1535 b.toNat = b.toNat by unfold clampNat; omega)
  have hmib := setClamped_of_legal (s := rset s Reg.TALLY_PART_BASE f.val i.val b.toNat) w (tallyPage f.val) Reg.TALLY_PART_MIB i.val m.isLt
    (show (if m.toNat = 0 then 0 else clampNat 4 96 m.toNat) = m.toNat by
      split
      · omega
      · obtain rfl | hm := hm
        · contradiction
        · unfold clampNat; omega)
  have hrb : rget (partWritten s f i b m) Reg.TALLY_PART_BASE f.val i.val = b.toNat :=
    (rget_rset_of_code _ (by decide) (by omega) (by omega) (by omega) (by omega) _).trans
      ((rget_rset_same ..).trans (Nat.mod_eq_of_lt b.isLt))
  have hrm : rget (partWritten s f i b m) Reg.TALLY_PART_MIB f.val i.val = m.toNat := (rget_rset_same ..).trans (Nat.mod_eq_of_lt m.isLt)
  unfold partitionSet
  dsimp only
  rw [hbase]
  rw [show rset s Reg.TALLY_PART_BASE (tallyPage f.val).inst i.val b.toNat = rset s Reg.TALLY_PART_BASE f.val i.val b.toNat from rfl, hmib]
  rw [show rset (rset s Reg.TALLY_PART_BASE f.val i.val b.toNat) Reg.TALLY_PART_MIB (tallyPage f.val).inst i.val m.toNat = partWritten s f i b m
    from rfl, hrb, hrm, partitionFits_written]

theorem tallyPage_num_lt (f : FDie) : (tallyPage f.val).num < 16384 := by
  revert f
  decide

/-- A partition write while no docket of its tenant runs. -/
theorem exec_partition_idle (hl : Lands s w (tallyPage f.val) Reg.TALLY_PART_BASE i.val u) (hb : b.toNat ≤ 1535)
    (hm : m = 0 ∨ 4 ≤ m.toNat ∧ m.toNat ≤ 96) (hidle : ∀ e ∈ queue u 2056, e.running = true → e.tenant ≠ i) :
    exec (.tallyPartitionWrite w f i b m) s = .next (if partitionFits u f.val i.val b.toNat m.toNat then partWritten u f i b m
      else reportFld (rset (partWritten u f i b m) Reg.TALLY_PART_MIB f.val i.val 0) (tallyPage f.val) w Reg.TALLY_PART_MIB i.val 0
        (m.toNat % 128) 0) := by
  have hno : ¬ (queue u 2056).any (fun e => e.running && e.tenant.val == i.val) = true := by
    rw [List.any_eq_true]
    rintro ⟨e, he, hrun⟩
    simp only [Bool.and_eq_true, beq_iff_eq] at hrun
    exact hidle e he hrun.1 (Fin.ext hrun.2)
  exact congrArg Host.Outcome.next ((gated_of_lands hl _ _).trans ((if_neg hno).trans (partitionSet_of_legal hb hm)))

/-- A partition write while a docket of its tenant runs. -/
theorem exec_partition_busy (hl : Lands s w (tallyPage f.val) Reg.TALLY_PART_BASE i.val u)
    (hbusy : ∃ e ∈ queue u 2056, e.running = true ∧ e.tenant = i) :
    exec (.tallyPartitionWrite w f i b m) s = .next (reportFld (reportFld u (tallyPage f.val) w Reg.TALLY_PART_BASE i.val 2 b.toNat
      (rget u Reg.TALLY_PART_BASE f.val i.val)) (tallyPage f.val) w Reg.TALLY_PART_MIB i.val 2 m.toNat
      (rget u Reg.TALLY_PART_MIB f.val i.val)) := by
  have hyes : (queue u 2056).any (fun e => e.running && e.tenant.val == i.val) = true := by
    obtain ⟨e, he, hrun, ht⟩ := hbusy
    exact List.any_eq_true.mpr ⟨e, he, by simp [hrun, ht]⟩
  exact congrArg Host.Outcome.next ((gated_of_lands hl _ _).trans (if_pos hyes))

end partition'

/-- Settles O53: a chunk by what is known of it, a response by what it names, a partition by whether it fits. -/
theorem tallyChunks : Obligations.TallyChunks := by
  refine ⟨⟨fun s u l p c anchor hclk hc hadmit => ?_, fun s k e g place c data sl hslot hgot => ?_⟩,
    ⟨fun s u p k e n c hclk hc hopc hadmit hpert hcoll => ?_, fun s r peer chunk k e x hclk hk he hx => ?_⟩,
    fun s u w f i b m hl hb hm => ⟨fun hidle hfits => ?_, fun hidle hfits => ?_, fun hbusy => ?_⟩⟩
  · obtain ⟨hnone, hsome⟩ := tallyArrival_of_admitted hadmit anchor
    rw [exec_tally hclk hc]
    exact ⟨fun h => congrArg _ (hnone h), fun k e h hs hp hm => congrArg _ (hsome k e h hs hp hm)⟩
  · rw [takeChunk_dup hslot hgot]
    obtain ⟨v, hv⟩ := rinc_eq_rset s Reg.TALLY_DUP_CHUNKS (c % 2) 0 1
    have hsent := sent_send (rinc s Reg.TALLY_DUP_CHUNKS (c % 2)) (some 2056)
      (tallyPacket (rinc s Reg.TALLY_DUP_CHUNKS (c % 2)) k g 11 place c 0 false []) (chunkDie c)
    refine ⟨(congrArg State.colls hsent.form).trans ?_, hsent.mem.trans ?_, hsent.queues.trans ?_⟩ <;> rw [hv] <;> rfl
  · have hf := tallyResponse_of_admitted hopc hadmit hpert hcoll
    have hlive {f : State → State} {t : State} (h : f s = t) : live s f = t := (live_of_clocked hclk f).trans h
    simp only [List.mem_cons, Prod.mk.injEq, List.not_mem_nil, or_false] at hc
    obtain ⟨rfl, rfl⟩ | ⟨rfl, rfl⟩ | ⟨rfl, rfl⟩ := hc
    · exact ⟨fun _ hstage => congrArg Host.Outcome.next (hlive ((hf _).trans (if_pos hstage))), fun _ h => absurd h (by decide),
        fun _ h => absurd h (by decide)⟩
    · refine ⟨fun h => absurd h (by decide), fun x _ hx => congrArg Host.Outcome.next (hlive ((hf _).trans ?_)), fun _ h => absurd h (by decide)⟩
      rw [hx]
    · refine ⟨fun h => absurd h (by decide), fun _ h => absurd h (by decide), fun x _ hx => congrArg Host.Outcome.next (hlive ((hf _).trans ?_))⟩
      rw [hx]
  · refine congrArg Host.Outcome.next ((live_of_clocked hclk _).trans ?_)
    simp only [hk, he, hx]
  · exact (exec_partition_idle hl hb hm hidle).trans (congrArg _ (if_pos hfits))
  · refine ⟨_, (exec_partition_idle hl hb hm hidle).trans (congrArg _ (if_neg (by simp [hfits]))), ?_⟩
    have hrep := bused_reportFld (rset (partWritten u f i b m) Reg.TALLY_PART_MIB f.val i.val 0) (tallyPage_num_lt f) w Reg.TALLY_PART_MIB
      i.val 0 (m.toNat % 128) 0
    refine ⟨?_, by rw [hrep.form]; rfl, hrep.mem⟩
    rw [hrep.kept _ _ _ (by decide) (by omega) (by omega)]
    exact rget_rset_same ..
  · refine ⟨_, exec_partition_busy hl hbusy, ?_⟩
    have hrep := (bused_reportFld u (tallyPage_num_lt f) w Reg.TALLY_PART_BASE i.val 2 b.toNat (rget u Reg.TALLY_PART_BASE f.val i.val)).trans
      (bused_reportFld _ (tallyPage_num_lt f) w Reg.TALLY_PART_MIB i.val 2 m.toNat (rget u Reg.TALLY_PART_MIB f.val i.val))
    exact ⟨hrep.kept _ _ _ (by decide) (by omega) (by omega), hrep.kept _ _ _ (by decide) (by omega) (by omega), by rw [hrep.form], hrep.mem⟩

end Sys2Proof.Machine
end

section
/-! PROOFS. The Update Engines' APPLY (R314, R317 to R320). -/

namespace Sys2Proof.Machine

variable {s t u : State}

-- what an APPLY reads -------------------------------------------------------------------------------------------------

theorem reads_ite {α : Type} {x : Access} {p : Prop} [Decidable p] {a b : α × Access} (h : Reads x a.2) (g : Reads x b.2) :
    Reads x (if p then a else b).2 := by
  split
  exacts [h, g]

theorem reads_readTable (x : Access) (a n : Nat) : Reads x (readTable x a n).2 := reads_rd ..
theorem reads_read32 (x : Access) (a n : Nat) : Reads x (read32 x a n).2 := reads_rd ..

theorem reads_readBack (x : Access) (d u i st : Nat) : Reads x (readBack x d u i st).2 := (reads_read32 ..).trans (reads_rd ..)

theorem reads_skipPages (x : Access) (d u : Nat) (states accs : List Nat) : Reads x (skipPages x d u states accs).2.2 := by
  have hfold (l : List Nat) (acc : Nat × Nat × Access) : Reads acc.2.2 (l.foldl (fun acc i =>
      if pageDone d u i (states.getD i 0) (accs.getD i 0) then
        let r := if isDue d u i then readBack acc.2.2 d u i (states.getD i 0) else (0, acc.2.2)
        (acc.1 + 1, acc.2.1 + r.1, r.2)
      else acc) acc).2.2 := by
    induction l generalizing acc with
    | nil => exact Reads.refl _
    | cons i l ih =>
      rw [List.foldl_cons]
      refine Reads.trans ?_ (ih _)
      split
      · exact reads_ite (reads_readBack ..) (Reads.refl _)
      · exact Reads.refl _
  exact hfold _ (0, 0, x)

theorem reads_pageOut (x : Access) (u : UpdSt) (step i : Nat) : Reads x (pageOut x u step i).x := by
  unfold pageOut
  extract_lets d n pg delay sr ar g ac clip sums gradBad due stDue old w0 m0 w k el els q slot work works bits stateW copy
  have hsr : Reads x sr.2 := reads_rdNat ..
  have har : Reads x ar.2 := hsr.trans (reads_ite (reads_rdNat ..) (Reads.refl _))
  have hg : Reads x g.2 := har.trans (reads_read32 ..)
  have hac : Reads x ac.2 := hg.trans (reads_ite (reads_read32 ..) (Reads.refl _))
  have hw0 : Reads x w0.2 := hac.trans (reads_ite (reads_read32 ..) (Reads.refl _))
  have hm0 : Reads x m0.2 := hw0.trans (reads_ite (reads_read32 ..) (Reads.refl _))
  have hw : Reads x w.2 := hm0.trans (reads_ite (reads_read32 ..) (Reads.refl _))
  exact hw.trans (reads_ite (Reads.refl _) (reads_rd ..))

-- an APPLY starts -----------------------------------------------------------------------------------------------------

section start

variable {n : Nat} {e : QEntry} {d : Nat} {dr hr cr : Nat × Access} {st hd ac : List Nat × Access} {free todo : List Nat}

/-- What a sound APPLY leaves that has pages to do. -/
theorem startApply_of_sound (hdr : dr = (e.access s).rdNat (upShard e.dk) 128) (hd' : d = dr.1) (hhr : hr = dr.2.rdNat (sdHyper d) 320)
    (hcr : cr = if hyClip hr.1 then hr.2.rdNat (upClip e.dk) 8 else (0x3F800000 * 2 ^ 32, hr.2))
    (hst : st = readTable cr.2 (sdTable d) (sdPages d))
    (hhd : hd = if sdHold d = 0 then ([], st.2) else readTable st.2 (sdHold d) (sdPages d))
    (hac : ac = if sdDelay d < 2 then ([], hd.2) else readTable hd.2 (sdAccTable d) (sdPages d))
    (hfree : free = freeSlots (sdCount d) (st.1.map ptSlot ++ hd.1.map ptSlot))
    (htodo : todo = (List.range (sdPages d)).filter (fun i => !pageDone d (upStep e.dk) i (st.1.getD i 0) (ac.1.getD i 0)))
    (hstalled : dr.2.stalled = false) (hfaults : dr.2.faults = []) (hbad : descBad d = false) (hstalled' : ac.2.stalled = false)
    (hfaults' : ac.2.faults = [])
    (hok : ¬(hyperBad hr.1 ∨ free = [] ∨ (2 ≤ sdDelay d ∧ (if sdDelay d < 2 then [] else freeSlots (sdAccCount d) (ac.1.map ptSlot)) = []) ∨
      (sdHold d ≠ 0 ∧ free.length < todo.countP (fun i => isDue d (upStep e.dk) i && ptTag (st.1.getD i 0) != upStep e.dk))))
    (hne : todo ≠ []) :
    ∃ (sk : Nat × Nat × Access) (y : State) (u : UpdSt) (xs : List Nat) (c : Nat), sk = skipPages ac.2 d (upStep e.dk) st.1 ac.1 ∧
      y = rset (rset (rinc sk.2.2.s Reg.UPDATE_PAGES_SKIPPED n 0 sk.1) Reg.UPDATE_LAST_TENSOR n 0 (sdTensor d)) Reg.UPDATE_LAST_CLIP n 0 c ∧
      u.desc = d ∧ u.hyper = hr.1 ∧ u.free = free ∧
      startApply s n e = updEntry (setUpd y n (some u)) (2048 + n) e.toRef (fun e => { e with
        started := true, todo := todo, nonfinite := sk.2.1, xargs := xs, status := worst (e.status :: sk.2.2.faults) }) := by
  unfold startApply
  dsimp only
  rw [← hdr, hstalled, if_neg Bool.false_ne_true, hfaults, if_neg (by simp), ← hd', hbad, if_neg Bool.false_ne_true, ← hhr, ← hcr, ← hst, ← hhd,
    ← hac, hstalled', if_neg Bool.false_ne_true, hfaults', if_neg (by simp), ← hfree, ← htodo, if_neg hok, if_neg hne]
  exact ⟨_, _, _, _, _, rfl, rfl, rfl, rfl, rfl, rfl⟩

end start

-- a page is committed, or fails ---------------------------------------------------------------------------------------

section page

variable {n i : Nat} {u : UpdSt} {e : QEntry} {q : DocketRef}

/-- The docket of an APPLY in its queue, with these pages to do and these counted non-finite. -/
def Listed (s : State) (n : Nat) (r : DocketRef) (todo : List Nat) (nonfinite : Nat) : Prop :=
  ∃ f, entryOf s (2048 + n) r = some f ∧ f.todo = todo ∧ f.nonfinite = nonfinite

theorem listed_endUpdate {todo : List Nat} {k : Nat} (h : Listed s n e.toRef todo k) (status addr : Nat) :
    Listed (endUpdate s n e status addr) n e.toRef todo k := by
  obtain ⟨f, hf, htodo, hk⟩ := h
  exact ⟨_, entryOf_updEntry_of_some hf (fun _ => rfl), htodo, hk⟩

theorem finishApply_keeps {todo : List Nat} {k : Nat} (h : Listed s n e.toRef todo k) (u : UpdSt) :
    Listed (finishApply s n e u) n e.toRef todo k ∧ (finishApply s n e u).mem = s.mem := by
  obtain ⟨f, hf, htodo, hk⟩ := h
  exact ⟨⟨_, (entryOf_congr rfl _ _).trans (entryOf_updEntry_of_some hf (fun _ => rfl)), htodo, hk⟩, rfl⟩

theorem lastPage_keeps {todo : List Nat} {k : Nat} (h : Listed s n e.toRef todo k) (u : UpdSt) :
    Listed (lastPage s n e u) n e.toRef todo k ∧ (lastPage s n e u).mem = s.mem := by
  unfold lastPage
  split
  · exact ⟨listed_endUpdate h _ _, rfl⟩
  · exact finishApply_keeps h u

/-- What a page leaves: the docket with the pages left, and an end where none is. -/
theorem pageLeft_keeps {todo : List Nat} {k : Nat} (h : Listed s n e.toRef todo k) (u : UpdSt) :
    Listed (if todo = [] then lastPage s n e u else s) n e.toRef todo k ∧ (if todo = [] then lastPage s n e u else s).mem = s.mem := by
  split
  · exact lastPage_keeps h u
  · exact ⟨h, rfl⟩

/-- A page whose reads and writes meet nothing. -/
theorem commitPage_of_sound {p : PageOut} {x : Access} (hp : p = pageOut (e.access s) u (upStep e.dk) i)
    (hx : x = p.writes.foldl (fun x w => x.wr w.1 w.2) p.x) (hstalled : p.x.stalled = false) (hfaults : p.x.faults = [])
    (hstalled' : x.stalled = false) (hfaults' : x.faults = []) :
    ∃ (y z : State) (v : UpdSt), y.mem = x.s.mem ∧ y.queues = x.s.queues ∧
      v = { u with free := p.free, freeAcc := p.freeAcc, since := x.s.time.cyc } ∧
      z = updEntry (setUpd y n (some v)) (2048 + n) e.toRef (fun e => { e with
        todo := dropAll e.todo i, nonfinite := e.nonfinite + p.nonfinite }) ∧
      commitPage s n e u i = if dropAll e.todo i = [] then lastPage z n e v else z := by
  obtain ⟨waits, hwaits⟩ : ∃ k, k = (if slotShort s n e u then s.time.cyc - u.since else 0) := ⟨_, rfl⟩
  obtain ⟨y, hy⟩ : ∃ y, y = rinc (rinc (rinc (rinc x.s Reg.UPDATE_PAGES_COMMITTED n 0 p.committed) Reg.UPDATE_ELEMENTS n 0 p.applied)
    Reg.UPDATE_NONFINITE_GRAD n 0 p.gradBad) Reg.UPDATE_SLOT_WAITS n 0 waits := ⟨_, rfl⟩
  have htime : y.time = x.s.time := by simp only [hy, rinc_time]
  refine ⟨y, _, _, by simp only [hy, rinc_mem], by simp only [hy, rinc_queues], rfl, rfl, ?_⟩
  unfold commitPage
  dsimp only
  rw [← hp, ← hwaits, hstalled, if_neg Bool.false_ne_true, hfaults, if_neg (by simp), ← hx, hstalled', if_neg Bool.false_ne_true, hfaults',
    if_neg (by simp), ← hy, htime]

/-- A page whose reads fail. -/
theorem commitPage_of_failed {p : PageOut} (hp : p = pageOut (e.access s) u (upStep e.dk) i) (hstalled : p.x.stalled = false)
    (hfaults : p.x.faults ≠ []) : commitPage s n e u i = failPage p.x.s n e u i (worst p.x.faults) (p.x.bad.getD 0) := by
  unfold commitPage
  dsimp only
  rw [← hp, hstalled, if_neg Bool.false_ne_true, if_pos hfaults]

theorem failPage_keeps {k : QEntry} (h : entryOf s (2048 + n) e.toRef = some k) (u : UpdSt) (i status addr : Nat) :
    (failPage s n e u i status addr).mem = s.mem ∧ Listed (failPage s n e u i status addr) n e.toRef
      ((dropAll e.todo i).take (if u.failed.isSome then e.todo.length else rget s Reg.UPDATE_PAGES_IN_FLIGHT n - 1)) k.nonfinite := by
  have hlisted : Listed (updEntry (setUpd s n (some { u with
      failed := u.failed.or (some (status, addr)), free := u.free.drop 1, since := s.time.cyc })) (2048 + n) e.toRef (fun x => { x with
        todo := (dropAll e.todo i).take (if u.failed.isSome then e.todo.length else rget s Reg.UPDATE_PAGES_IN_FLIGHT n - 1) })) n e.toRef
      ((dropAll e.todo i).take (if u.failed.isSome then e.todo.length else rget s Reg.UPDATE_PAGES_IN_FLIGHT n - 1)) k.nonfinite :=
    ⟨_, entryOf_updEntry_of_some ((entryOf_congr rfl _ _).trans h) (fun _ => rfl), rfl, rfl⟩
  obtain ⟨hleft, hmem⟩ := pageLeft_keeps hlisted { u with failed := u.failed.or (some (status, addr)), free := u.free.drop 1, since := s.time.cyc }
  exact ⟨hmem, hleft⟩

theorem exec_pageCommit {n : CDie} (hclk : Clocked s) (hu : mapFind s.upd n.val = some u) (he : entryOf s (2048 + n.val) u.ref = some e)
    (hrun : e.running = true) (hdone : e.done = false) (hcut : e.cut = false) {rest : List Nat} (htodo : e.todo = i :: rest) :
    exec (.pageCommit n) s = .next (commitPage s n.val e u i) := by
  refine congrArg Host.Outcome.next ((live_of_clocked hclk _).trans ?_)
  simp only [hu, he, hrun, hdone, hcut, htodo, Bool.not_true, Bool.or_self, Bool.false_eq_true, if_false]

end page

/-- Settles O54: an APPLY's start reads, lists and stores nothing; a page ends as its reads and writes do. -/
theorem applyCommitsItsPages : Obligations.ApplyCommitsItsPages := by
  refine ⟨fun s n e hclk hentry he => ?_, fun s n u e i rest hclk hu he hrun hdone hcut htodo => ?_⟩
  · obtain ⟨dr, hdr⟩ : ∃ dr, dr = (e.access s).rdNat (upShard e.dk) 128 := ⟨_, rfl⟩
    obtain ⟨d, hd⟩ : ∃ d, d = dr.1 := ⟨_, rfl⟩
    obtain ⟨hr, hhr⟩ : ∃ hr, hr = dr.2.rdNat (sdHyper d) 320 := ⟨_, rfl⟩
    obtain ⟨cr, hcr⟩ : ∃ cr, cr = if hyClip hr.1 then hr.2.rdNat (upClip e.dk) 8 else (0x3F800000 * 2 ^ 32, hr.2) := ⟨_, rfl⟩
    obtain ⟨st, hst⟩ : ∃ st, st = readTable cr.2 (sdTable d) (sdPages d) := ⟨_, rfl⟩
    obtain ⟨hd', hhd⟩ : ∃ hd', hd' = if sdHold d = 0 then ([], st.2) else readTable st.2 (sdHold d) (sdPages d) := ⟨_, rfl⟩
    obtain ⟨ac, hac⟩ : ∃ ac, ac = if sdDelay d < 2 then ([], hd'.2) else readTable hd'.2 (sdAccTable d) (sdPages d) := ⟨_, rfl⟩
    obtain ⟨free, hfree⟩ : ∃ free, free = freeSlots (sdCount d) (st.1.map ptSlot ++ hd'.1.map ptSlot) := ⟨_, rfl⟩
    obtain ⟨todo, htodo⟩ : ∃ todo, todo = (List.range (sdPages d)).filter (fun i =>
      !pageDone d (upStep e.dk) i (st.1.getD i 0) (ac.1.getD i 0)) := ⟨_, rfl⟩
    dsimp only
    rw [← hdr, ← hd, ← hhr, ← hcr, ← hst, ← hhd, ← hac, ← hfree, ← htodo]
    intro hstalled hfaults hbad hstalled' hfaults' hhyper hfree₀ hacc hhold hne
    have hok : ¬(hyperBad hr.1 ∨ free = [] ∨
        (2 ≤ sdDelay d ∧ (if sdDelay d < 2 then [] else freeSlots (sdAccCount d) (ac.1.map ptSlot)) = []) ∨
        (sdHold d ≠ 0 ∧ free.length < todo.countP (fun i => isDue d (upStep e.dk) i && ptTag (st.1.getD i 0) != upStep e.dk))) := by
      rintro (h | h | ⟨hdelay, h⟩ | ⟨hh, h⟩)
      · rw [hhyper] at h
        contradiction
      · exact hfree₀ h
      · rw [if_neg (by omega)] at h
        exact (hacc.resolve_left (by omega)) h
      · have := hhold.resolve_left hh
        omega
    obtain ⟨sk, y, u, xs, c, hsk, hy, hdesc, hhyp, hufree, hstart⟩ := startApply_of_sound (n := n.val) hdr hd hhr hcr hst hhd hac hfree htodo
      hstalled hfaults hbad hstalled' hfaults' hok hne
    have hread : Reads (e.access s) sk.2.2 := by
      have h₁ : Reads (e.access s) dr.2 := by rw [hdr]; exact reads_rdNat ..
      have h₂ : Reads (e.access s) hr.2 := h₁.trans (by rw [hhr]; exact reads_rdNat ..)
      have h₃ : Reads (e.access s) cr.2 := h₂.trans (by rw [hcr]; exact reads_ite (reads_rdNat ..) (Reads.refl _))
      have h₄ : Reads (e.access s) st.2 := h₃.trans (by rw [hst]; exact reads_readTable ..)
      have h₅ : Reads (e.access s) hd'.2 := h₄.trans (by rw [hhd]; exact reads_ite (Reads.refl _) (reads_readTable ..))
      have h₆ : Reads (e.access s) ac.2 := h₅.trans (by rw [hac]; exact reads_ite (Reads.refl _) (reads_readTable ..))
      exact h₆.trans (by rw [hsk]; exact reads_skipPages ..)
    have hqueues : y.queues = sk.2.2.s.queues := by rw [hy]; exact rinc_queues ..
    obtain ⟨k, hk⟩ := hread.state.entryOf he
    have hexec : exec (.apply n) s = .next (startApply s n.val e) := by
      refine congrArg Host.Outcome.next ((live_of_clocked hclk _).trans ?_)
      simp only [hentry]
    refine ⟨_, hexec.trans (congrArg _ hstart), ?_, ⟨u, mapFind_mapSet_same _ _ _, hdesc, hhyp, hufree⟩, _,
      entryOf_updEntry_of_some ((entryOf_congr hqueues _ _).trans hk) (fun _ => rfl), rfl, rfl⟩
    have hmem : y.mem = sk.2.2.s.mem := by rw [hy]; exact rinc_mem ..
    exact hmem.trans hread.mem
  · obtain ⟨p, hp⟩ : ∃ p, p = pageOut (e.access s) u (upStep e.dk) i := ⟨_, rfl⟩
    obtain ⟨x, hx⟩ : ∃ x, x = p.writes.foldl (fun x w => x.wr w.1 w.2) p.x := ⟨_, rfl⟩
    have hread : Reads (e.access s) p.x := by rw [hp]; exact reads_pageOut ..
    have hexec := exec_pageCommit hclk hu he hrun hdone hcut htodo
    have href := toRef_of_entryOf he
    rw [← href] at he
    dsimp only
    rw [← hp, ← hx, ← href]
    refine ⟨fun hstalled hfaults hstalled' hfaults' => ?_, fun hstalled hfaults => ?_⟩
    · obtain ⟨y, z, v, hymem, hyqueues, hv, hz, hcommit⟩ := commitPage_of_sound (n := n.val) hp hx hstalled hfaults hstalled' hfaults'
      have hwrote : Follows p.x x := by rw [hx]; exact follows_foldl (fun x (w : Nat × List Byte) => follows_wr x w.1 w.2) _ _
      obtain ⟨k, hk⟩ := (hread.toFollows.trans hwrote).state.entryOf he
      have hlisted : Listed z n.val e.toRef (dropAll e.todo i) (e.nonfinite + p.nonfinite) := by
        rw [hz]
        exact ⟨_, entryOf_updEntry_of_some ((entryOf_congr hyqueues _ _).trans hk) (fun _ => rfl), rfl, rfl⟩
      obtain ⟨hleft, hmem⟩ := pageLeft_keeps hlisted v
      refine ⟨_, hexec.trans (congrArg _ hcommit), hmem.trans (by rw [hz]; exact hymem), ?_⟩
      obtain ⟨f, hf, hft, hfk⟩ := hleft
      refine ⟨f, hf, hft, hfk, fun hne => ?_⟩
      rw [if_neg hne, hz, href, ← hv]
      exact mapFind_mapSet_same _ _ _
    · obtain ⟨k, hk⟩ := hread.state.entryOf he
      obtain ⟨hmem, f, hf, hft, -⟩ := failPage_keeps hk u i (worst p.x.faults) (p.x.bad.getD 0)
      refine ⟨_, hexec.trans (congrArg _ (commitPage_of_failed hp hstalled hfaults)), hmem.trans hread.mem, f, hf, ?_, fun hnone => ?_⟩
      · rw [hft]
        exact fun hi => mem_dropAll e.todo i (List.mem_of_mem_take hi)
      · rw [hft, List.length_take, hnone, hread.state.rget (by decide) (by omega) (by decide)]
        exact Nat.min_le_left ..

end Sys2Proof.Machine
end

section
/-! PROOFS. The global norm and the clip factor (R322, R324). -/

namespace Sys2Proof.Machine

variable {s t u : State}

-- reads that nothing holds up -----------------------------------------------------------------------------------------

/-- Accesses that met nothing, were not held up and stored nothing. -/
structure Undisturbed (x y : Access) : Prop extends Calm x y where
  mem : y.s.mem = x.s.mem
  stalled : y.stalled = x.stalled

theorem Undisturbed.refl (x : Access) : Undisturbed x x := ⟨Calm.refl x, rfl, rfl⟩

/-- A further plain read. -/
theorem Undisturbed.rd {x y : Access} (h : Undisturbed x y) {a n : Nat} (hp : Plain x.s x.tenant a n) :
    (y.rd a n).1 = memRead x.s.mem a n ∧ Undisturbed x (y.rd a n).2 := by
  have hplain : Plain y.s y.tenant a n := by
    rw [h.tenant]
    exact h.plain hp
  obtain ⟨hread, hcalm, hmem, hstalled⟩ := plain_rd hplain
  exact ⟨hread.trans (by rw [h.mem]), h.toCalm.trans hcalm, hmem.trans h.mem, hstalled.trans h.stalled⟩

theorem Undisturbed.rdNat {x y : Access} (h : Undisturbed x y) {a n : Nat} (hp : Plain x.s x.tenant a n) :
    (y.rdNat a n).1 = memNat x.s a n ∧ Undisturbed x (y.rdNat a n).2 := by
  obtain ⟨hread, hnext⟩ := h.rd hp
  rw [rdNat_fst, rdNat_snd, hread]
  exact ⟨rfl, hnext⟩

theorem Undisturbed.read32 {x y : Access} (h : Undisturbed x y) {a n : Nat} (hp : Plain x.s x.tenant a (4 * n)) :
    (Machine.read32 y a n).1 = (unpack 32 (memRead x.s.mem a (4 * n)) n).map (decodeIeee (floatOf 0) 0) ∧
      Undisturbed x (Machine.read32 y a n).2 := by
  obtain ⟨hread, hnext⟩ := h.rd hp
  refine ⟨?_, hnext⟩
  rw [← hread]
  rfl

/-- Work of an Update Engine that ends with one plain write. -/
theorem finish_of_plain {q : Nat} {e : QEntry} {y : Access} (hy : Undisturbed (e.access s) y) (he : entryOf s q e.toRef = some e) {a n : Nat}
    {data : List Byte} (hlen : data.length = n) (hp : Plain s e.tenant.val a n) {z : State} (hmem : z.mem = (y.wr a data).s.mem)
    (hqueues : z.queues = (y.wr a data).s.queues) {g : QEntry → QEntry} (hg : ∀ e r, (g e).is r = e.is r) (hk : ∀ e, (g e).nonfinite = e.nonfinite)
    (nonfinite flushed digest : Nat) :
    memRead (finish s q e { y.wr a data with s := updEntry z q e.toRef g } nonfinite flushed digest).mem a n = data ∧
      SameOutside s (finish s q e { y.wr a data with s := updEntry z q e.toRef g } nonfinite flushed digest) a n ∧
      ∃ f, entryOf (finish s q e { y.wr a data with s := updEntry z q e.toRef g } nonfinite flushed digest) q e.toRef = some f ∧
        f.done = true ∧ f.nonfinite = e.nonfinite + nonfinite := by
  have hplain : Plain y.s y.tenant a data.length := by
    rw [hy.tenant, hlen]
    exact hy.plain hp
  obtain ⟨x, hx⟩ : ∃ x, x = y.wr a data := ⟨_, rfl⟩
  obtain ⟨hcalm, hstalled, hread, hout⟩ := plain_wr hplain
  rw [← hx] at hmem hqueues hcalm hstalled hread hout ⊢
  obtain ⟨k, hent⟩ := (hy.toCalm.trans hcalm).state.entryOf he
  rw [finish_of_not_stalled (x := { x with s := updEntry z q e.toRef g }) (hstalled.trans hy.stalled)]
  have hm : (updEntry (updEntry z q e.toRef g) q e.toRef (·.finished { x with s := updEntry z q e.toRef g } nonfinite flushed digest)).mem =
      x.s.mem := hmem
  refine ⟨?_, fun b hb => ?_, _, entryOf_updEntry_of_some (entryOf_updEntry_of_some ((entryOf_congr hqueues _ _).trans hent) (hg · _)) (fun _ => rfl),
    rfl, congrArg (· + nonfinite) (hk _)⟩
  · rw [hm, ← hlen]
    exact hread
  · rw [hm, hout b (by rwa [hlen]), hy.mem]
    rfl

-- NORM_PARTIAL and NORM_FINISH ----------------------------------------------------------------------------------------

theorem exec_normPartial {n : CDie} {e : QEntry} {dr : Nat × Access} {d : Nat} {g : List FVal × Access} {data : List Byte} (hclk : Clocked s)
    (hentry : updateEntry s n.val 1 = some e) (hdr : dr = (e.access s).rdNat (upShard e.dk) 128) (hd : d = dr.1)
    (hstalled : dr.2.stalled = false) (hfaults : dr.2.faults = []) (hbad : descBad d = false)
    (hg : g = read32 dr.2 (sdGrad d) (sdElements d))
    (hdata : data = natLe (encodeFloat 0 false (g.1.foldl (fun acc v => acc.add (v.mul v)) FVal.zero)) 4) :
    ∃ (z : State) (xs : List Nat) (digest : Nat), z.mem = (g.2.wr (upVec e.dk + 4 * sdLogical d) data).s.mem ∧
      z.queues = (g.2.wr (upVec e.dk + 4 * sdLogical d) data).s.queues ∧
      exec (.normPartial n) s = .next (finish s (2048 + n.val) e { g.2.wr (upVec e.dk + 4 * sdLogical d) data with
        s := updEntry z (2048 + n.val) e.toRef (fun e => { e with started := true, xargs := xs }) } (g.1.countP FVal.nonfinite) 0 digest) := by
  obtain ⟨x, hx⟩ : ∃ x, x = g.2.wr (upVec e.dk + 4 * sdLogical d) data := ⟨_, rfl⟩
  refine ⟨rset (rset (rinc x.s Reg.UPDATE_NONFINITE_GRAD n.val 0 (g.1.countP FVal.nonfinite)) Reg.UPDATE_LAST_TENSOR n.val 0 (sdTensor d))
    Reg.UPDATE_LAST_NONFINITE n.val 0 (g.1.countP FVal.nonfinite), [sdTensor d, sdLogical d, upStep e.dk], digestOf e [(0, data)], ?_, ?_,
    congrArg Host.Outcome.next ((live_of_clocked hclk _).trans ?_)⟩
  · rw [← hx]
    exact rinc_mem ..
  · rw [← hx]
    exact rinc_queues ..
  · rw [hentry]
    dsimp only
    rw [← hdr, hstalled, if_neg Bool.false_ne_true, hfaults, if_neg (by simp), ← hd, hbad, if_neg Bool.false_ne_true, ← hg, ← hdata, ← hx]

theorem exec_normFinish {n : CDie} {e : QEntry} {dr hr : Nat × Access} {v : List FVal × Access} {a : Int} {sum : FVal} {data : List Byte}
    (hclk : Clocked s) (hentry : updateEntry s n.val 2 = some e) (hdr : dr = (e.access s).rdNat (upShard e.dk) 128)
    (hhr : hr = dr.2.rdNat (sdHyper dr.1) 320) (hv : v = read32 hr.2 (upVec e.dk) (upCount e.dk)) (hstalled : v.2.stalled = false)
    (hbad : hyperBad hr.1 = false) (ha : a = anchorOf (localCode v.1) (headroom (upCount e.dk)))
    (hsum : sum = f32 (tallyVal 64 a (tallySum 64 (v.1.map (fun x => (boundWord 64 (headroom (upCount e.dk)) (toTally 64 a x).1).1))).1))
    (hdata : data = natLe (encodeFloat 0 false sum) 4 ++ natLe (encodeFloat 0 false (clipFactor hr.1 sum)) 4) :
    ∃ (z : State) (bad flushed digest : Nat), z.mem = (v.2.wr (upClip e.dk) data).s.mem ∧ z.queues = (v.2.wr (upClip e.dk) data).s.queues ∧
      exec (.normFinish n) s = .next (finish s (2048 + n.val) e { v.2.wr (upClip e.dk) data with
        s := updEntry z (2048 + n.val) e.toRef (fun e => { e with started := true }) } bad flushed digest) := by
  obtain ⟨x, hx⟩ : ∃ x, x = v.2.wr (upClip e.dk) data := ⟨_, rfl⟩
  obtain ⟨bad, hbadn⟩ : ∃ n, n = b2n sum.nonfinite + b2n (clipFactor hr.1 sum).nonfinite := ⟨_, rfl⟩
  have hwords : ((v.1.map (toTally 64 a)).map (fun w => boundWord 64 (headroom (upCount e.dk)) w.1)).map (·.1) =
      v.1.map (fun x => (boundWord 64 (headroom (upCount e.dk)) (toTally 64 a x).1).1) := by
    rw [List.map_map, List.map_map]
    rfl
  refine ⟨rset (rset x.s Reg.UPDATE_LAST_TENSOR n.val 0 (sdTensor dr.1)) Reg.UPDATE_LAST_NONFINITE n.val 0 bad, bad,
    (v.1.map (toTally 64 a)).countP (·.2), digestOf e [(0, data)], by rw [← hx]; rfl, by rw [← hx]; rfl,
    congrArg Host.Outcome.next ((live_of_clocked hclk _).trans ?_)⟩
  rw [hentry]
  dsimp only
  rw [← hdr, ← hhr, ← hv, hstalled, if_neg Bool.false_ne_true, if_neg (by simp [hbad]), ← ha, hwords, ← hsum, ← hbadn, ← hdata, ← hx]

/-- Settles O55: both norms read undisturbed, and end with their one write. -/
theorem normsAndClipFactor : Obligations.NormsAndClipFactor := by
  refine ⟨fun s n e hclk hentry he => ?_, fun s n e hclk hentry he => ?_⟩
  · intro d a g hbad hshard hgrad hvec
    obtain ⟨dr, hdr⟩ : ∃ dr, dr = (e.access s).rdNat (upShard e.dk) 128 := ⟨_, rfl⟩
    obtain ⟨hd, hcalm⟩ := (Undisturbed.refl (e.access s)).rdNat hshard
    rw [← hdr] at hd hcalm
    obtain ⟨r, hr⟩ : ∃ r, r = read32 dr.2 (sdGrad d) (sdElements d) := ⟨_, rfl⟩
    obtain ⟨hg, hcalm'⟩ := hcalm.read32 hgrad
    rw [← hr] at hg hcalm'
    obtain ⟨z, xs, digest, hmem, hqueues, hexec⟩ := exec_normPartial hclk hentry hdr hd.symm hcalm.stalled hcalm.faults hbad hr rfl
    obtain ⟨hread, hout, hent⟩ := finish_of_plain hcalm' he (length_natLe _ 4) hvec hmem hqueues
      (g := fun e => { e with started := true, xargs := xs }) (fun _ _ => rfl) (fun _ => rfl) (r.1.countP FVal.nonfinite) 0 digest
    have hgr : g = r.1 := hg.symm
    rw [hgr]
    exact ⟨_, hexec, hread, hout, hent⟩
  · intro d h v a words sum hbad hshard hhyper hvec hclip
    obtain ⟨dr, hdr⟩ : ∃ dr, dr = (e.access s).rdNat (upShard e.dk) 128 := ⟨_, rfl⟩
    obtain ⟨hd, hcalm⟩ := (Undisturbed.refl (e.access s)).rdNat hshard
    rw [← hdr] at hd hcalm
    obtain ⟨hr, hhr⟩ : ∃ hr, hr = dr.2.rdNat (sdHyper dr.1) 320 := ⟨_, rfl⟩
    obtain ⟨hh, hcalm'⟩ := hcalm.rdNat hhyper
    have hat : hr = dr.2.rdNat (sdHyper d) 320 := hhr.trans (congrArg (fun x => dr.2.rdNat (sdHyper x) 320) hd)
    rw [← hat] at hh hcalm'
    obtain ⟨r, hr'⟩ : ∃ r, r = read32 hr.2 (upVec e.dk) (upCount e.dk) := ⟨_, rfl⟩
    obtain ⟨hv, hcalm''⟩ := hcalm'.read32 hvec
    rw [← hr'] at hv hcalm''
    have hvr : r.1 = v := hv
    have hhv : hr.1 = h := hh
    obtain ⟨z, bad, flushed, digest, hmem, hqueues, hexec⟩ := exec_normFinish (a := a) (sum := sum) hclk hentry hdr hhr hr' hcalm''.stalled
      (by rw [hhv]; exact hbad) (by rw [hvr]) (by rw [hvr]) rfl
    rw [hhv] at hmem hqueues hexec
    obtain ⟨hread, hout, f, hf, hdone, -⟩ := finish_of_plain hcalm'' he
      (show (natLe (encodeFloat 0 false sum) 4 ++ natLe (encodeFloat 0 false (clipFactor h sum)) 4).length = 8 by
        rw [List.length_append, length_natLe, length_natLe]) hclip hmem hqueues
      (g := fun e => { e with started := true }) (fun _ _ => rfl) (fun _ => rfl) bad flushed digest
    exact ⟨_, hexec, hread, hout, f, hf, hdone⟩

end Sys2Proof.Machine
end

section
/-! PROOFS. Checkpoints (R336, R337, R340, R344, R347, R349, R352). -/

namespace Sys2Proof.Machine

variable {s t u : State} {r : DocketRef} {e : QEntry} {op : Nat}

theorem chestEntry_parts (h : chestEntry s op r = some e) : e.toRef = r ∧ dkOp e.dk = op := by
  obtain ⟨hfind, hp⟩ := Option.filter_eq_some_iff.mp h
  simp only [Bool.and_eq_true, beq_iff_eq] at hp
  exact ⟨toRef_of_entryOf hfind, hp.2⟩

theorem exec_chest {c : Instr} (hclk : Clocked s) (hc : (c, op) ∈ [(Instr.save r, 0), (.restore r, 1), (.scan r, 3)])
    (he : chestEntry s op r = some e) :
    exec c s = .next (if (jobOf s r).isSome then chestGo s r chestFuel else startChest s e) := by
  have hrun : runChest s op r = if (jobOf s r).isSome then chestGo s r chestFuel else startChest s e := by
    rw [runChest, he]
  simp only [List.mem_cons, Prod.mk.injEq, List.not_mem_nil, or_false] at hc
  obtain ⟨rfl, rfl⟩ | ⟨rfl, rfl⟩ | ⟨rfl, rfl⟩ := hc <;>
    exact congrArg Host.Outcome.next ((live_of_clocked hclk _).trans hrun)

/-- A conditional SAVE that nobody asked for. -/
theorem startChest_skip (href : e.toRef = r) (hop : dkOp e.dk = 0) (hcond : chCond e.dk = true)
    (h : e.tenant.val ≠ rget s Reg.CHEST_ACT_TENANT ∨ rget s Reg.CHEST_ACT_REQS = rget s Reg.CHEST_ACT_DONE) :
    startChest s e = endChest (rinc s Reg.CHEST_SAVES_SKIPPED) r 0 := by
  unfold startChest
  rw [href]
  exact if_pos ⟨hop, hcond, h⟩

/-- A SAVE into a chest that is no place for it. -/
theorem startChest_placeBad (href : e.toRef = r) (hop : dkOp e.dk = 0)
    (hgo : ¬(dkOp e.dk = 0 ∧ chCond e.dk = true ∧
      (e.tenant.val ≠ rget s Reg.CHEST_ACT_TENANT ∨ rget s Reg.CHEST_ACT_REQS = rget s Reg.CHEST_ACT_DONE)))
    (hbad : chestPlaceBad e.dk = true) : startChest s e = endChest s r 1 := by
  unfold startChest
  rw [href]
  exact (if_neg hgo).trans (if_pos ⟨hop, hbad⟩)

/-- The sources of a RESTORE before anything of them is read. -/
def freshSources (l : List Nat) : List CSource :=
  l.map (fun x => { desc := x, used := 0, bits := 0, base := 0, recs := [], altKnown := false, altBase := 0, altRecs := [] })

/-- A docket whose lists are read and sound. -/
theorem startChest_read {l q : List Nat × Access} (href : e.toRef = r)
    (hgo : ¬(dkOp e.dk = 0 ∧ chCond e.dk = true ∧
      (e.tenant.val ≠ rget s Reg.CHEST_ACT_TENANT ∨ rget s Reg.CHEST_ACT_REQS = rget s Reg.CHEST_ACT_DONE)))
    (hplace : ¬(dkOp e.dk = 0 ∧ chestPlaceBad e.dk = true))
    (hfault : dkOp e.dk = 1 ∨ gDev (chChest e.dk) = ownDev s ∨ gDev (chChest e.dk) % 4 = 0 ∧ peerFault s (gDev (chChest e.dk)) = 0)
    (hl : l = if dkOp e.dk = 3 then ([], e.access s) else readEntries (e.access s) (chList e.dk) (chEntries e.dk))
    (hq : q = if dkOp e.dk = 1 then readEntries l.2 (chSources e.dk) (chNsources e.dk) else ([], l.2))
    (hstalled : q.2.stalled = false) (hfaults : q.2.faults = []) (hbad : listBad q.2 e.dk l.1 = false) :
    startChest s e = match (q.1.flatMap srcChests).find? (fun a => gDev a % 4 != 0) with
      | some a => endChest (updEntry q.2.s 2058 r (fun e => { e with badAddr := a })) r 4
      | none =>
        let n := if chestRemote s e.dk q.1 then seqFor q.2.s 2058 e else (some 0, q.2.s)
        match n.1 with
        | none => n.2
        | some seq =>
          let x := if chestRemote n.2 e.dk q.1 then startRemote n.2 2058 e 3 (gDev (chChest e.dk)) 0 seq else n.2
          startJob x { newJob x r with
            devs := if dkOp e.dk = 1 ∨ gDev (chChest e.dk) = ownDev n.2 then []
              else [(gDev (chChest e.dk), peerGen (peerOut n.2 (gDev (chChest e.dk))))]
            list := l.1, srcs := freshSources q.1 } := by
  have hzero : (if dkOp e.dk = 1 ∨ gDev (chChest e.dk) = ownDev s then 0 else if gDev (chChest e.dk) % 4 ≠ 0 then 4
      else peerFault s (gDev (chChest e.dk))) = 0 := by
    by_cases h : dkOp e.dk = 1 ∨ gDev (chChest e.dk) = ownDev s
    · exact if_pos h
    · obtain ⟨hfour, hpeer⟩ := (hfault.resolve_left fun h' => h (.inl h')).resolve_left fun h' => h (.inr h')
      rw [if_neg h, if_neg (by simp [hfour]), hpeer]
  unfold startChest
  dsimp only
  rw [if_neg hgo, if_neg hplace, hzero, if_neg (by simp), ← hl, ← hq, hstalled, if_neg Bool.false_ne_true, hfaults, if_neg (by simp), hbad,
    if_neg Bool.false_ne_true, href]
  rfl

theorem ownDev_seqFor (s : State) (q : Nat) (e : QEntry) : ownDev (seqFor s q e).2 = ownDev s := by
  have hissue : ownDev (issueSeq s e.tenant.val).2 = ownDev s :=
    (drawing_issueSeq s e.tenant.val).kept Reg.ROUTE_OWN_DEV 0 0 (by decide) (by decide) (by decide)
  unfold seqFor
  split
  · rfl
  · dsimp only
    split
    · exact hissue
    · exact hissue

theorem chestRemote_congr (h : ownDev t = ownDev s) (d : Docket) (l : List Nat) : chestRemote t d l = chestRemote s d l := by
  simp only [chestRemote, h]

theorem reads_readEntries (x : Access) (a n : Nat) : Reads x (readEntries x a n).2 := reads_rd ..

theorem Accessed.ownDev (h : Accessed s t) : ownDev t = ownDev s := h.rget (by decide) (by decide) (by decide)

/-- Settles O56: the docket starts past its checks, with the reads of its lists behind it. -/
theorem checkpointsStart : Obligations.CheckpointsStart := by
  refine ⟨fun s r e c op hclk hc he => ?_, fun s u w hl => congrArg Host.Outcome.next (gated_of_lands hl _ _)⟩
  obtain ⟨href, hop⟩ := chestEntry_parts he
  have hexec := exec_chest hclk hc he
  obtain ⟨l, hl⟩ : ∃ l, l = if op = 3 then ([], e.access s) else readEntries (e.access s) (chList e.dk) (chEntries e.dk) := ⟨_, rfl⟩
  obtain ⟨q, hq⟩ : ∃ q, q = if op = 1 then readEntries l.2 (chSources e.dk) (chNsources e.dk) else ([], l.2) := ⟨_, rfl⟩
  dsimp only
  rw [← hl, ← hq]
  refine ⟨fun hjob => hexec.trans (congrArg _ (if_pos hjob)), fun hjob hop₀ hcond hskip => ?_, fun hjob hgo => ?_⟩
  · rw [hexec, hjob]
    exact congrArg _ (startChest_skip href (hop.trans hop₀) hcond hskip)
  have hstart : exec c s = .next (startChest s e) := by
    rw [hexec, hjob]
    rfl
  have hgo' : ¬(dkOp e.dk = 0 ∧ chCond e.dk = true ∧
      (e.tenant.val ≠ rget s Reg.CHEST_ACT_TENANT ∨ rget s Reg.CHEST_ACT_REQS = rget s Reg.CHEST_ACT_DONE)) := by
    rintro ⟨hop₀, hcond, hskip⟩
    rcases hgo with h | h | ⟨h, h'⟩
    · exact h (hop ▸ hop₀)
    · exact absurd hcond (by simp [h])
    · exact hskip.elim (fun k => k h) h'
  refine ⟨fun hop₀ hbad => hstart.trans (congrArg _ (startChest_placeBad href (hop.trans hop₀) hgo' hbad)), fun hplace hstalled hfaults hbad => ?_⟩
  have hread : Reads (e.access s) q.2 := by
    have h₁ : Reads (e.access s) l.2 := by rw [hl]; exact reads_ite (Reads.refl _) (reads_readEntries ..)
    exact h₁.trans (by rw [hq]; exact reads_ite (reads_readEntries ..) (Reads.refl _))
  have hown : ownDev q.2.s = ownDev s := hread.state.ownDev
  have hrun (hfault) := startChest_read (l := l) (q := q) href hgo' (fun ⟨h₀, h₁⟩ => absurd (hplace (hop ▸ h₀)) (by simp [h₁])) hfault
    (by rw [hop]; exact hl) (by rw [hop]; exact hq) hstalled hfaults hbad
  have hnone (h : ∀ a ∈ q.1.flatMap srcChests, gDev a % 4 = 0) : (q.1.flatMap srcChests).find? (fun a => gDev a % 4 != 0) = none :=
    List.find?_eq_none.mpr fun a ha => by simp [h a ha]
  refine ⟨fun a ha hop₁ => ?_, fun hlocal hremote hdevs => ?_, fun v seq hop₁ hdev hfour hpeer hseq => ?_, fun v seq hop₁ hremote hdevs hseq => ?_⟩
  · rw [hstart, hrun (.inl (hop.trans hop₁)), ha]
  · have hlocal' : dkOp e.dk = 1 ∨ gDev (chChest e.dk) = ownDev s := hlocal.imp_left hop.trans
    rw [hstart, hrun (hlocal'.imp_right .inl), hnone hdevs]
    dsimp only
    rw [hremote, if_neg Bool.false_ne_true]
    dsimp only
    rw [chestRemote_congr hown, hremote, if_neg Bool.false_ne_true, hown, if_pos hlocal']
    rfl
  · have hq₀ : q.1 = [] := by rw [hq, if_neg hop₁]
    have hno : ¬(dkOp e.dk = 1 ∨ gDev (chChest e.dk) = ownDev s) := by
      rintro (h | h)
      · exact hop₁ (hop ▸ h)
      · exact hdev h
    have hremote : chestRemote s e.dk q.1 = true := by
      rw [chestRemote, if_neg fun h => hno (.inl h)]
      simpa using hdev
    have hownv : ownDev v = ownDev s := by
      have := ownDev_seqFor q.2.s 2058 e
      rw [hseq] at this
      exact this.trans hown
    rw [hstart, hrun (.inr (.inr ⟨hfour, hpeer⟩)), hnone (by simp [hq₀])]
    dsimp only
    rw [hremote, if_pos rfl, hseq]
    dsimp only
    rw [chestRemote_congr hownv, hremote, if_pos rfl, hownv, if_neg hno]
    rfl
  · have hop₁' : dkOp e.dk = 1 := hop.trans hop₁
    have hownv : ownDev v = ownDev s := by
      have := ownDev_seqFor q.2.s 2058 e
      rw [hseq] at this
      exact this.trans hown
    rw [hstart, hrun (.inl hop₁'), hnone hdevs]
    dsimp only
    rw [hremote, if_pos rfl, hseq]
    dsimp only
    rw [chestRemote_congr hownv, hremote, if_pos rfl, if_pos (.inl hop₁')]
    rfl

end Sys2Proof.Machine
end

section
/-! PROOFS. LOAD and its image chunks (R300, R354 to R358). -/

namespace Sys2Proof.Machine

variable {s t u : State} {r : DocketRef} {e : QEntry}

-- a LOAD starts -------------------------------------------------------------------------------------------------------

theorem exec_load (hclk : Clocked s) (he : chestEntry s 2 r = some e) :
    exec (.load r) s = .next (if (jobOf s r).isSome then loadIssue s r chestFuel else startLoad s e) := by
  refine congrArg Host.Outcome.next ((live_of_clocked hclk _).trans ?_)
  simp only [he]

/-- A LOAD whose group is sound and whose members can all be reached. -/
theorem startLoad_sound {gr : Nat × Access} {devs need : List Nat} {rank : Nat} {v x : State} (href : e.toRef = r)
    (hgr : gr = (e.access s).rdNat (chChest e.dk) 128) (hdevs : devs = groupDevs (readGroup gr.1))
    (hrank : rank = firstIdx devs (· == ownDev s))
    (hneed : need = if rank = chNsources e.dk then devs.filter (· != ownDev s) else [devs.getD (chNsources e.dk) 0])
    (hv : v = updEntry gr.2.s 2058 r (fun e => { e with started := true }))
    (hx : x = { v with chest := v.chest ++ [{ newJob v r with
      members := devs, rank := rank, devs := need.map (fun d => (d, peerGen (peerOut v d))) }] })
    (hstalled : gr.2.stalled = false) (hfaults : gr.2.faults = [])
    (hgroup : ¬(groupBad (readGroup gr.1) = true ∨ devs.length ≤ rank ∨ devs.length ≤ chNsources e.dk))
    (hpeers : ∀ d ∈ need, peerFault s d = 0 ∧ peerFault v d = 0) :
    startLoad s e = if rank ≠ chNsources e.dk then (if e.reexec then ackImage x e (devs.getD (chNsources e.dk) 0) 0 15 false else x)
      else if loadRefused x e then endChest x r 2 else loadRead x r 51 0 128 := by
  have hgone : need.any (fun d => peerFault s d != 0) = false := List.any_eq_false.mpr fun d hd => by simp [(hpeers d hd).1]
  have hreach : need.filter (fun d => peerFault v d == 0) = need := List.filter_eq_self.mpr fun d hd => by simp [(hpeers d hd).2]
  have hstart : (updEntry gr.2.s 2058 r fun e => { e with
      started := true, status := if false = true then worst [e.status, 8] else e.status }) = v := hv.symm
  unfold startLoad
  dsimp only
  rw [href, ← hgr, hstalled, if_neg Bool.false_ne_true, hfaults, if_neg (by simp), ← hdevs, ← hrank, if_neg hgroup, ← hneed, hgone,
    if_neg (by simp), hstart, hreach, ← hx]

-- image chunks --------------------------------------------------------------------------------------------------------

theorem exec_imageData {l : LinkId} {p : Packet} (hclk : Clocked s) (hopc : pOpc p = 13) (hadmit : admitPacket s (some l) p = (u, true)) :
    (loadFor u p = none → exec (.imageData l p) s = .next (rinc u Reg.CHEST_STALE_CHUNKS)) ∧
    ∀ (j : ChestJob) (e : QEntry), loadFor u p = some (j, e) → j.rank ≠ chNsources e.dk → exec (.imageData l p) s =
      .next (if crc32c (natLe (pf p 128 96) 12 ++ p.data) = pf p 224 32 then takeImage u j e p else rinc u Reg.CHEST_IMAGE_CRC_ERRORS) := by
  have hgo : ¬(pOpc p ≠ 13 ∨ (!(u, true).2) = true) := by simp [hopc]
  refine ⟨fun h => congrArg Host.Outcome.next ((live_of_clocked hclk _).trans ?_),
    fun j e h hrank => congrArg Host.Outcome.next ((live_of_clocked hclk _).trans ?_)⟩
  · dsimp only
    rw [hadmit, if_neg hgo, h]
  · dsimp only
    rw [hadmit, if_neg hgo, h]
    dsimp only
    rw [if_neg hrank, ite_not]

theorem exec_imageAck {p : Packet} {j : ChestJob} {e : QEntry} (hclk : Clocked s) (hopc : pOpc p = 14) (hadmit : admitPacket s none p = (u, true))
    (hpert : pertResponse u (8 + pf p 192 32 % 2) 14 (pTenant p) = (false, u)) (hload : loadFor u p = some (j, e))
    (hrank : j.rank = chNsources e.dk) : exec (.imageAck p) s = .next (
      if pf p 136 4 = 15 then restartMember u j e (firstIdx j.members (· == pSrc p))
      else rootEnd (rootPump (updChest u j.ref (fun k => { k with
        sent := k.sent.filter (fun x => !(x.1 == firstIdx j.members (· == pSrc p) && x.2.1 == pf p 192 32)) })) j.ref chestFuel) j.ref) := by
  have hgo : ¬(pOpc p ≠ 14 ∨ (!(u, true).2) = true) := by simp [hopc]
  refine congrArg Host.Outcome.next ((live_of_clocked hclk _).trans ?_)
  dsimp only
  rw [hadmit, if_neg hgo, hpert]
  dsimp only
  rw [if_neg Bool.false_ne_true, hload]
  dsimp only
  rw [if_neg (not_not_intro hrank)]

theorem exec_chestChunkResend {j : ChestJob} (hclk : Clocked s) (hjob : jobOf s r = some j) (he : entryOf s 2058 r = some e)
    (hrun : e.running = true) (hdone : e.done = false) (hcut : e.cut = false) (chunk : Nat) :
    exec (.chestChunkResend r chunk) s = .next (chunkResend s j e chunk) := by
  have hfilter : (some e).filter (fun e => e.running && !e.done && !e.cut) = some e := by simp [hrun, hdone, hcut]
  refine congrArg Host.Outcome.next ((live_of_clocked hclk _).trans ?_)
  rw [hjob, he, hfilter]

/-- Settles O57: a LOAD past its checks, and a packet past its own. -/
theorem loadsAndImageChunks : Obligations.LoadsAndImageChunks := by
  refine ⟨fun s r e hclk he => ?_, fun s u l p hclk hopc hadmit => exec_imageData hclk hopc hadmit,
    fun s u p j e hclk hopc hadmit hpert hload hrank => ?_,
    fun s r chunk j e hclk hjob he hrun hdone hcut => exec_chestChunkResend hclk hjob he hrun hdone hcut chunk⟩
  · obtain ⟨href, -⟩ := chestEntry_parts he
    have hexec := exec_load hclk he
    refine ⟨fun hjob => hexec.trans (congrArg _ (if_pos hjob)), ?_⟩
    obtain ⟨gr, hgr⟩ : ∃ gr, gr = (e.access s).rdNat (chChest e.dk) 128 := ⟨_, rfl⟩
    obtain ⟨devs, hdevs⟩ : ∃ devs, devs = groupDevs (readGroup gr.1) := ⟨_, rfl⟩
    obtain ⟨rank, hrank⟩ : ∃ rank, rank = firstIdx devs (· == ownDev s) := ⟨_, rfl⟩
    obtain ⟨need, hneed⟩ : ∃ need, need = if rank = chNsources e.dk then devs.filter (· != ownDev s) else [devs.getD (chNsources e.dk) 0] :=
      ⟨_, rfl⟩
    obtain ⟨v, hv⟩ : ∃ v, v = updEntry gr.2.s 2058 r (fun e => { e with started := true }) := ⟨_, rfl⟩
    obtain ⟨x, hx⟩ : ∃ x : State, x = { v with chest := v.chest ++ [{ newJob v r with
      members := devs, rank := rank, devs := need.map (fun d => (d, peerGen (peerOut v d))) }] } := ⟨_, rfl⟩
    dsimp only
    rw [← hgr, ← hdevs, ← hrank, ← hneed, ← hv, ← hx]
    intro hjob hstalled hfaults hgroup hlt hroot hpeers
    have hstart : exec (.load r) s = .next (startLoad s e) := by
      rw [hexec, hjob]
      rfl
    rw [hstart, startLoad_sound href hgr hdevs hrank hneed hv hx hstalled hfaults
      (by rw [hgroup]; rintro (h | h | h); exacts [absurd h (by decide), absurd h (by omega), absurd h (by omega)]) hpeers]
    refine ⟨fun hr hre => ?_, fun hr hre => ?_, fun hr href => ?_⟩
    · rw [if_pos hr, hre, if_neg Bool.false_ne_true]
    · rw [if_pos hr, hre, if_pos rfl]
    · rw [if_neg (not_not_intro hr), href, if_neg Bool.false_ne_true]
  · have hexec := exec_imageAck hclk hopc hadmit hpert hload hrank
    exact ⟨fun h => hexec.trans (congrArg _ (if_pos h)), fun h => hexec.trans (congrArg _ (if_neg h))⟩

end Sys2Proof.Machine
end

section
/-! PROOFS. Domain resets, tenant resets and the wraps of generations (R151, R361, R364 to R373). -/

namespace Sys2Proof.Machine

variable {s t u : State}

-- domain resets -------------------------------------------------------------------------------------------------------

/-- What a note of a reset shows. -/
theorem noteReset_shows (s : State) {code index cause : Nat} (hcode : code < 16) (hindex : index < 4096) (hcause : cause < 16) :
    rget (noteReset s code index cause) Reg.RESET_LAST_DOMAIN = code ∧ rget (noteReset s code index cause) Reg.RESET_LAST_INDEX = index ∧
      rget (noteReset s code index cause) Reg.RESET_LAST_CAUSE = cause := by
  obtain ⟨x, hx⟩ : ∃ x, x = rset (rset (rset (rinc s Reg.RESET_RESETS) Reg.RESET_LAST_DOMAIN 0 0 code) Reg.RESET_LAST_INDEX 0 0 index)
    Reg.RESET_LAST_CAUSE 0 0 cause := ⟨_, rfl⟩
  have hnote : noteReset s code index cause = raise x (evOf Reg.RESET_LAST_DOMAIN 0 12 0 15 none [code, index, cause]) := by
    rw [hx]
    rfl
  have hkept := (noted_raise x (evOf Reg.RESET_LAST_DOMAIN 0 12 0 15 none [code, index, cause])).kept
  rw [hnote, hkept _ _ _ (by decide) (by decide) (by decide), hkept _ _ _ (by decide) (by decide) (by decide),
    hkept _ _ _ (by decide) (by decide) (by decide), hx]
  refine ⟨?_, ?_, (rget_rset_same ..).trans (Nat.mod_eq_of_lt hcause)⟩
  · rw [rget_rset_of_code _ (by decide) (by decide) (by decide) (by decide) (by decide),
      rget_rset_of_code _ (by decide) (by decide) (by decide) (by decide) (by decide)]
    exact (rget_rset_same ..).trans (Nat.mod_eq_of_lt hcode)
  · rw [rget_rset_of_code _ (by decide) (by decide) (by decide) (by decide) (by decide)]
    exact (rget_rset_same ..).trans (Nat.mod_eq_of_lt hindex)

theorem maxIndex_lt (code : Nat) : maxIndex code < 4096 := by
  by_cases h : code < 9
  · interval_cases code <;> decide
  · rw [maxIndex, List.getD_eq_default _ _ (by simpa using h)]
    decide

/-- A domain that starts to reset takes in those inside it, and is noted. -/
theorem startReset_form (code i cause : Nat) (done : Bool) (h : resetting s code i = false) : ∃ (v : State) (c : Nat) (l : List Nat),
    startReset s code i cause done = noteReset { v with resets := { v.resets with
      active := v.resets.active.filter (fun a => !keyInside a.1 code i) ++ [(domKey code i, cause, c)], stopped := l } } code i cause := by
  unfold startReset
  rw [h, if_neg Bool.false_ne_true]
  exact ⟨_, _, _, rfl⟩

theorem startReset_parts {code i cause : Nat} (done : Bool) (hcode : code < 8) (hi : i ≤ maxIndex code) (hcause : cause < 4)
    (h : resetting s code i = false) :
    (∃ c, (domKey code i, cause, c) ∈ (startReset s code i cause done).resets.active) ∧
      (∀ a ∈ (startReset s code i cause done).resets.active, keyInside a.1 code i = true → a.1 = domKey code i) ∧
      rget (startReset s code i cause done) Reg.RESET_LAST_DOMAIN = code ∧ rget (startReset s code i cause done) Reg.RESET_LAST_INDEX = i ∧
      rget (startReset s code i cause done) Reg.RESET_LAST_CAUSE = cause := by
  obtain ⟨v, c, l, hform⟩ := startReset_form code i cause done h
  have hlt := maxIndex_lt code
  obtain ⟨x, hx⟩ : ∃ x : State, x = { v with resets := { v.resets with
      active := v.resets.active.filter (fun a => !keyInside a.1 code i) ++ [(domKey code i, cause, c)], stopped := l } } := ⟨_, rfl⟩
  rw [hform, ← hx]
  have hactive : (noteReset x code i cause).resets.active =
      v.resets.active.filter (fun a => !keyInside a.1 code i) ++ [(domKey code i, cause, c)] := by
    refine (congrArg (fun y => y.resets.active) (noteReset_parts x code i cause).1).trans ?_
    rw [hx]
  rw [hactive]
  refine ⟨⟨c, List.mem_append_right _ (List.mem_singleton.mpr rfl)⟩, fun a ha hin => ?_, noteReset_shows x (by omega) (by omega) (by omega)⟩
  rcases List.mem_append.mp ha with ha | ha
  · simp [hin] at ha
  · rw [List.mem_singleton.mp ha]

/-- Settles O58: a reset's start by its last step, its end and its escalation by their commands. -/
theorem domainResets : Obligations.DomainResets := by
  refine ⟨fun s u w hl => ?_, fun s code i cause done hcode hi hcause h => startReset_parts done hcode hi hcause h,
    fun s d trained hclk hactive hdrains => ?_, fun s d a hclk hfind => ?_⟩
  · exact congrArg Host.Outcome.next ((gated_of_lands hl _ _).trans (if_neg (by decide)))
  · have hgo : ¬((!s.resets.active.any (fun a => a.1 == domKey d.code.val d.index)) = true ∨ drainsIn s d.code.val d.index = true) := by
      obtain ⟨a, ha, hkey⟩ := hactive
      have hany : s.resets.active.any (fun a => a.1 == domKey d.code.val d.index) = true := List.any_eq_true.mpr ⟨a, ha, by simp [hkey]⟩
      simp [hany, hdrains]
    exact congrArg Host.Outcome.next ((live_of_clocked hclk _).trans (if_neg hgo))
  · refine congrArg Host.Outcome.next ((live_of_clocked hclk _).trans ?_)
    rw [hfind]

-- tenant resets -------------------------------------------------------------------------------------------------------

/-- A fold reaches for each element what its step does, where the other steps keep it and what holds throughout. -/
theorem foldl_establishes {α : Type} {f : State → α → State} {I : State → Prop} {P : α → State → Prop} {l : List α}
    (hI : ∀ s, ∀ b ∈ l, I s → I (f s b)) (hset : ∀ s, ∀ b ∈ l, I s → P b (f s b))
    (hkeep : ∀ s, ∀ a ∈ l, ∀ b ∈ l, I s → P a s → P a (f s b)) (s : State) (hs : I s) : I (l.foldl f s) ∧ ∀ a ∈ l, P a (l.foldl f s) := by
  have hkept (m : List α) (hm : m ⊆ l) (a : α) (ha : a ∈ l) (s : State) (hs : I s) (h : P a s) : P a (m.foldl f s) := by
    induction m generalizing s with
    | nil => exact h
    | cons b m ih =>
      have hb := hm List.mem_cons_self
      exact ih (fun x hx => hm (List.mem_cons_of_mem _ hx)) (f s b) (hI s b hb hs) (hkeep s a ha b hb hs h)
  have hrun (m : List α) (hm : m ⊆ l) (s : State) (hs : I s) : I (m.foldl f s) ∧ ∀ a ∈ m, P a (m.foldl f s) := by
    induction m generalizing s with
    | nil => exact ⟨hs, fun a ha => absurd ha List.not_mem_nil⟩
    | cons b m ih =>
      have hb := hm List.mem_cons_self
      have hrest : m ⊆ l := fun x hx => hm (List.mem_cons_of_mem _ hx)
      obtain ⟨hi, hp⟩ := ih hrest (f s b) (hI s b hb hs)
      refine ⟨hi, fun a ha => ?_⟩
      rcases List.mem_cons.mp ha with rfl | ha
      · exact hkept m hrest a hb _ (hI s a hb hs) (hset s a hb hs)
      · exact hp a ha
  exact hrun l (List.Subset.refl l) s hs

/-- A ring that acceptance has left. -/
def RingStopped (t n : Nat) (s : State) : Prop :=
  rget s Reg.DOCK_RING_ENABLE n t = 0 ∧ rget s Reg.DOCK_RING_STATE n t = 3 ∧ (ringOf s n t).fetched = []

/-- What the halts of rings leave as it was. -/
structure Halting (s t : State) : Prop where
  form : t = { s with regs := t.regs }
  kept : CodesKept ([Reg.DOCK_RING_ACCEPT, Reg.DOCK_RING_RECORDED, Reg.DOCK_RING_STATE].map (·.code)) s t

theorem Halting.refl (s : State) : Halting s s := ⟨rfl, codesKept_of_regs _ rfl⟩

theorem Halting.trans (h : Halting s t) (g : Halting t u) : Halting s u := by
  refine ⟨?_, h.kept.trans g.kept⟩
  rw [g.form, h.form]

section rings

variable {t : TenantId} {n m : Nat}

theorem rget_rset_rings (s : State) (f : Fld) (hn : n < 8) (hm : m < 8) (h : n ≠ m) (v : Nat) :
    rget (rset s f m t.val v) f n t.val = rget s f n t.val :=
  rget_rset_ne _ _ _ _ _ _ _ _ fun hkey => h (regKey_inj (by omega) (by omega) (by omega) (by omega) hkey).2.1

theorem ringOf_updRing_ne (s : State) (h : n ≠ m) (f : RingSt → RingSt) : ringOf (updRing s m t.val f) n t.val = ringOf s n t.val :=
  mapGet_mapSet_ne _ _ _ (by omega)

theorem stopped_stopRing (s : State) (hn : n < 8) : RingStopped t.val n (stopRing s n t.val) := by
  refine ⟨?_, rget_rset_same .., ?_⟩
  · exact (rget_rset_of_code _ (by decide) (by omega) (by omega) (by omega) (by omega) _).trans (rget_rset_same ..)
  · rw [stopRing, ringOf_rset, ringOf_rset, ringOf_updRing]

theorem stopped_keep (hn : n < 8) (hm : m < 8) (h : RingStopped t.val n s) : RingStopped t.val n (stopRing s m t.val) := by
  by_cases hnm : n = m
  · rw [← hnm]
    exact stopped_stopRing s hn
  · obtain ⟨henable, hstate, hfetched⟩ := h
    refine ⟨?_, ?_, ?_⟩
    · rw [stopRing, rget_rset_of_code _ (by decide) (by omega) (by omega) (by omega) (by omega), rget_rset_rings _ _ hn hm hnm, rget_updRing,
        henable]
    · rw [stopRing, rget_rset_rings _ _ hn hm hnm, rget_rset_of_code _ (by decide) (by omega) (by omega) (by omega) (by omega), rget_updRing,
        hstate]
    · rw [stopRing, ringOf_rset, ringOf_rset, ringOf_updRing_ne _ hnm, hfetched]

theorem stopRings_stops (s : State) (t : TenantId) {l : List Nat} (hl : ∀ n ∈ l, n < 8) :
    ∀ n ∈ l, RingStopped t.val n (l.foldl (fun x n => stopRing x n t.val) s) :=
  (foldl_establishes (I := fun _ => True) (P := RingStopped t.val) (fun _ _ _ _ => trivial) (fun s n hn _ => stopped_stopRing s (hl n hn))
    (fun _ n hn m hm _ h => stopped_keep (hl n hn) (hl m hm) h) s trivial).2

/-- A ring at its end, with nothing accepted that is not recorded. -/
def RingHalted (v : State) (t n : Nat) (s : State) : Prop :=
  rget s Reg.DOCK_RING_STATE n t = 4 ∧ rget s Reg.DOCK_RING_ACCEPT n t = rget v Reg.DOCK_RING_TAIL n t % 2 ^ 32

theorem halting_haltRing (s : State) (hn : n < 8) : Halting s (haltRing s n t.val) := by
  have hset (s : State) {f : Fld} (hf : f.code ∈ [Reg.DOCK_RING_ACCEPT, Reg.DOCK_RING_RECORDED, Reg.DOCK_RING_STATE].map (·.code)) (v : Nat) :=
    codesKept_rset s hf (i := n) (j := t.val) (by omega) (by omega) v
  exact ⟨rfl, (hset s (f := Reg.DOCK_RING_ACCEPT) (by decide) _).trans ((hset _ (f := Reg.DOCK_RING_RECORDED) (by decide) _).trans
    (hset _ (f := Reg.DOCK_RING_STATE) (by decide) _))⟩

theorem halted_haltRing {v : State} (h : Halting v s) (hn : n < 8) : RingHalted v t.val n (haltRing s n t.val) := by
  have htail : rget s Reg.DOCK_RING_TAIL n t.val = rget v Reg.DOCK_RING_TAIL n t.val := h.kept _ _ _ (by decide) (by omega) (by omega)
  refine ⟨rget_rset_same .., ?_⟩
  rw [haltRing, rget_rset_of_code _ (by decide) (by omega) (by omega) (by omega) (by omega),
    rget_rset_of_code _ (by decide) (by omega) (by omega) (by omega) (by omega), htail]
  exact rget_rset_same ..

theorem halted_keep {v : State} (h : Halting v s) (hn : n < 8) (hm : m < 8) (hp : RingHalted v t.val n s) : RingHalted v t.val n (haltRing s m t.val) := by
  by_cases hnm : n = m
  · rw [← hnm]
    exact halted_haltRing h hn
  · obtain ⟨hstate, haccept⟩ := hp
    refine ⟨?_, ?_⟩
    · rw [haltRing, rget_rset_rings _ _ hn hm hnm, rget_rset_of_code _ (by decide) (by omega) (by omega) (by omega) (by omega),
        rget_rset_of_code _ (by decide) (by omega) (by omega) (by omega) (by omega), hstate]
    · rw [haltRing, rget_rset_of_code _ (by decide) (by omega) (by omega) (by omega) (by omega),
        rget_rset_of_code _ (by decide) (by omega) (by omega) (by omega) (by omega), rget_rset_rings _ _ hn hm hnm, haccept]

theorem haltRings_halts (v : State) (t : TenantId) {l : List Nat} (hl : ∀ n ∈ l, n < 8) : Halting v (l.foldl (fun s n => haltRing s n t.val) v) ∧
    ∀ n ∈ l, RingHalted v t.val n (l.foldl (fun s n => haltRing s n t.val) v) :=
  foldl_establishes (I := Halting v) (P := RingHalted v t.val) (fun s m hm h => h.trans (halting_haltRing s (hl m hm)))
    (fun _ n hn h => halted_haltRing h (hl n hn)) (fun _ n hn m hm h hp => halted_keep h (hl n hn) (hl m hm) hp) v (Halting.refl v)

end rings

/-- A tenant reset begins: its rings stopped, its queues purged, and the drain of a generation that wraps. -/
theorem exec_tenantReset {w : Writer} {i : TenantId} {v x y : State} (hl : Lands s w tenantPage Reg.TENANT_RESET_CTL_RESET i.val u)
    (hnot : i.val ∉ u.resets.tenants) (hv : v = (List.range 8).foldl (fun x n => stopRing x n i.val) u)
    (hx : x = { v with resets := { v.resets with tenants := v.resets.tenants ++ [i.val] } })
    (hy : y = (v.queues.map (·.1)).foldl (purgeQueue i.val) x) :
    exec (.tenantReset w i) s = .next (if rget y Reg.TENANT_GEN 0 i.val = 255 then
      rinc { y with resets := { y.resets with drains := y.resets.drains ++ [(65536 + i.val, 0)] } } Reg.RESET_WRAP_WAITS else y) := by
  refine congrArg Host.Outcome.next ((gated_of_lands hl _ _).trans ?_)
  rw [tenantResetApply, if_neg (by simp [hnot])]
  rw [hx] at hy
  dsimp only
  rw [← hv, ← hy]

/-- A tenant reset ends: the next generation, and rings that stand at their tails. -/
theorem exec_tenantResetDone {i : TenantId} {v : State} (hclk : Clocked s) (hmem : i.val ∈ s.resets.tenants)
    (hv : v = (s.queues.map (·.1)).foldl (endQueue i.val) s) (hdrains : ∀ d ∈ v.resets.drains, d.1 ≠ 65536 + i.val)
    (hacc : ∀ n, n < 8 → (ringOf v n i.val).acc = []) : ∃ x : State,
    x = (List.range 8).foldl (fun s n => haltRing s n i.val) (rset v Reg.TENANT_GEN 0 i.val (rget v Reg.TENANT_GEN 0 i.val + 1)) ∧
      exec (.tenantResetDone i) s = .next { x with resets := { x.resets with tenants := dropAll x.resets.tenants i.val } } := by
  have hgo : ¬(v.resets.drains.any (fun d => d.1 == 65536 + i.val) = true ∨
      (List.range 8).any (fun n => (ringOf v n i.val).acc != []) = true) := by
    rintro (h | h)
    · obtain ⟨d, hd, hkey⟩ := List.any_eq_true.mp h
      exact hdrains d hd (by simpa using hkey)
    · obtain ⟨n, hn, hne⟩ := List.any_eq_true.mp h
      rw [hacc n (List.mem_range.mp hn)] at hne
      contradiction
  refine ⟨_, rfl, congrArg Host.Outcome.next ((live_of_clocked hclk _).trans ?_)⟩
  rw [if_neg (by simp [hmem])]
  dsimp only
  rw [← hv, if_neg hgo]

theorem tenantResetDone_parts (v : State) (i : TenantId) {l : List Nat} (hl : ∀ n ∈ l, n < 8) {x : State}
    (hx : x = l.foldl (fun s n => haltRing s n i.val) (rset v Reg.TENANT_GEN 0 i.val (rget v Reg.TENANT_GEN 0 i.val + 1))) :
    rget x Reg.TENANT_GEN 0 i.val = (rget v Reg.TENANT_GEN 0 i.val + 1) % 256 ∧ x.queues = v.queues ∧ x.mem = v.mem ∧
      ∀ n ∈ l, rget x Reg.DOCK_RING_STATE n i.val = 4 ∧ rget x Reg.DOCK_RING_ACCEPT n i.val = rget v Reg.DOCK_RING_TAIL n i.val % 2 ^ 32 := by
  obtain ⟨hhalting, hhalted⟩ := haltRings_halts (rset v Reg.TENANT_GEN 0 i.val (rget v Reg.TENANT_GEN 0 i.val + 1)) i hl
  rw [← hx] at hhalting hhalted
  refine ⟨?_, ?_, ?_, fun n hn => ?_⟩
  · rw [hhalting.kept _ _ _ (by decide) (by decide) (by omega)]
    exact rget_rset_same ..
  · rw [hhalting.form]
    rfl
  · rw [hhalting.form]
    rfl
  · obtain ⟨hstate, haccept⟩ := hhalted n hn
    refine ⟨hstate, haccept.trans ?_⟩
    rw [rget_rset_of_code _ (by decide) (by decide) (by omega) (by have := hl n hn; omega) (by omega)]

-- wraps ---------------------------------------------------------------------------------------------------------------

/-- An engine's drain ends: its generation is 0. -/
theorem drainEnd_engine {q : QueueId} {x : Nat × Nat} (h : s.resets.drains.find? (fun x => x.1 == q.val) = some x) :
    mapFind (drainEnd s (.engine q)).resets.gens q.val = some 0 ∧ (∀ y ∈ (drainEnd s (.engine q)).resets.drains, y.1 ≠ q.val) ∧
      (drainEnd s (.engine q)).mem = s.mem ∧ (drainEnd s (.engine q)).regs = s.regs := by
  obtain ⟨a, b, hform⟩ := advanceTo_form s (drainDue s q.val (x.2 != 1 && !s.msf.ops.any (fun o => o.queue == q.val)))
  obtain ⟨z, hz⟩ : ∃ z, z = dropDrain (advanceTo s (drainDue s q.val (x.2 != 1 && !s.msf.ops.any (fun o => o.queue == q.val)))) q.val := ⟨_, rfl⟩
  have hend : drainEnd s (.engine q) = { z with resets := { z.resets with gens := mapSet z.resets.gens q.val 0 } } := by
    simp only [drainEnd, h, ← hz]
  rw [hend]
  rw [hform] at hz
  refine ⟨mapFind_mapSet_same .., fun y hy => ?_, by rw [hz]; rfl, by rw [hz]; rfl⟩
  rw [hz] at hy
  simpa using (List.mem_filter.mp hy).2

/-- A tenant's drain ends, or there is none. -/
theorem drainEnd_tenant (s : State) (i : TenantId) : (∀ y ∈ (drainEnd s (.tenant i)).resets.drains, y.1 ≠ 65536 + i.val) ∧
    (drainEnd s (.tenant i)).mem = s.mem ∧ (drainEnd s (.tenant i)).regs = s.regs := by
  obtain ⟨c, hc⟩ : ∃ c, c = drainDue s (65536 + i.val) (!s.msf.ops.any (fun o => o.tenant == i)) := ⟨_, rfl⟩
  obtain ⟨a, b, hform⟩ := advanceTo_form s c
  by_cases h : s.resets.drains.any (fun x => x.1 == 65536 + i.val) = true
  · have hend : drainEnd s (.tenant i) = dropDrain { s with time := a, queues := b } (65536 + i.val) := by
      rw [drainEnd, if_neg (by simp [h]), ← hc, hform]
    rw [hend]
    exact ⟨fun y hy => by simpa using (List.mem_filter.mp hy).2, rfl, rfl⟩
  · have hend : drainEnd s (.tenant i) = s := by rw [drainEnd, if_pos (by rw [Bool.not_eq_true] at h; rw [h]; rfl)]
    rw [hend]
    refine ⟨fun y hy hkey => h ?_, rfl, rfl⟩
    exact List.any_eq_true.mpr ⟨y, hy, by simp [hkey]⟩

/-- The drain of the module's own generation ends: it holds the new value, and no window stands. -/
theorem drainEnd_ownGen {v : Byte} (h : s.resets.ownGen = some v) (hheld : s.route.held = []) :
    rget (drainEnd s .ownGen) Reg.ROUTE_OWN_GEN = v.toNat ∧ (drainEnd s .ownGen).resets.ownGen = none ∧ (drainEnd s .ownGen).msf.windows = [] ∧
      (drainEnd s .ownGen).mem = s.mem := by
  obtain ⟨c, hc⟩ : ∃ c, c = drainDue s 131072 (!s.msf.ops.any (fun o => o.tenant.val != 15)) := ⟨_, rfl⟩
  obtain ⟨a, b, hform⟩ := advanceTo_form s c
  obtain ⟨x, hx⟩ : ∃ x : State, x = { s with
    time := a, queues := b, resets := { s.resets with ownGen := none }, route := { s.route with held := [] } } := ⟨_, rfl⟩
  have hend : drainEnd s .ownGen = setOwnGen x v.toNat := by
    simp only [drainEnd, h, ← hc, hform, hheld, List.foldl_nil, hx]
  rw [hend]
  refine ⟨?_, by rw [hx]; rfl, rfl, by rw [hx]; rfl⟩
  rw [setOwnGen, setWindows, rget_rset_of_code _ (by decide) (by decide) (by decide) (by decide) (by decide)]
  exact (rget_rset_same x Reg.ROUTE_OWN_GEN 0 0 v.toNat).trans (Nat.mod_eq_of_lt v.isLt)

theorem exec_wrapDrainEnd (hclk : Clocked s) (d : Drain) : exec (.wrapDrainEnd d) s = .next (drainEnd s d) :=
  congrArg Host.Outcome.next (live_of_clocked hclk _)

/-- Settles O59: a tenant reset by its rings, a drain by what waits on it. -/
theorem tenantResetsAndWraps : Obligations.TenantResetsAndWraps := by
  have hrange (n : Nat) (hn : n ∈ List.range 8) : n < 8 := List.mem_range.mp hn
  refine ⟨fun s u w i hl hnot => ?_, fun s i hclk hmem => ?_, fun s d hclk => ⟨fun q x hd hfind => ?_, fun i hd => ?_, fun v hd hown hheld => ?_⟩⟩
  · obtain ⟨v, hv⟩ : ∃ v, v = (List.range 8).foldl (fun x n => stopRing x n i.val) u := ⟨_, rfl⟩
    obtain ⟨x, hx⟩ : ∃ x : State, x = { v with resets := { v.resets with tenants := v.resets.tenants ++ [i.val] } } := ⟨_, rfl⟩
    obtain ⟨y, hy⟩ : ∃ y, y = (v.queues.map (·.1)).foldl (purgeQueue i.val) x := ⟨_, rfl⟩
    have hexec := exec_tenantReset hl hnot hv hx hy
    dsimp only
    rw [← hv, ← hx, ← hy]
    refine ⟨fun n hn => ?_, fun h => hexec.trans (congrArg _ (if_neg h)), fun h => ⟨_, hexec.trans (congrArg _ (if_pos h)), ?_, ?_, ?_⟩⟩
    · rw [hv]
      exact stopRings_stops u i hrange n (List.mem_range.mpr hn)
    · obtain ⟨k, hk⟩ := rinc_eq_rset { y with resets := { y.resets with drains := y.resets.drains ++ [(65536 + i.val, 0)] } }
        Reg.RESET_WRAP_WAITS 0 0 1
      rw [hk]
      exact List.mem_append_right _ (List.mem_singleton.mpr rfl)
    · exact rinc_queues ..
    · exact rinc_mem ..
  · obtain ⟨v, hv⟩ : ∃ v, v = (s.queues.map (·.1)).foldl (endQueue i.val) s := ⟨_, rfl⟩
    dsimp only
    rw [← hv]
    intro hdrains hacc
    obtain ⟨x, hx, hexec⟩ := exec_tenantResetDone hclk hmem hv hdrains hacc
    obtain ⟨hgen, hqueues, hxmem, hrings⟩ := tenantResetDone_parts v i hrange hx
    exact ⟨_, hexec, hgen, mem_dropAll _ _, hqueues, hxmem, fun n hn => hrings n (List.mem_range.mpr hn)⟩
  · subst hd
    exact ⟨_, exec_wrapDrainEnd hclk _, drainEnd_engine hfind⟩
  · subst hd
    exact ⟨_, exec_wrapDrainEnd hclk _, drainEnd_tenant s i⟩
  · subst hd
    exact ⟨_, exec_wrapDrainEnd hclk _, drainEnd_ownGen hown hheld⟩

end Sys2Proof.Machine
end
